-- ==== Sys2Proof/Word.lean ====
section
/-! DEFINITION. The word types of the control space and of host memory, and the byte-order readings of R7 and R8. -/

namespace Sys2Proof

/-- One byte. -/
abbrev Byte := BitVec 8

/-- A 64-bit register or word (R12). -/
abbrev Word := BitVec 64

/-- R8: the number a list of bytes spells, least significant byte first. -/
def leNat : List Byte → Nat
  | [] => 0
  | b :: t => b.toNat + 256 * leNat t

/-- R8: a number as `n` bytes, least significant byte first. -/
def leBytes : Nat → Nat → List Byte
  | 0, _ => []
  | n + 1, v => BitVec.ofNat 8 v :: leBytes n (v / 256)

/-- R9: the number a list of header bytes spells in network byte order. -/
def beNat (l : List Byte) : Nat := leNat l.reverse

/-- R9: a number as `n` header bytes in network byte order. -/
def beBytes (n v : Nat) : List Byte := (leBytes n v).reverse

end Sys2Proof
end

