-- ==== Sys2Proof/Syntax.lean ====
section
/-! DEFINITION. The commands of the block: one constructor for each row of the opcode table. -/

namespace Sys2Proof

/-- An access at the control port: direction, size in bytes, window offset, write data, and whether its parity is
good (R13, R789). -/
structure Access where
  write : Bool
  size : Nat
  offset : Nat
  data : Word
  parityOk : Bool := true
  deriving DecidableEq, Repr

/-- What a read of protected memory finds (R751): no error, a corrected word, an uncorrectable word, with the index the
fault record gives it, or a parity error on the internal bus by which the word travels. -/
inductive Ecc where
  | clean
  | corrected
  | uncorrectable (index : Nat)
  | bus
  deriving DecidableEq, Repr

/-- What the reads of a frame's cells find (R433 to R435, R751): the words corrected, the cells with an uncorrectable
word, the byte of the frame at which a buffer or a bus out of the loft shows a parity error, and the links of its cells. -/
structure CellRead where
  corr : Nat := 0
  bad : List Nat := []
  parity : Option Nat := none
  links : Ecc := .clean
  deriving DecidableEq, Repr

/-- What a ring mover finds as entries reach its descriptor cache (R751, R754): the entries of the read, counted from 0,
that show a parity error there, and the context of the ring. -/
structure CacheRead where
  bad : List Nat := []
  ctx : Ecc := .clean
  deriving DecidableEq, Repr

/-- Completions that are written (R519): at most how many, and what the read of the queue's context finds (R751). -/
structure ComplRun where
  most : Nat
  ctx : Ecc := .clean
  deriving DecidableEq, Repr

/-- A check of a ring's next frame for admission (R424): the ring, what the allocator's reads of its free lists find (R435),
and whether it falls in the CCLK cycle of the decision before it (R426). -/
structure AdmitCheck where
  ring : Fin 16384
  alloc : Ecc := .clean
  same : Bool := false
  deriving DecidableEq, Repr

/-- The end of a frame's egress (R284, R435): measured less predicted egress time, and what the reads of the links of its
cells find as they are freed. -/
structure EgressDone where
  delta : Int
  links : Ecc := .clean
  deriving DecidableEq, Repr

/-- A response of the host on a rafter port (R583, R584, R591): its tag, response code, whether a data parity error
was found on a covered lane, and for a read the bytes. -/
structure Resp where
  port : Fin 4
  tag : Fin 1024
  code : Fin 4 := 0
  parity : Bool := false
  data : List Byte := []
  deriving DecidableEq, Repr

/-- The settings of a lane's receiver that its adaptation estimates (R144): CTLE code, DFE tap, the reflection
canceller's delays and taps, and the FFE taps f_0 to f_31. -/
structure RxSet where
  ctle : Nat
  dfe : Int
  rc : List (Nat × Int)
  ffe : List Int
  deriving DecidableEq, Repr

/-- What the block measures of a frame's path for its timestamp (R279, R280): the carrying lane and the carrying
symbol's index, the ridge clock cycles counted from the deskew buffer's output to the MAC (received) or from the launch
point to the gearbox write of the carrying symbol (sent), symbols of residence in the gearbox, and phase in 1/64 UI. -/
structure Path where
  lane : Fin 16 := 0
  sym : Nat := 0
  cycles : Nat := 0
  symbols : Nat := 0
  phase : Nat := 0
  deriving DecidableEq, Repr

/-- A received frame as the MAC sees it: its start byte (R217), its bytes from the DA to the FCS, and whether it held an
error control character or lacked a terminate (R219), or held errored FEC data (R206); the bytes that met a parity error
on the way into the loft (R753); whether its first beat enters the course in the cycle of the frame before it (R47); and
what the allocator's reads of its free lists find (R435). -/
structure RxFrame where
  bytes : List Byte
  start : Byte := 0xD5
  err : Bool := false
  fec : Bool := false
  parity : List Nat := []
  same : Bool := false
  alloc : Ecc := .clean
  deriving DecidableEq, Repr

/-- A received fragment of a preemptable frame (R248): a start or a continuation, the frame number of its SMD, the
fragment count of a continuation, its frame data (the last with the frame's FCS), whether it closes the frame, whether
its mCRC is good, and the marks of `RxFrame`. -/
structure Fragment where
  cont : Bool
  frame : Fin 4 := 0
  count : Fin 4
  data : List Byte
  final : Bool
  crcOk : Bool := true
  err : Bool := false
  fec : Bool := false
  parity : List Nat := []
  alloc : Ecc := .clean
  deriving DecidableEq, Repr

/-- What arrives at a port (a frame or a fragment), with what the block measures of its path. -/
structure Arrival (α : Type) where
  what : α
  path : Path := {}
  deriving DecidableEq, Repr

/-- What CDR_LOCK reports of a lane (R91): the receiver finds energy, and whether its CDR locks. -/
structure CdrFound where
  lane : Fin 16
  lock : Bool
  deriving DecidableEq, Repr

/-- What CDR_LOCK_LOSS reports of a lane (R140): its CDR loses lock, and whether there is still energy. -/
structure CdrLost where
  lane : Fin 16
  energy : Bool
  deriving DecidableEq, Repr

/-- What the boot engine has read for the item it applies (R728, R737): the item, with its record's header before it if it
is the record's first, and how many bytes beyond it are in the buffer. -/
structure ItemRead where
  bytes : List Byte
  ahead : Nat := 0
  deriving DecidableEq, Repr

/-- A decision that is due (R422, R426): its course, and whether it falls in the CCLK cycle of the decision before it. -/
structure Due where
  course : Fin 4
  same : Bool
  deriving DecidableEq, Repr

/-- A response segment of the cipher engine (R621, R626): identifier, segment flags, bytes and status; the byte
of it whose beat first carries a status other than OK, whether a control parity error was found, the byte of the first
lane parity error (R627, R628), and whether it came late or with a gap. -/
structure SealResp where
  fid : Fin 256
  sof : Bool
  eof : Bool
  susp : Bool := false
  resume : Bool := false
  data : List Byte
  status : Fin 4 := 0
  stAt : Nat := 0
  cpar : Bool := false
  par : Option Nat := none
  late : Bool := false
  deriving DecidableEq, Repr

/-- The commands of the block, in the order of the opcode table. -/
inductive Instr where
  | registerWrite (a : Access)
  | stalledAccessServed
  | rcCounterRead (off : Nat) (size : Nat)
  | lowerHalfRead (off : Nat)
  | lowerHalfWrite (off : Nat) (v : BitVec 32)
  | upperHalfWrite (off : Nat) (v : BitVec 32)
  | coldReset
  | coldResetRelease (fence : Fin 16) (mode : Fin 4) (trim : BitVec 40)
  | ridgePllLock
  | ridgePllLockLost
  | rxFrame (p : Fin 16) (x : Arrival RxFrame)
  | rxFrameLastBeat (p : Fin 16)
  | rxFragment (p : Fin 16) (x : Arrival Fragment)
  | parserTake (c : Fin 4) (e m : Ecc)
  | reorderRelease (hi : Bool)
  | admissionDecision (d : Due)
  | txrDoorbell (r : Fin 16384) (v : BitVec 32)
  | rxrDoorbell (r : Fin 16384) (v : BitVec 32)
  | cqDoorbell (q : Fin 4096) (v : BitVec 32)
  | txrDisable (r : Fin 16384)
  | txrDrainEnd (r : Fin 16384)
  | txrEnable (r : Fin 16384)
  | rxrReset (r : Fin 16384)
  | rxrResetDone (r : Fin 16384)
  | rxrEnable (r : Fin 16384)
  | rafterRequestIssue (p : Fin 4) (t : Fin 1024) (preferWrite : Bool) (wait : Nat)
  | rafterStrayResponse (p : Fin 4) (t : Fin 1024) (v : Fin 4)
  | txEntryReadDone (a : Resp) (x : CacheRead)
  | descRereadDone (a : Resp) (parity : Bool)
  | hostAdmission (x : AdmitCheck)
  | txFragmentReadDone (a : Resp) (bad : Bool)
  | schedSelect (c : Fin 4) (e : Ecc) (str : Fin 6)
  | shaperEligible (lvl : Fin 3) (node : Nat)
  | pacingEligible (p : Fin 16)
  | egressFrameStart (p : Fin 16) (x : Path) (e : CellRead)
  | preemptFragmentEnd (p : Fin 16) (k : Nat)
  | txEntryRetire (r : Fin 16384)
  | rxBufferReadDone (a : Resp) (x : CacheRead)
  | rxDeliveryStart (r : Fin 16384) (e : CellRead)
  | rxDataWriteDone (a : Resp)
  | completionWriteIssue (q : Fin 4096) (x : ComplRun)
  | completionWriteDone (a : Resp)
  | shadowWrite (rx : Bool) (r : Fin 16384)
  | laneEnable (n : Fin 16)
  | laneDisable (n : Fin 16)
  | laneRestart (n : Fin 16)
  | quadPllLock (q : Fin 4)
  | quadPllLockLost (q : Fin 4)
  | cdrLock (x : CdrFound)
  | frameLock (n : Fin 16)
  | frameLockLost (n : Fin 16)
  | trainingFrameRx (n : Fin 16) (head pattern : List (Fin 4))
  | trainFrameTxStart (n : Fin 16)
  | trainSearchMeasure (n : Fin 16)
  | localReady (n : Fin 16)
  | fixedModeReady (n : Fin 16)
  | trainReqTimeout (n : Fin 16)
  | trainingTimeout (n : Fin 16)
  | countdownTimeout (n : Fin 16)
  | failRetry (n : Fin 16)
  | signalLoss (n : Fin 16)
  | laneTxFixedWrite (n : Fin 16) (v : Word)
  | laneLoopWrite (n : Fin 16) (v : Word)
  | lanePatternWrite (n : Fin 16) (v : Word)
  | markerLock (p : Fin 16)
  | markerLockLost (p : Fin 16)
  | skewMeasured (p : Fin 16) (skews : List Nat)
  | pfBlockDone (n : Fin 16) (sig : Nat) (err : Nat) (x : Option RxSet) (errs : Nat)
  | rxUpdateInterval (n : Fin 16) (est : RxSet)
  | txUpdateInterval (n : Fin 16)
  | stepApply (n : Fin 16) (rx : Bool)
  | lpmDueTimer (p : Fin 16)
  | lpmSend (p : Fin 16)
  | lpmReceive (p : Fin 16) (x : RxFrame)
  | liveSearchTrial (n : Fin 16)
  | liveSearchMeasure (n : Fin 16)
  | liveReqTimeout (n : Fin 16)
  | calTxSetWrite (n : Fin 16) (v : Word)
  | ctleHoldWrite (n : Fin 16) (v : Word)
  | portMapWrite (c : Fin 4) (v : Word)
  | portModeWrite (p : Fin 16) (v : Word)
  | fecCodewordDecode (p : Fin 16) (fixed : Option (List Nat))
  | fecWindowEnd (p : Fin 16)
  | faultOrderedSetRx (p : Fin 16) (kind : Fin 3)
  | fcFrameRx (p : Fin 16) (x : Arrival RxFrame)
  | pauseTimerExpiry (p : Fin 16) (k : Fin 9)
  | fcFrameSend (p : Fin 16)
  | fcResendTimer (p : Fin 16) (k : Fin 9)
  | preemptVerifyTimer (p : Fin 16)
  | verifyPacketRx (p : Fin 16)
  | respondPacketRx (p : Fin 16)
  | timeSetNow
  | timeSetAtPps
  | timeStepNow
  | timeLoadApply
  | timeLoadCancel
  | timeSlewStart
  | timeSlewDone
  | timeSlewCancel
  | timeAddendWrite (v : Word)
  | timeNowRead
  | ppsInEdge (rising : Bool)
  | ppsInMissTimer
  | ppsOutEdge
  | ppsOutFall
  | rclkUnsquelch (k : Fin 2)
  | tableCfgWrite (t : Fin 4) (v : Word)
  | tableSearch
  | tableInsert
  | tableDelete
  | tableUpdate
  | tableRead
  | tableGenOpen
  | tableGenCommit
  | tableGenAbort
  | commitEdge
  | drainEnd
  | drainSlowTimer
  | settleSweepEnd
  | abortSweepEnd
  | schedWinRead
  | schedWinWrite
  | meterWinRead
  | meterWinReadClear
  | meterWinWrite
  | meterWinWriteFill
  | qwEnable (v : Word)
  | qwRound
  | qwRoundDone (a : Resp)
  | adminEnable (v : Word)
  | adminDisable (v : Word)
  | adminDoorbell (v : BitVec 32)
  | adminAcqConsWrite (v : BitVec 32)
  | adminCommandReadDone (a : Resp)
  | fenceRelease
  | adminCompletionWrite
  | adminCompletionDone (a : Resp)
  | nop
  | txrCreate
  | txrDestroy
  | rxrCreate
  | rxrDestroy
  | cqCreate
  | cqDestroy
  | tableEdit
  | tableGen
  | tableBulkLoad
  | tableRehash
  | schedNodeCreate
  | schedNodeDestroy
  | schedNodeWrite
  | meterWrite
  | regWrite
  | powerState
  | laneRetrain
  | statsSnapshot
  | statsDump
  | eyeScan
  | loftScrub
  | opSuspend
  | opResume
  | opCancel
  | lopUnitEnd (k : Fin 16) (count : Nat) (e : Ecc) (fid : Nat)
  | lopSuspendReg (k : Fin 16)
  | lopResumeReg (k : Fin 16)
  | lopCancelReg (k : Fin 16)
  | lopRelease (k : Fin 16)
  | dmaChanStart (k : Fin 64)
  | dmaChanStop (k : Fin 64)
  | dmaChanAppend (k : Fin 64)
  | dmaDescReadDone (a : Resp)
  | dmaDataReadDone (a : Resp)
  | dmaDataWriteDone (a : Resp)
  | dmaDescComplete (k : Fin 64)
  | dmaWritebackDone (a : Resp)
  | dmaChanStopped (k : Fin 64)
  | sealEnWrite (en : Bool)
  | sealEnApply
  | sealTxResponse (ch : Fin 4) (x : SealResp)
  | sealTxRelease (ch : Fin 4)
  | sealRxResponse (ch : Fin 4) (x : SealResp)
  | sealRxTimeout (ch : Fin 4)
  | sealAlarm (p : Fin 16) (slot : Fin 4096) (par : Bool)
  | sealHoldSweepEnd
  | sealBindRead
  | sealBindWrite
  | intcSourceChange (q : Fin 4352)
  | intcSrcWrite (q : Fin 4352) (v : Word)
  | intcVecWrite (v : Fin 4096) (w : Word)
  | intcModTimerExpiry (v : Fin 4096)
  | intcClaim (n : Fin 64)
  | intcEoi (n : Fin 64) (v : BitVec 32)
  | intcFclaim (n : Fin 64)
  | intcFeoi (n : Fin 64) (v : BitVec 32)
  | intcMessageSend (t : Fin 1024)
  | hostSleepChange (n : Fin 64) (sleeps : Bool)
  | domainDozeEntry (d : Fin 15)
  | domainReady (d : Fin 15) (items : List (Bool × List Byte))
  | sleepPadsHeld
  | sleepPowerDown
  | sleepWake
  | wakeTimerExpiry
  | watchMagicFrame (p : Fin 16) (b : List Byte) (good : Bool)
  | watchPatternMatch (p : Fin 16) (b : List Byte) (good : Bool)
  | watchSignalDetect (p : Fin 16)
  | voltAck
  | vregTimeout
  | cclkDivisorChange
  | thermSample (sites : List (Option Int))
  | surgeTimeLimit
  | surgeBucketEnd
  | thermUnlock
  | powerFenceWrite (v : Word)
  | padRelease (mask : Fin 128)
  | liggerPing (addr : Fin 64) (check : Fin 256)
  | liggerStatus (addr : Fin 64) (check : Fin 256)
  | liggerHostWake (addr : Fin 64) (check : Fin 256)
  | liggerRead (addr : Fin 64)
  | xspiResetRelease
  | bootInitDone
  | bootSelectDone (hA : List Byte) (mA : List Byte) (hB : List Byte) (mB : List Byte)
  | bootItemApply (x : ItemRead)
  | bootDelayExpiry
  | bootLoadEnd
  | bootClearDone
  | bootRelease
  | bootHostStart
  | rethatchRequest
  | quiesceDone
  | xspiWindowTransaction (v : BitVec 32)
  | xspiWindowDone (b : List Byte)
  | statsWinRead
  | statsWinPeek
  | egressFrameEnd (p : Fin 16) (x : EgressDone)
  | shadowWriteDone (a : Resp)
  | intcMessageWriteDone (a : Resp)
  | operandMemoryAccessDone (a : Resp)
  | cdrLockLoss (x : CdrLost)
  | dozeWindowExpiry
  | memorySelfTestStart
  | memorySelfTestDone (bad : Bool)
  deriving DecidableEq, Repr

end Sys2Proof
end

