-- ==== Sys2Proof/Decode.lean ====
section
/-! DEFINITION. The commands that words spell. -/

namespace Sys2Proof

/-- The command that a word of the opcode table's bits spells: the table gives bits to no row of this block. -/
def decodeTableWord (_nbits _w : Nat) : Option Instr := none

end Sys2Proof
end

