-- ==== Sys2Proof/Config.lean ====
section
/-! DEFINITION. What the manual leaves open: constants without a body, so that nothing can be proved of their
values. `Config.freeValue k n` is the n-th value drawn for the open point numbered `k` in the assumption log. -/

namespace Sys2Proof

/-- A value the manual does not state, by open point and by how many have been drawn. -/
opaque Config.freeValue : Nat → Nat → Nat

end Sys2Proof
end

