-- ==== Sys2Proof/Machine/Regs.lean ====
section
/-! DEFINITION. The register map of R57 and of every register table of the manual: one RegId for each register
name, its instances' addresses in the control space, its width, and each field's place, type (R18), Reset value (R25)
and treatment by re-thatch (R26, R745). Fields the tables call reserved are not listed: they read as zero and
ignore writes (R16). -/

namespace Sys2Proof.Machine

/-- The field types of R18. -/
inductive FieldType where
  | rw | ro | rc | w1c | w1s | wo | rwsc
  deriving DecidableEq, Repr

/-- The place of a field in its register (R7): its lowest bit and its width. -/
structure Field where
  lo : Nat
  w : Nat
  deriving DecidableEq, Repr

/-- One row of a register table: place, type, Reset value, and whether a re-thatch keeps the field. -/
structure FieldDesc where
  lo : Nat
  w : Nat
  ty : FieldType
  reset : Nat
  kept : Bool
  deriving DecidableEq, Repr

/-- One register name: the address of its first instance, the stride and count of each index (outermost
first), its width in bits and its fields. -/
structure RegDesc where
  base : Nat
  dims : List (Nat × Nat)
  width : Nat
  fields : List FieldDesc
  deriving DecidableEq, Repr

/-- The registers of the control space, in address order of their first instance. -/
inductive RegId where
  | GEN_IDENT
  | GEN_ACC_ERR
  | GEN_RESET
  | GEN_BUILD
  | GEN_FAULT_STAT
  | GEN_FAULT_INFO
  | GEN_FAULT_ADDR
  | GEN_FAULT_TIME
  | GEN_INTEG_CORR
  | GEN_INTEG_POISON
  | GEN_INTEG_EVT
  | GEN_INTEG_EVT_EN
  | GEN_FAULT_COPY
  | ADMIN_CFG
  | ADMIN_ASQ_BASE
  | ADMIN_ACQ_BASE
  | ADMIN_ASQ_PROD
  | ADMIN_ASQ_CONS
  | ADMIN_ACQ_PROD
  | ADMIN_ACQ_CONS
  | ADMIN_STAT
  | ADMIN_EVT
  | ADMIN_EVT_EN
  | ADMIN_LOP_STAT
  | ADMIN_LOP_CTRL
  | ADMIN_LOP_PROG
  | ADMIN_LOP_RES
  | ADMIN_LOP_RES0
  | ADMIN_LOP_RES1
  | RAFTER_CFG
  | RAFTER_STAT
  | RAFTER_ERR
  | RAFTER_ERR_ADDR
  | RAFTER_ERR_INFO
  | RAFTER_EVT
  | RAFTER_EVT_EN
  | INTC_SRC
  | INTC_SW
  | INTC_MSG_CNT
  | INTC_CORE_CFG
  | INTC_CLAIM
  | INTC_EOI
  | INTC_CORE_STAT
  | INTC_MSG_ADDR
  | INTC_MSG_DATA
  | INTC_PEND
  | INTC_VEC
  | INTC_FVEC
  | INTC_FPEND
  | INTC_FCORE_CFG
  | INTC_FCLAIM
  | INTC_FEOI
  | INTC_FSTAT
  | INTC_FMSG_ADDR
  | INTC_FMSG_DATA
  | TIME_NOW_L
  | TIME_NOW_H
  | TIME_ADDEND
  | TIME_SLEW
  | TIME_SLEW_REM
  | TIME_STEP
  | TIME_LOAD_SEC
  | TIME_LOAD_NS
  | TIME_LOAD_CTRL
  | TIME_STAT
  | TIME_EVT
  | TIME_EVT_EN
  | TIME_PPS_IN_CFG
  | TIME_PPS_IN_CAP_L
  | TIME_PPS_IN_CAP_H
  | TIME_PPS_OUT_CFG
  | TIME_PPS_OUT_OFFSET
  | TIME_RCLK_CFG
  | TIME_ONESTEP_SKIP
  | TIME_PORT_ADJ
  | TIME_LANE_LAT
  | TIME_LANE_FIX
  | LANE_CTRL
  | LANE_STAT
  | LANE_TX_TAPS
  | LANE_TX_FIXED
  | LANE_TRAIN_CFG
  | LANE_TRAIN_CNT
  | LANE_TRAIN_LAST
  | LANE_EVENT
  | LANE_EVENT_EN
  | LANE_LOOP
  | LANE_SKEW
  | LANE_PATTERN
  | LANE_PATTERN_ERR
  | LANE_CAL_CTRL
  | LANE_CAL_CFG
  | LANE_PF
  | LANE_RX_EQ
  | LANE_RX_RC
  | LANE_RX_FFE0
  | LANE_RX_FFE1
  | LANE_RX_FFE2
  | LANE_RX_FFE3
  | LANE_GD
  | LANE_GD_CTLE
  | LANE_CAL_TX_SET
  | LANE_CAL_STAT
  | LANE_CAL_CNT
  | LANE_CAL_EVENT
  | LANE_CAL_EVENT_EN
  | LANE_QUAD_CFG
  | LANE_QUAD_STAT
  | PORT_MODE
  | PORT_MAC_CFG
  | PORT_MAXFRAME
  | PORT_MAC_ADDR
  | PORT_DIAG_CFG
  | PORT_DIAG_CNT
  | PORT_MAC_STAT
  | PORT_MAC_EVT
  | PORT_MAC_EVT_EN
  | PORT_FC_CFG
  | PORT_PFC_MAP
  | PORT_FC_STAT
  | PORT_PREEMPT_CFG
  | PORT_PREEMPT_STAT
  | PORT_FEC_CFG
  | PORT_FEC_STAT
  | PORT_FEC_CNT
  | PORT_FEC_SYM
  | PORT_FEC_LANE
  | PORT_FEC_HIST
  | PORT_FEC_EVT
  | PORT_FEC_EVT_EN
  | PORT_ADM_PRI
  | PORT_FC_THR
  | PORT_ADM_USE
  | PORT_ADM_DROP
  | PORT_FC_TX_STAT
  | PORT_LINK_STAT
  | PORT_LINK_EVT
  | PORT_LPM_CFG
  | PORT_LPM_DA
  | PORT_LPM_SA
  | PORT_LPM_CNT
  | COURSE_PORT_MAP
  | COURSE_MAP_STAT
  | COURSE_RX_OVERRUN
  | COURSE_PARSE_CFG
  | COURSE_UDP_PORTS
  | COURSE_SLOW_CFG
  | COURSE_SLOW_CNT
  | COURSE_SLOW_DROP
  | COURSE_PARSE_CNT
  | COURSE_SPRAY_STAT
  | COURSE_SPRAY_CNT
  | COURSE_PARSE_EVT
  | COURSE_PARSE_EVT_EN
  | COURSE_KSEL
  | COURSE_KPROF
  | TABLE_EM_CFG
  | TABLE_EM_SEED
  | TABLE_EM_SEED_OLD
  | TABLE_EM_OCC
  | TABLE_EM_CNT
  | TABLE_EM_ERR
  | TABLE_GEN_CTRL
  | TABLE_GEN_STAT
  | TABLE_GEN_DRAIN
  | TABLE_GEN_EVT
  | TABLE_GEN_EVT_EN
  | TABLE_WIN_CMD
  | TABLE_WIN_ADDR
  | TABLE_WIN_STAT
  | TABLE_WIN_DATA
  | TABLE_DEFAULT
  | TABLE_MIRROR
  | TABLE_RECIRC_CNT
  | TABLE_ACT_CNT
  | TABLE_MIRROR_CNT
  | SCHED_WIN_CMD
  | SCHED_WIN_ADDR
  | SCHED_WIN_STAT
  | SCHED_WIN_DATA_0
  | SCHED_WIN_DATA_1
  | SCHED_WIN_DATA_2
  | SCHED_WIN_DATA_3
  | METER_WIN_CMD
  | METER_WIN_ADDR
  | METER_WIN_STAT
  | METER_WIN_DATA_0
  | METER_WIN_DATA_1
  | METER_WIN_DATA_2
  | METER_WIN_DATA_3
  | METER_WIN_DATA_4
  | METER_WIN_DATA_5
  | SCHED_EVT
  | SCHED_EVT_EN
  | QW_CFG
  | QW_BUF_BASE
  | QW_PROD
  | QW_CONS
  | QW_CNT
  | SCHED_PORT_CFG
  | SCHED_PORT_STAT
  | SCHED_PORT_CNT
  | QW_SLOT
  | LOFT_POOL
  | LOFT_CFG
  | LOFT_COLOUR
  | LOFT_RING_MAX
  | LOFT_SHARED
  | LOFT_USE
  | LOFT_DROP
  | LOFT_ECC
  | LOFT_EVT
  | LOFT_EVT_EN
  | LOFT_HOST_WAIT
  | TXR_PROD
  | TXR_CONS
  | TXR_FETCH
  | TXR_CTRL
  | TXR_STAT
  | RXR_PROD
  | RXR_CONS
  | RXR_CTRL
  | RXR_STAT
  | CQ_CONS
  | CQ_PROD
  | CQ_STAT
  | DMA_CHAN_CFG
  | DMA_CHAN_HEAD
  | DMA_CHAN_CTRL
  | DMA_CHAN_APPEND
  | DMA_CHAN_STAT
  | DMA_CHAN_APPCNT
  | DMA_CHAN_CUR
  | DMA_CHAN_DONE_BYTES
  | DMA_CHAN_DONE_CNT
  | DMA_CHAN_DONE_ADDR
  | DMA_CHAN_EVT
  | DMA_CHAN_EVT_EN
  | DMA_CHAN_BYTES
  | STATS_PORT
  | STATS_HALF
  | STATS_HALF_EN
  | STATS_WIN_CMD
  | STATS_WIN_ADDR
  | STATS_WIN_STAT
  | STATS_WIN_DATA
  | SEAL_CFG
  | SEAL_EVT
  | SEAL_EVT_EN
  | SEAL_ALARM_LOG
  | SEAL_BIND_CMD
  | SEAL_BIND_ADDR
  | SEAL_BIND_DATA
  | SEAL_PORT_CFG
  | SEAL_RX_MAP
  | SEAL_PORT_STAT
  | SEAL_PORT_CNT
  | SEAL_PORT_ERR
  | SEAL_SLOT
  | BOOT_STAT
  | BOOT_CFG
  | BOOT_CTRL
  | BOOT_IMG_A
  | BOOT_IMG_B
  | BOOT_PROG
  | BOOT_APPLY_ERR
  | BOOT_CNT
  | BOOT_EVT
  | BOOT_EVT_EN
  | BOOT_XSPI_CFG
  | BOOT_XSPI_CMD
  | BOOT_XSPI_ADDR
  | BOOT_XSPI_DATA
  | POWER_STAT
  | POWER_CFG
  | POWER_DOM_STAT
  | POWER_READY
  | POWER_FENCE
  | POWER_WAKE_EN
  | POWER_WAKE_CAUSE
  | POWER_WAKE_AFTER
  | POWER_WAKE_CORES
  | POWER_PAD
  | POWER_EVT
  | POWER_EVT_EN
  | POWER_THERM_STAT
  | POWER_THERM_CTRL
  | POWER_THERM_EVT
  | POWER_THERM_EVT_EN
  | POWER_LIG_CFG
  | POWER_LIG_EVT
  | POWER_LIG_EVT_EN
  | POWER_WATCH_CFG
  | POWER_WATCH_MAC
  | POWER_PAT_VAL
  | POWER_PAT_MASK
  deriving DecidableEq, Repr

/-- The table row of each register. -/
def RegId.desc : RegId → RegDesc
  | .GEN_IDENT => ⟨0x0, [], 32, [⟨0, 8, .ro, 0xa7, false⟩, ⟨8, 16, .ro, 0x3216, false⟩, ⟨24, 4, .ro, 0x1, false⟩,
      ⟨28, 4, .ro, 0x2, false⟩]⟩
  | .GEN_ACC_ERR => ⟨0x8, [], 64, [⟨0, 1, .w1c, 0x0, false⟩, ⟨1, 1, .w1c, 0x0, false⟩, ⟨2, 1, .w1c, 0x0, false⟩,
      ⟨3, 1, .w1c, 0x0, false⟩, ⟨8, 24, .ro, 0x0, false⟩]⟩
  | .GEN_RESET => ⟨0x10, [], 32, [⟨0, 8, .wo, 0x0, false⟩, ⟨8, 1, .wo, 0x0, false⟩]⟩
  | .GEN_BUILD => ⟨0x18, [], 32, [⟨0, 16, .ro, 0x412, false⟩, ⟨16, 8, .ro, 0x3, false⟩, ⟨24, 8, .ro, 0x2, false⟩]⟩
  | .GEN_FAULT_STAT => ⟨0x100, [], 32, [⟨0, 1, .ro, 0x0, false⟩, ⟨1, 1, .w1c, 0x0, true⟩, ⟨2, 1, .w1c, 0x0, true⟩,
      ⟨8, 8, .ro, 0x0, true⟩, ⟨16, 16, .ro, 0x0, false⟩]⟩
  | .GEN_FAULT_INFO => ⟨0x108, [], 64, [⟨0, 64, .ro, 0x0, false⟩]⟩
  | .GEN_FAULT_ADDR => ⟨0x110, [], 64, [⟨0, 64, .ro, 0x0, false⟩]⟩
  | .GEN_FAULT_TIME => ⟨0x118, [], 64, [⟨0, 64, .ro, 0x0, false⟩]⟩
  | .GEN_INTEG_CORR => ⟨0x120, [], 64, [⟨0, 16, .rc, 0x0, false⟩, ⟨16, 16, .rc, 0x0, false⟩,
      ⟨32, 16, .rc, 0x0, false⟩, ⟨48, 16, .rc, 0x0, false⟩]⟩
  | .GEN_INTEG_POISON => ⟨0x128, [], 64, [⟨0, 16, .rc, 0x0, false⟩, ⟨16, 16, .rc, 0x0, false⟩,
      ⟨32, 16, .rc, 0x0, false⟩, ⟨48, 16, .rc, 0x0, false⟩]⟩
  | .GEN_INTEG_EVT => ⟨0x130, [], 32, [⟨0, 1, .w1c, 0x0, false⟩, ⟨1, 1, .w1c, 0x0, false⟩, ⟨2, 1, .w1c, 0x0, false⟩]⟩
  | .GEN_INTEG_EVT_EN => ⟨0x134, [], 32, [⟨0, 3, .rw, 0x0, false⟩]⟩
  | .GEN_FAULT_COPY => ⟨0x180, [(0x8, 16)], 64, [⟨0, 64, .ro, 0x0, false⟩]⟩
  | .ADMIN_CFG => ⟨0x1000, [], 32, [⟨0, 1, .rw, 0x0, false⟩, ⟨1, 5, .rw, 0x6, true⟩, ⟨6, 5, .rw, 0x6, true⟩,
      ⟨11, 2, .rw, 0x0, true⟩, ⟨13, 2, .rw, 0x0, true⟩, ⟨15, 1, .rw, 0x0, true⟩]⟩
  | .ADMIN_ASQ_BASE => ⟨0x1008, [], 64, [⟨0, 64, .rw, 0x0, true⟩]⟩
  | .ADMIN_ACQ_BASE => ⟨0x1010, [], 64, [⟨0, 64, .rw, 0x0, true⟩]⟩
  | .ADMIN_ASQ_PROD => ⟨0x1018, [], 32, [⟨0, 32, .rw, 0x0, false⟩]⟩
  | .ADMIN_ASQ_CONS => ⟨0x101c, [], 32, [⟨0, 32, .ro, 0x0, false⟩]⟩
  | .ADMIN_ACQ_PROD => ⟨0x1020, [], 32, [⟨0, 32, .ro, 0x0, false⟩]⟩
  | .ADMIN_ACQ_CONS => ⟨0x1024, [], 32, [⟨0, 32, .rw, 0x0, false⟩]⟩
  | .ADMIN_STAT => ⟨0x1028, [], 32, [⟨0, 1, .ro, 0x0, false⟩, ⟨1, 1, .ro, 0x0, false⟩, ⟨2, 1, .ro, 0x0, false⟩,
      ⟨3, 1, .ro, 0x1, false⟩, ⟨4, 1, .w1c, 0x0, true⟩, ⟨5, 5, .ro, 0x0, false⟩]⟩
  | .ADMIN_EVT => ⟨0x1030, [], 32, [⟨0, 1, .w1c, 0x0, false⟩, ⟨1, 1, .w1c, 0x0, false⟩, ⟨2, 1, .w1c, 0x0, false⟩,
      ⟨3, 1, .w1c, 0x0, false⟩, ⟨4, 1, .w1c, 0x0, false⟩]⟩
  | .ADMIN_EVT_EN => ⟨0x1034, [], 32, [⟨0, 5, .rw, 0x0, false⟩]⟩
  | .ADMIN_LOP_STAT => ⟨0x1100, [(0x40, 16)], 32, [⟨0, 3, .ro, 0x0, false⟩, ⟨8, 8, .ro, 0x0, false⟩,
      ⟨16, 16, .ro, 0x0, false⟩]⟩
  | .ADMIN_LOP_CTRL => ⟨0x1108, [(0x40, 16)], 32, [⟨0, 1, .wo, 0x0, false⟩, ⟨1, 1, .wo, 0x0, false⟩,
      ⟨2, 1, .wo, 0x0, false⟩, ⟨3, 1, .wo, 0x0, false⟩]⟩
  | .ADMIN_LOP_PROG => ⟨0x1110, [(0x40, 16)], 64, [⟨0, 32, .ro, 0x0, false⟩, ⟨32, 32, .ro, 0x0, false⟩]⟩
  | .ADMIN_LOP_RES => ⟨0x1118, [(0x40, 16)], 32, [⟨0, 1, .ro, 0x0, false⟩, ⟨8, 8, .ro, 0x0, false⟩,
      ⟨16, 8, .ro, 0x0, false⟩]⟩
  | .ADMIN_LOP_RES0 => ⟨0x1120, [(0x40, 16)], 64, [⟨0, 64, .ro, 0x0, false⟩]⟩
  | .ADMIN_LOP_RES1 => ⟨0x1128, [(0x40, 16)], 64, [⟨0, 64, .ro, 0x0, false⟩]⟩
  | .RAFTER_CFG => ⟨0x2000, [(0x40, 4)], 32, [⟨0, 11, .rw, 0x400, true⟩]⟩
  | .RAFTER_STAT => ⟨0x2008, [(0x40, 4)], 32, [⟨0, 11, .ro, 0x0, false⟩, ⟨11, 1, .ro, 0x1, false⟩]⟩
  | .RAFTER_ERR => ⟨0x2010, [(0x40, 4)], 64, [⟨0, 32, .rc, 0x0, false⟩, ⟨32, 32, .rc, 0x0, false⟩]⟩
  | .RAFTER_ERR_ADDR => ⟨0x2018, [(0x40, 4)], 64, [⟨0, 64, .ro, 0x0, true⟩]⟩
  | .RAFTER_ERR_INFO => ⟨0x2020, [(0x40, 4)], 32, [⟨0, 2, .ro, 0x0, false⟩, ⟨2, 1, .ro, 0x0, false⟩,
      ⟨3, 3, .ro, 0x0, false⟩, ⟨6, 14, .ro, 0x0, false⟩, ⟨31, 1, .ro, 0x0, true⟩]⟩
  | .RAFTER_EVT => ⟨0x2028, [(0x40, 4)], 32, [⟨0, 1, .w1c, 0x0, false⟩, ⟨1, 1, .w1c, 0x0, false⟩,
      ⟨2, 1, .w1c, 0x0, false⟩]⟩
  | .RAFTER_EVT_EN => ⟨0x202c, [(0x40, 4)], 32, [⟨0, 3, .rw, 0x0, false⟩]⟩
  | .INTC_SRC => ⟨0x10000, [(0x4, 4352)], 32, [⟨0, 1, .rw, 0x0, true⟩, ⟨1, 2, .rw, 0x0, true⟩,
      ⟨3, 1, .rw, 0x0, true⟩, ⟨4, 12, .rw, 0x0, true⟩, ⟨16, 1, .ro, 0x0, false⟩]⟩
  | .INTC_SW => ⟨0x14800, [], 64, [⟨0, 64, .rw, 0x0, true⟩]⟩
  | .INTC_MSG_CNT => ⟨0x14808, [], 64, [⟨0, 32, .rc, 0x0, false⟩]⟩
  | .INTC_CORE_CFG => ⟨0x15000, [(0x40, 64)], 32, [⟨0, 1, .rw, 0x0, true⟩, ⟨1, 4, .rw, 0x0, true⟩,
      ⟨5, 1, .rw, 0x0, true⟩, ⟨6, 4, .rw, 0x0, true⟩]⟩
  | .INTC_CLAIM => ⟨0x15004, [(0x40, 64)], 32, [⟨0, 12, .rc, 0x0, false⟩, ⟨16, 4, .rc, 0x0, false⟩,
      ⟨31, 1, .rc, 0x0, false⟩]⟩
  | .INTC_EOI => ⟨0x15008, [(0x40, 64)], 32, [⟨0, 12, .wo, 0x0, false⟩]⟩
  | .INTC_CORE_STAT => ⟨0x1500c, [(0x40, 64)], 32, [⟨0, 4, .ro, 0x0, false⟩, ⟨4, 5, .ro, 0x0, false⟩,
      ⟨9, 1, .ro, 0x0, false⟩, ⟨10, 1, .ro, 0x0, false⟩, ⟨11, 1, .ro, 0x0, false⟩, ⟨12, 1, .w1c, 0x0, true⟩]⟩
  | .INTC_MSG_ADDR => ⟨0x15010, [(0x40, 64)], 64, [⟨0, 64, .rw, 0x0, true⟩]⟩
  | .INTC_MSG_DATA => ⟨0x15018, [(0x40, 64)], 32, [⟨13, 19, .rw, 0x0, true⟩]⟩
  | .INTC_PEND => ⟨0x16000, [(0x8, 64)], 64, [⟨0, 64, .ro, 0x0, false⟩]⟩
  | .INTC_VEC => ⟨0x18000, [(0x8, 4096)], 64, [⟨0, 1, .rw, 0x0, true⟩, ⟨1, 4, .rw, 0x0, true⟩,
      ⟨5, 6, .rw, 0x0, true⟩, ⟨11, 8, .rw, 0x1, true⟩, ⟨19, 10, .rw, 0x0, true⟩, ⟨29, 1, .rw, 0x0, true⟩,
      ⟨32, 2, .ro, 0x0, false⟩, ⟨34, 8, .ro, 0x0, false⟩, ⟨42, 1, .ro, 0x0, false⟩]⟩
  | .INTC_FVEC => ⟨0x20000, [(0x8, 64)], 32, [⟨0, 1, .rw, 0x0, true⟩, ⟨1, 6, .rw, 0x0, true⟩,
      ⟨8, 2, .ro, 0x0, false⟩, ⟨10, 1, .ro, 0x0, false⟩]⟩
  | .INTC_FPEND => ⟨0x20200, [], 64, [⟨0, 64, .ro, 0x0, false⟩]⟩
  | .INTC_FCORE_CFG => ⟨0x20800, [(0x20, 64)], 32, [⟨0, 1, .rw, 0x0, true⟩, ⟨1, 2, .rw, 0x0, true⟩,
      ⟨3, 1, .rw, 0x0, true⟩]⟩
  | .INTC_FCLAIM => ⟨0x20804, [(0x20, 64)], 32, [⟨0, 6, .rc, 0x0, false⟩, ⟨31, 1, .rc, 0x0, false⟩]⟩
  | .INTC_FEOI => ⟨0x20808, [(0x20, 64)], 32, [⟨0, 6, .wo, 0x0, false⟩]⟩
  | .INTC_FSTAT => ⟨0x2080c, [(0x20, 64)], 32, [⟨0, 7, .ro, 0x0, false⟩, ⟨7, 1, .ro, 0x0, false⟩,
      ⟨8, 1, .w1c, 0x0, true⟩]⟩
  | .INTC_FMSG_ADDR => ⟨0x20810, [(0x20, 64)], 64, [⟨0, 64, .rw, 0x0, true⟩]⟩
  | .INTC_FMSG_DATA => ⟨0x20818, [(0x20, 64)], 32, [⟨13, 19, .rw, 0x0, true⟩]⟩
  | .TIME_NOW_L => ⟨0x30000, [], 64, [⟨0, 16, .ro, 0x0, true⟩, ⟨16, 32, .ro, 0x0, true⟩]⟩
  | .TIME_NOW_H => ⟨0x30008, [], 64, [⟨0, 48, .ro, 0x0, true⟩]⟩
  | .TIME_ADDEND => ⟨0x30010, [], 64, [⟨0, 48, .rw, 0x333333333333, true⟩]⟩
  | .TIME_SLEW => ⟨0x30018, [], 64, [⟨0, 48, .rw, 0x0, true⟩, ⟨48, 16, .rw, 0x800, true⟩]⟩
  | .TIME_SLEW_REM => ⟨0x30020, [], 64, [⟨0, 48, .ro, 0x0, true⟩]⟩
  | .TIME_STEP => ⟨0x30028, [], 64, [⟨0, 48, .rw, 0x0, true⟩]⟩
  | .TIME_LOAD_SEC => ⟨0x30030, [], 64, [⟨0, 48, .rw, 0x0, true⟩]⟩
  | .TIME_LOAD_NS => ⟨0x30038, [], 64, [⟨0, 16, .rw, 0x0, true⟩, ⟨16, 32, .rw, 0x0, true⟩]⟩
  | .TIME_LOAD_CTRL => ⟨0x30040, [], 32, [⟨0, 2, .rw, 0x0, true⟩, ⟨2, 1, .rwsc, 0x0, true⟩,
      ⟨3, 1, .wo, 0x0, true⟩, ⟨4, 1, .rwsc, 0x0, true⟩, ⟨5, 1, .wo, 0x0, true⟩]⟩
  | .TIME_STAT => ⟨0x30048, [], 32, [⟨0, 1, .ro, 0x0, true⟩, ⟨1, 1, .ro, 0x0, true⟩, ⟨2, 1, .ro, 0x0, true⟩,
      ⟨3, 1, .ro, 0x0, true⟩, ⟨4, 1, .w1c, 0x0, true⟩, ⟨5, 1, .ro, 0x1, true⟩, ⟨6, 1, .ro, 0x1, true⟩,
      ⟨7, 1, .ro, 0x0, true⟩]⟩
  | .TIME_EVT => ⟨0x30050, [], 32, [⟨0, 1, .w1c, 0x0, true⟩, ⟨1, 1, .w1c, 0x0, true⟩, ⟨2, 1, .w1c, 0x0, true⟩,
      ⟨3, 1, .w1c, 0x0, true⟩, ⟨4, 1, .w1c, 0x0, true⟩, ⟨5, 1, .w1c, 0x0, true⟩, ⟨6, 1, .w1c, 0x0, true⟩,
      ⟨7, 1, .w1c, 0x0, true⟩, ⟨8, 1, .w1c, 0x0, true⟩]⟩
  | .TIME_EVT_EN => ⟨0x30054, [], 32, [⟨0, 9, .rw, 0x0, true⟩]⟩
  | .TIME_PPS_IN_CFG => ⟨0x30060, [], 32, [⟨0, 1, .rw, 0x0, true⟩, ⟨1, 1, .rw, 0x0, true⟩, ⟨8, 24, .rw, 0x0, true⟩]⟩
  | .TIME_PPS_IN_CAP_L => ⟨0x30068, [], 64, [⟨0, 16, .ro, 0x0, true⟩, ⟨16, 32, .ro, 0x0, true⟩]⟩
  | .TIME_PPS_IN_CAP_H => ⟨0x30070, [], 64, [⟨0, 48, .ro, 0x0, true⟩]⟩
  | .TIME_PPS_OUT_CFG => ⟨0x30078, [], 32, [⟨0, 1, .rw, 0x0, true⟩, ⟨1, 20, .rw, 0x186a0, true⟩]⟩
  | .TIME_PPS_OUT_OFFSET => ⟨0x3007c, [], 32, [⟨0, 32, .rw, 0x0, true⟩]⟩
  | .TIME_RCLK_CFG => ⟨0x30080, [(0x8, 2)], 32, [⟨0, 1, .rw, 0x0, true⟩, ⟨1, 4, .rw, 0x0, true⟩,
      ⟨5, 12, .rw, 0x2a8, true⟩, ⟨17, 1, .rw, 0x0, true⟩, ⟨18, 8, .rw, 0x3c, true⟩]⟩
  | .TIME_ONESTEP_SKIP => ⟨0x30090, [], 32, [⟨0, 32, .rc, 0x0, true⟩]⟩
  | .TIME_PORT_ADJ => ⟨0x30100, [(0x8, 16)], 32, [⟨0, 16, .rw, 0x0, true⟩, ⟨16, 16, .rw, 0x0, true⟩]⟩
  | .TIME_LANE_LAT => ⟨0x30200, [(0x10, 16)], 64, [⟨0, 32, .ro, 0x0, true⟩, ⟨32, 32, .ro, 0x0, true⟩]⟩
  | .TIME_LANE_FIX => ⟨0x30208, [(0x10, 16)], 64, [⟨0, 32, .ro, 0x0, true⟩, ⟨32, 32, .ro, 0x0, true⟩]⟩
  | .LANE_CTRL => ⟨0x40000, [(0x4000, 16)], 32, [⟨0, 1, .rw, 0x0, true⟩, ⟨1, 3, .rw, 0x0, true⟩,
      ⟨4, 1, .rw, 0x0, true⟩, ⟨5, 1, .rw, 0x0, true⟩, ⟨6, 1, .rw, 0x0, true⟩, ⟨7, 1, .rwsc, 0x0, true⟩]⟩
  | .LANE_STAT => ⟨0x40008, [(0x4000, 16)], 32, [⟨0, 3, .ro, 0x0, true⟩, ⟨3, 1, .ro, 0x0, true⟩,
      ⟨4, 1, .ro, 0x0, true⟩, ⟨5, 1, .ro, 0x0, true⟩, ⟨6, 1, .ro, 0x0, true⟩, ⟨7, 1, .ro, 0x0, true⟩,
      ⟨8, 1, .ro, 0x0, true⟩, ⟨16, 8, .ro, 0x0, true⟩, ⟨24, 4, .ro, 0x0, true⟩]⟩
  | .LANE_TX_TAPS => ⟨0x40010, [(0x4000, 16)], 64, [⟨0, 8, .ro, 0x0, true⟩, ⟨8, 8, .ro, 0x2, true⟩,
      ⟨16, 8, .ro, 0xf4, true⟩, ⟨24, 8, .ro, 0x2e, true⟩, ⟨32, 8, .ro, 0xfc, true⟩]⟩
  | .LANE_TX_FIXED => ⟨0x40018, [(0x4000, 16)], 64, [⟨0, 8, .rw, 0x0, true⟩, ⟨8, 8, .rw, 0x0, true⟩,
      ⟨16, 8, .rw, 0x0, true⟩, ⟨24, 8, .ro, 0x40, true⟩, ⟨32, 8, .rw, 0x0, true⟩]⟩
  | .LANE_TRAIN_CFG => ⟨0x40020, [(0x4000, 16)], 32, [⟨0, 3, .rw, 0x3, true⟩, ⟨3, 1, .rw, 0x1, true⟩,
      ⟨4, 8, .rw, 0x32, true⟩, ⟨12, 8, .rw, 0x44, true⟩]⟩
  | .LANE_TRAIN_CNT => ⟨0x40028, [(0x4000, 16)], 32, [⟨0, 16, .rc, 0x0, true⟩, ⟨16, 16, .rc, 0x0, true⟩]⟩
  | .LANE_TRAIN_LAST => ⟨0x40030, [(0x4000, 16)], 32, [⟨0, 16, .ro, 0x0, true⟩, ⟨16, 16, .ro, 0x0, true⟩]⟩
  | .LANE_EVENT => ⟨0x40038, [(0x4000, 16)], 32, [⟨0, 1, .w1c, 0x0, true⟩, ⟨1, 1, .w1c, 0x0, true⟩,
      ⟨2, 1, .w1c, 0x0, true⟩, ⟨3, 1, .w1c, 0x0, true⟩, ⟨4, 1, .w1c, 0x0, true⟩, ⟨5, 1, .w1c, 0x0, true⟩,
      ⟨6, 1, .w1c, 0x0, true⟩]⟩
  | .LANE_EVENT_EN => ⟨0x4003c, [(0x4000, 16)], 32, [⟨0, 7, .rw, 0x0, true⟩]⟩
  | .LANE_LOOP => ⟨0x40040, [(0x4000, 16)], 32, [⟨0, 2, .rw, 0x0, true⟩]⟩
  | .LANE_SKEW => ⟨0x40048, [(0x4000, 16)], 32, [⟨0, 16, .ro, 0x0, true⟩, ⟨16, 1, .ro, 0x0, true⟩]⟩
  | .LANE_PATTERN => ⟨0x40050, [(0x4000, 16)], 32, [⟨0, 2, .rw, 0x0, true⟩, ⟨2, 2, .rw, 0x0, true⟩]⟩
  | .LANE_PATTERN_ERR => ⟨0x40058, [(0x4000, 16)], 32, [⟨0, 32, .rc, 0x0, true⟩]⟩
  | .LANE_CAL_CTRL => ⟨0x40100, [(0x4000, 16)], 32, [⟨0, 1, .rw, 0x0, true⟩, ⟨1, 1, .rw, 0x0, true⟩,
      ⟨2, 1, .rw, 0x1, true⟩]⟩
  | .LANE_CAL_CFG => ⟨0x40108, [(0x4000, 16)], 32, [⟨0, 8, .rw, 0x3c, true⟩, ⟨8, 8, .rw, 0xa, true⟩]⟩
  | .LANE_PF => ⟨0x40110, [(0x4000, 16)], 32, [⟨0, 8, .ro, 0x0, true⟩, ⟨16, 16, .rc, 0x0, true⟩]⟩
  | .LANE_RX_EQ => ⟨0x40118, [(0x4000, 16)], 32, [⟨0, 5, .ro, 0x0, true⟩, ⟨8, 8, .ro, 0x0, true⟩,
      ⟨16, 1, .rw, 0x0, true⟩, ⟨17, 5, .rw, 0x0, true⟩]⟩
  | .LANE_RX_RC => ⟨0x40120, [(0x4000, 16)], 64, [⟨0, 9, .ro, 0x20, true⟩, ⟨16, 9, .ro, 0x20, true⟩,
      ⟨32, 9, .ro, 0x20, true⟩, ⟨48, 9, .ro, 0x20, true⟩, ⟨9, 7, .ro, 0x0, true⟩, ⟨25, 7, .ro, 0x0, true⟩,
      ⟨41, 7, .ro, 0x0, true⟩, ⟨57, 7, .ro, 0x0, true⟩]⟩
  | .LANE_RX_FFE0 => ⟨0x40128, [(0x4000, 16)], 64, [⟨0, 8, .ro, 0x0, true⟩, ⟨8, 8, .ro, 0x0, true⟩,
      ⟨16, 8, .ro, 0x0, true⟩, ⟨24, 8, .ro, 0x0, true⟩, ⟨32, 8, .ro, 0x0, true⟩, ⟨40, 8, .ro, 0x0, true⟩,
      ⟨48, 8, .ro, 0x0, true⟩, ⟨56, 8, .ro, 0x40, true⟩]⟩
  | .LANE_RX_FFE1 => ⟨0x40130, [(0x4000, 16)], 64, [⟨0, 8, .ro, 0x0, true⟩, ⟨8, 8, .ro, 0x0, true⟩,
      ⟨16, 8, .ro, 0x0, true⟩, ⟨24, 8, .ro, 0x0, true⟩, ⟨32, 8, .ro, 0x0, true⟩, ⟨40, 8, .ro, 0x0, true⟩,
      ⟨48, 8, .ro, 0x0, true⟩, ⟨56, 8, .ro, 0x0, true⟩]⟩
  | .LANE_RX_FFE2 => ⟨0x40138, [(0x4000, 16)], 64, [⟨0, 8, .ro, 0x0, true⟩, ⟨8, 8, .ro, 0x0, true⟩,
      ⟨16, 8, .ro, 0x0, true⟩, ⟨24, 8, .ro, 0x0, true⟩, ⟨32, 8, .ro, 0x0, true⟩, ⟨40, 8, .ro, 0x0, true⟩,
      ⟨48, 8, .ro, 0x0, true⟩, ⟨56, 8, .ro, 0x0, true⟩]⟩
  | .LANE_RX_FFE3 => ⟨0x40140, [(0x4000, 16)], 64, [⟨0, 8, .ro, 0x0, true⟩, ⟨8, 8, .ro, 0x0, true⟩,
      ⟨16, 8, .ro, 0x0, true⟩, ⟨24, 8, .ro, 0x0, true⟩, ⟨32, 8, .ro, 0x0, true⟩, ⟨40, 8, .ro, 0x0, true⟩,
      ⟨48, 8, .ro, 0x0, true⟩, ⟨56, 8, .ro, 0x0, true⟩]⟩
  | .LANE_GD => ⟨0x40148, [(0x4000, 16)], 64, [⟨0, 32, .ro, 0x0, true⟩, ⟨32, 32, .ro, 0x0, true⟩]⟩
  | .LANE_GD_CTLE => ⟨0x40150, [(0x4000, 16)], 32, [⟨0, 32, .ro, 0x0, true⟩]⟩
  | .LANE_CAL_TX_SET => ⟨0x40158, [(0x4000, 16)], 64, [⟨0, 8, .rw, 0x0, true⟩, ⟨8, 8, .rw, 0x2, true⟩,
      ⟨16, 8, .rw, 0xf4, true⟩, ⟨24, 8, .ro, 0x2e, true⟩, ⟨32, 8, .rw, 0xfc, true⟩]⟩
  | .LANE_CAL_STAT => ⟨0x40160, [(0x4000, 16)], 32, [⟨0, 1, .ro, 0x0, true⟩, ⟨1, 1, .ro, 0x0, true⟩,
      ⟨2, 1, .ro, 0x0, true⟩, ⟨3, 1, .ro, 0x0, true⟩, ⟨4, 1, .ro, 0x0, true⟩, ⟨8, 8, .ro, 0x0, true⟩]⟩
  | .LANE_CAL_CNT => ⟨0x40168, [(0x4000, 16)], 64, [⟨0, 16, .rc, 0x0, true⟩, ⟨16, 16, .rc, 0x0, true⟩,
      ⟨32, 16, .rc, 0x0, true⟩, ⟨48, 16, .rc, 0x0, true⟩]⟩
  | .LANE_CAL_EVENT => ⟨0x40170, [(0x4000, 16)], 32, [⟨0, 1, .w1c, 0x0, true⟩, ⟨1, 1, .w1c, 0x0, true⟩,
      ⟨2, 1, .w1c, 0x0, true⟩, ⟨3, 1, .w1c, 0x0, true⟩]⟩
  | .LANE_CAL_EVENT_EN => ⟨0x40174, [(0x4000, 16)], 32, [⟨0, 4, .rw, 0x0, true⟩]⟩
  | .LANE_QUAD_CFG => ⟨0x43000, [(0x10000, 4)], 32, [⟨0, 1, .rw, 0x0, true⟩]⟩
  | .LANE_QUAD_STAT => ⟨0x43008, [(0x10000, 4)], 32, [⟨0, 1, .ro, 0x0, true⟩, ⟨1, 1, .w1c, 0x0, true⟩,
      ⟨2, 1, .w1c, 0x0, true⟩]⟩
  | .PORT_MODE => ⟨0x80000, [(0x4000, 16)], 32, [⟨0, 2, .rw, 0x1, true⟩, ⟨2, 1, .rw, 0x0, true⟩,
      ⟨3, 1, .rw, 0x0, true⟩]⟩
  | .PORT_MAC_CFG => ⟨0x80008, [(0x4000, 16)], 32, [⟨0, 1, .rw, 0x0, true⟩, ⟨8, 6, .rw, 0xc, true⟩]⟩
  | .PORT_MAXFRAME => ⟨0x80010, [(0x4000, 16)], 32, [⟨0, 14, .rw, 0x2400, true⟩]⟩
  | .PORT_MAC_ADDR => ⟨0x80018, [(0x4000, 16)], 64, [⟨0, 48, .rw, 0x0, true⟩]⟩
  | .PORT_DIAG_CFG => ⟨0x80020, [(0x4000, 16)], 32, [⟨0, 14, .rw, 0x0, true⟩]⟩
  | .PORT_DIAG_CNT => ⟨0x80024, [(0x4000, 16)], 32, [⟨0, 16, .rc, 0x0, false⟩, ⟨16, 16, .rc, 0x0, false⟩]⟩
  | .PORT_MAC_STAT => ⟨0x80028, [(0x4000, 16)], 32, [⟨0, 1, .ro, 0x0, false⟩, ⟨1, 1, .ro, 0x0, false⟩,
      ⟨2, 1, .ro, 0x0, false⟩, ⟨3, 1, .ro, 0x0, false⟩, ⟨4, 1, .ro, 0x1, false⟩]⟩
  | .PORT_MAC_EVT => ⟨0x80030, [(0x4000, 16)], 32, [⟨0, 1, .w1c, 0x0, false⟩, ⟨1, 1, .w1c, 0x0, false⟩,
      ⟨2, 1, .w1c, 0x0, false⟩, ⟨3, 1, .w1c, 0x0, false⟩, ⟨4, 1, .w1c, 0x0, false⟩, ⟨5, 1, .w1c, 0x0, false⟩]⟩
  | .PORT_MAC_EVT_EN => ⟨0x80034, [(0x4000, 16)], 32, [⟨0, 6, .rw, 0x0, true⟩]⟩
  | .PORT_FC_CFG => ⟨0x80040, [(0x4000, 16)], 32, [⟨0, 2, .rw, 0x0, true⟩, ⟨2, 2, .rw, 0x0, true⟩,
      ⟨16, 16, .rw, 0xffff, true⟩]⟩
  | .PORT_PFC_MAP => ⟨0x80048, [(0x4000, 16)], 64, [⟨0, 8, .rw, 0x1, true⟩, ⟨8, 8, .rw, 0x2, true⟩,
      ⟨16, 8, .rw, 0x4, true⟩, ⟨24, 8, .rw, 0x8, true⟩, ⟨32, 8, .rw, 0x10, true⟩, ⟨40, 8, .rw, 0x20, true⟩,
      ⟨48, 8, .rw, 0x40, true⟩, ⟨56, 8, .rw, 0x80, true⟩]⟩
  | .PORT_FC_STAT => ⟨0x80050, [(0x4000, 16)], 32, [⟨0, 8, .ro, 0x0, false⟩, ⟨8, 1, .ro, 0x0, false⟩]⟩
  | .PORT_PREEMPT_CFG => ⟨0x80060, [(0x4000, 16)], 32, [⟨0, 1, .rw, 0x0, true⟩, ⟨1, 1, .rw, 0x0, true⟩,
      ⟨2, 8, .rw, 0x0, true⟩, ⟨10, 2, .rw, 0x0, true⟩, ⟨12, 8, .rw, 0xa, true⟩]⟩
  | .PORT_PREEMPT_STAT => ⟨0x80068, [(0x4000, 16)], 32, [⟨0, 3, .ro, 0x0, false⟩, ⟨3, 1, .ro, 0x0, false⟩]⟩
  | .PORT_FEC_CFG => ⟨0x80100, [(0x4000, 16)], 32, [⟨0, 1, .rw, 0x0, true⟩, ⟨1, 1, .rw, 0x0, true⟩,
      ⟨8, 16, .rw, 0x400, true⟩]⟩
  | .PORT_FEC_STAT => ⟨0x80108, [(0x4000, 16)], 32, [⟨0, 1, .ro, 0x0, false⟩, ⟨1, 1, .ro, 0x0, false⟩,
      ⟨2, 1, .ro, 0x0, false⟩]⟩
  | .PORT_FEC_CNT => ⟨0x80110, [(0x4000, 16)], 64, [⟨0, 32, .rc, 0x0, false⟩, ⟨32, 32, .rc, 0x0, false⟩]⟩
  | .PORT_FEC_SYM => ⟨0x80118, [(0x4000, 16)], 64, [⟨0, 48, .rc, 0x0, false⟩]⟩
  | .PORT_FEC_LANE => ⟨0x80120, [(0x4000, 16), (0x4, 8)], 32, [⟨0, 32, .rc, 0x0, false⟩]⟩
  | .PORT_FEC_HIST => ⟨0x80144, [(0x4000, 16), (0x4, 15)], 32, [⟨0, 32, .rc, 0x0, false⟩]⟩
  | .PORT_FEC_EVT => ⟨0x80180, [(0x4000, 16)], 32, [⟨0, 1, .w1c, 0x0, false⟩, ⟨1, 1, .w1c, 0x0, false⟩,
      ⟨2, 1, .w1c, 0x0, false⟩]⟩
  | .PORT_FEC_EVT_EN => ⟨0x80184, [(0x4000, 16)], 32, [⟨0, 3, .rw, 0x0, true⟩]⟩
  | .PORT_ADM_PRI => ⟨0x80200, [(0x4000, 16), (0x8, 8)], 64, [⟨0, 18, .rw, 0x40, true⟩, ⟨18, 18, .rw, 0x0, true⟩,
      ⟨36, 4, .rw, 0x8, true⟩]⟩
  | .PORT_FC_THR => ⟨0x80240, [(0x4000, 16), (0x8, 8)], 64, [⟨0, 18, .rw, 0x3ffff, true⟩,
      ⟨32, 18, .rw, 0x3fffe, true⟩]⟩
  | .PORT_ADM_USE => ⟨0x80280, [(0x4000, 16), (0x8, 8)], 64, [⟨0, 18, .ro, 0x0, false⟩, ⟨32, 18, .ro, 0x0, false⟩]⟩
  | .PORT_ADM_DROP => ⟨0x802c0, [(0x4000, 16), (0x8, 8)], 64, [⟨0, 32, .rc, 0x0, false⟩, ⟨32, 32, .rc, 0x0, false⟩]⟩
  | .PORT_FC_TX_STAT => ⟨0x80300, [(0x4000, 16)], 32, [⟨0, 8, .ro, 0x0, false⟩, ⟨8, 1, .ro, 0x0, false⟩]⟩
  | .PORT_LINK_STAT => ⟨0x83e00, [(0x4000, 16)], 32, [⟨0, 3, .ro, 0x0, false⟩, ⟨3, 1, .ro, 0x0, false⟩,
      ⟨4, 1, .ro, 0x0, false⟩, ⟨12, 20, .ro, 0x0, false⟩]⟩
  | .PORT_LINK_EVT => ⟨0x83e08, [(0x4000, 16)], 32, [⟨0, 1, .w1c, 0x0, false⟩, ⟨1, 1, .w1c, 0x0, false⟩,
      ⟨2, 1, .w1c, 0x0, false⟩]⟩
  | .PORT_LPM_CFG => ⟨0x83e20, [(0x4000, 16)], 32, [⟨0, 1, .rw, 0x1, true⟩, ⟨1, 1, .rw, 0x0, true⟩,
      ⟨2, 8, .rw, 0xa, true⟩]⟩
  | .PORT_LPM_DA => ⟨0x83e28, [(0x4000, 16)], 64, [⟨0, 48, .rw, 0xb58800000003, true⟩]⟩
  | .PORT_LPM_SA => ⟨0x83e30, [(0x4000, 16)], 64, [⟨0, 48, .rw, 0x0, true⟩]⟩
  | .PORT_LPM_CNT => ⟨0x83e38, [(0x4000, 16)], 64, [⟨0, 16, .rc, 0x0, false⟩, ⟨16, 16, .rc, 0x0, false⟩,
      ⟨32, 16, .rc, 0x0, false⟩, ⟨48, 16, .rc, 0x0, false⟩]⟩
  | .COURSE_PORT_MAP => ⟨0xc0000, [(0x10000, 4)], 32, [⟨0, 2, .rw, 0x0, true⟩, ⟨2, 2, .rw, 0x0, true⟩,
      ⟨4, 2, .rw, 0x0, true⟩, ⟨6, 2, .rw, 0x0, true⟩, ⟨8, 4, .rw, 0x0, true⟩, ⟨12, 4, .rw, 0x0, true⟩,
      ⟨16, 4, .rw, 0x0, true⟩, ⟨20, 4, .rw, 0x0, true⟩, ⟨24, 4, .rw, 0x0, true⟩, ⟨28, 1, .rw, 0x0, true⟩]⟩
  | .COURSE_MAP_STAT => ⟨0xc0008, [(0x10000, 4)], 32, [⟨0, 1, .w1c, 0x0, false⟩, ⟨1, 3, .ro, 0x0, false⟩]⟩
  | .COURSE_RX_OVERRUN => ⟨0xc0100, [(0x10000, 4)], 32, [⟨0, 32, .rc, 0x0, false⟩]⟩
  | .COURSE_PARSE_CFG => ⟨0xc0200, [(0x10000, 4)], 32, [⟨0, 1, .rw, 0x1, true⟩, ⟨1, 1, .rw, 0x1, true⟩,
      ⟨2, 1, .rw, 0x1, true⟩, ⟨3, 1, .rw, 0x1, true⟩, ⟨4, 1, .rw, 0x1, true⟩, ⟨5, 1, .rw, 0x1, true⟩,
      ⟨6, 1, .rw, 0x0, true⟩, ⟨16, 16, .rw, 0x9100, true⟩]⟩
  | .COURSE_UDP_PORTS => ⟨0xc0208, [(0x10000, 4)], 64, [⟨0, 16, .rw, 0x12b5, true⟩, ⟨16, 16, .rw, 0x17c1, true⟩,
      ⟨32, 16, .rw, 0x868, true⟩, ⟨48, 16, .rw, 0x0, true⟩]⟩
  | .COURSE_SLOW_CFG => ⟨0xc0210, [(0x10000, 4)], 32, [⟨0, 14, .rw, 0x0, true⟩]⟩
  | .COURSE_SLOW_CNT => ⟨0xc0244, [(0x10000, 4), (0x4, 7)], 32, [⟨0, 32, .rc, 0x0, false⟩]⟩
  | .COURSE_SLOW_DROP => ⟨0xc0260, [(0x10000, 4)], 32, [⟨0, 32, .rc, 0x0, false⟩]⟩
  | .COURSE_PARSE_CNT => ⟨0xc0280, [(0x10000, 4)], 64, [⟨0, 32, .rc, 0x0, false⟩, ⟨32, 32, .rc, 0x0, false⟩]⟩
  | .COURSE_SPRAY_STAT => ⟨0xc0300, [(0x10000, 4)], 32, [⟨0, 1, .ro, 0x0, false⟩, ⟨1, 1, .ro, 0x0, false⟩,
      ⟨16, 10, .rc, 0x0, false⟩]⟩
  | .COURSE_SPRAY_CNT => ⟨0xc0308, [(0x10000, 4)], 64, [⟨0, 32, .rc, 0x0, false⟩, ⟨32, 32, .rc, 0x0, false⟩]⟩
  | .COURSE_PARSE_EVT => ⟨0xc0310, [(0x10000, 4)], 32, [⟨0, 1, .w1c, 0x0, false⟩, ⟨1, 1, .w1c, 0x0, false⟩,
      ⟨2, 1, .w1c, 0x0, false⟩]⟩
  | .COURSE_PARSE_EVT_EN => ⟨0xc0314, [(0x10000, 4)], 32, [⟨0, 3, .rw, 0x0, true⟩]⟩
  | .COURSE_KSEL => ⟨0xc1000, [(0x10000, 4), (0x8, 64)], 64, [⟨0, 1, .rw, 0x0, true⟩, ⟨16, 1, .rw, 0x0, true⟩,
      ⟨32, 1, .rw, 0x0, true⟩, ⟨48, 1, .rw, 0x0, true⟩, ⟨1, 2, .rw, 0x0, true⟩, ⟨17, 2, .rw, 0x0, true⟩,
      ⟨33, 2, .rw, 0x0, true⟩, ⟨49, 2, .rw, 0x0, true⟩, ⟨3, 6, .rw, 0x0, true⟩, ⟨19, 6, .rw, 0x0, true⟩,
      ⟨35, 6, .rw, 0x0, true⟩, ⟨51, 6, .rw, 0x0, true⟩]⟩
  | .COURSE_KPROF => ⟨0xc2000, [(0x10000, 4), (0x80, 64), (0x4, 24)], 32, [⟨0, 1, .rw, 0x0, true⟩,
      ⟨1, 4, .rw, 0x0, true⟩, ⟨5, 9, .rw, 0x0, true⟩, ⟨16, 16, .rw, 0x0, true⟩]⟩
  | .TABLE_EM_CFG => ⟨0x100000, [(0x8, 4)], 32, [⟨0, 6, .rw, 0x0, true⟩, ⟨6, 1, .rw, 0x0, true⟩,
      ⟨8, 3, .rw, 0x4, true⟩]⟩
  | .TABLE_EM_SEED => ⟨0x100040, [(0x8, 4)], 64, [⟨0, 32, .rw, 0xffffffff, true⟩, ⟨32, 32, .rw, 0x5a5aa5a5, true⟩]⟩
  | .TABLE_EM_SEED_OLD => ⟨0x100060, [(0x8, 4)], 64, [⟨0, 32, .ro, 0x0, false⟩, ⟨32, 32, .ro, 0x0, false⟩]⟩
  | .TABLE_EM_OCC => ⟨0x100080, [(0x8, 4)], 64, [⟨0, 20, .ro, 0x0, false⟩, ⟨20, 20, .ro, 0x0, false⟩,
      ⟨40, 2, .ro, 0x0, false⟩]⟩
  | .TABLE_EM_CNT => ⟨0x1000c0, [(0x10, 4)], 64, [⟨0, 32, .rc, 0x0, false⟩, ⟨32, 32, .rc, 0x0, false⟩]⟩
  | .TABLE_EM_ERR => ⟨0x1000c8, [(0x10, 4)], 64, [⟨0, 32, .rc, 0x0, false⟩, ⟨32, 32, .rc, 0x0, false⟩]⟩
  | .TABLE_GEN_CTRL => ⟨0x100100, [], 32, [⟨0, 1, .rwsc, 0x0, false⟩, ⟨1, 1, .rwsc, 0x0, false⟩,
      ⟨2, 1, .rwsc, 0x0, false⟩]⟩
  | .TABLE_GEN_STAT => ⟨0x100108, [], 64, [⟨0, 3, .ro, 0x0, false⟩, ⟨3, 1, .ro, 0x0, false⟩,
      ⟨4, 1, .ro, 0x0, false⟩, ⟨16, 16, .ro, 0x1, false⟩, ⟨32, 16, .ro, 0x2, false⟩]⟩
  | .TABLE_GEN_DRAIN => ⟨0x100110, [], 32, [⟨0, 24, .ro, 0x0, false⟩]⟩
  | .TABLE_GEN_EVT => ⟨0x100118, [], 32, [⟨0, 1, .w1c, 0x0, false⟩, ⟨1, 1, .w1c, 0x0, false⟩,
      ⟨2, 1, .w1c, 0x0, false⟩, ⟨3, 1, .w1c, 0x0, false⟩, ⟨4, 1, .w1c, 0x0, false⟩, ⟨5, 1, .w1c, 0x0, false⟩]⟩
  | .TABLE_GEN_EVT_EN => ⟨0x10011c, [], 32, [⟨0, 6, .rw, 0x0, true⟩]⟩
  | .TABLE_WIN_CMD => ⟨0x100200, [], 32, [⟨0, 1, .rwsc, 0x0, false⟩, ⟨1, 4, .rw, 0x0, true⟩, ⟨5, 1, .rw, 0x0, true⟩]⟩
  | .TABLE_WIN_ADDR => ⟨0x100208, [], 64, [⟨0, 2, .rw, 0x0, true⟩, ⟨2, 17, .rw, 0x0, true⟩, ⟨19, 2, .rw, 0x0, true⟩]⟩
  | .TABLE_WIN_STAT => ⟨0x100210, [], 32, [⟨0, 4, .ro, 0x0, false⟩, ⟨4, 1, .w1c, 0x0, true⟩, ⟨5, 3, .ro, 0x0, false⟩]⟩
  | .TABLE_WIN_DATA => ⟨0x100240, [(0x8, 8)], 64, [⟨0, 64, .rw, 0x0, true⟩]⟩
  | .TABLE_DEFAULT => ⟨0x100300, [(0x8, 16)], 64, [⟨0, 64, .rw, 0x0, true⟩]⟩
  | .TABLE_MIRROR => ⟨0x100400, [(0x8, 64)], 64, [⟨0, 1, .rw, 0x0, true⟩, ⟨1, 1, .rw, 0x0, true⟩,
      ⟨2, 18, .rw, 0x0, true⟩, ⟨20, 14, .rw, 0x0, true⟩]⟩
  | .TABLE_RECIRC_CNT => ⟨0x100600, [(0x8, 4)], 64, [⟨0, 32, .rc, 0x0, false⟩, ⟨32, 32, .rc, 0x0, false⟩]⟩
  | .TABLE_ACT_CNT => ⟨0x100640, [], 64, [⟨0, 32, .rc, 0x0, false⟩, ⟨32, 32, .rc, 0x0, false⟩]⟩
  | .TABLE_MIRROR_CNT => ⟨0x100648, [], 64, [⟨0, 32, .rc, 0x0, false⟩, ⟨32, 32, .rc, 0x0, false⟩]⟩
  | .SCHED_WIN_CMD => ⟨0x200000, [], 32, [⟨0, 1, .rwsc, 0x0, false⟩, ⟨1, 2, .rw, 0x0, true⟩, ⟨3, 1, .rw, 0x0, true⟩]⟩
  | .SCHED_WIN_ADDR => ⟨0x200008, [], 32, [⟨0, 2, .rw, 0x0, true⟩, ⟨2, 18, .rw, 0x0, true⟩]⟩
  | .SCHED_WIN_STAT => ⟨0x200010, [], 32, [⟨0, 3, .ro, 0x0, false⟩, ⟨3, 1, .w1c, 0x0, true⟩]⟩
  | .SCHED_WIN_DATA_0 => ⟨0x200040, [], 64, [⟨0, 14, .rw, 0x0, true⟩, ⟨14, 3, .rw, 0x0, true⟩,
      ⟨17, 8, .rw, 0x1, true⟩, ⟨25, 1, .rw, 0x0, true⟩, ⟨26, 4, .rw, 0x8, true⟩, ⟨30, 18, .rw, 0x40, true⟩,
      ⟨63, 1, .ro, 0x0, false⟩]⟩
  | .SCHED_WIN_DATA_1 => ⟨0x200048, [], 64, [⟨0, 32, .rw, 0x5f5e1000, true⟩]⟩
  | .SCHED_WIN_DATA_2 => ⟨0x200050, [], 64, [⟨0, 32, .rw, 0x3e80, true⟩, ⟨32, 32, .rw, 0xffffc180, true⟩]⟩
  | .SCHED_WIN_DATA_3 => ⟨0x200058, [], 64, [⟨0, 32, .ro, 0x0, false⟩, ⟨32, 18, .ro, 0x0, false⟩,
      ⟨50, 1, .ro, 0x0, false⟩, ⟨51, 1, .ro, 0x0, false⟩]⟩
  | .METER_WIN_CMD => ⟨0x200100, [], 32, [⟨0, 1, .rwsc, 0x0, false⟩, ⟨1, 2, .rw, 0x0, true⟩]⟩
  | .METER_WIN_ADDR => ⟨0x200108, [], 32, [⟨0, 18, .rw, 0x0, true⟩]⟩
  | .METER_WIN_STAT => ⟨0x200110, [], 32, [⟨0, 1, .ro, 0x0, false⟩, ⟨1, 1, .w1c, 0x0, true⟩]⟩
  | .METER_WIN_DATA_0 => ⟨0x200140, [], 64, [⟨0, 1, .rw, 0x0, true⟩, ⟨1, 1, .rw, 0x0, true⟩,
      ⟨2, 1, .rw, 0x0, true⟩, ⟨3, 2, .rw, 0x0, true⟩, ⟨5, 1, .rw, 0x1, true⟩, ⟨6, 1, .rw, 0x0, true⟩]⟩
  | .METER_WIN_DATA_1 => ⟨0x200148, [], 64, [⟨0, 32, .rw, 0x0, true⟩, ⟨32, 32, .rw, 0x0, true⟩]⟩
  | .METER_WIN_DATA_2 => ⟨0x200150, [], 64, [⟨0, 32, .rw, 0x0, true⟩, ⟨32, 32, .rw, 0x0, true⟩]⟩
  | .METER_WIN_DATA_3 => ⟨0x200158, [], 64, [⟨0, 32, .ro, 0x0, false⟩, ⟨32, 32, .ro, 0x0, false⟩]⟩
  | .METER_WIN_DATA_4 => ⟨0x200160, [], 64, [⟨0, 32, .ro, 0x0, false⟩, ⟨32, 32, .ro, 0x0, false⟩]⟩
  | .METER_WIN_DATA_5 => ⟨0x200168, [], 64, [⟨0, 32, .ro, 0x0, false⟩]⟩
  | .SCHED_EVT => ⟨0x200200, [], 32, [⟨0, 1, .w1c, 0x0, false⟩, ⟨1, 1, .w1c, 0x0, false⟩,
      ⟨2, 1, .w1c, 0x0, false⟩, ⟨3, 1, .w1c, 0x0, false⟩]⟩
  | .SCHED_EVT_EN => ⟨0x200204, [], 32, [⟨0, 4, .rw, 0x0, true⟩]⟩
  | .QW_CFG => ⟨0x200300, [], 32, [⟨0, 1, .rw, 0x0, true⟩, ⟨1, 10, .rw, 0xa, true⟩, ⟨11, 2, .rw, 0x0, true⟩,
      ⟨13, 2, .rw, 0x0, true⟩, ⟨15, 5, .rw, 0x10, true⟩]⟩
  | .QW_BUF_BASE => ⟨0x200308, [], 64, [⟨0, 64, .rw, 0x0, true⟩]⟩
  | .QW_PROD => ⟨0x200318, [], 32, [⟨0, 32, .ro, 0x0, false⟩]⟩
  | .QW_CONS => ⟨0x20031c, [], 32, [⟨0, 32, .rw, 0x0, true⟩]⟩
  | .QW_CNT => ⟨0x200320, [], 64, [⟨0, 32, .rc, 0x0, false⟩, ⟨32, 16, .rc, 0x0, false⟩, ⟨48, 16, .rc, 0x0, false⟩]⟩
  | .SCHED_PORT_CFG => ⟨0x201000, [(0x40, 16)], 32, [⟨0, 7, .rw, 0x0, true⟩, ⟨8, 14, .rw, 0x800, true⟩]⟩
  | .SCHED_PORT_STAT => ⟨0x201008, [(0x40, 16)], 64, [⟨0, 15, .ro, 0x0, false⟩, ⟨16, 8, .ro, 0x0, false⟩,
      ⟨24, 8, .ro, 0x0, false⟩, ⟨32, 32, .ro, 0x0, false⟩]⟩
  | .SCHED_PORT_CNT => ⟨0x201010, [(0x40, 16)], 64, [⟨0, 32, .rc, 0x0, false⟩, ⟨32, 32, .rc, 0x0, false⟩]⟩
  | .QW_SLOT => ⟨0x210000, [(0x4, 4096)], 32, [⟨0, 1, .rw, 0x0, true⟩, ⟨1, 1, .rw, 0x0, true⟩,
      ⟨2, 18, .rw, 0x0, true⟩]⟩
  | .LOFT_POOL => ⟨0x3f0000, [], 64, [⟨0, 18, .rw, 0x1000, true⟩]⟩
  | .LOFT_CFG => ⟨0x3f0008, [], 32, [⟨0, 4, .rw, 0x8, true⟩, ⟨4, 4, .rw, 0x8, true⟩]⟩
  | .LOFT_COLOUR => ⟨0x3f0010, [], 64, [⟨0, 18, .rw, 0x8000, true⟩, ⟨32, 18, .rw, 0x10000, true⟩]⟩
  | .LOFT_RING_MAX => ⟨0x3f0018, [], 32, [⟨0, 18, .rw, 0x4000, true⟩]⟩
  | .LOFT_SHARED => ⟨0x3f0020, [], 64, [⟨0, 18, .ro, 0x3c000, false⟩, ⟨32, 18, .ro, 0x3c000, false⟩]⟩
  | .LOFT_USE => ⟨0x3f0028, [], 64, [⟨0, 18, .ro, 0x0, false⟩, ⟨32, 18, .ro, 0x0, false⟩]⟩
  | .LOFT_DROP => ⟨0x3f0030, [], 64, [⟨0, 32, .rc, 0x0, false⟩, ⟨32, 32, .rc, 0x0, false⟩]⟩
  | .LOFT_ECC => ⟨0x3f0038, [], 64, [⟨0, 32, .rc, 0x0, false⟩, ⟨32, 32, .rc, 0x0, false⟩]⟩
  | .LOFT_EVT => ⟨0x3f0040, [], 32, [⟨0, 1, .w1c, 0x0, false⟩, ⟨1, 1, .w1c, 0x0, false⟩, ⟨2, 1, .w1c, 0x0, false⟩,
      ⟨3, 1, .w1c, 0x0, false⟩]⟩
  | .LOFT_EVT_EN => ⟨0x3f0044, [], 32, [⟨0, 4, .rw, 0x0, true⟩]⟩
  | .LOFT_HOST_WAIT => ⟨0x3f0048, [], 32, [⟨0, 32, .rc, 0x0, false⟩]⟩
  | .TXR_PROD => ⟨0x400000, [(0x40, 16384)], 32, [⟨0, 32, .rw, 0x0, true⟩]⟩
  | .TXR_CONS => ⟨0x400004, [(0x40, 16384)], 32, [⟨0, 32, .ro, 0x0, false⟩]⟩
  | .TXR_FETCH => ⟨0x400008, [(0x40, 16384)], 32, [⟨0, 32, .ro, 0x0, false⟩]⟩
  | .TXR_CTRL => ⟨0x40000c, [(0x40, 16384)], 32, [⟨0, 1, .rw, 0x0, true⟩]⟩
  | .TXR_STAT => ⟨0x400010, [(0x40, 16384)], 32, [⟨0, 1, .ro, 0x0, false⟩, ⟨1, 1, .ro, 0x0, false⟩,
      ⟨2, 1, .ro, 0x0, false⟩, ⟨3, 1, .ro, 0x0, false⟩, ⟨4, 1, .ro, 0x0, false⟩, ⟨5, 1, .w1c, 0x0, true⟩]⟩
  | .RXR_PROD => ⟨0x500000, [(0x40, 16384)], 32, [⟨0, 32, .rw, 0x0, true⟩]⟩
  | .RXR_CONS => ⟨0x500004, [(0x40, 16384)], 32, [⟨0, 32, .ro, 0x0, false⟩]⟩
  | .RXR_CTRL => ⟨0x500008, [(0x40, 16384)], 32, [⟨0, 1, .rw, 0x0, true⟩, ⟨1, 1, .rwsc, 0x0, false⟩]⟩
  | .RXR_STAT => ⟨0x50000c, [(0x40, 16384)], 32, [⟨0, 1, .ro, 0x0, false⟩, ⟨1, 1, .ro, 0x0, false⟩,
      ⟨2, 1, .ro, 0x0, false⟩, ⟨3, 1, .w1c, 0x0, true⟩]⟩
  | .CQ_CONS => ⟨0x600000, [(0x40, 4096)], 32, [⟨0, 32, .rw, 0x0, true⟩]⟩
  | .CQ_PROD => ⟨0x600004, [(0x40, 4096)], 32, [⟨0, 32, .ro, 0x0, false⟩]⟩
  | .CQ_STAT => ⟨0x600008, [(0x40, 4096)], 32, [⟨0, 1, .ro, 0x0, false⟩, ⟨1, 1, .ro, 0x0, false⟩,
      ⟨2, 1, .w1c, 0x0, true⟩]⟩
  | .DMA_CHAN_CFG => ⟨0x800000, [(0x100, 64)], 32, [⟨0, 2, .rw, 0x0, true⟩, ⟨2, 2, .rw, 0x0, true⟩,
      ⟨4, 8, .rw, 0x0, true⟩, ⟨12, 5, .rw, 0xc, true⟩, ⟨17, 5, .rw, 0xc, true⟩, ⟨22, 1, .rw, 0x0, true⟩]⟩
  | .DMA_CHAN_HEAD => ⟨0x800008, [(0x100, 64)], 64, [⟨0, 64, .rw, 0x0, true⟩]⟩
  | .DMA_CHAN_CTRL => ⟨0x800010, [(0x100, 64)], 32, [⟨0, 1, .wo, 0x0, false⟩, ⟨1, 1, .wo, 0x0, false⟩]⟩
  | .DMA_CHAN_APPEND => ⟨0x800014, [(0x100, 64)], 32, [⟨0, 1, .wo, 0x0, false⟩]⟩
  | .DMA_CHAN_STAT => ⟨0x800018, [(0x100, 64)], 32, [⟨0, 3, .ro, 0x0, false⟩, ⟨3, 4, .ro, 0x0, false⟩,
      ⟨8, 5, .ro, 0x0, false⟩]⟩
  | .DMA_CHAN_APPCNT => ⟨0x80001c, [(0x100, 64)], 32, [⟨0, 32, .ro, 0x0, false⟩]⟩
  | .DMA_CHAN_CUR => ⟨0x800020, [(0x100, 64)], 64, [⟨0, 64, .ro, 0x0, false⟩]⟩
  | .DMA_CHAN_DONE_BYTES => ⟨0x800028, [(0x100, 64)], 32, [⟨0, 32, .ro, 0x0, false⟩]⟩
  | .DMA_CHAN_DONE_CNT => ⟨0x80002c, [(0x100, 64)], 32, [⟨0, 32, .ro, 0x0, false⟩]⟩
  | .DMA_CHAN_DONE_ADDR => ⟨0x800030, [(0x100, 64)], 64, [⟨0, 64, .rw, 0x0, true⟩]⟩
  | .DMA_CHAN_EVT => ⟨0x800038, [(0x100, 64)], 32, [⟨0, 1, .w1c, 0x0, false⟩, ⟨1, 1, .w1c, 0x0, false⟩,
      ⟨2, 1, .w1c, 0x0, false⟩, ⟨3, 1, .w1c, 0x0, false⟩]⟩
  | .DMA_CHAN_EVT_EN => ⟨0x80003c, [(0x100, 64)], 32, [⟨0, 4, .rw, 0x0, true⟩]⟩
  | .DMA_CHAN_BYTES => ⟨0x800040, [(0x100, 64)], 64, [⟨0, 48, .rc, 0x0, false⟩]⟩
  | .STATS_PORT => ⟨0x900000, [(0x200, 16), (0x8, 64)], 64, [⟨0, 48, .ro, 0x0, false⟩]⟩
  | .STATS_HALF => ⟨0x904000, [(0x8, 16)], 64, [⟨0, 64, .w1c, 0x0, false⟩]⟩
  | .STATS_HALF_EN => ⟨0x904080, [(0x8, 16)], 64, [⟨0, 64, .rw, 0x0, true⟩]⟩
  | .STATS_WIN_CMD => ⟨0x905000, [], 32, [⟨0, 1, .rwsc, 0x0, false⟩, ⟨1, 2, .rw, 0x0, false⟩, ⟨3, 1, .w1c, 0x0, true⟩]⟩
  | .STATS_WIN_ADDR => ⟨0x905008, [], 32, [⟨0, 3, .rw, 0x1, false⟩, ⟨3, 18, .rw, 0x0, false⟩]⟩
  | .STATS_WIN_STAT => ⟨0x905010, [], 32, [⟨0, 2, .ro, 0x0, false⟩]⟩
  | .STATS_WIN_DATA => ⟨0x905040, [(0x8, 4)], 64, [⟨0, 64, .ro, 0x0, false⟩]⟩
  | .SEAL_CFG => ⟨0xa00000, [], 32, [⟨0, 1, .rw, 0x0, true⟩, ⟨1, 7, .rw, 0x20, true⟩, ⟨8, 12, .rw, 0x400, true⟩]⟩
  | .SEAL_EVT => ⟨0xa00010, [], 32, [⟨0, 1, .w1c, 0x0, false⟩, ⟨1, 1, .w1c, 0x0, false⟩, ⟨2, 1, .w1c, 0x0, false⟩,
      ⟨3, 1, .w1c, 0x0, false⟩]⟩
  | .SEAL_EVT_EN => ⟨0xa00014, [], 32, [⟨0, 4, .rw, 0x0, false⟩]⟩
  | .SEAL_ALARM_LOG => ⟨0xa00018, [], 32, [⟨0, 4, .ro, 0x0, false⟩, ⟨4, 12, .ro, 0x0, false⟩,
      ⟨16, 15, .rc, 0x0, false⟩]⟩
  | .SEAL_BIND_CMD => ⟨0xa00020, [], 32, [⟨0, 1, .rwsc, 0x0, false⟩, ⟨1, 1, .rw, 0x0, false⟩, ⟨2, 1, .w1c, 0x0, true⟩]⟩
  | .SEAL_BIND_ADDR => ⟨0xa00028, [], 32, [⟨0, 18, .rw, 0x0, false⟩]⟩
  | .SEAL_BIND_DATA => ⟨0xa00030, [], 32, [⟨0, 1, .rw, 0x0, false⟩, ⟨1, 1, .rw, 0x0, false⟩, ⟨2, 12, .rw, 0x0, false⟩]⟩
  | .SEAL_PORT_CFG => ⟨0xa00100, [(0x40, 16)], 64, [⟨0, 1, .rw, 0x0, true⟩, ⟨1, 1, .rw, 0x0, true⟩,
      ⟨2, 1, .rw, 0x0, true⟩, ⟨3, 3, .rw, 0x2, true⟩, ⟨6, 6, .rw, 0x10, true⟩, ⟨12, 6, .rw, 0xe, true⟩,
      ⟨32, 16, .rw, 0x88e5, true⟩]⟩
  | .SEAL_RX_MAP => ⟨0xa00108, [(0x40, 16)], 64, [⟨0, 12, .rw, 0x0, false⟩, ⟨16, 12, .rw, 0x0, false⟩,
      ⟨32, 12, .rw, 0x0, false⟩, ⟨48, 12, .rw, 0x0, false⟩, ⟨12, 1, .rw, 0x0, false⟩, ⟨28, 1, .rw, 0x0, false⟩,
      ⟨44, 1, .rw, 0x0, false⟩, ⟨60, 1, .rw, 0x0, false⟩]⟩
  | .SEAL_PORT_STAT => ⟨0xa00110, [(0x40, 16)], 32, [⟨0, 1, .ro, 0x0, false⟩, ⟨1, 1, .ro, 0x0, false⟩]⟩
  | .SEAL_PORT_CNT => ⟨0xa00118, [(0x40, 16)], 64, [⟨0, 32, .rc, 0x0, false⟩, ⟨32, 32, .rc, 0x0, false⟩]⟩
  | .SEAL_PORT_ERR => ⟨0xa00120, [(0x40, 16)], 64, [⟨0, 16, .rc, 0x0, false⟩, ⟨16, 16, .rc, 0x0, false⟩,
      ⟨32, 16, .rc, 0x0, false⟩, ⟨48, 16, .rc, 0x0, false⟩]⟩
  | .SEAL_SLOT => ⟨0xa10000, [(0x4, 4096)], 32, [⟨0, 8, .rw, 0x0, true⟩, ⟨8, 1, .rw, 0x0, true⟩]⟩
  | .BOOT_STAT => ⟨0xb00000, [], 32, [⟨0, 3, .ro, 0x0, false⟩, ⟨3, 2, .ro, 0x0, true⟩, ⟨5, 1, .ro, 0x0, false⟩]⟩
  | .BOOT_CFG => ⟨0xb00008, [], 32, [⟨0, 1, .rw, 0x0, true⟩]⟩
  | .BOOT_CTRL => ⟨0xb00010, [], 32, [⟨0, 1, .wo, 0x0, false⟩]⟩
  | .BOOT_IMG_A => ⟨0xb00018, [], 64, [⟨0, 32, .ro, 0x0, false⟩, ⟨32, 25, .ro, 0x0, false⟩,
      ⟨57, 1, .ro, 0x0, false⟩, ⟨58, 1, .ro, 0x0, false⟩, ⟨59, 1, .ro, 0x0, false⟩]⟩
  | .BOOT_IMG_B => ⟨0xb00020, [], 64, [⟨0, 32, .ro, 0x0, false⟩, ⟨32, 25, .ro, 0x0, false⟩,
      ⟨57, 1, .ro, 0x0, false⟩, ⟨58, 1, .ro, 0x0, false⟩, ⟨59, 1, .ro, 0x0, false⟩]⟩
  | .BOOT_PROG => ⟨0xb00028, [], 64, [⟨0, 25, .ro, 0x0, false⟩, ⟨32, 32, .ro, 0x0, false⟩]⟩
  | .BOOT_APPLY_ERR => ⟨0xb00030, [], 64, [⟨0, 16, .ro, 0x0, false⟩, ⟨16, 8, .ro, 0x0, false⟩,
      ⟨24, 8, .ro, 0x0, false⟩, ⟨32, 25, .ro, 0x0, false⟩, ⟨63, 1, .ro, 0x0, false⟩]⟩
  | .BOOT_CNT => ⟨0xb00038, [], 32, [⟨0, 16, .ro, 0x0, false⟩, ⟨16, 16, .ro, 0x0, false⟩]⟩
  | .BOOT_EVT => ⟨0xb00040, [], 32, [⟨0, 1, .w1c, 0x0, false⟩, ⟨1, 1, .w1c, 0x0, false⟩, ⟨2, 1, .w1c, 0x0, false⟩,
      ⟨3, 1, .w1c, 0x0, false⟩, ⟨4, 1, .w1c, 0x0, false⟩, ⟨5, 1, .w1c, 0x0, false⟩]⟩
  | .BOOT_EVT_EN => ⟨0xb00044, [], 32, [⟨0, 6, .rw, 0x0, false⟩]⟩
  | .BOOT_XSPI_CFG => ⟨0xb00100, [], 32, [⟨0, 2, .rw, 0x0, false⟩, ⟨2, 4, .rw, 0x8, false⟩]⟩
  | .BOOT_XSPI_CMD => ⟨0xb00108, [], 32, [⟨0, 1, .rwsc, 0x0, false⟩, ⟨1, 1, .rw, 0x0, false⟩,
      ⟨2, 8, .rw, 0x0, false⟩, ⟨10, 1, .rw, 0x0, false⟩, ⟨11, 5, .rw, 0x0, false⟩, ⟨16, 1, .rw, 0x0, false⟩,
      ⟨17, 8, .rw, 0x0, false⟩, ⟨25, 1, .w1c, 0x0, true⟩]⟩
  | .BOOT_XSPI_ADDR => ⟨0xb00110, [], 32, [⟨0, 32, .rw, 0x0, false⟩]⟩
  | .BOOT_XSPI_DATA => ⟨0xb00200, [(0x8, 32)], 64, [⟨0, 64, .rw, 0x0, false⟩]⟩
  | .POWER_STAT => ⟨0xc00000, [], 32, [⟨0, 2, .ro, 0x0, true⟩, ⟨2, 2, .ro, 0x1, true⟩, ⟨4, 1, .ro, 0x0, true⟩,
      ⟨5, 1, .ro, 0x0, true⟩, ⟨6, 1, .ro, 0x0, true⟩]⟩
  | .POWER_CFG => ⟨0xc00008, [], 32, [⟨0, 1, .rw, 0x1, true⟩, ⟨1, 12, .rw, 0x64, true⟩]⟩
  | .POWER_DOM_STAT => ⟨0xc00010, [], 32, [⟨0, 2, .ro, 0x0, true⟩, ⟨2, 2, .ro, 0x3, true⟩, ⟨4, 2, .ro, 0x0, true⟩,
      ⟨6, 2, .ro, 0x0, true⟩, ⟨8, 2, .ro, 0x0, true⟩, ⟨10, 2, .ro, 0x0, true⟩, ⟨12, 2, .ro, 0x0, true⟩,
      ⟨14, 2, .ro, 0x0, true⟩, ⟨16, 2, .ro, 0x0, true⟩, ⟨18, 2, .ro, 0x0, true⟩, ⟨20, 2, .ro, 0x0, true⟩,
      ⟨22, 2, .ro, 0x0, true⟩, ⟨24, 2, .ro, 0x0, true⟩, ⟨26, 2, .ro, 0x0, true⟩, ⟨28, 2, .ro, 0x0, true⟩]⟩
  | .POWER_READY => ⟨0xc00018, [], 32, [⟨0, 15, .ro, 0x1, true⟩]⟩
  | .POWER_FENCE => ⟨0xc00020, [], 32, [⟨1, 1, .rw, 0x0, true⟩, ⟨2, 4, .rw, 0x0, true⟩, ⟨6, 4, .rw, 0x0, true⟩,
      ⟨16, 4, .ro, 0x0, true⟩]⟩
  | .POWER_WAKE_EN => ⟨0xc00028, [], 32, [⟨0, 1, .rw, 0x1, true⟩, ⟨1, 1, .rw, 0x0, true⟩]⟩
  | .POWER_WAKE_CAUSE => ⟨0xc00030, [], 32, [⟨0, 4, .ro, 0x0, true⟩, ⟨4, 4, .ro, 0x0, true⟩,
      ⟨8, 5, .ro, 0x0, true⟩, ⟨16, 1, .ro, 0x0, true⟩]⟩
  | .POWER_WAKE_AFTER => ⟨0xc00038, [], 32, [⟨0, 32, .rw, 0x3e8, true⟩]⟩
  | .POWER_WAKE_CORES => ⟨0xc00040, [], 64, [⟨0, 64, .rw, 0x0, true⟩]⟩
  | .POWER_PAD => ⟨0xc00048, [], 32, [⟨0, 7, .ro, 0x0, true⟩, ⟨8, 7, .wo, 0x0, true⟩]⟩
  | .POWER_EVT => ⟨0xc00050, [], 32, [⟨0, 1, .w1c, 0x0, true⟩, ⟨1, 1, .w1c, 0x0, true⟩, ⟨2, 1, .w1c, 0x0, true⟩,
      ⟨3, 1, .w1c, 0x0, true⟩, ⟨4, 1, .w1c, 0x0, true⟩, ⟨5, 1, .w1c, 0x0, true⟩]⟩
  | .POWER_EVT_EN => ⟨0xc00054, [], 32, [⟨0, 6, .rw, 0x0, true⟩]⟩
  | .POWER_THERM_STAT => ⟨0xc00060, [], 32, [⟨0, 16, .ro, 0x0, true⟩, ⟨16, 10, .ro, 0x0, true⟩,
      ⟨26, 1, .ro, 0x0, true⟩, ⟨27, 1, .ro, 0x0, true⟩]⟩
  | .POWER_THERM_CTRL => ⟨0xc00064, [], 32, [⟨0, 1, .wo, 0x0, true⟩]⟩
  | .POWER_THERM_EVT => ⟨0xc00068, [], 32, [⟨0, 1, .w1c, 0x0, true⟩, ⟨1, 1, .w1c, 0x0, true⟩,
      ⟨2, 1, .w1c, 0x0, true⟩, ⟨3, 1, .w1c, 0x0, true⟩]⟩
  | .POWER_THERM_EVT_EN => ⟨0xc0006c, [], 32, [⟨0, 4, .rw, 0x0, true⟩]⟩
  | .POWER_LIG_CFG => ⟨0xc00070, [], 32, [⟨0, 1, .rw, 0x1, true⟩, ⟨1, 6, .rw, 0x1d, true⟩]⟩
  | .POWER_LIG_EVT => ⟨0xc00078, [], 32, [⟨0, 1, .w1c, 0x0, true⟩, ⟨1, 1, .w1c, 0x0, true⟩, ⟨2, 1, .w1c, 0x0, true⟩]⟩
  | .POWER_LIG_EVT_EN => ⟨0xc0007c, [], 32, [⟨0, 3, .rw, 0x0, true⟩]⟩
  | .POWER_WATCH_CFG => ⟨0xc00100, [(0x10, 16)], 64, [⟨0, 1, .rw, 0x0, true⟩, ⟨1, 1, .rw, 0x0, true⟩,
      ⟨2, 1, .rw, 0x0, true⟩, ⟨32, 32, .rw, 0x0, true⟩]⟩
  | .POWER_WATCH_MAC => ⟨0xc00108, [(0x10, 16)], 64, [⟨0, 48, .rw, 0x0, true⟩]⟩
  | .POWER_PAT_VAL => ⟨0xc10000, [(0x200, 32), (0x8, 32)], 64, [⟨0, 64, .rw, 0x0, true⟩]⟩
  | .POWER_PAT_MASK => ⟨0xc10100, [(0x200, 32), (0x8, 4)], 64, [⟨0, 64, .rw, 0x0, true⟩]⟩

/-- Registers in order, part 0. -/
def regIds0 : List RegId :=
  [.GEN_IDENT, .GEN_ACC_ERR, .GEN_RESET, .GEN_BUILD, .GEN_FAULT_STAT, .GEN_FAULT_INFO, .GEN_FAULT_ADDR,
   .GEN_FAULT_TIME, .GEN_INTEG_CORR, .GEN_INTEG_POISON, .GEN_INTEG_EVT, .GEN_INTEG_EVT_EN, .GEN_FAULT_COPY,
   .ADMIN_CFG, .ADMIN_ASQ_BASE, .ADMIN_ACQ_BASE, .ADMIN_ASQ_PROD, .ADMIN_ASQ_CONS, .ADMIN_ACQ_PROD,
   .ADMIN_ACQ_CONS, .ADMIN_STAT, .ADMIN_EVT, .ADMIN_EVT_EN, .ADMIN_LOP_STAT, .ADMIN_LOP_CTRL, .ADMIN_LOP_PROG,
   .ADMIN_LOP_RES, .ADMIN_LOP_RES0, .ADMIN_LOP_RES1, .RAFTER_CFG, .RAFTER_STAT, .RAFTER_ERR, .RAFTER_ERR_ADDR,
   .RAFTER_ERR_INFO, .RAFTER_EVT, .RAFTER_EVT_EN, .INTC_SRC, .INTC_SW, .INTC_MSG_CNT, .INTC_CORE_CFG]
/-- Registers in order, part 1. -/
def regIds1 : List RegId :=
  [.INTC_CLAIM, .INTC_EOI, .INTC_CORE_STAT, .INTC_MSG_ADDR, .INTC_MSG_DATA, .INTC_PEND, .INTC_VEC, .INTC_FVEC,
   .INTC_FPEND, .INTC_FCORE_CFG, .INTC_FCLAIM, .INTC_FEOI, .INTC_FSTAT, .INTC_FMSG_ADDR, .INTC_FMSG_DATA,
   .TIME_NOW_L, .TIME_NOW_H, .TIME_ADDEND, .TIME_SLEW, .TIME_SLEW_REM, .TIME_STEP, .TIME_LOAD_SEC, .TIME_LOAD_NS,
   .TIME_LOAD_CTRL, .TIME_STAT, .TIME_EVT, .TIME_EVT_EN, .TIME_PPS_IN_CFG, .TIME_PPS_IN_CAP_L,
   .TIME_PPS_IN_CAP_H, .TIME_PPS_OUT_CFG, .TIME_PPS_OUT_OFFSET, .TIME_RCLK_CFG, .TIME_ONESTEP_SKIP,
   .TIME_PORT_ADJ, .TIME_LANE_LAT, .TIME_LANE_FIX, .LANE_CTRL, .LANE_STAT, .LANE_TX_TAPS]
/-- Registers in order, part 2. -/
def regIds2 : List RegId :=
  [.LANE_TX_FIXED, .LANE_TRAIN_CFG, .LANE_TRAIN_CNT, .LANE_TRAIN_LAST, .LANE_EVENT, .LANE_EVENT_EN, .LANE_LOOP,
   .LANE_SKEW, .LANE_PATTERN, .LANE_PATTERN_ERR, .LANE_CAL_CTRL, .LANE_CAL_CFG, .LANE_PF, .LANE_RX_EQ,
   .LANE_RX_RC, .LANE_RX_FFE0, .LANE_RX_FFE1, .LANE_RX_FFE2, .LANE_RX_FFE3, .LANE_GD, .LANE_GD_CTLE,
   .LANE_CAL_TX_SET, .LANE_CAL_STAT, .LANE_CAL_CNT, .LANE_CAL_EVENT, .LANE_CAL_EVENT_EN, .LANE_QUAD_CFG,
   .LANE_QUAD_STAT, .PORT_MODE, .PORT_MAC_CFG, .PORT_MAXFRAME, .PORT_MAC_ADDR, .PORT_DIAG_CFG, .PORT_DIAG_CNT,
   .PORT_MAC_STAT, .PORT_MAC_EVT, .PORT_MAC_EVT_EN, .PORT_FC_CFG, .PORT_PFC_MAP, .PORT_FC_STAT]
/-- Registers in order, part 3. -/
def regIds3 : List RegId :=
  [.PORT_PREEMPT_CFG, .PORT_PREEMPT_STAT, .PORT_FEC_CFG, .PORT_FEC_STAT, .PORT_FEC_CNT, .PORT_FEC_SYM,
   .PORT_FEC_LANE, .PORT_FEC_HIST, .PORT_FEC_EVT, .PORT_FEC_EVT_EN, .PORT_ADM_PRI, .PORT_FC_THR, .PORT_ADM_USE,
   .PORT_ADM_DROP, .PORT_FC_TX_STAT, .PORT_LINK_STAT, .PORT_LINK_EVT, .PORT_LPM_CFG, .PORT_LPM_DA, .PORT_LPM_SA,
   .PORT_LPM_CNT, .COURSE_PORT_MAP, .COURSE_MAP_STAT, .COURSE_RX_OVERRUN, .COURSE_PARSE_CFG, .COURSE_UDP_PORTS,
   .COURSE_SLOW_CFG, .COURSE_SLOW_CNT, .COURSE_SLOW_DROP, .COURSE_PARSE_CNT, .COURSE_SPRAY_STAT,
   .COURSE_SPRAY_CNT, .COURSE_PARSE_EVT, .COURSE_PARSE_EVT_EN, .COURSE_KSEL, .COURSE_KPROF, .TABLE_EM_CFG,
   .TABLE_EM_SEED, .TABLE_EM_SEED_OLD, .TABLE_EM_OCC]
/-- Registers in order, part 4. -/
def regIds4 : List RegId :=
  [.TABLE_EM_CNT, .TABLE_EM_ERR, .TABLE_GEN_CTRL, .TABLE_GEN_STAT, .TABLE_GEN_DRAIN, .TABLE_GEN_EVT,
   .TABLE_GEN_EVT_EN, .TABLE_WIN_CMD, .TABLE_WIN_ADDR, .TABLE_WIN_STAT, .TABLE_WIN_DATA, .TABLE_DEFAULT,
   .TABLE_MIRROR, .TABLE_RECIRC_CNT, .TABLE_ACT_CNT, .TABLE_MIRROR_CNT, .SCHED_WIN_CMD, .SCHED_WIN_ADDR,
   .SCHED_WIN_STAT, .SCHED_WIN_DATA_0, .SCHED_WIN_DATA_1, .SCHED_WIN_DATA_2, .SCHED_WIN_DATA_3, .METER_WIN_CMD,
   .METER_WIN_ADDR, .METER_WIN_STAT, .METER_WIN_DATA_0, .METER_WIN_DATA_1, .METER_WIN_DATA_2, .METER_WIN_DATA_3,
   .METER_WIN_DATA_4, .METER_WIN_DATA_5, .SCHED_EVT, .SCHED_EVT_EN, .QW_CFG, .QW_BUF_BASE, .QW_PROD, .QW_CONS,
   .QW_CNT, .SCHED_PORT_CFG]
/-- Registers in order, part 5. -/
def regIds5 : List RegId :=
  [.SCHED_PORT_STAT, .SCHED_PORT_CNT, .QW_SLOT, .LOFT_POOL, .LOFT_CFG, .LOFT_COLOUR, .LOFT_RING_MAX,
   .LOFT_SHARED, .LOFT_USE, .LOFT_DROP, .LOFT_ECC, .LOFT_EVT, .LOFT_EVT_EN, .LOFT_HOST_WAIT, .TXR_PROD,
   .TXR_CONS, .TXR_FETCH, .TXR_CTRL, .TXR_STAT, .RXR_PROD, .RXR_CONS, .RXR_CTRL, .RXR_STAT, .CQ_CONS, .CQ_PROD,
   .CQ_STAT, .DMA_CHAN_CFG, .DMA_CHAN_HEAD, .DMA_CHAN_CTRL, .DMA_CHAN_APPEND, .DMA_CHAN_STAT, .DMA_CHAN_APPCNT,
   .DMA_CHAN_CUR, .DMA_CHAN_DONE_BYTES, .DMA_CHAN_DONE_CNT, .DMA_CHAN_DONE_ADDR, .DMA_CHAN_EVT, .DMA_CHAN_EVT_EN,
   .DMA_CHAN_BYTES, .STATS_PORT]
/-- Registers in order, part 6. -/
def regIds6 : List RegId :=
  [.STATS_HALF, .STATS_HALF_EN, .STATS_WIN_CMD, .STATS_WIN_ADDR, .STATS_WIN_STAT, .STATS_WIN_DATA, .SEAL_CFG,
   .SEAL_EVT, .SEAL_EVT_EN, .SEAL_ALARM_LOG, .SEAL_BIND_CMD, .SEAL_BIND_ADDR, .SEAL_BIND_DATA, .SEAL_PORT_CFG,
   .SEAL_RX_MAP, .SEAL_PORT_STAT, .SEAL_PORT_CNT, .SEAL_PORT_ERR, .SEAL_SLOT, .BOOT_STAT, .BOOT_CFG, .BOOT_CTRL,
   .BOOT_IMG_A, .BOOT_IMG_B, .BOOT_PROG, .BOOT_APPLY_ERR, .BOOT_CNT, .BOOT_EVT, .BOOT_EVT_EN, .BOOT_XSPI_CFG,
   .BOOT_XSPI_CMD, .BOOT_XSPI_ADDR, .BOOT_XSPI_DATA, .POWER_STAT, .POWER_CFG, .POWER_DOM_STAT, .POWER_READY,
   .POWER_FENCE, .POWER_WAKE_EN, .POWER_WAKE_CAUSE]
/-- Registers in order, part 7. -/
def regIds7 : List RegId :=
  [.POWER_WAKE_AFTER, .POWER_WAKE_CORES, .POWER_PAD, .POWER_EVT, .POWER_EVT_EN, .POWER_THERM_STAT,
   .POWER_THERM_CTRL, .POWER_THERM_EVT, .POWER_THERM_EVT_EN, .POWER_LIG_CFG, .POWER_LIG_EVT, .POWER_LIG_EVT_EN,
   .POWER_WATCH_CFG, .POWER_WATCH_MAC, .POWER_PAT_VAL, .POWER_PAT_MASK]

/-- Every register, in the order of RegId. -/
def regIds : List RegId :=
  regIds0 ++ regIds1 ++ regIds2 ++ regIds3 ++ regIds4 ++ regIds5 ++ regIds6 ++ regIds7

def fGEN_IDENT_FAMILY : Field := ⟨0, 8⟩
def fGEN_IDENT_PART : Field := ⟨8, 16⟩
def fGEN_IDENT_REL_MAJOR : Field := ⟨24, 4⟩
def fGEN_IDENT_REL_MINOR : Field := ⟨28, 4⟩
def fGEN_ACC_ERR_RSVD_OFF : Field := ⟨0, 1⟩
def fGEN_ACC_ERR_RSVD_ENC : Field := ⟨1, 1⟩
def fGEN_ACC_ERR_SHAPE : Field := ⟨2, 1⟩
def fGEN_ACC_ERR_FENCED : Field := ⟨3, 1⟩
def fGEN_ACC_ERR_FIRST_OFF : Field := ⟨8, 24⟩
def fGEN_RESET_KEY : Field := ⟨0, 8⟩
def fGEN_RESET_RETHATCH : Field := ⟨8, 1⟩
def fGEN_BUILD_BUILD : Field := ⟨0, 16⟩
def fGEN_BUILD_LANE_REV : Field := ⟨16, 8⟩
def fGEN_BUILD_MEM_REV : Field := ⟨24, 8⟩
def fGEN_FAULT_STAT_ACTIVE : Field := ⟨0, 1⟩
def fGEN_FAULT_STAT_VALID : Field := ⟨1, 1⟩
def fGEN_FAULT_STAT_MORE : Field := ⟨2, 1⟩
def fGEN_FAULT_STAT_CAUSE : Field := ⟨8, 8⟩
def fGEN_FAULT_STAT_ENTRIES : Field := ⟨16, 16⟩
def fGEN_FAULT_INFO_INFO : Field := ⟨0, 64⟩
def fGEN_FAULT_ADDR_ADDR : Field := ⟨0, 64⟩
def fGEN_FAULT_TIME_TIME : Field := ⟨0, 64⟩
def fGEN_INTEG_CORR_TABLE : Field := ⟨0, 16⟩
def fGEN_INTEG_CORR_SCHED : Field := ⟨16, 16⟩
def fGEN_INTEG_CORR_LINK : Field := ⟨32, 16⟩
def fGEN_INTEG_CORR_DESC : Field := ⟨48, 16⟩
def fGEN_INTEG_POISON_RX_FREED : Field := ⟨0, 16⟩
def fGEN_INTEG_POISON_RX_DELIVERED : Field := ⟨16, 16⟩
def fGEN_INTEG_POISON_TX_FREED : Field := ⟨32, 16⟩
def fGEN_INTEG_POISON_TX_CUT : Field := ⟨48, 16⟩
def fGEN_INTEG_EVT_FAULT : Field := ⟨0, 1⟩
def fGEN_INTEG_EVT_CORR : Field := ⟨1, 1⟩
def fGEN_INTEG_EVT_POISON : Field := ⟨2, 1⟩
def fGEN_INTEG_EVT_EN_EN : Field := ⟨0, 3⟩
def fGEN_FAULT_COPY_BYTES : Field := ⟨0, 64⟩
def fADMIN_CFG_EN : Field := ⟨0, 1⟩
def fADMIN_CFG_ASQ_LOG2 : Field := ⟨1, 5⟩
def fADMIN_CFG_ACQ_LOG2 : Field := ⟨6, 5⟩
def fADMIN_CFG_RAFTER : Field := ⟨11, 2⟩
def fADMIN_CFG_DMA_PRI : Field := ⟨13, 2⟩
def fADMIN_CFG_AUTO_RELEASE : Field := ⟨15, 1⟩
def fADMIN_ASQ_BASE_ADDR : Field := ⟨0, 64⟩
def fADMIN_ACQ_BASE_ADDR : Field := ⟨0, 64⟩
def fADMIN_ASQ_PROD_PROD : Field := ⟨0, 32⟩
def fADMIN_ASQ_CONS_CONS : Field := ⟨0, 32⟩
def fADMIN_ACQ_PROD_PROD : Field := ⟨0, 32⟩
def fADMIN_ACQ_CONS_CONS : Field := ⟨0, 32⟩
def fADMIN_STAT_BUSY : Field := ⟨0, 1⟩
def fADMIN_STAT_FENCE_WAIT : Field := ⟨1, 1⟩
def fADMIN_STAT_ACQ_FULL : Field := ⟨2, 1⟩
def fADMIN_STAT_IDLE : Field := ⟨3, 1⟩
def fADMIN_STAT_REFUSED : Field := ⟨4, 1⟩
def fADMIN_STAT_SLOTS : Field := ⟨5, 5⟩
def fADMIN_EVT_COMPLETION : Field := ⟨0, 1⟩
def fADMIN_EVT_CFG_REFUSED : Field := ⟨1, 1⟩
def fADMIN_EVT_DB_REFUSED : Field := ⟨2, 1⟩
def fADMIN_EVT_LOP_REFUSED : Field := ⟨3, 1⟩
def fADMIN_EVT_HOST_ERR : Field := ⟨4, 1⟩
def fADMIN_EVT_EN_EN : Field := ⟨0, 5⟩
def fADMIN_LOP_STAT_STATE : Field := ⟨0, 3⟩
def fADMIN_LOP_STAT_OPCODE : Field := ⟨8, 8⟩
def fADMIN_LOP_STAT_TAG : Field := ⟨16, 16⟩
def fADMIN_LOP_CTRL_SUSPEND : Field := ⟨0, 1⟩
def fADMIN_LOP_CTRL_RESUME : Field := ⟨1, 1⟩
def fADMIN_LOP_CTRL_CANCEL : Field := ⟨2, 1⟩
def fADMIN_LOP_CTRL_RELEASE : Field := ⟨3, 1⟩
def fADMIN_LOP_PROG_DONE : Field := ⟨0, 32⟩
def fADMIN_LOP_PROG_TOTAL : Field := ⟨32, 32⟩
def fADMIN_LOP_RES_READY : Field := ⟨0, 1⟩
def fADMIN_LOP_RES_STATUS : Field := ⟨8, 8⟩
def fADMIN_LOP_RES_DETAIL : Field := ⟨16, 8⟩
def fADMIN_LOP_RES0_RESULT : Field := ⟨0, 64⟩
def fADMIN_LOP_RES1_RESULT : Field := ⟨0, 64⟩
def fRAFTER_CFG_TAGS : Field := ⟨0, 11⟩
def fRAFTER_STAT_OUTSTANDING : Field := ⟨0, 11⟩
def fRAFTER_STAT_QUIET : Field := ⟨11, 1⟩
def fRAFTER_ERR_READS : Field := ⟨0, 32⟩
def fRAFTER_ERR_WRITES : Field := ⟨32, 32⟩
def fRAFTER_ERR_ADDR_ADDR : Field := ⟨0, 64⟩
def fRAFTER_ERR_INFO_CODE : Field := ⟨0, 2⟩
def fRAFTER_ERR_INFO_WRITE : Field := ⟨2, 1⟩
def fRAFTER_ERR_INFO_KIND : Field := ⟨3, 3⟩
def fRAFTER_ERR_INFO_ID : Field := ⟨6, 14⟩
def fRAFTER_ERR_INFO_VALID : Field := ⟨31, 1⟩
def fRAFTER_EVT_RD_FAIL : Field := ⟨0, 1⟩
def fRAFTER_EVT_WR_FAIL : Field := ⟨1, 1⟩
def fRAFTER_EVT_PARITY : Field := ⟨2, 1⟩
def fRAFTER_EVT_EN_EN : Field := ⟨0, 3⟩
def fINTC_SRC_EN : Field := ⟨0, 1⟩
def fINTC_SRC_SENSE : Field := ⟨1, 2⟩
def fINTC_SRC_FAST : Field := ⟨3, 1⟩
def fINTC_SRC_VECTOR : Field := ⟨4, 12⟩
def fINTC_SRC_LEVEL : Field := ⟨16, 1⟩
def fINTC_SW_LEVEL : Field := ⟨0, 64⟩
def fINTC_MSG_CNT_SENT : Field := ⟨0, 32⟩
def fINTC_CORE_CFG_DELIVER : Field := ⟨0, 1⟩
def fINTC_CORE_CFG_LINE : Field := ⟨1, 4⟩
def fINTC_CORE_CFG_MASK : Field := ⟨5, 1⟩
def fINTC_CORE_CFG_THRESHOLD : Field := ⟨6, 4⟩
def fINTC_CLAIM_VECTOR : Field := ⟨0, 12⟩
def fINTC_CLAIM_PRIO : Field := ⟨16, 4⟩
def fINTC_CLAIM_VALID : Field := ⟨31, 1⟩
def fINTC_EOI_VECTOR : Field := ⟨0, 12⟩
def fINTC_CORE_STAT_RUN_PRIO : Field := ⟨0, 4⟩
def fINTC_CORE_STAT_ACTIVE_CNT : Field := ⟨4, 5⟩
def fINTC_CORE_STAT_HOST_SLEEP : Field := ⟨9, 1⟩
def fINTC_CORE_STAT_WAKE : Field := ⟨10, 1⟩
def fINTC_CORE_STAT_OUT : Field := ⟨11, 1⟩
def fINTC_CORE_STAT_EOI_ERR : Field := ⟨12, 1⟩
def fINTC_MSG_ADDR_ADDR : Field := ⟨0, 64⟩
def fINTC_MSG_DATA_DATA : Field := ⟨13, 19⟩
def fINTC_PEND_PENDING : Field := ⟨0, 64⟩
def fINTC_VEC_EN : Field := ⟨0, 1⟩
def fINTC_VEC_PRIO : Field := ⟨1, 4⟩
def fINTC_VEC_CORE : Field := ⟨5, 6⟩
def fINTC_VEC_MOD_COUNT : Field := ⟨11, 8⟩
def fINTC_VEC_MOD_TIMER : Field := ⟨19, 10⟩
def fINTC_VEC_SLEEP_FLUSH : Field := ⟨29, 1⟩
def fINTC_VEC_STATE : Field := ⟨32, 2⟩
def fINTC_VEC_COUNT : Field := ⟨34, 8⟩
def fINTC_VEC_TIMING : Field := ⟨42, 1⟩
def fINTC_FVEC_EN : Field := ⟨0, 1⟩
def fINTC_FVEC_CORE : Field := ⟨1, 6⟩
def fINTC_FVEC_STATE : Field := ⟨8, 2⟩
def fINTC_FVEC_REPEND : Field := ⟨10, 1⟩
def fINTC_FPEND_PENDING : Field := ⟨0, 64⟩
def fINTC_FCORE_CFG_DELIVER : Field := ⟨0, 1⟩
def fINTC_FCORE_CFG_FLINE : Field := ⟨1, 2⟩
def fINTC_FCORE_CFG_FMASK : Field := ⟨3, 1⟩
def fINTC_FCLAIM_VECTOR : Field := ⟨0, 6⟩
def fINTC_FCLAIM_VALID : Field := ⟨31, 1⟩
def fINTC_FEOI_VECTOR : Field := ⟨0, 6⟩
def fINTC_FSTAT_ACTIVE_CNT : Field := ⟨0, 7⟩
def fINTC_FSTAT_OUT : Field := ⟨7, 1⟩
def fINTC_FSTAT_EOI_ERR : Field := ⟨8, 1⟩
def fINTC_FMSG_ADDR_ADDR : Field := ⟨0, 64⟩
def fINTC_FMSG_DATA_DATA : Field := ⟨13, 19⟩
def fTIME_NOW_L_FRAC : Field := ⟨0, 16⟩
def fTIME_NOW_L_NS : Field := ⟨16, 32⟩
def fTIME_NOW_H_SEC : Field := ⟨0, 48⟩
def fTIME_ADDEND_ADDEND : Field := ⟨0, 48⟩
def fTIME_SLEW_OFFSET : Field := ⟨0, 48⟩
def fTIME_SLEW_STEP : Field := ⟨48, 16⟩
def fTIME_SLEW_REM_REMAIN : Field := ⟨0, 48⟩
def fTIME_STEP_OFFSET : Field := ⟨0, 48⟩
def fTIME_LOAD_SEC_SEC : Field := ⟨0, 48⟩
def fTIME_LOAD_NS_FRAC : Field := ⟨0, 16⟩
def fTIME_LOAD_NS_NS : Field := ⟨16, 32⟩
def fTIME_LOAD_CTRL_MODE : Field := ⟨0, 2⟩
def fTIME_LOAD_CTRL_GO : Field := ⟨2, 1⟩
def fTIME_LOAD_CTRL_CANCEL : Field := ⟨3, 1⟩
def fTIME_LOAD_CTRL_SLEW_GO : Field := ⟨4, 1⟩
def fTIME_LOAD_CTRL_SLEW_CANCEL : Field := ⟨5, 1⟩
def fTIME_STAT_SET : Field := ⟨0, 1⟩
def fTIME_STAT_LOAD_ARMED : Field := ⟨1, 1⟩
def fTIME_STAT_SLEWING : Field := ⟨2, 1⟩
def fTIME_STAT_HOLDOVER : Field := ⟨3, 1⟩
def fTIME_STAT_SUSPECT : Field := ⟨4, 1⟩
def fTIME_STAT_RCLK_SQ_0 : Field := ⟨5, 1⟩
def fTIME_STAT_RCLK_SQ_1 : Field := ⟨6, 1⟩
def fTIME_STAT_CCLK_HOLD : Field := ⟨7, 1⟩
def fTIME_EVT_PPS_IN : Field := ⟨0, 1⟩
def fTIME_EVT_PPS_OUT : Field := ⟨1, 1⟩
def fTIME_EVT_LOADED : Field := ⟨2, 1⟩
def fTIME_EVT_SLEW_DONE : Field := ⟨3, 1⟩
def fTIME_EVT_HOLDOVER : Field := ⟨4, 1⟩
def fTIME_EVT_RESYNC : Field := ⟨5, 1⟩
def fTIME_EVT_PPS_IN_MISS : Field := ⟨6, 1⟩
def fTIME_EVT_RCLK_SQ : Field := ⟨7, 1⟩
def fTIME_EVT_CFG_REFUSED : Field := ⟨8, 1⟩
def fTIME_EVT_EN_EN : Field := ⟨0, 9⟩
def fTIME_PPS_IN_CFG_EN : Field := ⟨0, 1⟩
def fTIME_PPS_IN_CFG_EDGE : Field := ⟨1, 1⟩
def fTIME_PPS_IN_CFG_DELAY : Field := ⟨8, 24⟩
def fTIME_PPS_IN_CAP_L_FRAC : Field := ⟨0, 16⟩
def fTIME_PPS_IN_CAP_L_NS : Field := ⟨16, 32⟩
def fTIME_PPS_IN_CAP_H_SEC : Field := ⟨0, 48⟩
def fTIME_PPS_OUT_CFG_EN : Field := ⟨0, 1⟩
def fTIME_PPS_OUT_CFG_WIDTH : Field := ⟨1, 20⟩
def fTIME_PPS_OUT_OFFSET_OFFSET : Field := ⟨0, 32⟩
def fTIME_RCLK_CFG_EN : Field := ⟨0, 1⟩
def fTIME_RCLK_CFG_LANE : Field := ⟨1, 4⟩
def fTIME_RCLK_CFG_DIV : Field := ⟨5, 12⟩
def fTIME_RCLK_CFG_SQ_PF_EN : Field := ⟨17, 1⟩
def fTIME_RCLK_CFG_SQ_PF : Field := ⟨18, 8⟩
def fTIME_ONESTEP_SKIP_FRAMES : Field := ⟨0, 32⟩
def fTIME_PORT_ADJ_RX_ADJ : Field := ⟨0, 16⟩
def fTIME_PORT_ADJ_TX_ADJ : Field := ⟨16, 16⟩
def fTIME_LANE_LAT_RX_LANE : Field := ⟨0, 32⟩
def fTIME_LANE_LAT_TX_LANE : Field := ⟨32, 32⟩
def fTIME_LANE_FIX_RX_FIX : Field := ⟨0, 32⟩
def fTIME_LANE_FIX_TX_FIX : Field := ⟨32, 32⟩
def fLANE_CTRL_EN : Field := ⟨0, 1⟩
def fLANE_CTRL_RATE : Field := ⟨1, 3⟩
def fLANE_CTRL_TRAIN_MODE : Field := ⟨4, 1⟩
def fLANE_CTRL_TX_INV : Field := ⟨5, 1⟩
def fLANE_CTRL_RX_INV : Field := ⟨6, 1⟩
def fLANE_CTRL_RESTART : Field := ⟨7, 1⟩
def fLANE_STAT_STATE : Field := ⟨0, 3⟩
def fLANE_STAT_PLL_LOCK : Field := ⟨3, 1⟩
def fLANE_STAT_SIG_DET : Field := ⟨4, 1⟩
def fLANE_STAT_CDR_LOCK : Field := ⟨5, 1⟩
def fLANE_STAT_FRAME_LOCK : Field := ⟨6, 1⟩
def fLANE_STAT_LOCAL_READY : Field := ⟨7, 1⟩
def fLANE_STAT_PARTNER_READY : Field := ⟨8, 1⟩
def fLANE_STAT_PITCH_FIGURE : Field := ⟨16, 8⟩
def fLANE_STAT_END_COUNT : Field := ⟨24, 4⟩
def fLANE_TX_TAPS_C_M3 : Field := ⟨0, 8⟩
def fLANE_TX_TAPS_C_M2 : Field := ⟨8, 8⟩
def fLANE_TX_TAPS_C_M1 : Field := ⟨16, 8⟩
def fLANE_TX_TAPS_C_0 : Field := ⟨24, 8⟩
def fLANE_TX_TAPS_C_P1 : Field := ⟨32, 8⟩
def fLANE_TX_FIXED_C_M3 : Field := ⟨0, 8⟩
def fLANE_TX_FIXED_C_M2 : Field := ⟨8, 8⟩
def fLANE_TX_FIXED_C_M1 : Field := ⟨16, 8⟩
def fLANE_TX_FIXED_C_0 : Field := ⟨24, 8⟩
def fLANE_TX_FIXED_C_P1 : Field := ⟨32, 8⟩
def fLANE_TRAIN_CFG_INIT_PRESET : Field := ⟨0, 3⟩
def fLANE_TRAIN_CFG_AUTO_RETRY : Field := ⟨3, 1⟩
def fLANE_TRAIN_CFG_TIMEOUT : Field := ⟨4, 8⟩
def fLANE_TRAIN_CFG_READY_PF : Field := ⟨12, 8⟩
def fLANE_TRAIN_CNT_REQ_SENT : Field := ⟨0, 16⟩
def fLANE_TRAIN_CNT_REQ_RCVD : Field := ⟨16, 16⟩
def fLANE_TRAIN_LAST_CONTROL : Field := ⟨0, 16⟩
def fLANE_TRAIN_LAST_STATUS : Field := ⟨16, 16⟩
def fLANE_EVENT_TRAIN_DONE : Field := ⟨0, 1⟩
def fLANE_EVENT_TRAIN_FAIL : Field := ⟨1, 1⟩
def fLANE_EVENT_SIG_LOSS : Field := ⟨2, 1⟩
def fLANE_EVENT_FRAME_LOSS : Field := ⟨3, 1⟩
def fLANE_EVENT_RETRAIN : Field := ⟨4, 1⟩
def fLANE_EVENT_CFG_REFUSED : Field := ⟨5, 1⟩
def fLANE_EVENT_REQ_TIMEOUT : Field := ⟨6, 1⟩
def fLANE_EVENT_EN_EN : Field := ⟨0, 7⟩
def fLANE_LOOP_MODE : Field := ⟨0, 2⟩
def fLANE_SKEW_SKEW_SYM : Field := ⟨0, 16⟩
def fLANE_SKEW_VALID : Field := ⟨16, 1⟩
def fLANE_PATTERN_GEN : Field := ⟨0, 2⟩
def fLANE_PATTERN_CHK : Field := ⟨2, 2⟩
def fLANE_PATTERN_ERR_SYMBOLS : Field := ⟨0, 32⟩
def fLANE_CAL_CTRL_TX_QUIET : Field := ⟨0, 1⟩
def fLANE_CAL_CTRL_RX_QUIET : Field := ⟨1, 1⟩
def fLANE_CAL_CTRL_LIVE_SEARCH_EN : Field := ⟨2, 1⟩
def fLANE_CAL_CFG_ALARM_PF : Field := ⟨0, 8⟩
def fLANE_CAL_CFG_LIVE_PERIOD : Field := ⟨8, 8⟩
def fLANE_PF_AVG : Field := ⟨0, 8⟩
def fLANE_PF_LOW_CNT : Field := ⟨16, 16⟩
def fLANE_RX_EQ_CTLE : Field := ⟨0, 5⟩
def fLANE_RX_EQ_DFE : Field := ⟨8, 8⟩
def fLANE_RX_EQ_CTLE_HOLD : Field := ⟨16, 1⟩
def fLANE_RX_EQ_CTLE_SET : Field := ⟨17, 5⟩
def fLANE_RX_RC_RC_DELAY (i : Nat) : Field := ⟨16 * i + 0, 9⟩
def fLANE_RX_RC_RC_VAL (i : Nat) : Field := ⟨16 * i + 9, 7⟩
def fLANE_RX_FFE0_TAP (i : Nat) : Field := ⟨8 * i + 0, 8⟩
def fLANE_RX_FFE1_TAP (i : Nat) : Field := ⟨8 * i + 0, 8⟩
def fLANE_RX_FFE2_TAP (i : Nat) : Field := ⟨8 * i + 0, 8⟩
def fLANE_RX_FFE3_TAP (i : Nat) : Field := ⟨8 * i + 0, 8⟩
def fLANE_GD_TX_GD : Field := ⟨0, 32⟩
def fLANE_GD_RX_GD : Field := ⟨32, 32⟩
def fLANE_GD_CTLE_D_CTLE : Field := ⟨0, 32⟩
def fLANE_CAL_TX_SET_C_M3 : Field := ⟨0, 8⟩
def fLANE_CAL_TX_SET_C_M2 : Field := ⟨8, 8⟩
def fLANE_CAL_TX_SET_C_M1 : Field := ⟨16, 8⟩
def fLANE_CAL_TX_SET_C_0 : Field := ⟨24, 8⟩
def fLANE_CAL_TX_SET_C_P1 : Field := ⟨32, 8⟩
def fLANE_CAL_STAT_TX_PEND : Field := ⟨0, 1⟩
def fLANE_CAL_STAT_RX_PEND : Field := ⟨1, 1⟩
def fLANE_CAL_STAT_REQ_OUT : Field := ⟨2, 1⟩
def fLANE_CAL_STAT_PARTNER_TX_QUIET : Field := ⟨3, 1⟩
def fLANE_CAL_STAT_PARTNER_RX_QUIET : Field := ⟨4, 1⟩
def fLANE_CAL_STAT_PARTNER_PF : Field := ⟨8, 8⟩
def fLANE_CAL_CNT_RX_STEPS : Field := ⟨0, 16⟩
def fLANE_CAL_CNT_TX_STEPS : Field := ⟨16, 16⟩
def fLANE_CAL_CNT_DEFERRED : Field := ⟨32, 16⟩
def fLANE_CAL_CNT_REQ_SENT : Field := ⟨48, 16⟩
def fLANE_CAL_EVENT_PF_LOW : Field := ⟨0, 1⟩
def fLANE_CAL_EVENT_REQ_TIMEOUT : Field := ⟨1, 1⟩
def fLANE_CAL_EVENT_OVR_REFUSED : Field := ⟨2, 1⟩
def fLANE_CAL_EVENT_PARTNER_QUIET : Field := ⟨3, 1⟩
def fLANE_CAL_EVENT_EN_EN : Field := ⟨0, 4⟩
def fLANE_QUAD_CFG_REF_SEL : Field := ⟨0, 1⟩
def fLANE_QUAD_STAT_PLL_LOCK : Field := ⟨0, 1⟩
def fLANE_QUAD_STAT_LOCK_LOST : Field := ⟨1, 1⟩
def fLANE_QUAD_STAT_SEL_REFUSED : Field := ⟨2, 1⟩
def fPORT_MODE_MODE : Field := ⟨0, 2⟩
def fPORT_MODE_DIAG_DELIVER : Field := ⟨2, 1⟩
def fPORT_MODE_DIAG_ALL : Field := ⟨3, 1⟩
def fPORT_MAC_CFG_RX_FCS_KEEP : Field := ⟨0, 1⟩
def fPORT_MAC_CFG_IPG : Field := ⟨8, 6⟩
def fPORT_MAXFRAME_MAX_FRAME : Field := ⟨0, 14⟩
def fPORT_MAC_ADDR_ADDR : Field := ⟨0, 48⟩
def fPORT_DIAG_CFG_RING : Field := ⟨0, 14⟩
def fPORT_DIAG_CNT_DELIVERED : Field := ⟨0, 16⟩
def fPORT_DIAG_CNT_DROPPED : Field := ⟨16, 16⟩
def fPORT_MAC_STAT_RX_LF : Field := ⟨0, 1⟩
def fPORT_MAC_STAT_RX_RF : Field := ⟨1, 1⟩
def fPORT_MAC_STAT_TX_LF : Field := ⟨2, 1⟩
def fPORT_MAC_STAT_TX_RF : Field := ⟨3, 1⟩
def fPORT_MAC_STAT_HELD : Field := ⟨4, 1⟩
def fPORT_MAC_EVT_RX_LF : Field := ⟨0, 1⟩
def fPORT_MAC_EVT_RX_RF : Field := ⟨1, 1⟩
def fPORT_MAC_EVT_FC_RX : Field := ⟨2, 1⟩
def fPORT_MAC_EVT_VERIFY_OK : Field := ⟨3, 1⟩
def fPORT_MAC_EVT_VERIFY_FAIL : Field := ⟨4, 1⟩
def fPORT_MAC_EVT_DIAG_DROP : Field := ⟨5, 1⟩
def fPORT_MAC_EVT_EN_EN : Field := ⟨0, 6⟩
def fPORT_FC_CFG_RX_MODE : Field := ⟨0, 2⟩
def fPORT_FC_CFG_TX_MODE : Field := ⟨2, 2⟩
def fPORT_FC_CFG_TX_QUANTA : Field := ⟨16, 16⟩
def fPORT_PFC_MAP_CLASSES (i : Nat) : Field := ⟨8 * i + 0, 8⟩
def fPORT_FC_STAT_PAUSED : Field := ⟨0, 8⟩
def fPORT_FC_STAT_PAUSE_ON : Field := ⟨8, 1⟩
def fPORT_PREEMPT_CFG_EN : Field := ⟨0, 1⟩
def fPORT_PREEMPT_CFG_VERIFY_DIS : Field := ⟨1, 1⟩
def fPORT_PREEMPT_CFG_EXPRESS : Field := ⟨2, 8⟩
def fPORT_PREEMPT_CFG_ADD_FRAG_SIZE : Field := ⟨10, 2⟩
def fPORT_PREEMPT_CFG_VERIFY_TIME : Field := ⟨12, 8⟩
def fPORT_PREEMPT_STAT_VERIFY_STATE : Field := ⟨0, 3⟩
def fPORT_PREEMPT_STAT_ACTIVE : Field := ⟨3, 1⟩
def fPORT_FEC_CFG_BYPASS_IND : Field := ⟨0, 1⟩
def fPORT_FEC_CFG_BYPASS_CORR : Field := ⟨1, 1⟩
def fPORT_FEC_CFG_DEGRADE_THR : Field := ⟨8, 16⟩
def fPORT_FEC_STAT_LOCKED : Field := ⟨0, 1⟩
def fPORT_FEC_STAT_DEGRADED : Field := ⟨1, 1⟩
def fPORT_FEC_STAT_BYPASSING : Field := ⟨2, 1⟩
def fPORT_FEC_CNT_CORR_CW : Field := ⟨0, 32⟩
def fPORT_FEC_CNT_UNCORR_CW : Field := ⟨32, 32⟩
def fPORT_FEC_SYM_CORR_SYM : Field := ⟨0, 48⟩
def fPORT_FEC_LANE_SYM : Field := ⟨0, 32⟩
def fPORT_FEC_HIST_CW : Field := ⟨0, 32⟩
def fPORT_FEC_EVT_UNCORR : Field := ⟨0, 1⟩
def fPORT_FEC_EVT_DEGRADE : Field := ⟨1, 1⟩
def fPORT_FEC_EVT_LOCK_LOSS : Field := ⟨2, 1⟩
def fPORT_FEC_EVT_EN_EN : Field := ⟨0, 3⟩
def fPORT_ADM_PRI_MIN : Field := ⟨0, 18⟩
def fPORT_ADM_PRI_HEADROOM : Field := ⟨18, 18⟩
def fPORT_ADM_PRI_ALPHA : Field := ⟨36, 4⟩
def fPORT_FC_THR_XOFF : Field := ⟨0, 18⟩
def fPORT_FC_THR_XON : Field := ⟨32, 18⟩
def fPORT_ADM_USE_USE : Field := ⟨0, 18⟩
def fPORT_ADM_USE_HEAD : Field := ⟨32, 18⟩
def fPORT_ADM_DROP_INGRESS : Field := ⟨0, 32⟩
def fPORT_ADM_DROP_HEAD_FULL : Field := ⟨32, 32⟩
def fPORT_FC_TX_STAT_ASSERTED : Field := ⟨0, 8⟩
def fPORT_FC_TX_STAT_PAUSE : Field := ⟨8, 1⟩
def fPORT_LINK_STAT_LINK_STATE : Field := ⟨0, 3⟩
def fPORT_LINK_STAT_MARKER_LOCK : Field := ⟨3, 1⟩
def fPORT_LINK_STAT_SKEW_OVER : Field := ⟨4, 1⟩
def fPORT_LINK_STAT_MAX_SKEW_PS : Field := ⟨12, 20⟩
def fPORT_LINK_EVT_UP : Field := ⟨0, 1⟩
def fPORT_LINK_EVT_DOWN : Field := ⟨1, 1⟩
def fPORT_LINK_EVT_SKEW_LIMIT : Field := ⟨2, 1⟩
def fPORT_LPM_CFG_EN : Field := ⟨0, 1⟩
def fPORT_LPM_CFG_REVERSE : Field := ⟨1, 1⟩
def fPORT_LPM_CFG_KEEPALIVE : Field := ⟨2, 8⟩
def fPORT_LPM_DA_DA : Field := ⟨0, 48⟩
def fPORT_LPM_SA_SA : Field := ⟨0, 48⟩
def fPORT_LPM_CNT_SENT : Field := ⟨0, 16⟩
def fPORT_LPM_CNT_ACTED : Field := ⟨16, 16⟩
def fPORT_LPM_CNT_IGNORED : Field := ⟨32, 16⟩
def fPORT_LPM_CNT_BAD : Field := ⟨48, 16⟩
def fCOURSE_PORT_MAP_OWNER_0 : Field := ⟨0, 2⟩
def fCOURSE_PORT_MAP_OWNER_1 : Field := ⟨2, 2⟩
def fCOURSE_PORT_MAP_OWNER_2 : Field := ⟨4, 2⟩
def fCOURSE_PORT_MAP_OWNER_3 : Field := ⟨6, 2⟩
def fCOURSE_PORT_MAP_USED : Field := ⟨8, 4⟩
def fCOURSE_PORT_MAP_SPEED_0 : Field := ⟨12, 4⟩
def fCOURSE_PORT_MAP_SPEED_1 : Field := ⟨16, 4⟩
def fCOURSE_PORT_MAP_SPEED_2 : Field := ⟨20, 4⟩
def fCOURSE_PORT_MAP_SPEED_3 : Field := ⟨24, 4⟩
def fCOURSE_PORT_MAP_PAIR : Field := ⟨28, 1⟩
def fCOURSE_MAP_STAT_REFUSED : Field := ⟨0, 1⟩
def fCOURSE_MAP_STAT_CAUSE : Field := ⟨1, 3⟩
def fCOURSE_RX_OVERRUN_FRAMES : Field := ⟨0, 32⟩
def fCOURSE_PARSE_CFG_CSUM_EN : Field := ⟨0, 1⟩
def fCOURSE_PARSE_CFG_L4_BAD_SLOW : Field := ⟨1, 1⟩
def fCOURSE_PARSE_CFG_V6_ZERO_OK : Field := ⟨2, 1⟩
def fCOURSE_PARSE_CFG_VXLAN_EN : Field := ⟨3, 1⟩
def fCOURSE_PARSE_CFG_GENEVE_EN : Field := ⟨4, 1⟩
def fCOURSE_PARSE_CFG_GTPU_EN : Field := ⟨5, 1⟩
def fCOURSE_PARSE_CFG_TPID_X_EN : Field := ⟨6, 1⟩
def fCOURSE_PARSE_CFG_TPID_X : Field := ⟨16, 16⟩
def fCOURSE_UDP_PORTS_VXLAN_PORT : Field := ⟨0, 16⟩
def fCOURSE_UDP_PORTS_GENEVE_PORT : Field := ⟨16, 16⟩
def fCOURSE_UDP_PORTS_GTPU_PORT : Field := ⟨32, 16⟩
def fCOURSE_UDP_PORTS_ECPRI_PORT : Field := ⟨48, 16⟩
def fCOURSE_SLOW_CFG_RING : Field := ⟨0, 14⟩
def fCOURSE_SLOW_CNT_FRAMES : Field := ⟨0, 32⟩
def fCOURSE_SLOW_DROP_FRAMES : Field := ⟨0, 32⟩
def fCOURSE_PARSE_CNT_FIRST : Field := ⟨0, 32⟩
def fCOURSE_PARSE_CNT_LATER : Field := ⟨32, 32⟩
def fCOURSE_SPRAY_STAT_ACTIVE : Field := ⟨0, 1⟩
def fCOURSE_SPRAY_STAT_HOLDING : Field := ⟨1, 1⟩
def fCOURSE_SPRAY_STAT_SPAN_MAX : Field := ⟨16, 10⟩
def fCOURSE_SPRAY_CNT_HOLD_CYC : Field := ⟨0, 32⟩
def fCOURSE_SPRAY_CNT_HOLES : Field := ⟨32, 32⟩
def fCOURSE_PARSE_EVT_SLOW_DROP : Field := ⟨0, 1⟩
def fCOURSE_PARSE_EVT_SPRAY_HOLD : Field := ⟨1, 1⟩
def fCOURSE_PARSE_EVT_CFG_REFUSED : Field := ⟨2, 1⟩
def fCOURSE_PARSE_EVT_EN_EN : Field := ⟨0, 3⟩
def fCOURSE_KSEL_VALID (i : Nat) : Field := ⟨16 * i + 0, 1⟩
def fCOURSE_KSEL_TABLE (i : Nat) : Field := ⟨16 * i + 1, 2⟩
def fCOURSE_KSEL_PROFILE (i : Nat) : Field := ⟨16 * i + 3, 6⟩
def fCOURSE_KPROF_VALID : Field := ⟨0, 1⟩
def fCOURSE_KPROF_ANCHOR : Field := ⟨1, 4⟩
def fCOURSE_KPROF_OFFSET : Field := ⟨5, 9⟩
def fCOURSE_KPROF_MASK : Field := ⟨16, 16⟩
def fTABLE_EM_CFG_SIZE : Field := ⟨0, 6⟩
def fTABLE_EM_CFG_WIDE : Field := ⟨6, 1⟩
def fTABLE_EM_CFG_MAX_DEPTH : Field := ⟨8, 3⟩
def fTABLE_EM_SEED_SEED_1 : Field := ⟨0, 32⟩
def fTABLE_EM_SEED_SEED_2 : Field := ⟨32, 32⟩
def fTABLE_EM_SEED_OLD_SEED_1 : Field := ⟨0, 32⟩
def fTABLE_EM_SEED_OLD_SEED_2 : Field := ⟨32, 32⟩
def fTABLE_EM_OCC_USED : Field := ⟨0, 20⟩
def fTABLE_EM_OCC_RESIDUE : Field := ⟨20, 20⟩
def fTABLE_EM_OCC_HSTATE : Field := ⟨40, 2⟩
def fTABLE_EM_CNT_LOOKUPS : Field := ⟨0, 32⟩
def fTABLE_EM_CNT_HITS : Field := ⟨32, 32⟩
def fTABLE_EM_ERR_KEY_OVER : Field := ⟨0, 32⟩
def fTABLE_EM_ERR_INSERT_FULL : Field := ⟨32, 32⟩
def fTABLE_GEN_CTRL_OPEN : Field := ⟨0, 1⟩
def fTABLE_GEN_CTRL_COMMIT : Field := ⟨1, 1⟩
def fTABLE_GEN_CTRL_ABORT : Field := ⟨2, 1⟩
def fTABLE_GEN_STAT_STATE : Field := ⟨0, 3⟩
def fTABLE_GEN_STAT_BULK : Field := ⟨3, 1⟩
def fTABLE_GEN_STAT_REHASH : Field := ⟨4, 1⟩
def fTABLE_GEN_STAT_CURRENT : Field := ⟨16, 16⟩
def fTABLE_GEN_STAT_OTHER : Field := ⟨32, 16⟩
def fTABLE_GEN_DRAIN_FRAMES : Field := ⟨0, 24⟩
def fTABLE_GEN_EVT_COMMITTED : Field := ⟨0, 1⟩
def fTABLE_GEN_EVT_RETIRED : Field := ⟨1, 1⟩
def fTABLE_GEN_EVT_ABORTED : Field := ⟨2, 1⟩
def fTABLE_GEN_EVT_REFUSED : Field := ⟨3, 1⟩
def fTABLE_GEN_EVT_DRAIN_SLOW : Field := ⟨4, 1⟩
def fTABLE_GEN_EVT_INSERT_FULL : Field := ⟨5, 1⟩
def fTABLE_GEN_EVT_EN_EN : Field := ⟨0, 6⟩
def fTABLE_WIN_CMD_BUSY : Field := ⟨0, 1⟩
def fTABLE_WIN_CMD_OP : Field := ⟨1, 4⟩
def fTABLE_WIN_CMD_GEN_SEL : Field := ⟨5, 1⟩
def fTABLE_WIN_ADDR_TABLE : Field := ⟨0, 2⟩
def fTABLE_WIN_ADDR_BUCKET : Field := ⟨2, 17⟩
def fTABLE_WIN_ADDR_WAY : Field := ⟨19, 2⟩
def fTABLE_WIN_STAT_RESULT : Field := ⟨0, 4⟩
def fTABLE_WIN_STAT_ERR : Field := ⟨4, 1⟩
def fTABLE_WIN_STAT_MOVES : Field := ⟨5, 3⟩
def fTABLE_WIN_DATA_DATA : Field := ⟨0, 64⟩
def fTABLE_DEFAULT_ACTION : Field := ⟨0, 64⟩
def fTABLE_MIRROR_EN : Field := ⟨0, 1⟩
def fTABLE_MIRROR_TO_LEAF : Field := ⟨1, 1⟩
def fTABLE_MIRROR_TARGET : Field := ⟨2, 18⟩
def fTABLE_MIRROR_TRUNC : Field := ⟨20, 14⟩
def fTABLE_RECIRC_CNT_PASSES : Field := ⟨0, 32⟩
def fTABLE_RECIRC_CNT_DROPS : Field := ⟨32, 32⟩
def fTABLE_ACT_CNT_NO_TARGET : Field := ⟨0, 32⟩
def fTABLE_ACT_CNT_DROPPED : Field := ⟨32, 32⟩
def fTABLE_MIRROR_CNT_COPIES : Field := ⟨0, 32⟩
def fTABLE_MIRROR_CNT_REFUSED : Field := ⟨32, 32⟩
def fSCHED_WIN_CMD_BUSY : Field := ⟨0, 1⟩
def fSCHED_WIN_CMD_OP : Field := ⟨1, 2⟩
def fSCHED_WIN_CMD_FORGIVE : Field := ⟨3, 1⟩
def fSCHED_WIN_ADDR_LEVEL : Field := ⟨0, 2⟩
def fSCHED_WIN_ADDR_INDEX : Field := ⟨2, 18⟩
def fSCHED_WIN_STAT_RESULT : Field := ⟨0, 3⟩
def fSCHED_WIN_STAT_ERR : Field := ⟨3, 1⟩
def fSCHED_WIN_DATA_0_PARENT : Field := ⟨0, 14⟩
def fSCHED_WIN_DATA_0_PRIO : Field := ⟨14, 3⟩
def fSCHED_WIN_DATA_0_WEIGHT : Field := ⟨17, 8⟩
def fSCHED_WIN_DATA_0_SHAPE_EN : Field := ⟨25, 1⟩
def fSCHED_WIN_DATA_0_ADM_ALPHA : Field := ⟨26, 4⟩
def fSCHED_WIN_DATA_0_ADM_MIN : Field := ⟨30, 18⟩
def fSCHED_WIN_DATA_0_EXISTS : Field := ⟨63, 1⟩
def fSCHED_WIN_DATA_1_RATE : Field := ⟨0, 32⟩
def fSCHED_WIN_DATA_2_HI_CAP : Field := ⟨0, 32⟩
def fSCHED_WIN_DATA_2_LO_CAP : Field := ⟨32, 32⟩
def fSCHED_WIN_DATA_3_CREDIT : Field := ⟨0, 32⟩
def fSCHED_WIN_DATA_3_DEPTH : Field := ⟨32, 18⟩
def fSCHED_WIN_DATA_3_BACKLOG : Field := ⟨50, 1⟩
def fSCHED_WIN_DATA_3_ELIGIBLE : Field := ⟨51, 1⟩
def fMETER_WIN_CMD_BUSY : Field := ⟨0, 1⟩
def fMETER_WIN_CMD_OP : Field := ⟨1, 2⟩
def fMETER_WIN_ADDR_METER : Field := ⟨0, 18⟩
def fMETER_WIN_STAT_BAD_VALUE : Field := ⟨0, 1⟩
def fMETER_WIN_STAT_ERR : Field := ⟨1, 1⟩
def fMETER_WIN_DATA_0_EN : Field := ⟨0, 1⟩
def fMETER_WIN_DATA_0_MODE : Field := ⟨1, 1⟩
def fMETER_WIN_DATA_0_AWARE : Field := ⟨2, 1⟩
def fMETER_WIN_DATA_0_PRECOLOUR : Field := ⟨3, 2⟩
def fMETER_WIN_DATA_0_RED_DROP : Field := ⟨5, 1⟩
def fMETER_WIN_DATA_0_COUPLE : Field := ⟨6, 1⟩
def fMETER_WIN_DATA_1_CIR : Field := ⟨0, 32⟩
def fMETER_WIN_DATA_1_PIR_EIR : Field := ⟨32, 32⟩
def fMETER_WIN_DATA_2_CBS : Field := ⟨0, 32⟩
def fMETER_WIN_DATA_2_PBS_EBS : Field := ⟨32, 32⟩
def fMETER_WIN_DATA_3_TC : Field := ⟨0, 32⟩
def fMETER_WIN_DATA_3_TP_TE : Field := ⟨32, 32⟩
def fMETER_WIN_DATA_4_GREEN : Field := ⟨0, 32⟩
def fMETER_WIN_DATA_4_YELLOW : Field := ⟨32, 32⟩
def fMETER_WIN_DATA_5_RED : Field := ⟨0, 32⟩
def fSCHED_EVT_QW_ROUND : Field := ⟨0, 1⟩
def fSCHED_EVT_LOST : Field := ⟨1, 1⟩
def fSCHED_EVT_SKIP : Field := ⟨2, 1⟩
def fSCHED_EVT_CFG_REFUSED : Field := ⟨3, 1⟩
def fSCHED_EVT_EN_EN : Field := ⟨0, 4⟩
def fQW_CFG_EN : Field := ⟨0, 1⟩
def fQW_CFG_PERIOD : Field := ⟨1, 10⟩
def fQW_CFG_RAFTER : Field := ⟨11, 2⟩
def fQW_CFG_DMA_PRI : Field := ⟨13, 2⟩
def fQW_CFG_LOG2 : Field := ⟨15, 5⟩
def fQW_BUF_BASE_ADDR : Field := ⟨0, 64⟩
def fQW_PROD_PROD : Field := ⟨0, 32⟩
def fQW_CONS_CONS : Field := ⟨0, 32⟩
def fQW_CNT_ROUNDS : Field := ⟨0, 32⟩
def fQW_CNT_LOST : Field := ⟨32, 16⟩
def fQW_CNT_SKIPPED : Field := ⟨48, 16⟩
def fSCHED_PORT_CFG_LEN_ADJ : Field := ⟨0, 7⟩
def fSCHED_PORT_CFG_EXP_ROOM : Field := ⟨8, 14⟩
def fSCHED_PORT_STAT_IN_FLIGHT : Field := ⟨0, 15⟩
def fSCHED_PORT_STAT_BACKLOG : Field := ⟨16, 8⟩
def fSCHED_PORT_STAT_ELIGIBLE : Field := ⟨24, 8⟩
def fSCHED_PORT_STAT_PACE : Field := ⟨32, 32⟩
def fSCHED_PORT_CNT_FRAMES : Field := ⟨0, 32⟩
def fSCHED_PORT_CNT_EXPRESS : Field := ⟨32, 32⟩
def fQW_SLOT_EN : Field := ⟨0, 1⟩
def fQW_SLOT_TYPE : Field := ⟨1, 1⟩
def fQW_SLOT_ID : Field := ⟨2, 18⟩
def fLOFT_POOL_HOST_RESERVE : Field := ⟨0, 18⟩
def fLOFT_CFG_RING_ALPHA : Field := ⟨0, 4⟩
def fLOFT_CFG_HOST_ALPHA : Field := ⟨4, 4⟩
def fLOFT_COLOUR_YEL_GUARD : Field := ⟨0, 18⟩
def fLOFT_COLOUR_RED_GUARD : Field := ⟨32, 18⟩
def fLOFT_RING_MAX_MAX : Field := ⟨0, 18⟩
def fLOFT_SHARED_SIZE : Field := ⟨0, 18⟩
def fLOFT_SHARED_FREE : Field := ⟨32, 18⟩
def fLOFT_USE_TRANSIT : Field := ⟨0, 18⟩
def fLOFT_USE_HOST : Field := ⟨32, 18⟩
def fLOFT_DROP_NO_CELL : Field := ⟨0, 32⟩
def fLOFT_DROP_QUEUE : Field := ⟨32, 32⟩
def fLOFT_ECC_CORR : Field := ⟨0, 32⟩
def fLOFT_ECC_POISON : Field := ⟨32, 32⟩
def fLOFT_EVT_NO_CELL : Field := ⟨0, 1⟩
def fLOFT_EVT_CFG_REFUSED : Field := ⟨1, 1⟩
def fLOFT_EVT_POISON : Field := ⟨2, 1⟩
def fLOFT_EVT_HEAD_FULL : Field := ⟨3, 1⟩
def fLOFT_EVT_EN_EN : Field := ⟨0, 4⟩
def fLOFT_HOST_WAIT_CYCLES : Field := ⟨0, 32⟩
def fTXR_PROD_PROD : Field := ⟨0, 32⟩
def fTXR_CONS_CONS : Field := ⟨0, 32⟩
def fTXR_FETCH_FETCH : Field := ⟨0, 32⟩
def fTXR_CTRL_EN : Field := ⟨0, 1⟩
def fTXR_STAT_EXISTS : Field := ⟨0, 1⟩
def fTXR_STAT_DRAINING : Field := ⟨1, 1⟩
def fTXR_STAT_IDLE : Field := ⟨2, 1⟩
def fTXR_STAT_ADM_WAIT : Field := ⟨3, 1⟩
def fTXR_STAT_CQ_WAIT : Field := ⟨4, 1⟩
def fTXR_STAT_REFUSED : Field := ⟨5, 1⟩
def fRXR_PROD_PROD : Field := ⟨0, 32⟩
def fRXR_CONS_CONS : Field := ⟨0, 32⟩
def fRXR_CTRL_EN : Field := ⟨0, 1⟩
def fRXR_CTRL_RESET : Field := ⟨1, 1⟩
def fRXR_STAT_EXISTS : Field := ⟨0, 1⟩
def fRXR_STAT_STARVED : Field := ⟨1, 1⟩
def fRXR_STAT_CQ_WAIT : Field := ⟨2, 1⟩
def fRXR_STAT_REFUSED : Field := ⟨3, 1⟩
def fCQ_CONS_CONS : Field := ⟨0, 32⟩
def fCQ_PROD_PROD : Field := ⟨0, 32⟩
def fCQ_STAT_EXISTS : Field := ⟨0, 1⟩
def fCQ_STAT_FULL : Field := ⟨1, 1⟩
def fCQ_STAT_REFUSED : Field := ⟨2, 1⟩
def fDMA_CHAN_CFG_RAFTER : Field := ⟨0, 2⟩
def fDMA_CHAN_CFG_DMA_PRI : Field := ⟨2, 2⟩
def fDMA_CHAN_CFG_SHARE : Field := ⟨4, 8⟩
def fDMA_CHAN_CFG_SRC_LOG2 : Field := ⟨12, 5⟩
def fDMA_CHAN_CFG_DST_LOG2 : Field := ⟨17, 5⟩
def fDMA_CHAN_CFG_DONE_WB : Field := ⟨22, 1⟩
def fDMA_CHAN_HEAD_ADDR : Field := ⟨0, 64⟩
def fDMA_CHAN_CTRL_START : Field := ⟨0, 1⟩
def fDMA_CHAN_CTRL_STOP : Field := ⟨1, 1⟩
def fDMA_CHAN_APPEND_RING : Field := ⟨0, 1⟩
def fDMA_CHAN_STAT_STATE : Field := ⟨0, 3⟩
def fDMA_CHAN_STAT_ERR : Field := ⟨3, 4⟩
def fDMA_CHAN_STAT_READS : Field := ⟨8, 5⟩
def fDMA_CHAN_APPCNT_COUNT : Field := ⟨0, 32⟩
def fDMA_CHAN_CUR_ADDR : Field := ⟨0, 64⟩
def fDMA_CHAN_DONE_BYTES_BYTES : Field := ⟨0, 32⟩
def fDMA_CHAN_DONE_CNT_COUNT : Field := ⟨0, 32⟩
def fDMA_CHAN_DONE_ADDR_ADDR : Field := ⟨0, 64⟩
def fDMA_CHAN_EVT_DESC_DONE : Field := ⟨0, 1⟩
def fDMA_CHAN_EVT_HALT : Field := ⟨1, 1⟩
def fDMA_CHAN_EVT_AT_END : Field := ⟨2, 1⟩
def fDMA_CHAN_EVT_CFG_REFUSED : Field := ⟨3, 1⟩
def fDMA_CHAN_EVT_EN_EN : Field := ⟨0, 4⟩
def fDMA_CHAN_BYTES_BYTES : Field := ⟨0, 48⟩
def fSTATS_PORT_COUNT : Field := ⟨0, 48⟩
def fSTATS_HALF_HALF : Field := ⟨0, 64⟩
def fSTATS_HALF_EN_EN : Field := ⟨0, 64⟩
def fSTATS_WIN_CMD_BUSY : Field := ⟨0, 1⟩
def fSTATS_WIN_CMD_OP : Field := ⟨1, 2⟩
def fSTATS_WIN_CMD_ERR : Field := ⟨3, 1⟩
def fSTATS_WIN_ADDR_GROUP : Field := ⟨0, 3⟩
def fSTATS_WIN_ADDR_INDEX : Field := ⟨3, 18⟩
def fSTATS_WIN_STAT_RESULT : Field := ⟨0, 2⟩
def fSTATS_WIN_DATA_DATA : Field := ⟨0, 64⟩
def fSEAL_CFG_EN : Field := ⟨0, 1⟩
def fSEAL_CFG_TX_DELAY : Field := ⟨1, 7⟩
def fSEAL_CFG_RX_MAX : Field := ⟨8, 12⟩
def fSEAL_EVT_ALARM : Field := ⟨0, 1⟩
def fSEAL_EVT_HOLD_DONE : Field := ⟨1, 1⟩
def fSEAL_EVT_CFG_REFUSED : Field := ⟨2, 1⟩
def fSEAL_EVT_BIND_REFUSED : Field := ⟨3, 1⟩
def fSEAL_EVT_EN_EN : Field := ⟨0, 4⟩
def fSEAL_ALARM_LOG_PORT : Field := ⟨0, 4⟩
def fSEAL_ALARM_LOG_SLOT : Field := ⟨4, 12⟩
def fSEAL_ALARM_LOG_COUNT : Field := ⟨16, 15⟩
def fSEAL_BIND_CMD_BUSY : Field := ⟨0, 1⟩
def fSEAL_BIND_CMD_OP : Field := ⟨1, 1⟩
def fSEAL_BIND_CMD_ERR : Field := ⟨2, 1⟩
def fSEAL_BIND_ADDR_LEAF : Field := ⟨0, 18⟩
def fSEAL_BIND_DATA_PROT : Field := ⟨0, 1⟩
def fSEAL_BIND_DATA_HELD : Field := ⟨1, 1⟩
def fSEAL_BIND_DATA_SLOT : Field := ⟨2, 12⟩
def fSEAL_PORT_CFG_TX_EN : Field := ⟨0, 1⟩
def fSEAL_PORT_CFG_RX_EN : Field := ⟨1, 1⟩
def fSEAL_PORT_CFG_RX_STRICT : Field := ⟨2, 1⟩
def fSEAL_PORT_CFG_TX_HDR : Field := ⟨3, 3⟩
def fSEAL_PORT_CFG_TX_TRL : Field := ⟨6, 6⟩
def fSEAL_PORT_CFG_AN_OFF : Field := ⟨12, 6⟩
def fSEAL_PORT_CFG_RX_ETYPE : Field := ⟨32, 16⟩
def fSEAL_RX_MAP_SLOT (i : Nat) : Field := ⟨16 * i + 0, 12⟩
def fSEAL_RX_MAP_VALID (i : Nat) : Field := ⟨16 * i + 12, 1⟩
def fSEAL_PORT_STAT_HOLD : Field := ⟨0, 1⟩
def fSEAL_PORT_STAT_SWEEP : Field := ⟨1, 1⟩
def fSEAL_PORT_CNT_TX_PROT : Field := ⟨0, 32⟩
def fSEAL_PORT_CNT_RX_PROT : Field := ⟨32, 32⟩
def fSEAL_PORT_ERR_TX_STALE : Field := ⟨0, 16⟩
def fSEAL_PORT_ERR_RX_STALE : Field := ⟨16, 16⟩
def fSEAL_PORT_ERR_TAG_FAIL : Field := ⟨32, 16⟩
def fSEAL_PORT_ERR_UNPROT : Field := ⟨48, 16⟩
def fSEAL_SLOT_GEN : Field := ⟨0, 8⟩
def fSEAL_SLOT_VALID : Field := ⟨8, 1⟩
def fBOOT_STAT_STATE : Field := ⟨0, 3⟩
def fBOOT_STAT_CHOSEN : Field := ⟨3, 2⟩
def fBOOT_STAT_WARM : Field := ⟨5, 1⟩
def fBOOT_CFG_RESELECT : Field := ⟨0, 1⟩
def fBOOT_CTRL_HOST_START : Field := ⟨0, 1⟩
def fBOOT_IMG_A_SEQ : Field := ⟨0, 32⟩
def fBOOT_IMG_A_LENGTH : Field := ⟨32, 25⟩
def fBOOT_IMG_A_CAND : Field := ⟨57, 1⟩
def fBOOT_IMG_A_TRIED : Field := ⟨58, 1⟩
def fBOOT_IMG_A_FAILED : Field := ⟨59, 1⟩
def fBOOT_IMG_B_SEQ : Field := ⟨0, 32⟩
def fBOOT_IMG_B_LENGTH : Field := ⟨32, 25⟩
def fBOOT_IMG_B_CAND : Field := ⟨57, 1⟩
def fBOOT_IMG_B_TRIED : Field := ⟨58, 1⟩
def fBOOT_IMG_B_FAILED : Field := ⟨59, 1⟩
def fBOOT_PROG_BYTES : Field := ⟨0, 25⟩
def fBOOT_PROG_ITEMS : Field := ⟨32, 32⟩
def fBOOT_APPLY_ERR_TYPE : Field := ⟨0, 16⟩
def fBOOT_APPLY_ERR_STATUS : Field := ⟨16, 8⟩
def fBOOT_APPLY_ERR_DETAIL : Field := ⟨24, 8⟩
def fBOOT_APPLY_ERR_OFFSET : Field := ⟨32, 25⟩
def fBOOT_APPLY_ERR_VALID : Field := ⟨63, 1⟩
def fBOOT_CNT_BOOTS : Field := ⟨0, 16⟩
def fBOOT_CNT_APPLY_ERRS : Field := ⟨16, 16⟩
def fBOOT_EVT_DONE : Field := ⟨0, 1⟩
def fBOOT_EVT_SAFE : Field := ⟨1, 1⟩
def fBOOT_EVT_IMG_FAILED : Field := ⟨2, 1⟩
def fBOOT_EVT_APPLY_ERR : Field := ⟨3, 1⟩
def fBOOT_EVT_WR_REFUSED : Field := ⟨4, 1⟩
def fBOOT_EVT_RETHATCH_REFUSED : Field := ⟨5, 1⟩
def fBOOT_EVT_EN_EN : Field := ⟨0, 6⟩
def fBOOT_XSPI_CFG_PROTO : Field := ⟨0, 2⟩
def fBOOT_XSPI_CFG_CLK_DIV : Field := ⟨2, 4⟩
def fBOOT_XSPI_CMD_BUSY : Field := ⟨0, 1⟩
def fBOOT_XSPI_CMD_DIR : Field := ⟨1, 1⟩
def fBOOT_XSPI_CMD_OPCODE : Field := ⟨2, 8⟩
def fBOOT_XSPI_CMD_ADDR_EN : Field := ⟨10, 1⟩
def fBOOT_XSPI_CMD_DUMMY : Field := ⟨11, 5⟩
def fBOOT_XSPI_CMD_DATA_EN : Field := ⟨16, 1⟩
def fBOOT_XSPI_CMD_LEN : Field := ⟨17, 8⟩
def fBOOT_XSPI_CMD_ERR : Field := ⟨25, 1⟩
def fBOOT_XSPI_ADDR_ADDR : Field := ⟨0, 32⟩
def fBOOT_XSPI_DATA_DATA : Field := ⟨0, 64⟩
def fPOWER_STAT_STATE : Field := ⟨0, 2⟩
def fPOWER_STAT_OPP : Field := ⟨2, 2⟩
def fPOWER_STAT_CHANGING : Field := ⟨4, 1⟩
def fPOWER_STAT_ENTERING : Field := ⟨5, 1⟩
def fPOWER_STAT_WAKING : Field := ⟨6, 1⟩
def fPOWER_CFG_RESTORE : Field := ⟨0, 1⟩
def fPOWER_CFG_VREG_TIMEOUT : Field := ⟨1, 12⟩
def fPOWER_DOM_STAT_STATE (i : Nat) : Field := ⟨2 * i + 0, 2⟩
def fPOWER_READY_READY : Field := ⟨0, 15⟩
def fPOWER_FENCE_WATCH : Field := ⟨1, 1⟩
def fPOWER_FENCE_QUAD : Field := ⟨2, 4⟩
def fPOWER_FENCE_COURSE : Field := ⟨6, 4⟩
def fPOWER_FENCE_STRAP : Field := ⟨16, 4⟩
def fPOWER_WAKE_EN_LIGGER : Field := ⟨0, 1⟩
def fPOWER_WAKE_EN_TIMER : Field := ⟨1, 1⟩
def fPOWER_WAKE_CAUSE_SOURCE : Field := ⟨0, 4⟩
def fPOWER_WAKE_CAUSE_PORT : Field := ⟨4, 4⟩
def fPOWER_WAKE_CAUSE_PATTERN : Field := ⟨8, 5⟩
def fPOWER_WAKE_CAUSE_ABORT : Field := ⟨16, 1⟩
def fPOWER_WAKE_AFTER_MS : Field := ⟨0, 32⟩
def fPOWER_WAKE_CORES_CORES : Field := ⟨0, 64⟩
def fPOWER_PAD_HELD : Field := ⟨0, 7⟩
def fPOWER_PAD_RELEASE : Field := ⟨8, 7⟩
def fPOWER_EVT_WOKE : Field := ⟨0, 1⟩
def fPOWER_EVT_SLEEP_ABORT : Field := ⟨1, 1⟩
def fPOWER_EVT_VREG_TIMEOUT : Field := ⟨2, 1⟩
def fPOWER_EVT_PAD_REFUSED : Field := ⟨3, 1⟩
def fPOWER_EVT_FENCE_REFUSED : Field := ⟨4, 1⟩
def fPOWER_EVT_NOTICE : Field := ⟨5, 1⟩
def fPOWER_EVT_EN_EN : Field := ⟨0, 6⟩
def fPOWER_THERM_STAT_TEMP : Field := ⟨0, 16⟩
def fPOWER_THERM_STAT_SURGE_USED : Field := ⟨16, 10⟩
def fPOWER_THERM_STAT_PERMIT : Field := ⟨26, 1⟩
def fPOWER_THERM_STAT_LOCK_LOW : Field := ⟨27, 1⟩
def fPOWER_THERM_CTRL_UNLOCK : Field := ⟨0, 1⟩
def fPOWER_THERM_EVT_GOV_STEP : Field := ⟨0, 1⟩
def fPOWER_THERM_EVT_CRIT : Field := ⟨1, 1⟩
def fPOWER_THERM_EVT_PERMIT : Field := ⟨2, 1⟩
def fPOWER_THERM_EVT_UNLOCK_REFUSED : Field := ⟨3, 1⟩
def fPOWER_THERM_EVT_EN_EN : Field := ⟨0, 4⟩
def fPOWER_LIG_CFG_EN : Field := ⟨0, 1⟩
def fPOWER_LIG_CFG_ADDR : Field := ⟨1, 6⟩
def fPOWER_LIG_EVT_MATCH : Field := ⟨0, 1⟩
def fPOWER_LIG_EVT_HOST_WAKE : Field := ⟨1, 1⟩
def fPOWER_LIG_EVT_BAD_CMD : Field := ⟨2, 1⟩
def fPOWER_LIG_EVT_EN_EN : Field := ⟨0, 3⟩
def fPOWER_WATCH_CFG_MAGIC_EN : Field := ⟨0, 1⟩
def fPOWER_WATCH_CFG_SIGDET_EN : Field := ⟨1, 1⟩
def fPOWER_WATCH_CFG_RATE : Field := ⟨2, 1⟩
def fPOWER_WATCH_CFG_PAT_EN : Field := ⟨32, 32⟩
def fPOWER_WATCH_MAC_MAC : Field := ⟨0, 48⟩
def fPOWER_PAT_VAL_BYTES : Field := ⟨0, 64⟩
def fPOWER_PAT_MASK_MASK : Field := ⟨0, 64⟩

end Sys2Proof.Machine
end

