-- ==== Sys2Proof/Machine/Store.lean ====
section
/-! DEFINITION. A finite map from numbers to values as plain data: a list of (key, value) pairs in one canonical form
(keys strictly rising, and for a map with a default no entry equal to it), so that equal maps are equal data. It holds
the registers, and every object the manual numbers (rings, nodes, meters, lanes, frames). -/

namespace Sys2Proof.Machine

/-- The pairs of a map, in rising key order. -/
abbrev Store (α : Type) := List (Nat × α)

/-- The entry at a key, if one is listed. -/
def Store.find? {α : Type} : Store α → Nat → Option α
  | [], _ => none
  | (k, v) :: t, q => if k = q then some v else Store.find? t q

/-- The map without its entry at a key. -/
def Store.del {α : Type} (st : Store α) (k : Nat) : Store α := st.filter (fun e => e.1 != k)

/-- A pair put before the first entry of a greater key. -/
def Store.insertSorted {α : Type} (k : Nat) (v : α) : Store α → Store α
  | [] => [(k, v)]
  | (k', v') :: t => if k < k' then (k, v) :: (k', v') :: t else (k', v') :: Store.insertSorted k v t

/-- The map with one entry set. -/
def Store.put {α : Type} (st : Store α) (k : Nat) (v : α) : Store α := Store.insertSorted k v (st.del k)

/-- Whether a key is listed. -/
def Store.has {α : Type} (st : Store α) (k : Nat) : Bool := (st.find? k).isSome

/-- The value at a key of a map whose unlisted keys hold `d`. -/
def Store.get {α : Type} (d : α) (st : Store α) (k : Nat) : α := (st.find? k).getD d

/-- Sets the value at a key of a map whose value there by default is `d`: writing `d` removes the entry. -/
def Store.set {α : Type} [DecidableEq α] (d : α) (st : Store α) (k : Nat) (v : α) : Store α :=
  if v = d then st.del k else st.put k v

/-- The listed keys. -/
def Store.keys {α : Type} (st : Store α) : List Nat := st.map (·.1)

/-- Keys strictly rising. -/
def Store.sorted {α : Type} : Store α → Bool
  | [] => true
  | [_] => true
  | a :: b :: t => decide (a.1 < b.1) && Store.sorted (b :: t)

/-- The canonical form of a map with defaults: keys strictly rising, no entry equal to its default. -/
def Store.wf {α : Type} [DecidableEq α] (d : Nat → α) (st : Store α) : Bool :=
  Store.sorted st && st.all (fun e => decide (e.2 ≠ d e.1))

end Sys2Proof.Machine
end

