-- ==== Sys2Proof/Machine/State.lean ====
section
/-! DEFINITION. The machine's state as plain data: every register of the control space (those that differ from
their Reset values are listed), and the work under way in each unit. -/

namespace Sys2Proof.Machine

/-- Who issues a rafter request (R598), numbered in RAFTER_ERR_INFO_p.KIND as `Requester.kind`. -/
inductive Requester where
  | intc
  | txr (r : Nat)
  | rxr (r : Nat)
  | cq (q : Nat)
  | admin
  | qw
  | chan (k : Nat)
  deriving DecidableEq, Repr

/-- R602, R615: a descriptor of a channel's chain: its address and length, and its number in the chain's run. -/
structure DescRef where
  addr : Nat
  len : Nat
  num : Nat
  deriving DecidableEq, Repr

/-- What a rafter request is for, hence what its response brings about. -/
inductive Purpose where
  | intcMsg (fast : Bool) (v : Nat)
  | txSlots (r first n : Nat)
  | txTable (r first pos n : Nat)
  | txData (r first off : Nat)
  | shadow (rx : Bool) (r : Nat)
  | rxEntries (r first n : Nat)
  | rxData (r fid : Nat)
  | cqWrite (q : Nat) (rings : List (Bool × Nat))
  | asqRead (first n : Nat)
  | acqWrite (final : Option Nat) (due : Nat)
  | operandRead (lop : Option Nat) (off : Nat)
  | operandWrite (lop : Option Nat)
  | qwWrite
  | descReread (kind r i : Nat)
  | dmaDesc (k : Nat) (reread : Bool)
  | dmaRead (k off : Nat)
  | dmaWrite (k : Nat) (desc : DescRef)
  | dmaWb (k : Nat) (desc : DescRef)
  deriving DecidableEq, Repr

/-- A request for a rafter port (R580): its requester's port and level, direction, address, length and, for a write,
its bytes. -/
structure RafterReq where
  who : Requester
  port : Nat
  level : Nat
  write : Bool
  addr : Nat
  len : Nat
  data : List Byte
  msg : Bool
  ctrl : Bool
  purpose : Purpose
  deriving DecidableEq, Repr

/-- An outstanding tag (R585) and the request it was issued for. -/
structure Outstanding where
  port : Nat
  tag : Nat
  req : RafterReq
  deriving DecidableEq, Repr

/-- One write-data beat of a rafter port (R576): 128 byte lanes, and bit by lane the enables and the parities. -/
structure WdBeat where
  data : List Byte
  be : Nat
  par : Nat
  bepar : Nat
  last : Bool
  deriving DecidableEq, Repr

/-- What a rafter port has presented for a request (R576): the request channel's payload and, for a write, its beats. -/
structure RafterPins where
  write : Bool
  addr : Nat
  len : Nat                              -- bytes, less 1
  tag : Nat
  attr : Nat
  par : Nat
  beats : List WdBeat
  deriving DecidableEq, Repr

/-- A general channel's working state (R604, R607, R611), beside its registers. `des` is the descriptor in
progress; `rdOff` and `wrOff` count the bytes requested; `stage` holds the staging buffer as returned. -/
structure DmaChan where
  fetch : Option Bool := none      -- a descriptor read to be issued; true: a re-read
  cur : Nat := 0
  active : Bool := false
  src : Nat := 0
  dst : Nat := 0
  len : Nat := 0
  flags : Nat := 0                 -- bytes 20-23 of the descriptor
  link : Nat := 0
  sample : Nat := 0                -- APPCNT at the last descriptor read
  rdOff : Nat := 0
  wrOff : Nat := 0
  got : List (Nat × List Byte) := []  -- read data returned, by offset
  reads : Nat := 0
  writes : Nat := 0                -- data writes outstanding, of every descriptor of the chain
  num : Nat := 0                   -- descriptors of this run that have completed
  wbs : List (List Byte × DescRef) := []  -- done write-backs to be issued, oldest first
  stop : Bool := false             -- STOP was written in HALTED
  haltAt : Option Nat := none      -- the CCLK cycle of the halt, by its start (R614)
  rdCredit : Int := 0
  wrCredit : Int := 0
  creditAt : Nat := 0
  deriving DecidableEq, Repr

/-- A completion that is due or issued (R517): its ring and the fields of its 32 bytes other than PHASE. -/
structure Compl where
  tx : Bool
  ring : Nat
  ts : Nat
  parse : Nat
  hit : Nat
  index : Nat
  tag : Nat
  length : Nat
  status : Nat
  reason : Nat
  bufCnt : Nat
  port : Nat
  colour : Nat
  aux : Bool
  deriving DecidableEq, Repr

/-- The stages of a transmit entry taken from a ring (R505 to R510). -/
inductive TxStage where
  | table      -- its fragment table is being read (R503)
  | admission      -- checked; waits for admission (R424)
  | loading    -- its frame data is being read (R68)
  | queued     -- its frame has joined its leaf (R444)
  | retired    -- R508
  deriving DecidableEq, Repr

/-- A transmit entry between TXR_FETCH taking it and TXR_CONS passing it. -/
structure TxEntry where
  first : Nat
  slots : Nat
  bytes : List Byte
  table : List (Nat × List Byte) := []   -- fragment table as returned, by offset
  frags : List (Nat × Nat) := []         -- address and LEN of each fragment
  stage : TxStage
  fid : Nat := 0
  lhost : Nat := 0
  missing : Nat := 0                     -- frame bytes still to be returned
  cqReq : Bool
  poisoned : Bool := false
  freed : Bool := false
  ts : Nat := 0
  known : Nat := 0                       -- the ridge clock cycle in which its timestamp is known (R819)
  port : Nat := 0
  deriving DecidableEq, Repr

/-- A transmit ring: its context (R493), what the mover has read, the entries taken, and its counters (R772). -/
structure TxRing where
  base : Nat
  shadow : Nat
  log2 : Nat
  shadowEn : Bool
  rafter : Nat
  pri : Nat
  cq : Nat
  readPtr : Nat := 0                     -- first slot not yet requested
  slotBuf : List (Nat × List Byte) := [] -- slots read and not yet taken, by index
  entries : List TxEntry := []
  limit : Nat := 0                       -- drain limit (R523)
  sinceDue : Bool := false               -- an entry has retired since its last completion became due
  lastTag : List Byte := []              -- header of the last entry passed by CONS, for R524
  lastRet : Option Compl := none         -- the completion that entry would carry (R524)
  complOut : Nat := 0                    -- completions due or issued and not yet answered
  shadowOut : Bool := false
  shadowDue : Bool := false
  bytes : Nat := 0
  frames : Nat := 0
  drops : Nat := 0
  deriving DecidableEq, Repr

/-- A prefetched receive buffer entry (R512). -/
structure RxBuf where
  index : Nat
  addr : Nat
  len : Nat
  tag : Nat
  deriving DecidableEq, Repr

/-- A frame or a mirror copy on a queue: what it carries away from its last pass. -/
structure Pkt where
  fid : Nat                              -- the frame whose cells it references
  copy : Bool := false                   -- a mirror copy (R367)
  host : Option (Nat × Nat) := none      -- ring and first slot index of its transmit entry
  bytes : List Byte                      -- as delivered or sent, without any FCS
  fcs : List Byte := []                  -- the received FCS (R214, R222)
  ids : List Nat                         -- the frame's cells it references, charged to the queue (R414)
  colour : Nat := 0
  port : Nat := 0                        -- receiving port
  status : Nat := 0                      -- R31, under R32
  reason : Nat := 0
  parse : Nat := 0
  hit : Nat := 0
  ts : Nat := 0                          -- ingress timestamp in the format of R290
  tsRaw : Int := 0                       -- the same in units of 2^-48 ns, for R294
  tsOp : Nat := 0
  udpFix : Nat := 0
  ptpOff : Option Nat := none
  udpOff : Option Nat := none
  udpV6 : Bool := false
  ins : Nat := 0                         -- header word 1 of a transmit entry, for R330
  tref : Nat := 0
  poison : Bool := false
  diag : Bool := false
  joined : Nat := 0                      -- block time at joining, in units of 2^-48 ns
  wire : Nat := 0                        -- wire length (R449)
  path : Nat := 0                        -- class at selection
  express : Bool := false                -- R240
  leaf : Nat := 0
  born : Nat := 0                        -- that leaf's own number (R484)
  course : Nat := 0                      -- the course whose egress stage builds it (R40)
  prot : Bool := false                   -- protected (R629), with its slot and generation at selection
  slot : Nat := 0
  slotGen : Nat := 0
  slotOk : Bool := false
  hdr : Nat := 0                         -- bytes that the engine puts before and after it (R625, R645)
  trl : Nat := 0
  started : Bool := false                -- its first beat has entered the MAC
  strobe : Nat := 0                      -- the counter sampled at its egress strobe (R280), in units of 2^-48 ns
  strobeAt : Nat := 0                    -- the ridge clock cycle of that strobe
  deriving DecidableEq, Repr

/-- A delivery to a receive buffer ring under way (R513, R67). -/
structure Delivery where
  id : Nat
  pkt : Pkt
  bufs : List RxBuf
  left : Nat                             -- data writes whose responses have not returned
  len : Nat
  deriving DecidableEq, Repr

/-- A receive buffer ring. -/
structure RxRing where
  base : Nat
  shadow : Nat
  log2 : Nat
  shadowEn : Bool
  rafter : Nat
  pri : Nat
  cq : Nat
  readPtr : Nat := 0
  bufs : List RxBuf := []                -- prefetched entries from RXR_CONS, in index order
  raw : List (Nat × List Byte) := []     -- entries returned ahead of an earlier one
  dq : List Pkt := []                    -- delivery queue
  dqCells : Nat := 0                     -- its queue account (R413)
  active : List Delivery := []
  resetting : Bool := false              -- R525, until its ABORTED completions are due
  complOut : Nat := 0
  shadowOut : Bool := false
  shadowDue : Bool := false
  bytes : Nat := 0
  frames : Nat := 0
  drops : Nat := 0
  deriving DecidableEq, Repr

/-- A completion queue. -/
structure CqCtx where
  base : Nat
  log2 : Nat
  rafter : Nat
  pri : Nat
  due : List Compl := []                 -- in the order in which they became due (R519)
  acked : Option Nat := none             -- highest index whose write response has returned (R648)
  deriving DecidableEq, Repr

/-- An admin completion that is due (R546). -/
structure AdminCompl where
  tag : Nat
  opcode : Nat
  status : Nat
  accepted : Bool
  detail : Nat
  res0 : Nat
  res1 : Nat
  slot : Option Nat := none              -- 16 * seq + k: the final of operation seq in slot k
  again : Option Nat := none             -- its place in due order, where its write has failed (R538, R598)
  deriving DecidableEq, Repr

/-- The short command in progress (R550) and how far it has come. -/
structure AdminCur where
  bytes : List Byte
  phase : Nat := 0
  left : Nat := 0                        -- operand or result accesses outstanding (R548)
  got : List (Nat × List Byte) := []
  failed : Bool := false
  detail : Nat := 0
  res0 : Nat := 0
  res1 : Nat := 0
  deriving DecidableEq, Repr

/-- A long operation in its slot (R553): its command, its own cursor and counters. -/
structure Lop where
  bytes : List Byte
  reading : Bool := false                -- a record is being read (R389)
  left : Nat := 0                        -- memory writes outstanding
  got : List Byte := []                  -- the record read
  failed : Bool := false                 -- HOST_ERROR
  stop : Option Nat := none              -- its status, once no unit is to come; its final waits for write responses
  detail : Nat := 0
  a : Nat := 0                           -- first result counter of R567
  b : Nat := 0                           -- second result counter of R567
  cursor : Nat := 0                      -- position of the next unit
  since : Nat := 0                       -- the cycle in which a scan's point began (R182)
  ended : Option Nat := none             -- the CCLK cycle in which its last unit ended, by its start (R555)
  start : Nat := 0                       -- block time at the start (R776)
  header : Bool := false                 -- the dump header has been written (R776)
  seq : Nat := 0                         -- order of acceptance (R550)
  deriving DecidableEq, Repr

/-- A leaf, client or group (R441): its record words (SCHED_WIN_DATA_0 to _2), shaper credit in units of 2^-32 B
(R457), DWRR state (R447) and, for a leaf, its queue and counters (R486). -/
structure Node where
  d0 : Word
  d1 : Word
  d2 : Word
  credit : Int := 0
  at5 : Nat := 0                         -- tick of five ridge cycles up to which the credit has been refilled
  deficit : Int := 0
  turn : Bool := false
  blocked : Bool := false                -- its credit has been negative and SHAPER_ELIGIBLE has not come (R456)
  born : Nat := 0                        -- its number among the nodes ever created (the model's own)
  fifo : List Pkt := []
  depth : Nat := 0
  bytes : Nat := 0
  frames : Nat := 0
  drops : Nat := 0
  deriving DecidableEq, Repr

/-- A meter (R463): its record words and its two buckets in units of 2^-32 B. -/
structure Meter where
  d0 : Word := 0x20
  d1 : Word := 0
  d2 : Word := 0
  tc : Int := 0
  tp : Int := 0
  at5 : Nat := 0                         -- tick of five ridge cycles up to which they have been refilled
  green : Nat := 0
  yellow : Nat := 0
  red : Nat := 0
  deriving DecidableEq, Repr

/-- A table entry (R353), in its physical place. -/
structure Entry where
  action : Nat := 0
  genFirst : Nat := 0
  genLast : Nat := 0
  valid : Bool := false
  firstV : Bool := false
  lastV : Bool := false
  profile : Nat := 0
  keyLen : Nat := 0
  key : Nat := 0                         -- key bytes, byte 0 least significant
  old : Bool := false                    -- placed under the old seeds (R391)
  deriving DecidableEq, Repr

/-- Where a received frame stands between its first beat and its queue. -/
inductive Stage where
  | fifo        -- waits for the parser's first pass
  | window      -- coloured; waits to enter the reorder stage (R338)
  | reorder     -- in the reorder stage (R336)
  | decide      -- waits for its admission decision
  | waitFcs     -- decided; waits for its FCS check or its tag (R818, R408)
  | recirc      -- on its course's recirculation queue (R396)
  | queued      -- admitted to a queue
  deriving DecidableEq, Repr

/-- What one pass concluded (R360 to R367). -/
structure PassResult where
  op : Nat := 0
  target : Nat := 0
  tsOp : Nat := 0
  udpFix : Nat := 0
  reason : Nat := 0                      -- slow-path reason; 0 none
  mirror : Option Nat := none
  pri : Nat := 0
  parse : Nat := 0
  hit : Nat := 0
  strip : Nat := 0                       -- strip operands of a RECIRC action
  l4bad : Bool := false                  -- a bad TCP or UDP checksum counts at the last beat (R318)
  ptpOff : Option Nat := none
  udpOff : Option Nat := none
  udpV6 : Bool := false
  drop : Bool := false                   -- freed in the meter cycle (R469)
  deriving DecidableEq, Repr

/-- What a received frame takes from its port's registers when its first beat enters the MAC (R223, R229, R631). -/
structure RxCfg where
  max : Nat := 0                         -- MAX_FRAME
  keep : Bool := false                   -- RX_FCS_KEEP
  diagDel : Bool := false                -- DIAG_DELIVER applies
  diagAll : Bool := false
  sealEn : Bool := false
  sealCfg : Word := 0                    -- SEAL_PORT_CFG
  deriving DecidableEq, Repr

/-- A frame in the loft: its bytes, cells and references, and for a received frame its way through the passes. -/
structure Frame where
  port : Nat
  host : Bool := false
  bytes : List Byte                      -- without FCS
  fcs : List Byte := []
  length : Nat := 0                      -- as it ended on the wire (R770)
  banks : List Nat := []                 -- bank of each cell (R404)
  layout : List (Nat × Nat) := []        -- cells still holding the frame, in byte order, with how many bytes each holds
  refs : List (List Nat) := []           -- the cells that each reference holds (R410, R411)
  transit : Nat := 0                     -- cells charged to the transit account (R417)
  poison : List Nat := []                -- cells found uncorrectable (R434, R759)
  done : Bool := false                   -- its last beat has arrived
  fcsBad : Bool := false
  trunc : Bool := false
  tagFail : Bool := false
  stale : Bool := false
  diagDel : Bool := false                -- DIAG_DELIVER applies (R229)
  diagAll : Bool := false
  fcsKeep : Bool := false
  course : Nat := 0
  seq : Option Nat := none               -- sequence number (R335)
  stage : Stage := .fifo
  pass : Nat := 0
  gen : Option Nat := none               -- the generation it carries (R369, R370)
  colour : Nat := 0
  metered : Bool := false
  res : PassResult := {}
  path : Path := {}                      -- what is measured for its timestamp (R279)
  deskew : Nat := 0                      -- symbols that its carrying symbol spent in the deskew buffer (R125)
  life : Nat := 0                        -- the stay in DATA of its carrying lane in which it came (R155)
  arrived : Nat := 0                     -- the ridge clock cycle in which its first beat, or fragment, entered the MAC
  same : Bool := false                   -- its first beat came in the cycle of the frame before it (R47)
  beat : Nat := 0                        -- number of that cycle among those of the course (the model's own)
  ts : Nat := 0
  tsRaw : Int := 0
  acct : Option Nat := none              -- ingress account 8p + i charged
  use : Nat := 0                         -- cells charged to u
  head : Nat := 0                        -- cells charged to HEAD
  hostUse : Nat := 0
  pend : Option Pkt := none              -- the admitted reference, while it waits for the FCS check
  pendQ : Nat := 0                       -- its queue
  pendLeaf : Bool := false
  pendCopy : Option (Pkt × Bool × Nat) := none  -- an admitted mirror copy that waits with it, and its queue
  deriving DecidableEq, Repr

/-- A frame the MAC is sending (R45, R244). -/
structure TxCur where
  pkt : Pkt
  frag : Nat := 0                        -- bytes of frame data sent in earlier fragments
  count : Nat := 0                       -- fragment count of the next continuation (R244)
  ts : Int := 0                          -- predicted egress timestamp (R283), in units of 2^-48 ns
  lane : Nat := 0                        -- its carrying lane
  sym : Nat := 0                         -- and its carrying symbol
  one : Bool := false                    -- it has a one-step operation
  launch : Nat := 0                      -- the ridge clock cycle of its launch point
  gear : Nat := 0                        -- that of the gearbox write of its carrying symbol
  crossed : Bool := false                -- a CCLK divisor change fell between the two (R819)
  number : Option Nat := none            -- the frame number of its SMD, of a preemptable frame under preemption (R211)
  deriving DecidableEq, Repr

/-- What a received frame, or the first fragment of one, has with its first beat: the settings it is handled under, what
is measured of its path, its deskew depth, the stay in DATA of its carrying lane, and the cycle (R125, R223, R277). -/
structure RxFirst where
  cfg : RxCfg := {}
  path : Path := {}
  deskew : Nat := 0
  life : Nat := 0
  cycle : Nat := 0
  deriving DecidableEq, Repr

/-- A preemptable frame being reassembled (R248). -/
structure RxOpen where
  bytes : List Byte
  frame : Nat := 0                       -- its frame number
  next : Nat                             -- fragment count expected next
  frags : Nat
  bad : Bool := false                    -- an error control character or errored FEC data so far (R206, R219)
  err : Bool := false
  parity : List Nat := []                -- bytes of the frame in which parity errors show (R753)
  first : RxFirst := {}                  -- of its first fragment
  deriving DecidableEq, Repr

/-- The MAC of one port. Pause ends are in tenths of a ridge clock cycle, so that a quantum of every rate is exact
(R233). -/
structure MacPort where
  txBuf : List Pkt := []                 -- selected frames not yet started on the wire
  cur : Option TxCur := none
  held : Option TxCur := none            -- a preempted frame
  inFlight : Nat := 0                    -- R451
  inFlightPre : Nat := 0
  pauseEnd : Option Nat := none          -- R232
  pfcEnd : Store Nat := []               -- by priority
  fcDue : List (Nat × Bool) := []        -- priorities (8: PAUSE) whose frame is due; true: asserting
  fcSent : Store Nat := []               -- start of the last asserting frame, by priority (8: PAUSE)
  fcRelease : List Nat := []             -- what the releasing frame of a re-thatch names (R437)
  lastTx : List Byte := []               -- the last frame sent whole, with its FCS
  lastCtl : List Byte := []              -- the last frame the MAC sent of its own, with its FCS
  wire : List Byte := []                 -- the last frame, fragment or packet on the wire, from its preamble on
  wireErr : Bool := false                -- it was ended with an error control character (R203, R216)
  frameNo : Nat := 0                     -- frame number of the next preemptable frame (Clause 99)
  verifyDue : Bool := false              -- a verify packet waits for the express path (R240)
  respondDue : Bool := false             -- a respond packet waits
  finishing : Bool := false              -- EN was written 0 with a preemptable frame in progress (R247)
  loopQ : List (RxFrame ⊕ Fragment) := []  -- what was sent and not yet received in a near-end loopback (R128)
  /-- MSG_SEQ of the next live pitch message (R158). DESIGN CHOICE (log 77): that of the first one is 0. -/
  lpmSeq : Nat := 0
  lpmLast : Option Nat := none           -- start of the last message
  lpmDue : Bool := false
  rxOpen : Option RxOpen := none
  verifyTries : Nat := 0
  verifyEnd : Option Nat := none
  pace : Int := 0                        -- pacing credit, units of 2^-32 B (R452)
  paceAt : Nat := 0                      -- tick of five ridge cycles up to which it has been refilled
  paceWait : Bool := false               -- it has been negative and PACING_ELIGIBLE has not come
  altTx : Nat := 0                       -- next course of the egress alternation, 0 even (R40)
  nextSeq : Nat := 0                     -- next sequence number dealt (R335)
  oldest : Nat := 0                      -- oldest unreleased sequence number (R336)
  released : List Nat := []              -- positions marked released by a discard (R337)
  fecCw : Nat := 0                       -- codewords of the window (R209)
  fecSym : Nat := 0
  deriving DecidableEq, Repr

/-- One course's queues. -/
structure CourseSt where
  fifo : List Nat := []                  -- frames waiting for their first pass, oldest first
  recirc : List Nat := []                -- recirculation queue (R397)
  dec : List Nat := []                   -- frames whose admission decision is due, in order
  lastBank : Nat := 63                   -- bank last used by the allocator for this course (R406)
  lastPort : Nat := 3                    -- port selected last, as 4c + k (R454)
  stalled : Option Nat := none           -- the frame that stalls the parse pipeline (R338)
  stallAt : Nat := 0
  deriving DecidableEq, Repr

/-- A vector's moderation timer: the 250 ns tick at which it expires, and whether it expired while ACTIVE (R655). -/
structure VecTimer where
  tick : Option Nat := none
  expired : Bool := false
  deriving DecidableEq, Repr

/-- A response of the control port. -/
structure CtResp where
  err : Bool
  data : Word
  deriving DecidableEq, Repr
/-- The time unit (R252): seconds, and the sub-second part in units of 2^-48 ns. -/
structure BlockTime where
  sec : Nat := 0
  sub : Nat := 0
  deriving DecidableEq, Repr

/-- The time unit's working state beside the TIME registers. `now`-valued fields are ridge clock cycles. -/
structure TimeUnit where
  t : BlockTime := {}
  started : Bool := false                -- it counts from the first ridge PLL lock on (R256)
  locked : Bool := false                 -- the ridge PLL is locked
  coarse : BlockTime := {}               -- the counter at the last refclk_a_i edge (R300)
  addend : Nat := 0x333333333333         -- in force (R262)
  addends : List (Nat × Nat) := []       -- writes taken: the edge of R262 and the value
  load : Option Nat := none              -- the edge at which a SET_NOW or STEP_NOW applies (R258)
  slew : Option (Nat × Int) := none      -- first edge, and what remains in units of 2^-32 ns (R261)
  ppsIn : Option Nat := none             -- the last captured edge (R266)
  ppsMissed : Bool := false              -- PPS_IN_MISS has set for the present gap (R269)
  ppsCapH : Nat := 0                     -- captured seconds not yet latched (R268)
  ppsDue : Nat := 0                      -- boundaries passed by counting whose edges are still to come (R271)
  ppsOut : Bool := false                 -- the level of pps_o
  ppsFall : Option Nat := none
  rclkClear : Store Nat := []            -- by output: since when every condition of R274 has been clear
  deriving DecidableEq, Repr

/-- The taps of R72 other than c0. -/
structure Taps where
  m3 : Int
  m2 : Int
  m1 : Int
  p1 : Int
  deriving DecidableEq, Repr

/-- Where the block's own search stands (the pseudocode before R109). -/
inductive SearchPhase where
  | idle | presetReq | presetMeas | tapReq | tapMeas | undoReq | undoMeas
  deriving DecidableEq, Repr

/-- The block's own training search. Pitch figures are held as sums over 128 frames. -/
structure Search where
  presets : List Nat := []               -- the current preset and those still to try
  tap : Nat := 0                         -- position in the order c-1, c+1, c-2, c-3
  dec : Bool := false
  improved : Bool := false
  best : Nat := 0
  phase : SearchPhase := .idle
  count : Nat := 0                       -- blocks since the acknowledging frame
  sum : Nat := 0
  roundDone : Bool := false              -- a round of the current preset has ended without improvement
  deriving DecidableEq, Repr

/-- A transmit step of R152, or an acknowledgement that makes none (R169). `ack` is the record it answers: its
sequence number, TAP_ACK and TAP_STATUS. -/
structure TxStep where
  taps : Taps
  change : Bool
  apply : Nat                            -- apply symbol
  acked : Bool                           -- the time unit has acknowledged the report (R153)
  ack : Option (Nat × Nat × Nat) := none
  req : Option Nat := none               -- the partner's request it answers, as its record
  drv : Bool := false                    -- a driver write (R119, R178)
  deriving DecidableEq, Repr

/-- A receive step of R144: the new settings as the words of LANE_RX_EQ (CTLE and DFE), LANE_RX_RC and the four FFE
registers. -/
structure RxStep where
  ctle : Nat
  dfe : Nat
  rc : Word
  ffe : List Word
  apply : Nat
  acked : Bool
  hold : Bool := false                   -- it takes CTLE_SET (R181)
  deriving DecidableEq, Repr

/-- A lane's working state beside its registers. -/
structure Lane where
  startAt : Nat := 0                     -- origin of the training timeout (R92)
  failAt : Nat := 0
  frameAt : Nat := 0                     -- start of the training frame being sent
  frame : Option (Nat × Nat) := none     -- its control and status fields (R95)
  good : Nat := 0                        -- good frames in a row at expected positions, at most 3 (R99)
  bad : Nat := 0                         -- expected frames in a row that were not good, at most 4
  fell : Bool := false                   -- PARTNER_READY has fallen during the countdown (R113)
  ctl : Nat := 0                         -- control field sent (R101)
  reqOut : Bool := false                 -- a training request awaits its acknowledgement
  reqAt : Nat := 0
  ackSeq : Nat := 0                      -- status field sent (R102)
  tapAck : Nat := 7
  tapStat : Nat := 0
  partnerAck : Nat := 0                  -- ACK_SEQ last received
  pendReq : Option (Nat × Nat) := none   -- the partner's new request and the cycle it was decoded in
  pendEnd : Bool := false                -- it came while the lane was in ENDING (R108)
  sentOne : Bool := false                -- the frame with END_COUNT 1 has been sent
  rcvdOne : Bool := false
  oneAt : Nat := 0
  search : Search := {}
  readyRun : Nat := 0                    -- frames in a row at or above READY_PF, at most 1,024
  pf : List (Nat × Bool) := []           -- last block values, newest first; true: a receive step applied in it
  stepped : Bool := false                -- a receive step has applied in the block in progress
  dataAt : Nat := 0                      -- entry into DATA
  rxIv : Nat := 0                        -- update intervals begun since then
  txIv : Nat := 0
  ctleIv : Option Nat := none            -- interval of the last CTLE change (R145)
  rxOld : List (Nat × Int) := []         -- apply symbols passed, latest first, and the total D_rx before each (R154)
  txOld : List (Nat × Int) := []         -- the same for D_tx
  life : Nat := 0                        -- how many stays in DATA have ended
  rxPast : Store (Int × List (Nat × Int)) := []  -- of those, the total D_rx at their end and the history (R154, R155)
  rxStep : Option RxStep := none
  txStep : Option TxStep := none
  txDriver : Option Taps := none         -- a driver or fixed-mode write taken (R119, R178)
  txReq : Option Nat := none             -- the partner's live request taken (R169)
  txRetry : Option Nat := none           -- a request whose step was deferred, to be reported again (R153, R170)
  ctleDue : Bool := false                -- a CTLE_HOLD step is due (R181)
  quietTx : Bool := false                -- in effect (R177)
  quietRx : Bool := false
  liveSeq : Nat := 0                     -- the block's live request (R160)
  liveSel : Nat := 0
  liveReq : Nat := 0
  liveOut : Bool := false
  liveFirst : Option Nat := none         -- start of the message that first carried it
  liveAck : Nat := 0                     -- acknowledgement to the partner
  liveTapAck : Nat := 7
  liveStat : Nat := 0
  ackSent : Nat := 0                     -- ACK_SEQ in the last message sent (R169)
  partnerLiveAck : Nat := 0
  trialAt : Nat := 0                     -- start of the last trial
  cand : Nat := 0                        -- next candidate of R174
  trial : Nat := 0                       -- 0 none, 1 request out, 2 measuring, 3 undo out
  base : Nat × Nat := (0, 0)             -- baseline sum and its blocks
  meas : Nat × Nat × Nat := (0, 0, 0)    -- blocks since the acknowledgement, sum and blocks counted
  oneStep : List Nat := []               -- timestamp points of the one-step frames predicted on the lane (R285)
  echo : List Byte := []                 -- received frame re-sent in far-end loopback, from its start byte (R129)
  echoSyms : List Nat := []              -- received training frame's symbols re-sent there
  echoAt : Nat := 0                      -- when the re-sending starts
  deriving DecidableEq, Repr

/-- A wake source that has fired (R705): its code, port and pattern. -/
structure WakeSrc where
  code : Nat
  port : Nat := 0
  pattern : Nat := 0
  deriving DecidableEq, Repr

/-- The steps of a SLEEP entry (R702). -/
inductive SleepStep where
  | draining    -- steps 1 and 2: the abort window of R703
  | committed   -- step 3: the commit completion is issued
  | answered    -- its write response has returned
  | settling    -- step 5: the domains are down; the handshake of the retention level is under way
  | asleep      -- step 5 has ended
  | waking      -- R706 step 1, until the handshake has completed
  | locking     -- R706 step 2, until the ridge PLL locks
  deriving DecidableEq, Repr

/-- A SLEEP entry and its latched wake source (R704). -/
structure SleepEntry where
  step : SleepStep
  opp : Nat                              -- operating point taken on wake
  pads : Nat := 0                        -- POWER_PAD.HELD before step 2
  latched : Option WakeSrc := none
  since : Nat := 0                       -- end of step 5, for the wake timer
  deriving DecidableEq, Repr

/-- What an operating point change waits for (R694). -/
inductive OppStep where
  | ack       -- the handshake of R693
  | divisor   -- the divisor change, with no held one-step span
  deriving DecidableEq, Repr

/-- An operating point change in progress. -/
structure OppChange where
  target : Nat                           -- POWER_STAT.OPP code
  former : Nat                           -- volt_req_o before
  raising : Bool
  step : OppStep
  cmd : Bool                             -- a command caused it
  boot : Bool := false                   -- the OPPOINT record of an image caused it (R740)
  start : Nat := 0                       -- start of the handshake
  deriving DecidableEq, Repr

/-- A DOZE command in progress (R684). -/
structure DozeEntry where
  left : List Nat                        -- domains named and not yet in DOZE
  since : Nat
  closed : Bool := false                  -- its 10 µs have passed
  deriving DecidableEq, Repr

/-- The power controller's working state beside the POWER registers. -/
structure PowerUnit where
  voltReq : Nat := 4                     -- volt_req_o (R693)
  cclk : Nat := 4                        -- the CCLK divisor (R49)
  cclkAt : Nat := 0                      -- the CCLK edge from which that divisor holds
  change : Option OppChange := none
  ceiling : Option Nat := none           -- a governor ceiling still to be applied (R701)
  doze : Option DozeEntry := none
  waking : List Nat := []                -- domains waking from DOZE or powering up
  slept : List Nat := []                 -- of these, those that come back from SLEEP
  dozed : List (Nat × Nat) := []         -- domains that entered DOZE, and the MCLK cycle of the entry (R688)
  wakeAt : Nat := 0                      -- MCLK cycle in which the wake source last recorded fired (R705)
  sleepIn : Word := 0                    -- host_sleep_i as it is in effect (R669)
  sleep : Option SleepEntry := none
  surge : List Nat := []                 -- ridge cycles at SURGE in the last 99 buckets, newest first (R698)
  surgeCur : Nat := 0                    -- in the current bucket, up to surgeAt
  surgeAt : Nat := 0
  bucketAt : Nat := 0                    -- start of the current bucket
  ligResp : List Byte := []              -- the stored response (R716)
  ligOut : List Byte := []               -- what the block drove in its last slots
  ligLine : List Bool := []              -- the bits of the last frame as the line carried them (R715)
  irqHeld : Nat := 0                     -- irq_n_o as latched by the eaves hold
  fiqHeld : Nat := 0
  wakeHeld : Word := 0
  deriving DecidableEq, Repr

/-- A read transaction of the boot engine's own on the flash port (R721, R722): its opcode and address bytes as sent, the
dummy cycles, the bytes read, and the clock divisor. -/
structure FlashRead where
  sent : List Byte
  dummy : Nat
  len : Nat
  div : Nat
  deriving DecidableEq, Repr

/-- A LOAD in progress (R733). -/
structure BootLoad where
  copy : Nat                             -- 1 A, 2 B
  div : Nat := 1                         -- CLK_DIV and DUMMY of its header (R725)
  dummy : Nat := 1
  got : Nat := 64                        -- image offset of the next byte to be read from the flash
  full : Bool := false                   -- the buffer has filled, and the read has ended (R737)
  next : List (Nat × List Byte)          -- copies still to try, with their headers
  len : Nat
  crc : Nat                              -- the header's CRC
  strict : Bool
  off : Nat := 64                        -- image offset of the next byte
  run : Nat := 0xFFFFFFFF                -- CRC-32C of the bytes read
  ty : Nat := 0                          -- open record
  left : Nat := 0                        -- its items still to come
  delay : Option Nat := none             -- end of a DELAY item's pause
  opp : Option Nat := none
  saved : Store Word := []               -- GEN and POWER registers as LOAD began (R734)
  fence : Word := 0
  deriving DecidableEq, Repr

/-- The boot engine's working state beside the BOOT registers. -/
structure BootUnit where
  asserted : Bool := false               -- the cold reset is asserted
  xspiRst : Bool := false                -- xspi_rst_n_o is high
  xspiAt : Nat := 0
  mode : Nat := 0                        -- xspi_mode_i as sampled
  trim : BitVec 40 := 0                  -- ts_trim_i as sampled (R783, R806)
  warm : Bool := false                   -- a re-thatch is running
  reselect : Bool := true                -- SELECT applies R732
  load : Option BootLoad := none
  releasing : Bool := false              -- boot release waits for its operating point (R740)
  flash : List FlashRead := []           -- the engine's own reads since SELECT last began, oldest first
  xspiBusy : Bool := false
  xspiOut : List Byte := []              -- the last window transaction as driven on the pins
  rethatchWait : Bool := false           -- a request waits for HOSTIF or for the flash window (R743)
  wasRun : List Nat := []                 -- ports in RUN when the re-thatch cleared the block (R230)
  mbist : Bool := false                  -- memory self-test runs (R815)
  mbistDone : Bool := false
  mbistFail : Bool := false
  deriving DecidableEq, Repr

/-- A frame outstanding on a path of the seal port (R623): what the request carried, and what has come back. -/
structure SealOut where
  chan : Nat
  fid : Nat
  port : Nat
  bypass : Bool := false
  hdr : Nat := 0                         -- bytes that the engine adds before and after the input
  trl : Nat := 0
  slot : Nat := 0
  gen : Nat := 0
  input : List Byte
  abort : Bool := false
  tx : Option TxCur := none              -- the frame, on a transmit path, until the MAC has done with it
  rx : Option Frame := none              -- the frame, on a receive path
  susp : List Nat := []                  -- input offsets at which request segments ended with `susp` (R634)
  paused : Bool := false                 -- suspended, and its `resume` segment not yet presented
  back : Nat := 0                        -- response segments that have returned
  released : Nat := 0                    -- of these, released to MAC framing (R630)
  out : List Byte := []                  -- output bytes returned
  status : Nat := 0                      -- first status other than OK
  cut : Option Nat := none               -- the output byte at which the frame is first found poisoned (R216)
  ended : Bool := false                  -- its `eof` response beat has come
  times : List Nat := []                 -- cycles in which its request segments were presented, in order
  nums : List Nat := []                  -- and their numbers among those of all transmit paths
  ends : List Nat := []                  -- output offsets at which its returned response segments ended
  deriving DecidableEq, Repr

/-- The seal port's working state (R629, R631, R640, R641). -/
structure SealUnit where
  tx : List SealOut := []
  rx : List SealOut := []
  segs : Nat := 0                        -- number of the next request segment on a transmit path (the model's own)
  fids : Store Nat := []                 -- next identifier by path: 2 * channel, plus 1 for receive
  enNext : Option Bool := none           -- a write of EN that has not taken effect
  sweep : List Nat := []                 -- ports that the sweep covers
  sweepAt : Nat := 0                     -- the cycle in which it started
  binds : Store Nat := []                -- bindings of leaves as SEAL_BIND_DATA
  deriving DecidableEq, Repr


/-- The machine: the registers, the work under way in each unit, and the commands that wait. -/
structure State where
  /-- commands waiting, first in first out -/
  pending : List Instr := []
  /-- every register that differs from its Reset value, by `rkey` -/
  regs : Store Word := []
  /-- read latches of 64-bit registers (R22) -/
  latch : Store Word := []
  /-- staging latches of 64-bit registers (R24) -/
  staged : Store Word := []
  /-- the control port's last response -/
  ctResp : Option CtResp := none
  /-- the responses that the last command at the control port returns, in the order of their accesses (R787) -/
  ctOut : List CtResp := []
  /-- the offset of the access served last, and the MCLK cycle it was served in (R688) -/
  ctLast : Option (Nat × Nat) := none
  /-- the access that stalls for a waking domain (R60) -/
  ctStall : Option Access := none
  /-- accesses held back behind it, in order (R61) -/
  ctQueue : List Access := []
  /-- ridge clock cycles passed -/
  now : Nat := 0
  /-- how many free values have been drawn (the model's own) -/
  free : Nat := 0
  /-- next fresh frame or delivery number (the model's own) -/
  nextId : Nat := 1
  -- rafter ports
  rafterQ : List RafterReq := []
  outst : List Outstanding := []
  /-- the last request that each port has presented (R576 to R590) -/
  rftPins : Store RafterPins := []
  rftAt : Store Nat := []                -- the rclk_i cycle in which each port presented it (R599)
  /-- requester taken last, in the order of R600, by 4 * port + level -/
  rrLast : Store Nat := []
  rclk : Nat := 0
  chans : Store DmaChan := []
  -- rings
  txrs : Store TxRing := []
  rxrs : Store RxRing := []
  cqs : Store CqCtx := []
  -- admin
  adminFifo : List (List Byte) := []
  adminReadPtr : Nat := 0
  faultAt : Option Nat := none           -- the MCLK cycle of the last entry into fail-stop (R762)
  adminStalled : Bool := false           -- R545, R574: the front command stalls for a domain
  adminCur : Option AdminCur := none
  adminDue : List AdminCompl := []
  lops : Store Lop := []
  lopSeq : Nat := 0
  -- loft
  frames : Store Frame := []
  bankUse : Store Nat := []
  moverBank : Store Nat := []
  /-- shared cells freed in the CCLK cycle of the last admission decision, or since (R426) -/
  freed : Nat := 0
  /-- the course of that decision (R426) -/
  lastDec : Nat := 0
  /-- PORT_FC_TX_STAT of each port as that cycle began (R428) -/
  fcThen : Option (List Word) := none
  -- scheduler
  leaves : Store Node := []
  clients : Store Node := []
  groups : Store Node := []
  /-- active lists of R447, by parent and PRIO (`listKey`) -/
  active : Store (List Nat) := []
  /-- leaves and clients whose eligibility has not reached the port stage (R456): level, number, and the cycle from which
  they can be chosen -/
  rising : List (Nat × Nat × Nat) := []
  /-- how many nodes have been created (the model's own) -/
  births : Nat := 0
  /-- deficits and turns of groups under their class are in `groups`; meters by number -/
  meters : Store Meter := []
  -- queue watch
  qwNext : Nat := 0
  qwOut : Nat := 0
  qwLen : Nat := 0
  qwRound : Nat := 0
  qwFail : Bool := false
  -- tables
  tables : Store Entry := []
  genAt : Nat := 0
  editQ : List Nat := []
  -- courses and ports
  courses : Store CourseSt := []
  macs : Store MacPort := []
  -- time and lanes
  time : TimeUnit := {}
  lanes : Store Lane := []
  -- power and boot
  power : PowerUnit := {}
  bootU : BootUnit := {}
  -- seal port
  sealU : SealUnit := {}
  -- interrupt controller
  vecTimers : Store VecTimer := []
  deferred : List Nat := []
  deriving DecidableEq, Repr

/-- Why the machine stops with a fault. -/
inductive Fault where
  /-- Raised by no command: every command the manual lists has an effect in every state. -/
  | none
  deriving DecidableEq, Repr

/-- Why a command has no meaning. -/
inductive Refusal where
  /-- Raised by `exec` for a command not modelled; safe: nothing is claimed of it. -/
  | notModelled (mnemonic : String)
  deriving DecidableEq, Repr

/-- The machine right after reset: the cold reset has just been released with every strap at 0, so that the boot engine
is in INIT (R736, R817), every register holds its Reset value (R25) and no work is under way. -/
def State.reset : State := {}

end Sys2Proof.Machine
end

