-- ==== Sys2Proof/Machine/Ops.lean ====
section
/-! DEFINITION. The named operations over registers that every unit uses: where a register lives, its Reset value,
reading and setting its fields, counters (R20, R21) and event bits. -/

namespace Sys2Proof.Machine

/-- The key of instance `i` of a register in `State.regs`. -/
def rkey (id : RegId) (i : Nat) : Nat := i * 512 + id.ctorIdx

/-- The Reset value a list of field rows gives. -/
def fieldsReset (fs : List FieldDesc) : Nat := fs.foldl (fun a f => a + f.reset * 2 ^ f.lo) 0

/-- R25: the Reset value of instance `i` of a register. INTC_SRC_s.VECTOR resets to s for s below 4,096. -/
def RegId.resetAt (id : RegId) (i : Nat) : Word :=
  match id with
  | .INTC_SRC => if i < 4096 then BitVec.ofNat 64 (i * 16) else 0
  | _ => BitVec.ofNat 64 (fieldsReset id.desc.fields)

/-- The value a register's storage holds. -/
def State.rget (s : State) (id : RegId) (i : Nat) : Word := Store.get (id.resetAt i) s.regs (rkey id i)

/-- Sets the value of a register's storage. -/
def State.rset (s : State) (id : RegId) (i : Nat) (v : Word) : State :=
  { s with regs := Store.set (id.resetAt i) s.regs (rkey id i) v }

/-- The value of a field of a word. -/
def Field.get (f : Field) (v : Word) : Nat := (v.toNat >>> f.lo) % 2 ^ f.w

/-- A word with one field replaced by `n` modulo its width. -/
def Field.put (f : Field) (v : Word) (n : Nat) : Word :=
  let m : Nat := (2 ^ f.w - 1) <<< f.lo
  (v &&& ~~~ (BitVec.ofNat 64 m)) ||| BitVec.ofNat 64 ((n % 2 ^ f.w) <<< f.lo)

/-- The value of a register's field. -/
def State.fget (s : State) (id : RegId) (i : Nat) (f : Field) : Nat := f.get (s.rget id i)

/-- Whether a one-bit field reads 1. -/
def State.fbit (s : State) (id : RegId) (i : Nat) (f : Field) : Bool := s.fget id i f != 0

/-- Sets a register's field. -/
def State.fset (s : State) (id : RegId) (i : Nat) (f : Field) (n : Nat) : State :=
  s.rset id i (f.put (s.rget id i) n)

/-- Sets a one-bit field from a Boolean. -/
def State.fsetB (s : State) (id : RegId) (i : Nat) (f : Field) (b : Bool) : State := s.fset id i f b.toNat

/-- Sets a one-bit field. -/
def State.flag (s : State) (id : RegId) (i : Nat) (f : Field) : State := s.fset id i f 1

/-- Returns a register to its Reset value. -/
def State.rreset (s : State) (id : RegId) (i : Nat) : State := s.rset id i (id.resetAt i)

/-- R21: adds to a counter that stops at its maximum. -/
def State.satAdd (s : State) (id : RegId) (i : Nat) (f : Field) (n : Nat) : State :=
  s.fset id i f (min (2 ^ f.w - 1) (s.fget id i f + n))

/-- R21: adds one to a counter that stops at its maximum. -/
def State.count (s : State) (id : RegId) (i : Nat) (f : Field) : State := s.satAdd id i f 1

/-- Adds to a counter that wraps. -/
def State.wrapAdd (s : State) (id : RegId) (i : Nat) (f : Field) (n : Nat) : State :=
  s.fset id i f (s.fget id i f + n)

/-- The listed instances of a register: those that differ from their Reset values, with their values. -/
def State.listed (s : State) (id : RegId) : List (Nat × Word) :=
  s.regs.filterMap (fun e => if e.1 % 512 = id.ctorIdx then some (e.1 / 512, e.2) else none)

/-- Whether any event bit of a register is set with its enable bit. -/
def State.eventOn (s : State) (evt en : RegId) (i : Nat) : Bool :=
  (s.rget evt i &&& s.rget en i) != 0

/-- The n-th bit of a word. -/
def bitOf (v n : Nat) : Bool := v.testBit n

/-- A number of `w` bits read as two's complement. -/
def toSigned (w v : Nat) : Int := if 2 ^ (w - 1) ≤ v % 2 ^ w then (v % 2 ^ w : Nat) - (2 ^ w : Nat) else (v % 2 ^ w : Nat)

/-- An integer as `w` bits of two's complement. -/
def ofSigned (w : Nat) (v : Int) : Nat := (v % (2 ^ w : Nat)).toNat

/-- Runs an operation for each element of a list, in order. -/
def State.forEach {α : Type} (s : State) (l : List α) (f : State → α → State) : State := l.foldl f s

/-- A fresh value for an open point of the manual: nothing constrains it. -/
def State.draw (s : State) (k : Nat) : Nat × State := (Config.freeValue k s.free, { s with free := s.free + 1 })

/-- Ridge clock cycles in a microsecond and a millisecond (R48). -/
def usCycles : Nat := 5000
def msCycles : Nat := 5000000

/-- R763: the block is in fail-stop. -/
def State.failed (s : State) : Bool := s.fbit .GEN_FAULT_STAT 0 fGEN_FAULT_STAT_ACTIVE

/-- R677: the power domains by number. -/
def dAON : Nat := 0
def dWATCH : Nat := 1
def dQUAD (q : Nat) : Nat := 2 + q
def dCOURSE (c : Nat) : Nat := 6 + c
def dLOFT : Nat := 10
def dTABLE : Nat := 11
def dSCHED : Nat := 12
def dHOSTIF : Nat := 13
def dTIME : Nat := 14

/-- R678: a domain's state: 0 RUN, 1 DOZE, 2 SLEEP, 3 OFF. -/
def State.dom (s : State) (d : Nat) : Nat := s.fget .POWER_DOM_STAT 0 (fPOWER_DOM_STAT_STATE d)

/-- R687: POWER_READY bit d. -/
def State.ready (s : State) (d : Nat) : Bool := bitOf (s.fget .POWER_READY 0 fPOWER_READY_READY) d

/-- R687: domain d is in RUN and ready. -/
def State.up (s : State) (d : Nat) : Bool := s.dom d == 0 && s.ready d

/-- R48, R49: the MCLK cycle: 16 ridge clock cycles. -/
def State.mclk (s : State) : Nat := s.now / 16

/-- R49: the CCLK cycle, by the ridge clock cycle in which it began. -/
def State.cclkStart (s : State) : Nat :=
  s.power.cclkAt + (s.now - s.power.cclkAt) / s.power.cclk * s.power.cclk

/-- R708: a pad group is held. -/
def State.padHeld (s : State) (g : Nat) : Bool := bitOf (s.fget .POWER_PAD 0 fPOWER_PAD_HELD) g

/-- R736: BOOT_STAT.STATE. -/
def State.boot (s : State) : Nat := s.fget .BOOT_STAT 0 fBOOT_STAT_STATE
def bINIT : Nat := 0
def bSELECT : Nat := 1
def bLOAD : Nat := 2
def bCLEAR : Nat := 3
def bRUNNING : Nat := 4
def bSAFE : Nat := 5
def bQUIESCE : Nat := 6

/-- A lane's and a port's working state. -/
def State.lane (s : State) (n : Nat) : Lane := Store.get {} s.lanes n
def State.setLane (s : State) (n : Nat) (l : Lane) : State := { s with lanes := Store.set {} s.lanes n l }
def State.modLane (s : State) (n : Nat) (f : Lane → Lane) : State := s.setLane n (f (s.lane n))
def State.mac (s : State) (p : Nat) : MacPort := Store.get {} s.macs p
def State.setMac (s : State) (p : Nat) (m : MacPort) : State := { s with macs := Store.set {} s.macs p m }
def State.modMac (s : State) (p : Nat) (f : MacPort → MacPort) : State := s.setMac p (f (s.mac p))
def State.course (s : State) (c : Nat) : CourseSt := Store.get {} s.courses c
def State.setCourse (s : State) (c : Nat) (x : CourseSt) : State := { s with courses := Store.set {} s.courses c x }

/-- LANE_STAT.STATE and its values (R84). -/
def State.laneState (s : State) (n : Nat) : Nat := s.fget .LANE_STAT n fLANE_STAT_STATE
def lOFF : Nat := 0
def lPLL : Nat := 1
def lBLIND : Nat := 2
def lTRAIN : Nat := 3
def lENDING : Nat := 4
def lDATA : Nat := 5
def lFAIL : Nat := 6

/-- PORT_LINK_STAT.LINK_STATE is UP (R121). -/
def State.portUp (s : State) (p : Nat) : Bool := s.fget .PORT_LINK_STAT p fPORT_LINK_STAT_LINK_STATE == 3

/-- The address of instance `i` of a register, its indices in one number, innermost last. -/
def addrIn : List (Nat × Nat) → Nat → Nat
  | [], _ => 0
  | (stride, count) :: t, i =>
    let inner := t.foldl (fun a d => a * d.2) 1
    ((i / inner) % count) * stride + addrIn t (i % inner)

/-- The control-space offset of instance `i` of a register (R57). -/
def addrOf (id : RegId) (i : Nat) : Nat := id.desc.base + addrIn id.desc.dims i

/-- R29: the bits [3:0] of GEN_ACC_ERR. -/
def State.accBits (s : State) : Nat := (s.rget .GEN_ACC_ERR 0).toNat % 16

/-- R29: an operation at an offset, with FIRST_OFF taking the offset if the operation sets a bit while all were
zero. -/
def State.tracked (s : State) (off : Nat) (s' : State) : State :=
  if s.accBits = 0 && s'.accBits != 0 then s'.fset .GEN_ACC_ERR 0 fGEN_ACC_ERR_FIRST_OFF off else s'

/-- The index at which an offset lies among a register's instances, and what is left of the offset. -/
def indexIn : List (Nat × Nat) → Nat → Option (Nat × Nat)
  | [], rem => some (0, rem)
  | (stride, count) :: t, rem =>
    if rem / stride < count then
      (indexIn t (rem % stride)).map (fun r => (rem / stride * t.foldl (fun a d => a * d.2) 1 + r.1, r.2))
    else none

/-- The register and instance that lie at an offset, if a register table names one there (R58). -/
def regAtIn : List RegId → Nat → Option (RegId × Nat)
  | [], _ => none
  | id :: t, off =>
    if id.desc.base ≤ off then
      match indexIn id.desc.dims (off - id.desc.base) with
      | some (i, 0) => some (id, i)
      | _ => regAtIn t off
    else none

/-- R58: the register at an offset. -/
def regAt (off : Nat) : Option (RegId × Nat) := regAtIn regIds off

end Sys2Proof.Machine
end

