-- ==== Sys2Proof/Machine/Line.lean ====
section
/-! DEFINITION. What a lane sends and receives, symbol by symbol: levels and Gray coding (R71), inversions (R75), the
training frame with its fields, check field and pattern (R95 to R98), and the reading of a received frame (R99). -/

namespace Sys2Proof.Machine

/-- R71: the PAM4 level of a bit pair, the first bit sent first (Gray coding: 00, 01, 11, 10 are levels 0 to 3). -/
def grayLevel : Bool → Bool → Nat
  | false, false => 0 | false, true => 1 | true, true => 2 | true, false => 3

/-- R71: the levels of a bit stream: pairs on a PAM4 lane; on an NRZ lane each bit is level 3 (high) or 0 (low). -/
def levels (pam4 : Bool) : List Bool → List Nat
  | a :: b :: t => if pam4 then grayLevel a b :: levels pam4 t
      else (if a then 3 else 0) :: (if b then 3 else 0) :: levels pam4 t
  | [a] => if pam4 then [grayLevel a false] else [if a then 3 else 0]
  | [] => []

/-- R75: an inversion exchanges level 0 with 3 and 1 with 2. -/
def inverted (inv : Bool) (l : List Nat) : List Nat := if inv then l.map (3 - ·) else l

/-- The bits of a field of `w` bits, the most significant first. -/
def fieldBits (w v : Nat) : List Bool := (List.range w).map (fun i => v.testBit (w - 1 - i))

/-- The number that bits spell, the most significant first. -/
def bitsNat (l : List Bool) : Nat := l.foldl (fun a b => 2 * a + b.toNat) 0

/-- R97: CRC-8 with generator x^8 + x^2 + x + 1 and initial value 0, over bits in sending order. -/
def crc8 (l : List Bool) : Nat :=
  l.foldl (fun c b => if (decide (128 ≤ c)) != b then c * 2 % 256 ^^^ 7 else c * 2 % 256) 0

/-- R96: a bit of a field as eight symbols. -/
def bitSymbols (b : Bool) : List Nat :=
  if b then [3, 3, 3, 3, 0, 0, 0, 0] else [0, 0, 0, 0, 3, 3, 3, 3]

/-- R95: the marker. -/
def marker : List Nat := List.replicate 32 3 ++ List.replicate 32 0

/-- R95 to R97: the 384 symbols before the pattern: marker, control field, status field and check field. -/
def frameHead (control status : Nat) : List Nat :=
  let b := fieldBits 16 control ++ fieldBits 16 status
  marker ++ (b ++ fieldBits 8 (crc8 b)).flatMap bitSymbols

/-- R98: `n` bits of PRBS13, polynomial x^13 + x^12 + x^2 + x + 1, from a state. PRESUMED (log 76): bit 12 of the state
is sent first, and the sum of bits 12, 11, 1 and 0 enters at bit 0. -/
def prbs13 : Nat → Nat → List Bool
  | 0, _ => []
  | n + 1, v =>
    let fb := ((v.testBit 12 != v.testBit 11) != (v.testBit 1 != v.testBit 0)).toNat
    v.testBit 12 :: prbs13 n (v * 2 % 2 ^ 13 + fb)

/-- R98: the 3,712 pattern symbols of lane n: PRBS13Q on PAM4, PRBS13 on NRZ, from the seed 0x1F00 + n. -/
def trainPattern (pam4 : Bool) (n : Nat) : List Nat :=
  levels pam4 (prbs13 (if pam4 then 2 * 3712 else 3712) (0x1F00 + n))

/-- R95: the 4,096 symbols of a training frame of lane n. -/
def trainSymbols (pam4 : Bool) (n control status : Nat) : List Nat :=
  frameHead control status ++ trainPattern pam4 n

/-- A field of 16 bits as received: the first symbol of each eight tells its bit. -/
def fieldAt (x : List Nat) (o : Nat) : Nat := bitsNat ((List.range 16).map (fun i => x.getD (o + 8 * i) 0 == 3))

/-- R99: the control and status fields of a received frame with a marker and a good check field. DEDUCED (log 76): a
good frame has every one of its first 384 symbols as R95 to R97 send it. -/
def readFrame (x : List Nat) : Option (Nat × Nat) :=
  let c := fieldAt x 64
  let st := fieldAt x 192
  if x.take 384 = frameHead c st then some (c, st) else none

end Sys2Proof.Machine
end

