-- ==== Sys2Proof/Machine/Crc.lean ====
section
/-! DEFINITION. Cyclic redundancy checks of reflected polynomials: the Ethernet FCS (CRC-32) and CRC-32C (R350). -/

namespace Sys2Proof.Machine

/-- One bit of a reflected CRC with polynomial `poly` (bit order reversed). -/
def crcBit (poly c : Nat) : Nat := if c % 2 = 1 then (c / 2) ^^^ poly else c / 2

/-- One byte. -/
def crcByte (poly c : Nat) (b : Byte) : Nat :=
  let c := c ^^^ b.toNat
  let c := crcBit poly (crcBit poly (crcBit poly (crcBit poly c)))
  crcBit poly (crcBit poly (crcBit poly (crcBit poly c)))

/-- The register after a string of bytes. -/
def crcRun (poly start : Nat) (l : List Byte) : Nat := l.foldl (crcByte poly) start

/-- The reversed polynomials of CRC-32 and CRC-32C. -/
def polyFcs : Nat := 0xEDB88320
def polyC : Nat := 0x82F63B78

/-- R350: CRC-32C with a given start value and final XOR 0xFFFF_FFFF. -/
def crc32c (start : Nat) (l : List Byte) : Nat := crcRun polyC start l ^^^ 0xFFFFFFFF

/-- The four FCS bytes of a frame, in the order in which they are sent. -/
def fcsOf (l : List Byte) : List Byte := leBytes 4 (crcRun polyFcs 0xFFFFFFFF l ^^^ 0xFFFFFFFF)

end Sys2Proof.Machine
end

