-- ==== Sys2Proof/Machine/PortMap.lean ====
section
/-! DEFINITION. The port map of R190 to R196: which lanes a port owns, its speed and rate, and the check of a
COURSE_PORT_MAP write; and what a port puts on its line. -/

namespace Sys2Proof.Machine

/-- OWNER_l of a port map word. -/
def mapOwner (w : Word) (l : Nat) : Nat := (w.toNat >>> (2 * l)) % 4
/-- USED bit l. -/
def mapUsed (w : Word) (l : Nat) : Bool := w.toNat.testBit (8 + l)
/-- SPEED_j. -/
def mapSpeed (w : Word) (j : Nat) : Nat := (w.toNat >>> (12 + 4 * j)) % 16
/-- PAIR. -/
def mapPair (w : Word) : Bool := w.toNat.testBit 28

/-- The lanes of course c's quad that port index j owns, as positions 0 to 3. -/
def mapLanes (w : Word) (j : Nat) : List Nat := (List.range 4).filter (fun l => mapUsed w l && mapOwner w l == j)

/-- COURSE_PORT_MAP of course c. -/
def State.portMap (s : State) (c : Nat) : Word := s.rget .COURSE_PORT_MAP c

/-- R194: the course whose map sets port p: a quad-pair port's even course, otherwise the port's own. -/
def State.paired (s : State) (c : Nat) : Bool := mapPair (s.portMap (c / 2 * 2))

/-- R37, R38, R194: the lanes of port p. -/
def State.portLanes (s : State) (p : Nat) : List Nat :=
  if s.paired (p / 4) then (if p % 8 == 0 then (List.range 8).map (p + ·) else [])
  else (mapLanes (s.portMap (p / 4)) (p % 4)).map (fun l => p / 4 * 4 + l)

/-- The SPEED code of port p. -/
def State.portSpeed (s : State) (p : Nat) : Nat :=
  if s.paired (p / 4) && p % 8 != 0 then 0 else mapSpeed (s.portMap (p / 4)) (p % 4)

/-- R38, R197, R691: a port is used while it owns lanes and its quads are not fenced. -/
def State.portUsed (s : State) (p : Nat) : Bool :=
  !(s.portLanes p).isEmpty && s.portSpeed p != 0 && (s.portLanes p).all (fun n => s.dom (dQUAD (n / 4)) != 3)

/-- The port that owns lane n, if any. -/
def State.laneOwner (s : State) (n : Nat) : Option Nat := (List.range 16).find? (fun p => (s.portLanes p).contains n)

/-- R191: data rate in Gb/s by SPEED. -/
def speedRate : Nat → Nat
  | 1 => 10 | 2 => 25 | 3 => 50 | 4 => 100 | 5 => 200 | 6 => 400 | 7 => 800 | 8 => 1600 | _ => 0

/-- R191: data rate of port p in Gb/s. -/
def State.portRate (s : State) (p : Nat) : Nat := speedRate (s.portSpeed p)

/-- R191: LANE_CTRL.RATE of a speed with a number of lanes; none: no row of the table. `pair`: a quad pair. -/
def widthRate (speed lanes : Nat) (pair : Bool) : Option Nat :=
  match speed, lanes, pair with
  | 1, 1, false => some 4
  | 2, 1, false => some 3
  | 3, 1, false => some 2
  | 4, 2, false => some 2
  | 4, 1, false => some 1
  | 5, 2, false => some 1
  | 5, 1, false => some 0
  | 6, 4, false => some 1
  | 6, 2, false => some 0
  | 7, 4, false => some 0
  | 7, 8, true => some 1
  | 8, 8, true => some 0
  | _, _, _ => none

/-- The lane rate that port p's width takes. -/
def State.portLaneRate (s : State) (p : Nat) : Option Nat :=
  widthRate (s.portSpeed p) (s.portLanes p).length (s.paired (p / 4))

/-- R199: widths that carry RS(544,514) FEC. -/
def State.portFec (s : State) (p : Nat) : Bool := decide (3 ≤ s.portSpeed p)

/-- R39: the port runs across both courses of its pair. -/
def State.sprayed (s : State) (p : Nat) : Bool := s.portSpeed p == 8

/-- R36, R41: the course that parses port p (for a sprayed port, the even course). -/
def portCourse (p : Nat) : Nat := p / 4

/-- R70: symbols per second of a lane rate, in kilobaud. -/
def rateKbd : Nat → Nat
  | 0 => 106250000 | 1 => 53125000 | 2 => 26562500 | 3 => 25781250 | _ => 10312500

/-- A lane's RATE field. -/
def State.laneRate (s : State) (n : Nat) : Nat := s.fget .LANE_CTRL n fLANE_CTRL_RATE

/-- The ridge clock cycles that `k` symbols of a rate last, rounded up. -/
def symCycles (rate k : Nat) : Nat := (k * 5000000 + rateKbd rate - 1) / rateKbd rate

/-- The time of `k` symbols of a rate in units of 2^-48 ns, to nearest. -/
def symTime (rate k : Nat) : Nat := (k * 1000000 * 2 ^ 48 + rateKbd rate / 2) / rateKbd rate

/-- R196 check 1: lanes whose owner or used bit changes, and lanes of ports whose speed changes, in either map. -/
def State.mapBusy (s : State) (c : Nat) (old new : Word) : Bool :=
  let quad := (List.range 4).any fun l =>
    let en := s.fbit .LANE_CTRL (4 * c + l) fLANE_CTRL_EN
    let moved := mapOwner old l != mapOwner new l || mapUsed old l != mapUsed new l
    let resped := (List.range 4).any fun j =>
      mapSpeed old j != mapSpeed new j &&
        ((mapUsed old l && mapOwner old l == j) || (mapUsed new l && mapOwner new l == j))
    en && (moved || resped)
  let other := (List.range 4).any (fun l => s.fbit .LANE_CTRL (4 * c + 4 + l) fLANE_CTRL_EN)
  quad || ((mapPair old || mapPair new) && c % 2 == 0 && mapSpeed old 0 != mapSpeed new 0 && other)

/-- R194: the shape a quad-pair map has. -/
def pairShape (w : Word) : Bool :=
  (mapSpeed w 0 == 7 || mapSpeed w 0 == 8) && (List.range 4).all (fun l => mapUsed w l && mapOwner w l == 0) &&
    mapSpeed w 1 == 0 && mapSpeed w 2 == 0 && mapSpeed w 3 == 0

/-- R196 check 2. A reserved SPEED code and a reserved PAIR are passed over. -/
def State.mapPairBad (s : State) (c : Nat) (new : Word) : Bool :=
  if c % 2 == 1 then s.paired c
  else if mapPair new then
    let sp0 := mapSpeed new 0
    let shape := (decide (8 < sp0) || sp0 == 7 || sp0 == 8) &&
      (List.range 4).all (fun l => mapUsed new l && mapOwner new l == 0) &&
      [1, 2, 3].all (fun j => decide (8 < mapSpeed new j) || mapSpeed new j == 0)
    !shape || s.portMap (c + 1) != 0
  else false

/-- R196 check 3, for one port index of a map that sets no pair. -/
def widthBad (w : Word) (j : Nat) : Bool :=
  let n := (mapLanes w j).length
  let sp := mapSpeed w j
  if 8 < sp then false
  else if sp == 0 then n != 0
  else (widthRate sp n false).isNone

/-- R192: a group of k lanes starting at a multiple of k. -/
def alignBad (w : Word) (j : Nat) : Bool :=
  let ls := mapLanes w j
  if 8 < mapSpeed w j || ls.isEmpty then false
  else
    let j0 := ls.headD 0
    !(ls.length == 1 || ls.length == 2 || ls.length == 4) || j0 % ls.length != 0 ||
      ls != (List.range ls.length).map (j0 + ·)

/-- R193: a quad with a 25G or 10G port carries ports of that speed only. -/
def familyBad (w : Word) : Bool :=
  let sps := ((List.range 4).map (mapSpeed w)).filter (fun x => x != 0 && decide (x ≤ 8))
  [1, 2].any (fun n => sps.contains n && sps.any (· != n))

/-- R196: the first failing check of a COURSE_PORT_MAP write, 0 for none. -/
def State.mapCause (s : State) (c : Nat) (new : Word) : Nat :=
  let old := s.portMap c
  let pair := mapPair new && c % 2 == 0
  if s.mapBusy c old new then 1
  else if s.mapPairBad c new then 2
  else if !pair && (List.range 4).any (widthBad new) then 3
  else if !pair && (List.range 4).any (alignBad new) then 4
  else if !pair && familyBad new then 5
  else if (List.range 4).any (fun j => decide (8 < mapSpeed new j)) || (mapPair new && c % 2 == 1) then 6
  else 0

/-- R197: adds one to a counter of port p, instance `i` of a register; an unused port counts nothing. -/
def State.portCount (s : State) (id : RegId) (p i : Nat) (f : Field) : State :=
  if s.portUsed p then s.count id i f else s

-- What a port puts on its line

/-- LANE_LOOP.MODE. -/
def State.loopMode (s : State) (n : Nat) : Nat := s.fget .LANE_LOOP n fLANE_LOOP_MODE

/-- Some lane of port p is in far-end loopback, so that the port's own frames do not reach it (R129). -/
def State.portFar (s : State) (p : Nat) : Bool := (s.portLanes p).any (fun n => s.loopMode n == 3)

/-- R211: the preamble and a start byte. -/
def preamble (start : Byte) : List Byte := List.replicate 7 0x55 ++ [start]

/-- The frame numbers and fragment counts of Clause 99: the start bytes of a first fragment and of a continuation, and
the count byte. -/
def smdStart (f : Nat) : Byte := [0xE6, 0x4C, 0x7F, 0xB3].getD (f % 4) 0xE6
def smdCont (f : Nat) : Byte := [0x61, 0x52, 0x9E, 0x2A].getD (f % 4) 0x61
def fragByte (k : Nat) : Byte := [0xE6, 0x4C, 0x7F, 0xB3].getD (k % 4) 0xE6

/-- R211, R244: what goes before a frame's bytes, or before those of a continuation fragment. -/
def TxCur.head (c : TxCur) : List Byte :=
  match c.number with
  | none => preamble 0xD5
  | some f => if c.frag = 0 then preamble (smdStart f) else List.replicate 6 0x55 ++ [smdCont f, fragByte c.count]

/-- R128, R129, R211: port p puts a frame or packet, from its preamble on, on the wire. `err`: it ends with an error
control character. -/
def State.onLine (s : State) (p : Nat) (w : List Byte) (err : Bool) : State :=
  if s.portFar p then s else s.modMac p (fun m => { m with wire := w, wireErr := err })

end Sys2Proof.Machine
end

