-- ==== Sys2Proof/Machine/Time.lean ====
section
/-! DEFINITION. The time unit: the counter and its rate (R252 to R265), PPS in and out (R266 to R272), recovered
clocks (R273, R274), the formats of timestamps (R290) and what carries time when the ridge PLL is off (R300 to R303).
The commands of the family stand at the end; control-port writes reach them through `Control`. -/

namespace Sys2Proof.Machine

/-- One second in units of 2^-48 ns. -/
def secUnits : Nat := 1000000000 * 2 ^ 48

/-- R253: adds a signed amount in units of 2^-48 ns; SEC wraps modulo 2^48. -/
def BlockTime.add (t : BlockTime) (k : Int) : BlockTime :=
  let x : Int := (t.sub : Int) + k
  { sec := (((t.sec : Int) + x / (secUnits : Int)) % (2 ^ 48 : Int)).toNat, sub := (x % (secUnits : Int)).toNat }

/-- A time in units of 2^-48 ns. -/
def BlockTime.total (t : BlockTime) : Nat := t.sec * secUnits + t.sub

/-- The time a number of units of 2^-48 ns names. -/
def BlockTime.ofTotal (n : Int) : BlockTime := ({ } : BlockTime).add n

/-- R252: the visible fields: NS and FRAC. -/
def BlockTime.ns (t : BlockTime) : Nat := t.sub / 2 ^ 48
def BlockTime.frac (t : BlockTime) : Nat := t.sub / 2 ^ 32 % 65536

/-- R290: the 64-bit completion format, rounded to the nearest 2^-8 ns, the carry passing into NS and SEC_LO. -/
def BlockTime.stamp (t : BlockTime) : Nat :=
  let r := t.add (2 ^ 39)
  (r.sec % 2 ^ 26) * 2 ^ 38 + r.ns * 256 + r.sub / 2 ^ 40 % 256

/-- R261: what a slew with `rem` left (units of 2^-32 ns) adds in `n` cycles at STEP `st`. -/
def slewAdd (rem : Int) (st n : Nat) : Int :=
  if 0 ≤ rem then min rem (st * n : Nat) else max rem (-(st * n : Nat))

/-- R262: how many of the edges a+1 to a+n use the old addend when a write applies at edge d. -/
def addendUnits (cur : Nat) (a n : Nat) : List (Nat × Nat) → Nat
  | [] => cur * n
  | (d, v) :: t =>
    let k := min n (d - a)
    cur * k + addendUnits v (a + k) (n - k) t

/-- R300, R262: the addends of the edges of refclk_a_i (every 32nd ridge clock cycle) among the edges a+1 to a+n. -/
def coarseUnits (cur : Nat) (a n : Nat) : List (Nat × Nat) → Nat
  | [] => cur * ((a + n) / 32 - a / 32)
  | (d, v) :: t =>
    let k := min n (d - a)
    cur * ((a + k) / 32 - a / 32) + coarseUnits v (a + k) (n - k) t

/-- R262: the addend in force after cycle `a`, and the writes still to apply. -/
def addendAfter (cur a : Nat) : List (Nat × Nat) → Nat × List (Nat × Nat)
  | [] => (cur, [])
  | (d, v) :: t => if d ≤ a then addendAfter v a t else (cur, (d, v) :: t)

/-- R271: the boundaries passed between two times, for an offset of the second. -/
def crossings (a b : Nat) (off : Int) : Int :=
  ((b : Int) - off) / (secUnits : Int) - ((a : Int) - off) / (secUnits : Int)

/-- R300: the ridge PLL is locked, so the counter counts; otherwise the coarse counter carries time. -/
def State.timeCounts (s : State) : Bool := s.time.started && s.time.locked

/-- R301: the counter counts and TIME is in RUN, so that slews, PPS in and PPS out work. -/
def State.timeRuns (s : State) : Bool := s.timeCounts && s.dom dTIME == 0

/-- R270, R272, R708: `pps_o` is driven: enabled, and its pad not held. -/
def State.ppsOn (s : State) : Bool :=
  s.fbit .TIME_PPS_OUT_CFG 0 fTIME_PPS_OUT_CFG_EN && s.timeRuns && !s.padHeld 0

/-- TIME_PPS_OUT_OFFSET in units of 2^-48 ns. -/
def State.ppsOffset (s : State) : Int :=
  toSigned 32 (s.fget .TIME_PPS_OUT_OFFSET 0 fTIME_PPS_OUT_OFFSET_OFFSET) * 2 ^ 40

/-- What the counter adds in the `n` cycles after `s.now` (R253, R261, R262), in units of 2^-48 ns, and what the slew
has left; a slew pauses while TIME is not in RUN (R301). -/
def State.countUnits (s : State) (n : Nat) : Int × Option (Nat × Int) :=
  let base : Int := (addendUnits s.time.addend s.now n s.time.addends : Nat)
  match s.time.slew with
  | none => (base, none)
  | some (d, rem) =>
    if !s.timeRuns then (base, some (d, rem)) else
    let k := s.now + n + 1 - max d (s.now + 1)
    let a := slewAdd rem (s.fget .TIME_SLEW 0 fTIME_SLEW_STEP) k
    (base + a * 65536, some (d, rem - a))

/-- The counter's value `n` cycles from now, while it counts. -/
def State.timeIn (s : State) (n : Nat) : BlockTime := s.time.t.add (s.countUnits n).1

/-- R261: TIME_SLEW_REM, rounded toward zero to units of 2^-16 ns. -/
def State.showSlew (s : State) : State :=
  match s.time.slew with
  | none => s
  | some (_, rem) => s.fset .TIME_SLEW_REM 0 fTIME_SLEW_REM_REMAIN (ofSigned 48 (Int.tdiv rem 65536))

/-- Ridge clock cycles pass (R253, R300): the counter counts, or the coarse counter adds 32 × ADDEND at each edge of
refclk_a_i (every 32nd ridge clock cycle). -/
def State.elapse (s : State) (n : Nat) : State :=
  let edge := (s.now + n) / 32 * 32
  let aw := addendAfter s.time.addend (s.now + n) s.time.addends
  let tu := s.time
  if s.timeCounts then
    let u := s.countUnits n
    let t' := tu.t.add u.1
    let coarse := if s.now < edge then (s.timeIn (edge - s.now)) else tu.coarse
    let due := if s.ppsOn then (crossings tu.t.sub (tu.t.sub + u.1.toNat) s.ppsOffset).toNat else 0
    ({ s with
        now := s.now + n
        time := { tu with t := t', coarse := coarse, slew := u.2, addend := aw.1, addends := aw.2,
                          ppsDue := tu.ppsDue + due } } : State).showSlew
  else if tu.started then
    { s with
        now := s.now + n
        time := { tu with coarse := tu.coarse.add (32 * coarseUnits tu.addend s.now n tu.addends : Nat)
                          addend := aw.1, addends := aw.2 } }
  else { s with now := s.now + n, time := { tu with addend := aw.1, addends := aw.2 } }

/-- Time passes up to cycle `d`, if it has not yet. -/
def State.elapseTo (s : State) (d : Nat) : State := s.elapse (d - s.now)

/-- Block time (R252, R300). -/
def State.blockTime (s : State) : BlockTime := if s.timeCounts then s.time.t else s.time.coarse

/-- R257, R260: a write of TIME_LOAD_CTRL.GO taken while GO reads 0: SET_NOW and STEP_NOW apply 32 cycles later, and
SET_AT_PPS is armed. -/
def State.loadGo (s : State) (mode : Nat) : State :=
  let s := (s.fset .TIME_LOAD_CTRL 0 fTIME_LOAD_CTRL_MODE mode).flag .TIME_LOAD_CTRL 0 fTIME_LOAD_CTRL_GO
  if mode == 1 then s.flag .TIME_STAT 0 fTIME_STAT_LOAD_ARMED
  else { s with time := { s.time with load := some (s.now + 32) } }

/-- The value TIME_LOAD_SEC and TIME_LOAD_NS hold. -/
def State.loadValue (s : State) : BlockTime :=
  ({ sec := s.fget .TIME_LOAD_SEC 0 fTIME_LOAD_SEC_SEC } : BlockTime).add
    (s.fget .TIME_LOAD_NS 0 fTIME_LOAD_NS_NS * 2 ^ 48 + s.fget .TIME_LOAD_NS 0 fTIME_LOAD_NS_FRAC * 2 ^ 32 : Nat)

/-- R263: a load ends a slew without SLEW_DONE. -/
def State.endSlew (s : State) : State :=
  (({ s with time := { s.time with slew := none } } : State).fset .TIME_LOAD_CTRL 0 fTIME_LOAD_CTRL_SLEW_GO 0).fset
    .TIME_STAT 0 fTIME_STAT_SLEWING 0

/-- R258, R263, R267: what both loads do at the edge where they apply. -/
def State.loadTake (s : State) (v : BlockTime) : State :=
  let s := ({ s with time := { s.time with t := v, load := none } } : State).endSlew
  let s := s.fset .TIME_SLEW_REM 0 fTIME_SLEW_REM_REMAIN 0
  let s := s.fset .TIME_LOAD_CTRL 0 fTIME_LOAD_CTRL_GO 0
  (s.flag .TIME_EVT 0 fTIME_EVT_LOADED).flag .TIME_STAT 0 fTIME_STAT_SET

/-- R258: the cycle of a SET_NOW load, which ends at edge `d`: it adds no addend, so it passes no boundary (R271). -/
def State.loadEdge (s : State) (d : Nat) : State :=
  let s := s.elapseTo (d - 1)
  if s.now < d then
    let t := s.elapse (d - s.now)
    { t with time := { t.time with t := s.time.t, ppsDue := s.time.ppsDue, coarse := s.time.coarse } }
  else s

/-- R300: the coarse counter copies what a load or a step leaves in the counter at an edge of refclk_a_i. -/
def State.copyCoarse (s : State) : State :=
  if s.now % 32 = 0 && s.timeCounts then { s with time := { s.time with coarse := s.time.t } } else s

/-- R258: the load or step applies at its edge. DESIGN CHOICE (log 82): one that applies while the ridge PLL is unlocked
changes the counter, which the coarse counter overwrites at the next lock (R302). -/
def State.loadApply (s : State) : State :=
  match s.time.load with
  | none => s
  | some d =>
    let mode := s.fget .TIME_LOAD_CTRL 0 fTIME_LOAD_CTRL_MODE
    if mode == 0 then
      let s := s.loadEdge d
      (s.loadTake s.loadValue).copyCoarse
    else
      let s := s.elapseTo d
      let off := toSigned 48 (s.fget .TIME_STEP 0 fTIME_STEP_OFFSET) * 2 ^ 32
      let s : State := { s with time := { s.time with t := s.time.t.add off, load := none } }
      ((s.fset .TIME_LOAD_CTRL 0 fTIME_LOAD_CTRL_GO 0).flag .TIME_EVT 0 fTIME_EVT_LOADED).copyCoarse

/-- R259: CANCEL disarms a SET_AT_PPS load. -/
def State.loadCancel (s : State) : State :=
  if s.fbit .TIME_STAT 0 fTIME_STAT_LOAD_ARMED then
    (s.fset .TIME_STAT 0 fTIME_STAT_LOAD_ARMED 0).fset .TIME_LOAD_CTRL 0 fTIME_LOAD_CTRL_GO 0
  else s

/-- R261: a slew starts at the edge 32 cycles after the write. -/
def State.slewStart (s : State) : State :=
  let off := toSigned 48 (s.fget .TIME_SLEW 0 fTIME_SLEW_OFFSET) * 65536
  let s : State := { s with time := { s.time with slew := some (s.now + 32, off) } }
  ((s.flag .TIME_LOAD_CTRL 0 fTIME_LOAD_CTRL_SLEW_GO).flag .TIME_STAT 0 fTIME_STAT_SLEWING).showSlew

/-- R261: the cycles after which the slew has added all of its offset. -/
def State.slewCycles (s : State) : Nat :=
  match s.time.slew with
  | none => 0
  | some (d, rem) =>
    let st := s.fget .TIME_SLEW 0 fTIME_SLEW_STEP
    (d - 1 - s.now) + (rem.natAbs + st - 1) / st

/-- R261: the slew adds its whole offset. -/
def State.slewDone (s : State) : State :=
  if s.time.slew.isSome && s.timeRuns then
    (s.elapse s.slewCycles).endSlew.flag .TIME_EVT 0 fTIME_EVT_SLEW_DONE
  else s

/-- R261: SLEW_CANCEL ends the slew where it stands. -/
def State.slewCancel (s : State) : State := if s.time.slew.isSome then s.endSlew else s

/-- R262: a write of ADDEND applies at the edge 32 cycles later. -/
def State.addendWrite (s : State) (v : Nat) : State :=
  let s := s.fset .TIME_ADDEND 0 fTIME_ADDEND_ADDEND v
  { s with time := { s.time with addends := s.time.addends ++ [(s.now + 32, v % 2 ^ 48)] } }

/-- R265: a read covering the lower half of TIME_NOW_L captures the visible bits 32 cycles after it is served. -/
def State.timeCapture (s : State) : State :=
  let s := s.elapse 32
  let t := s.blockTime
  let s := (s.fset .TIME_NOW_L 0 fTIME_NOW_L_FRAC t.frac).fset .TIME_NOW_L 0 fTIME_NOW_L_NS t.ns
  s.fset .TIME_NOW_H 0 fTIME_NOW_H_SEC t.sec

/-- R266: what a capture subtracts: the characterised input path (an open value, in units of 2^-48 ns), half a ridge
cycle, and DELAY. -/
def State.ppsInLess (s : State) : Int :=
  (Config.freeValue 1 0 : Nat) + 2 ^ 48 / 10 + toSigned 24 (s.fget .TIME_PPS_IN_CFG 0 fTIME_PPS_IN_CFG_DELAY) * 2 ^ 40

/-- R266, R282: the capture. DESIGN CHOICE (log 82): it is rounded to the nearest 2^-16 ns. -/
def State.ppsCapture (s : State) (t : BlockTime) : State :=
  let r := t.add (2 ^ 31)
  let s := (s.fset .TIME_PPS_IN_CAP_L 0 fTIME_PPS_IN_CAP_L_FRAC r.frac).fset .TIME_PPS_IN_CAP_L 0
    fTIME_PPS_IN_CAP_L_NS r.ns
  ({ s with time := { s.time with ppsCapH := r.sec, ppsIn := some s.now, ppsMissed := false } } : State).flag
    .TIME_EVT 0 fTIME_EVT_PPS_IN

/-- R266, R267, R301: an edge of pps_i, rising or falling. -/
def State.ppsInEdge (s : State) (rising : Bool) : State :=
  let active := rising != s.fbit .TIME_PPS_IN_CFG 0 fTIME_PPS_IN_CFG_EDGE
  let soon := match s.time.ppsIn with
    | some d => decide (s.now < d + 100 * msCycles)
    | none => false
  if s.fbit .TIME_PPS_IN_CFG 0 fTIME_PPS_IN_CFG_EN && active && !soon && s.timeRuns then
    if s.fbit .TIME_STAT 0 fTIME_STAT_LOAD_ARMED then
      let s := ((s.loadTake (s.loadValue.add s.ppsInLess)).copyCoarse).fset .TIME_STAT 0 fTIME_STAT_LOAD_ARMED 0
      s.ppsCapture (s.time.t.add (- s.ppsInLess))
    else s.ppsCapture (s.time.t.add (- s.ppsInLess))
  else s

/-- R268: a read of TIME_PPS_IN_CAP_L latches TIME_PPS_IN_CAP_H. -/
def State.ppsLatch (s : State) : State := s.fset .TIME_PPS_IN_CAP_H 0 fTIME_PPS_IN_CAP_H_SEC s.time.ppsCapH

/-- R269: 1,100 ms after a captured edge. -/
def State.ppsMiss (s : State) : State :=
  match s.time.ppsIn with
  | some d =>
    if s.fbit .TIME_PPS_IN_CFG 0 fTIME_PPS_IN_CFG_EN && !s.time.ppsMissed && s.timeRuns then
      let s := s.elapseTo (d + 1100 * msCycles)
      ({ s with time := { s.time with ppsMissed := true } } : State).flag .TIME_EVT 0 fTIME_EVT_PPS_IN_MISS
    else s
  | none => s

/-- The least n above `lo` and at most `hi` with p n, for a p that holds at hi and stays true once it holds. -/
def leastAbove (p : Nat → Bool) : Nat → Nat → Nat → Nat
  | 0, _, hi => hi
  | fuel + 1, lo, hi =>
    if hi ≤ lo + 1 then hi
    else
      let m := (lo + hi) / 2
      if p m then leastAbove p fuel lo m else leastAbove p fuel m hi

/-- R271: cycles until the counter passes the next boundary by counting, with every addend write that waits and the
slew taken into account; at most 2^33, which a second never takes. -/
def State.ppsCycles (s : State) : Nat :=
  let pos : Int := ((s.time.t.sub : Int) - s.ppsOffset) % (secUnits : Int)
  let dist : Int := (secUnits : Int) - pos
  leastAbove (fun n => decide (dist ≤ (s.countUnits n).1)) 33 0 (2 ^ 33)

/-- R270, R271: pps_o rises when the counter passes a boundary by counting. -/
def State.ppsRise (s : State) : State :=
  if s.ppsOn then
    let s := if s.time.ppsDue != 0 then s else s.elapse s.ppsCycles
    let width := s.fget .TIME_PPS_OUT_CFG 0 fTIME_PPS_OUT_CFG_WIDTH
    ({ s with time := { s.time with ppsDue := s.time.ppsDue - 1, ppsOut := true,
                                    ppsFall := some (s.now + width * usCycles) } } : State).flag
      .TIME_EVT 0 fTIME_EVT_PPS_OUT
  else s

/-- R270: pps_o falls WIDTH microseconds after its last rise. -/
def State.ppsFallNow (s : State) : State :=
  match s.time.ppsFall with
  | some d =>
    let s := s.elapseTo d
    { s with time := { s.time with ppsOut := false, ppsFall := none } }
  | none => s

/-- R272: EN = 0, or TIME going off, drives pps_o low. -/
def State.ppsLow (s : State) : State :=
  { s with time := { s.time with ppsOut := false, ppsFall := none, ppsDue := 0 } }

/-- R274: a condition that squelches recovered clock output k, besides the 1 ms that follows. -/
def State.rclkBad (s : State) (k : Nat) : Bool :=
  let n := s.fget .TIME_RCLK_CFG k fTIME_RCLK_CFG_LANE
  let div := s.fget .TIME_RCLK_CFG k fTIME_RCLK_CFG_DIV
  !s.fbit .TIME_RCLK_CFG k fTIME_RCLK_CFG_EN || s.laneState n != lDATA || !s.fbit .LANE_STAT n fLANE_STAT_CDR_LOCK ||
    (s.fbit .TIME_RCLK_CFG k fTIME_RCLK_CFG_SQ_PF_EN &&
      decide (s.fget .LANE_STAT n fLANE_STAT_PITCH_FIGURE < s.fget .TIME_RCLK_CFG k fTIME_RCLK_CFG_SQ_PF)) ||
    decide (625000 * div < rateKbd (s.laneRate n))

/-- TIME_STAT.RCLK_SQ_k. -/
def fRclkSq (k : Nat) : Field := ⟨5 + k, 1⟩

/-- R274, R708: `rec_clk_o[k]` is driven low: its output is squelched, TIME is off, or its pads are held. -/
def State.rclkLow (s : State) (k : Nat) : Bool := s.fbit .TIME_STAT 0 (fRclkSq k) || s.dom dTIME != 0 || s.padHeld 0

/-- R274: squelches output k, and starts its 1 ms again. -/
def State.rclkSquelch (s : State) (k : Nat) : State :=
  let s : State := { s with time := { s.time with rclkClear := s.time.rclkClear.del k } }
  if s.fbit .TIME_STAT 0 (fRclkSq k) then s
  else (s.flag .TIME_STAT 0 (fRclkSq k)).flag .TIME_EVT 0 fTIME_EVT_RCLK_SQ

/-- R274: a write that changes LANE or DIV squelches the output for 1 ms. `old`: the register before it. -/
def State.rclkWrite (s : State) (k : Nat) (old : Word) : State :=
  let v := s.rget .TIME_RCLK_CFG k
  if fTIME_RCLK_CFG_LANE.get v == fTIME_RCLK_CFG_LANE.get old && fTIME_RCLK_CFG_DIV.get v == fTIME_RCLK_CFG_DIV.get old then s
  else s.rclkSquelch k

/-- R274: follows the conditions of one output. -/
def State.rclkFollow (s : State) (k : Nat) : State :=
  if s.rclkBad k then s.rclkSquelch k
  else if s.fbit .TIME_STAT 0 (fRclkSq k) && !s.time.rclkClear.has k then
    { s with time := { s.time with rclkClear := s.time.rclkClear.put k s.now } }
  else s

/-- R274: follows the conditions of both outputs. -/
def State.rclkFollowAll (s : State) : State := (s.rclkFollow 0).rclkFollow 1

/-- R274: once every condition has been clear for 1 ms the output leaves squelch. -/
def State.rclkRelease (s : State) (k : Nat) : State :=
  match s.time.rclkClear.find? k with
  | some d =>
    let s := s.elapseTo (d + msCycles)
    ({ s with time := { s.time with rclkClear := s.time.rclkClear.del k } } : State).fset .TIME_STAT 0 (fRclkSq k) 0
  | none => s

/-- R302: the ridge PLL's static phase, a characterised value that the manual does not give, in units of 2^-48 ns. -/
def staticPhase : Int := toSigned 64 (Config.freeValue 11 0)

/-- R256, R302: the ridge PLL locks: the counter starts, or is loaded from the coarse counter at the next
refclk_a_i edge. -/
def State.ridgeLock (s : State) : State :=
  if s.time.locked then s
  else if s.time.started then
    let s := s.elapse (32 - s.now % 32)
    let s : State := { s with time := { s.time with locked := true, t := s.time.coarse.add staticPhase } }
    (s.fset .TIME_STAT 0 fTIME_STAT_HOLDOVER 0).flag .TIME_EVT 0 fTIME_EVT_RESYNC
  else { s with time := { s.time with locked := true, started := true } }

/-- R300, R301: the ridge PLL stops, and the coarse counter carries time. -/
def State.ridgeStop (s : State) : State :=
  ({ s with time := { s.time with locked := false } } : State).flag .TIME_STAT 0 fTIME_STAT_HOLDOVER

end Sys2Proof.Machine
end

