-- ==== Sys2Proof/Machine/Integrity.lean ====
section
/-! DEFINITION. Integrity and counters: the per-port MAC counters (R769 to R771), corrected and uncorrectable errors
(R751, R754, R760), and the entry into fail-stop with its record (R761 to R768). -/

namespace Sys2Proof.Machine

/-- R769, R771: adds to MAC counter k of port p, modulo 2^48; STATS_HALF_p bit k sets when bit 47 rises. A sprayed
port counts in P0 and in P8, which are their own numbers. -/
def State.stat (s : State) (p k n : Nat) : State :=
  let old := s.fget .STATS_PORT (p * 64 + k) fSTATS_PORT_COUNT
  let s1 := s.wrapAdd .STATS_PORT (p * 64 + k) fSTATS_PORT_COUNT n
  if !old.testBit 47 && (s1.fget .STATS_PORT (p * 64 + k) fSTATS_PORT_COUNT).testBit 47 then
    s1.rset .STATS_HALF p (s1.rget .STATS_HALF p ||| BitVec.ofNat 64 (2 ^ k))
  else s1

/-- R770: the size bucket of a frame length of at least 64. -/
def sizeBucket (len : Nat) : Nat :=
  if len ≤ 64 then 0 else if len ≤ 127 then 1 else if len ≤ 255 then 2 else if len ≤ 511 then 3
  else if len ≤ 1023 then 4 else if len ≤ 1518 then 5 else if len ≤ 2047 then 6 else if len ≤ 4095 then 7
  else if len ≤ 9216 then 8 else 9

/-- The addresses of R769's multicast and broadcast counters. -/
def isBroadcast (bytes : List Byte) : Bool := bytes.take 6 == List.replicate 6 0xff
def isMulticast (bytes : List Byte) : Bool := (bytes.headD 0).toNat % 2 == 1 && !isBroadcast bytes

/-- R769: a frame sent whole without an error end, of length `len` under R10. -/
def State.statTx (s : State) (p : Nat) (bytes : List Byte) (len : Nat) : State :=
  let s := ((s.stat p 32 1).stat p 33 len).stat p (47 + sizeBucket len) 1
  if isBroadcast bytes then s.stat p 35 1 else if isMulticast bytes then s.stat p 34 1 else s

/-- R769: a frame received with a good FCS and at least 64 B long. -/
def State.statRxOk (s : State) (p : Nat) (bytes : List Byte) (len : Nat) : State :=
  let s := (s.stat p 0 1).stat p 1 len
  if isBroadcast bytes then s.stat p 8 1 else if isMulticast bytes then s.stat p 7 1 else s

/-- R761: the causes of fail-stop. -/
inductive Cause where
  | malformed | rafterProtocol | hostAccess | sealProtocol | ridgePll | loftCtrlEcc | tableEcc | schedEcc | busParity
  | descCache | contextEcc
  deriving DecidableEq, Repr

/-- R761: the cause codes. -/
def Cause.code : Cause → Nat
  | .malformed => 1 | .rafterProtocol => 2 | .hostAccess => 3 | .sealProtocol => 4 | .ridgePll => 5 | .loftCtrlEcc => 6
  | .tableEcc => 7 | .schedEcc => 8 | .busParity => 9 | .descCache => 10 | .contextEcc => 11

/-- Bytes 8i to 8i + 7 of a list, as a word. -/
def wordAt (l : List Byte) (i : Nat) : Word := BitVec.ofNat 64 (leNat ((l.drop (8 * i)).take 8))

/-- R768: writes the copied bytes of the fault record, zero beyond them. -/
def State.faultCopy (s : State) (copy : List Byte) : State :=
  s.forEach (List.range 16) (fun s i => s.rset .GEN_FAULT_COPY i (wordAt copy i))

/-- R768: the cause and what the fault record says of it. -/
def State.faultRecord (s : State) (c : Cause) (info addr : Nat) (copy : List Byte) : State :=
  let s := (s.fset .GEN_FAULT_STAT 0 fGEN_FAULT_STAT_CAUSE c.code).rset .GEN_FAULT_INFO 0 (BitVec.ofNat 64 info)
  (s.rset .GEN_FAULT_ADDR 0 (BitVec.ofNat 64 addr)).faultCopy copy

/-- R762: a cause is found in the MCLK cycle in which the block entered fail-stop, and its code is lower than the recorded
one. -/
def State.outranks (s : State) (c : Cause) : Bool :=
  s.faultAt == some s.mclk && decide (c.code < s.fget .GEN_FAULT_STAT 0 fGEN_FAULT_STAT_CAUSE)

/-- R763, R765: `fault_n_o` as an asserted level: it is low while the block is in fail-stop. -/
def State.faultLine (s : State) : Bool := s.failed

/-- R769, R770: a frame of port p that has begun is not sent whole: `n` of its bytes have left. -/
def State.statCut (s : State) (p n : Nat) : State :=
  let s := s.stat p 45 1
  if n < 64 then s else s.stat p (47 + sizeBucket n) 1

/-- How many bytes of the frame in progress on port p have left when fail-stop or the loss of its link cuts it. DESIGN
CHOICE (log 84): the spec states no number, and the model leaves it open. -/
def State.cutAt (s : State) (p : Nat) (c : TxCur) : Nat :=
  c.frag + Config.freeValue 15 (16 * s.now + p) % (c.pkt.bytes.length + 1 - c.frag)

/-- R203, R763: each frame that has begun on a port, a fragmented one too, is ended with an error control character. -/
def State.cutPort (s : State) (p : Nat) : State :=
  let m := s.mac p
  if m.cur.isNone && m.held.isNone then s
  else
    let s1 : State := s.setMac p { m with cur := none, held := none, wireErr := true }
    let s2 := match m.cur with
      | some c => (s1.onLine p (c.head ++ (c.pkt.bytes.take (s.cutAt p c)).drop c.frag) true).statCut p (s.cutAt p c)
      | none => s1
    match m.held with | some c => s2.statCut p c.frag | none => s2

/-- R761 to R768: a fatal cause is found. An entry overwrites the record and adds one to ENTRIES. A cause found while the
block is in fail-stop sets MORE; one found in the cycle of the entry with a lower code is the one recorded. -/
def State.failStop (s : State) (c : Cause) (info addr : Nat) (copy : List Byte := []) : State :=
  if s.failed then
    let t := s.flag .GEN_FAULT_STAT 0 fGEN_FAULT_STAT_MORE
    if s.outranks c then t.faultRecord c info addr copy else t
  else
    let s := (s.flag .GEN_FAULT_STAT 0 fGEN_FAULT_STAT_ACTIVE).flag .GEN_FAULT_STAT 0 fGEN_FAULT_STAT_VALID
    let s := (s.fset .GEN_FAULT_STAT 0 fGEN_FAULT_STAT_MORE 0).count .GEN_FAULT_STAT 0 fGEN_FAULT_STAT_ENTRIES
    let s := (s.faultRecord c info addr copy).rset .GEN_FAULT_TIME 0 (BitVec.ofNat 64 s.blockTime.stamp)
    let s : State := { s.flag .GEN_INTEG_EVT 0 fGEN_INTEG_EVT_FAULT with faultAt := some s.mclk }
    s.forEach (List.range 16) State.cutPort

/-- R751, R754: a corrected word counts in its field of GEN_INTEG_CORR, and the event sets. -/
def State.corrected (s : State) (f : Field) : State :=
  (s.count .GEN_INTEG_CORR 0 f).flag .GEN_INTEG_EVT 0 fGEN_INTEG_EVT_CORR

/-- R751, R768: the internal path, and above it the domain, by which the words of a protected memory travel: the loft's have
none in R768. -/
def busPath (c : Cause) (info : Nat) : Option Nat :=
  match c with
  | .tableEcc => some (4 + 16 * dTABLE)
  | .schedEcc => some ((if info = 3 then 4 else 3) + 16 * dSCHED)
  | .contextEcc => some ((if info % 4 = 2 then 2 else 1) + 16 * dHOSTIF)
  | _ => none

/-- R751: what a read of protected memory finds: nothing, a corrected word, an uncorrectable one, or a parity error on its
way. -/
def State.eccCheck (s : State) (e : Ecc) (f : Field) (c : Cause) (info : Nat) : State :=
  match e with
  | .clean => s
  | .corrected => s.corrected f
  | .uncorrectable i => s.failStop c info i
  | .bus => match busPath c info with | some p => s.failStop .busParity p 0 | none => s

/-- R768: what a read of object `k` finds: the fault record names the object. -/
def eccOf (e : Ecc) (k : Nat) : Ecc :=
  match e with
  | .uncorrectable _ => .uncorrectable k
  | e => e

/-- R760: a frame or copy disposed of for poison, by its outcome. -/
def State.poisonCount (s : State) (f : Field) : State := s.count .GEN_INTEG_POISON 0 f

/-- R760: a poisoning. -/
def State.poisoned (s : State) : State := s.flag .GEN_INTEG_EVT 0 fGEN_INTEG_EVT_POISON

end Sys2Proof.Machine
end

