-- ==== Sys2Proof/Machine/Domain.lean ====
section
/-! DEFINITION. Power domains as every unit meets them: the domain of a register, waking a domain from DOZE (R686,
R687), and the wake sources of SLEEP with the abandoned entry of R703. -/

namespace Sys2Proof.Machine

/-- R687: the domains woken with a domain from DOZE (R677). -/
def wokenWith (d : Nat) : List Nat :=
  if 6 ≤ d && d ≤ 9 then [d, 10, 11, 12]
  else if d = 13 then [13, 10, 12]
  else [d]

/-- R686, R687: an access to a domain in DOZE wakes it and the domains of its column. -/
def State.wake (s : State) (d : Nat) : State :=
  if s.dom d == 1 then
    let ds := (wokenWith d).filter (fun x => s.dom x == 1 && !s.power.waking.contains x)
    { s with power := { s.power with waking := s.power.waking ++ ds } }
  else s

/-- POWER_STAT.STATE after domains change: DOZE while some domain is in DOZE (R680). -/
def State.showBlock (s : State) : State :=
  if s.power.sleep.isSome then s
  else s.fset .POWER_STAT 0 fPOWER_STAT_STATE (if (List.range 15).any (fun d => s.dom d == 1) then 1 else 0)

/-- Sets POWER_READY bit d. -/
def State.setReady (s : State) (d : Nat) (b : Bool) : State :=
  let v := s.fget .POWER_READY 0 fPOWER_READY_READY
  s.fset .POWER_READY 0 fPOWER_READY_READY (if b then v ||| 2 ^ d else v &&& (2 ^ 15 - 1 - 2 ^ d))

/-- Sets a domain's state (R678); its READY bit follows RUN. -/
def State.setDom (s : State) (d st : Nat) : State :=
  ((s.fset .POWER_DOM_STAT 0 (fPOWER_DOM_STAT_STATE d) st).setReady d (st == 0)).showBlock

/-- R705: records a wake source in POWER_WAKE_CAUSE. -/
def State.wakeCause (s : State) (w : WakeSrc) (abort : Bool) : State :=
  let s := (s.fset .POWER_WAKE_CAUSE 0 fPOWER_WAKE_CAUSE_SOURCE w.code).fset .POWER_WAKE_CAUSE 0
    fPOWER_WAKE_CAUSE_PORT w.port
  (s.fset .POWER_WAKE_CAUSE 0 fPOWER_WAKE_CAUSE_PATTERN w.pattern).fsetB .POWER_WAKE_CAUSE 0
    fPOWER_WAKE_CAUSE_ABORT abort

/-- R547: the admin completion status codes. -/
def aOK : Nat := 0x00
def aBadOpcode : Nat := 0x01
def aBadOperand : Nat := 0x02
def aTagInUse : Nat := 0x03
def aLimit : Nat := 0x04
def aNoObject : Nat := 0x05
def aExists : Nat := 0x06
def aBusy : Nat := 0x07
def aWrongState : Nat := 0x08
def aNoSuchTag : Nat := 0x09
def aFenced : Nat := 0x0A
def aFailed : Nat := 0x0B
def aCancelled : Nat := 0x0C
def aHostError : Nat := 0x0D
def aSleepAborted : Nat := 0x0E

/-- R542: fields of a 64 B command: `cb c o n` is its bytes o to o + n - 1 as a number. -/
def cb (c : List Byte) (o n : Nat) : Nat := leNat ((c.drop o).take n)

/-- Queues the completion of the short command in progress (R546). -/
def State.finishCur (s : State) (status detail res0 res1 : Nat) : State :=
  match s.adminCur with
  | none => s
  | some c =>
    let cp : AdminCompl :=
      { tag := cb c.bytes 2 2, opcode := cb c.bytes 0 1, status := status, accepted := false,
        detail := detail, res0 := res0, res1 := res1 }
    { s with adminCur := none, adminDue := s.adminDue ++ [cp] }

/-- R702 step 3: the completion of the commit point. -/
def AdminCompl.commits (c : AdminCompl) : Bool := c.opcode == 0x40 && c.status == aOK && c.detail == 2

/-- R703: the abort window: until the completion write of the commit point is issued. -/
def State.abortWindow (s : State) : Bool :=
  match s.power.sleep with
  | some e => e.step == .draining || e.step == .committed && s.adminDue.any AdminCompl.commits
  | none => false

/-- R708: the pad groups of fenced quads, which stay held. -/
def State.fencedPads (s : State) : Nat := 8 * s.fget .POWER_FENCE 0 fPOWER_FENCE_QUAD

/-- R703, R708: a wake source in the abort window abandons the SLEEP entry: the MACs and the scheduler resume, the pads
that the entry holds are released, a group held from before it excepted, and the command completes with
SLEEP_ABORTED. -/
def State.abortSleep (s : State) (w : WakeSrc) : State :=
  let held := s.power.sleep.any (fun e => e.step == .committed)
  let before := match s.power.sleep with | some e => e.pads | none => 0
  let s : State := { s with
    power := { s.power with sleep := none, wakeAt := s.mclk }
    adminDue := s.adminDue.map (fun c => if c.commits then { c with status := aSleepAborted, detail := 0 } else c) }
  let s := if held then s.fset .POWER_PAD 0 fPOWER_PAD_HELD (before ||| s.fencedPads) else s
  let s := s.fset .POWER_STAT 0 fPOWER_STAT_ENTERING 0
  let s := (s.flag .POWER_EVT 0 fPOWER_EVT_SLEEP_ABORT).wakeCause w true
  (if held then s else s.finishCur aSleepAborted 0 0 0).showBlock

/-- R705: of two sources of one cycle, v comes before w: the lowest code, then the lowest port. -/
def WakeSrc.before (v w : WakeSrc) : Bool := decide (v.code < w.code) || (v.code == w.code && decide (v.port < w.port))

/-- R703: an entry was abandoned in this cycle. -/
def State.abortedNow (s : State) : Bool :=
  s.power.sleep.isNone && s.fbit .POWER_WAKE_CAUSE 0 fPOWER_WAKE_CAUSE_ABORT && s.power.wakeAt == s.mclk

/-- R705: the source recorded in POWER_WAKE_CAUSE. -/
def State.recorded (s : State) : WakeSrc :=
  { code := s.fget .POWER_WAKE_CAUSE 0 fPOWER_WAKE_CAUSE_SOURCE, port := s.fget .POWER_WAKE_CAUSE 0 fPOWER_WAKE_CAUSE_PORT }

/-- R703 to R706: a wake source fires: in the abort window it abandons the entry, later it is latched. Of several in one
MCLK cycle the first in the order of R705 is recorded. -/
def State.fireWake (s : State) (w : WakeSrc) : State :=
  match s.power.sleep with
  | none => if s.abortedNow && w.before s.recorded then s.wakeCause w true else s
  | some e =>
    if s.abortWindow then s.abortSleep w
    else if e.step == .waking || e.step == .locking ||
        e.latched.any (fun v => !(s.power.wakeAt == s.mclk && w.before v)) then s
    else { s with power := { s.power with sleep := some { e with latched := some w }, wakeAt := s.mclk } }

/-- R703: a source that acts in the abort window only, and in the cycle of an abandoned entry. -/
def State.fireAbort (s : State) (w : WakeSrc) : State := if s.abortWindow || s.abortedNow then s.fireWake w else s

/-- R688: domain d, which entered DOZE in this very cycle, stays in RUN, and RESULT0 of its command leaves it out. -/
def State.unenter (s : State) (d : Nat) : State :=
  let s : State := { s with
    power := { s.power with dozed := s.power.dozed.filter (·.1 != d) }
    adminDue := s.adminDue.map fun c =>
      if c.opcode == 0x40 && c.status == aOK && c.detail == 0 && bitOf c.res0 d then { c with res0 := c.res0 - 2 ^ d }
      else c }
  s.setDom d 0

/-- R686, R688: an access to a domain, from the control port or from another unit: DOZE wakes, and a domain in SLEEP is
wake source 1. -/
def State.access (s : State) (d : Nat) : State :=
  if s.dom d == 2 then s.fireWake { code := 1 }
  else if s.dom d == 1 && s.power.dozed.contains (d, s.mclk) then s.unenter d
  else s.wake d

/-- R54, R60: the domain that holds a register (R57). -/
def regDomain (off : Nat) : Nat :=
  if off < 0x010000 then dAON
  else if off < 0x030000 then dHOSTIF
  else if off < 0x040000 then dTIME
  else if off < 0x080000 then dQUAD ((off - 0x040000) / 0x10000)
  else if off < 0x0C0000 then dCOURSE ((off - 0x080000) / 0x10000)
  else if off < 0x100000 then dCOURSE ((off - 0x0C0000) / 0x10000)
  else if off < 0x200000 then dTABLE
  else if off < 0x400000 then dSCHED
  else if off < 0xC00000 then dHOSTIF
  else dAON

end Sys2Proof.Machine
end

