-- ==== Sys2Proof/Machine/Intc.lean ====
section
/-! DEFINITION. The interrupt controller: sources (R647 to R653), normal vectors and their moderation (R654 to R658),
priorities, claims and ends of interrupt (R659 to R663), fast vectors (R664 to R667), and host sleep (R668 to R670). -/

namespace Sys2Proof.Machine

/-- R647: the number of event source e. -/
def eventSrc (e : Nat) : Nat := 4096 + e

/-- R648: a completion queue holds completions whose write responses have returned, at or beyond CQ_CONS. -/
def State.cqSignal (s : State) (q : Nat) : Bool :=
  match s.cqs.find? q with
  | none => false
  | some c =>
    match c.acked with
    | none => false
    | some a =>
      let d := (a + 1 + 2 ^ 32 - s.fget .CQ_CONS q fCQ_CONS_CONS) % 2 ^ 32
      d != 0 && decide (d < 2 ^ 31)

/-- R647, R691: the asserted state of event source e; the sources of a fenced domain read 0. -/
def State.eventSignal (s : State) (e : Nat) : Bool :=
  let up (d : Nat) : Bool := s.dom d != 3
  if e < 16 then up (dQUAD (e / 4)) && s.eventOn .LANE_EVENT .LANE_EVENT_EN e
  else if e < 32 then up (dQUAD ((e - 16) / 4)) && s.eventOn .LANE_CAL_EVENT .LANE_CAL_EVENT_EN (e - 16)
  else if e < 48 then s.portUsed (e - 32) && s.rget .PORT_LINK_EVT (e - 32) != 0
  else if e < 64 then s.portUsed (e - 48) &&
    (s.eventOn .PORT_MAC_EVT .PORT_MAC_EVT_EN (e - 48) || s.eventOn .PORT_FEC_EVT .PORT_FEC_EVT_EN (e - 48))
  else if e < 68 then up (dCOURSE (e - 64)) && s.eventOn .COURSE_PARSE_EVT .COURSE_PARSE_EVT_EN (e - 64)
  else if e = 68 then s.eventOn .TIME_EVT .TIME_EVT_EN 0
  else if e = 69 then s.eventOn .TABLE_GEN_EVT .TABLE_GEN_EVT_EN 0
  else if e = 70 then s.eventOn .LOFT_EVT .LOFT_EVT_EN 0
  else if e = 71 then s.eventOn .SCHED_EVT .SCHED_EVT_EN 0
  else if e = 72 then s.eventOn .ADMIN_EVT .ADMIN_EVT_EN 0
  else if e = 73 then s.eventOn .SEAL_EVT .SEAL_EVT_EN 0
  else if e < 78 then s.eventOn .RAFTER_EVT .RAFTER_EVT_EN (e - 74)
  else if e = 78 then s.eventOn .POWER_EVT .POWER_EVT_EN 0
  else if e = 79 then s.eventOn .POWER_THERM_EVT .POWER_THERM_EVT_EN 0
  else if e = 80 then s.eventOn .POWER_LIG_EVT .POWER_LIG_EVT_EN 0
  else if e = 81 then s.eventOn .BOOT_EVT .BOOT_EVT_EN 0
  else if e = 82 then s.fbit .GEN_INTEG_EVT 0 ⟨0, 1⟩ && s.fbit .GEN_INTEG_EVT_EN 0 ⟨0, 1⟩
  else if e = 83 then (s.rget .GEN_INTEG_EVT 0 &&& s.rget .GEN_INTEG_EVT_EN 0 &&& 6) != 0
  else if e = 84 then (List.range 16).any (s.eventOn .STATS_HALF .STATS_HALF_EN)
  else if 128 ≤ e && e < 192 then s.eventOn .DMA_CHAN_EVT .DMA_CHAN_EVT_EN (e - 128)
  else if 192 ≤ e && e < 256 then (s.fget .INTC_SW 0 fINTC_SW_LEVEL).testBit (e - 192)
  else false

/-- R648: S of source q. -/
def State.srcSignal (s : State) (q : Nat) : Bool := if q < 4096 then s.cqSignal q else s.eventSignal (q - 4096)

/-- A vector's moderation timer. -/
def State.timer (s : State) (v : Nat) : VecTimer := Store.get {} s.vecTimers v

/-- Sets a vector's timer; TIMING follows it. -/
def State.setTimer (s : State) (v : Nat) (t : VecTimer) : State :=
  ({ s with vecTimers := Store.set {} s.vecTimers v t } : State).fsetB .INTC_VEC v fINTC_VEC_TIMING t.tick.isSome

/-- R654: loads the timer with MOD_TIMER ticks of the 250 ns grid; a timer of 0 has expired. -/
def State.loadTimer (s : State) (v : Nat) : State :=
  let n := s.fget .INTC_VEC v fINTC_VEC_MOD_TIMER
  if n == 0 then s.setTimer v { expired := true } else s.setTimer v { tick := some (s.now / 1250 + n) }

/-- A vector becomes PENDING: no timer runs. R703: it is a wake source of the abort window. -/
def State.pendNormal (s : State) (v : Nat) : State :=
  let s := (s.fset .INTC_VEC v fINTC_VEC_STATE 2).setTimer v {}
  s.fireAbort { code := 3 }

/-- R670: the core a vector targets sleeps, and the vector is flushed. -/
def State.flushed (s : State) (v : Nat) : Bool :=
  s.fbit .INTC_VEC v fINTC_VEC_SLEEP_FLUSH &&
    s.power.sleepIn.toNat.testBit (s.fget .INTC_VEC v fINTC_VEC_CORE)

/-- R654: a MODERATING vector becomes PENDING when its count or its timer says so, or when it is flushed. -/
def State.moderate (s : State) (v : Nat) : State :=
  if s.fget .INTC_VEC v fINTC_VEC_MOD_COUNT ≤ s.fget .INTC_VEC v fINTC_VEC_COUNT || (s.timer v).expired ||
      s.flushed v then s.pendNormal v
  else s.fset .INTC_VEC v fINTC_VEC_STATE 1

/-- R654, R655: `n` arrivals for a normal vector in one cycle. -/
def State.arriveNormal (s : State) (v n : Nat) : State :=
  match s.fget .INTC_VEC v fINTC_VEC_STATE with
  | 0 => ((s.fset .INTC_VEC v fINTC_VEC_COUNT (min 255 n)).loadTimer v).moderate v
  | 1 => (s.satAdd .INTC_VEC v fINTC_VEC_COUNT n).moderate v
  | 2 => s
  | _ =>
    let first := s.fget .INTC_VEC v fINTC_VEC_COUNT == 0
    let s := s.satAdd .INTC_VEC v fINTC_VEC_COUNT n
    if first then s.loadTimer v else s

/-- R664: an arrival for a fast vector. -/
def State.arriveFast (s : State) (v : Nat) : State :=
  match s.fget .INTC_FVEC v fINTC_FVEC_STATE with
  | 0 =>
    (s.fset .INTC_FVEC v fINTC_FVEC_STATE 2).fireAbort { code := 3 }
  | 3 => s.flag .INTC_FVEC v fINTC_FVEC_REPEND
  | _ => s

/-- R653: `n` arrivals of source q for the vector it feeds. -/
def State.arrive (s : State) (q n : Nat) : State :=
  if n = 0 then s
  else if s.fbit .INTC_SRC q fINTC_SRC_FAST then s.arriveFast (s.fget .INTC_SRC q fINTC_SRC_VECTOR % 64)
  else s.arriveNormal (s.fget .INTC_SRC q fINTC_SRC_VECTOR) n

/-- R649: whether a change of S produces an arrival. -/
def senses (sense : Nat) (rise : Bool) : Bool :=
  match sense with
  | 0 => rise
  | 1 => rise
  | 2 => !rise
  | _ => true

/-- R649, R650, R673: source q is sampled: a change of S shows in LEVEL and produces arrivals by SENSE. Completion
queues produce theirs under R650. An arrival that reaches HOSTIF in DOZE wakes it and is taken when it is ready. -/
def State.sourceChange (s : State) (q : Nat) : State :=
  if !(s.up dHOSTIF || s.dom dHOSTIF == 1) then s
  else
    let now := s.srcSignal q
    let was := s.fbit .INTC_SRC q fINTC_SRC_LEVEL
    let s := s.fsetB .INTC_SRC q fINTC_SRC_LEVEL now
    if now == was || decide (q < 4096) || !s.fbit .INTC_SRC q fINTC_SRC_EN ||
        !senses (s.fget .INTC_SRC q fINTC_SRC_SENSE) now then s
    else if s.dom dHOSTIF == 1 then { s.access dHOSTIF with deferred := s.deferred ++ [q] }
    else s.arrive q 1

/-- R652: after a write of INTC_SRC_q: an enabled LEVEL source with S = 1 that was not both before arrives once. -/
def State.srcWritten (s : State) (q : Nat) (old : Word) : State :=
  let on (w : Word) : Bool := fINTC_SRC_EN.get w == 1 && fINTC_SRC_SENSE.get w == 0
  if on (s.rget .INTC_SRC q) && !on old && s.fbit .INTC_SRC q fINTC_SRC_LEVEL then s.arrive q 1 else s

/-- R656: after a write of INTC_VEC_v. -/
def State.vecWritten (s : State) (v : Nat) : State :=
  if s.fget .INTC_VEC v fINTC_VEC_STATE == 1 then s.moderate v else s

/-- R654, R655: the moderation timer of v expires. -/
def State.timerExpiry (s : State) (v : Nat) : State :=
  match (s.timer v).tick with
  | none => s
  | some t =>
    let s := (s.elapseTo (t * 1250)).setTimer v { expired := true }
    if s.fget .INTC_VEC v fINTC_VEC_STATE == 1 then s.pendNormal v else s

/-- The listed normal vectors of core n in a state, with their words. -/
def State.vecsOf (s : State) (n st : Nat) : List (Nat × Word) :=
  (s.listed .INTC_VEC).filter (fun e => fINTC_VEC_STATE.get e.2 == st && fINTC_VEC_CORE.get e.2 == n)

/-- R659: vector v, with word w, is eligible for core n. -/
def State.eligible (s : State) (n : Nat) (w : Word) : Bool :=
  fINTC_VEC_EN.get w == 1 && decide (s.fget .INTC_CORE_CFG n fINTC_CORE_CFG_THRESHOLD ≤ fINTC_VEC_PRIO.get w) &&
    (s.vecsOf n 3).all (fun e => decide (fINTC_VEC_PRIO.get e.2 < fINTC_VEC_PRIO.get w))

/-- R659: of two candidates, the one of higher PRIO, and of those the lower number. -/
def better (a b : Nat × Word) : Nat × Word :=
  if fINTC_VEC_PRIO.get a.2 < fINTC_VEC_PRIO.get b.2 then b
  else if fINTC_VEC_PRIO.get b.2 < fINTC_VEC_PRIO.get a.2 then a
  else if a.1 ≤ b.1 then a else b

/-- R659: the vector a claim of core n returns. -/
def State.bestVec (s : State) (n : Nat) : Option (Nat × Word) :=
  match (s.vecsOf n 2).filter (fun e => s.eligible n e.2) with
  | [] => none
  | a :: t => some (t.foldl better a)

/-- R654: a vector leaves PENDING for ACTIVE, with COUNT 0. -/
def State.activate (s : State) (v : Nat) : State :=
  ((s.fset .INTC_VEC v fINTC_VEC_STATE 3).fset .INTC_VEC v fINTC_VEC_COUNT 0).setTimer v {}

/-- R659: a read of INTC_CLAIM_n: the value returned, and the state after it. -/
def State.claim (s : State) (n : Nat) : Word × State :=
  match s.bestVec n with
  | none => (0, s)
  | some (v, w) =>
    (BitVec.ofNat 64 (2 ^ 31 + fINTC_VEC_PRIO.get w * 65536 + v), s.activate v)

/-- R658: the enabled LEVEL sources with S = 1 that feed a vector. -/
def State.rearrivals (s : State) (fast : Bool) (v : Nat) : Nat :=
  ((s.listed .INTC_SRC).filter fun e =>
    fINTC_SRC_EN.get e.2 == 1 && fINTC_SRC_SENSE.get e.2 == 0 && fINTC_SRC_LEVEL.get e.2 == 1 &&
      (fINTC_SRC_FAST.get e.2 == 1) == fast &&
      (if fast then fINTC_SRC_VECTOR.get e.2 % 64 else fINTC_SRC_VECTOR.get e.2) == v).length

/-- R654, R658, R661: the end of interrupt of a normal vector. -/
def State.endNormal (s : State) (v : Nat) : State :=
  let k := s.rearrivals false v
  let s := if k = 0 then s else s.arriveNormal v k
  if s.fget .INTC_VEC v fINTC_VEC_COUNT == 0 then (s.fset .INTC_VEC v fINTC_VEC_STATE 0).setTimer v {}
  else s.moderate v

/-- R661: a write of v to INTC_EOI_n. -/
def State.eoi (s : State) (n v : Nat) : State :=
  if s.fget .INTC_VEC v fINTC_VEC_STATE == 3 && s.fget .INTC_VEC v fINTC_VEC_CORE == n then s.endNormal v
  else s.flag .INTC_CORE_STAT n fINTC_CORE_STAT_EOI_ERR

/-- R665: the listed fast vectors of core n in a state. -/
def State.fvecsOf (s : State) (n st : Nat) : List (Nat × Word) :=
  (s.listed .INTC_FVEC).filter (fun e => fINTC_FVEC_STATE.get e.2 == st && fINTC_FVEC_CORE.get e.2 == n)

/-- R665: the eligible fast vector of core n with the lowest number. -/
def State.bestFast (s : State) (n : Nat) : Option Nat :=
  (((s.fvecsOf n 2).filter (fun e => fINTC_FVEC_EN.get e.2 == 1)).map (·.1)).min?

/-- R665: a read of INTC_FCLAIM_n. -/
def State.fclaim (s : State) (n : Nat) : Word × State :=
  match s.bestFast n with
  | none => (0, s)
  | some v => (BitVec.ofNat 64 (2 ^ 31 + v), s.fset .INTC_FVEC v fINTC_FVEC_STATE 3)

/-- R664, R665: a write of v to INTC_FEOI_n. -/
def State.feoi (s : State) (n v : Nat) : State :=
  if s.fget .INTC_FVEC v fINTC_FVEC_STATE == 3 && s.fget .INTC_FVEC v fINTC_FVEC_CORE == n then
    let again := s.fbit .INTC_FVEC v fINTC_FVEC_REPEND || decide (0 < s.rearrivals true v)
    (s.fset .INTC_FVEC v fINTC_FVEC_STATE (if again then 2 else 0)).fset .INTC_FVEC v fINTC_FVEC_REPEND 0
  else s.flag .INTC_FSTAT n fINTC_FSTAT_EOI_ERR

/-- R662, R666, R672: the message the writer sends next: bank, core, vector; fast messages first, then normal ones,
lowest core first. -/
def State.nextMessage (s : State) : Option (Bool × Nat × Nat) :=
  let fast := (List.range 64).findSome? fun n =>
    if s.fbit .INTC_FCORE_CFG n fINTC_FCORE_CFG_DELIVER && !s.fbit .INTC_FCORE_CFG n fINTC_FCORE_CFG_FMASK then
      (s.bestFast n).map (fun v => (true, n, v)) else none
  match fast with
  | some m => some m
  | none => (List.range 64).findSome? fun n =>
    if s.fbit .INTC_CORE_CFG n fINTC_CORE_CFG_DELIVER && !s.fbit .INTC_CORE_CFG n fINTC_CORE_CFG_MASK then
      (s.bestVec n).map (fun v => (false, n, v.1)) else none

/-- R669, R670: host_sleep_i[n] takes effect. -/
def State.hostSleep (s : State) (n : Nat) (v : Bool) : State :=
  let others := s.power.sleepIn &&& ~~~ BitVec.ofNat 64 (2 ^ n)
  let s : State := { s with power := { s.power with sleepIn := if v then others ||| BitVec.ofNat 64 (2 ^ n) else others } }
  if v then
    s.forEach (s.vecsOf n 1) (fun s e => if fINTC_VEC_SLEEP_FLUSH.get e.2 == 1 then s.pendNormal e.1 else s)
  else s

/-- R673: the controller keeps HOSTIF in RUN. -/
def State.intcBusy (s : State) : Bool :=
  (s.listed .INTC_VEC).any (fun e => fINTC_VEC_STATE.get e.2 == 1 || fINTC_VEC_STATE.get e.2 == 2) ||
    (s.listed .INTC_FVEC).any (fun e => fINTC_FVEC_STATE.get e.2 == 2)

/-- R662: what the wired cores drive on irq_n_o[m], as an asserted level. -/
def State.irqLive (s : State) (m : Nat) : Bool :=
  (List.range 64).any fun n =>
    !s.fbit .INTC_CORE_CFG n fINTC_CORE_CFG_DELIVER && s.fget .INTC_CORE_CFG n fINTC_CORE_CFG_LINE == m &&
      !s.fbit .INTC_CORE_CFG n fINTC_CORE_CFG_MASK && (s.bestVec n).isSome

/-- R666: what the wired cores drive on fiq_n_o[m], as an asserted level. -/
def State.fiqLive (s : State) (m : Nat) : Bool :=
  (List.range 64).any fun n =>
    !s.fbit .INTC_FCORE_CFG n fINTC_FCORE_CFG_DELIVER && s.fget .INTC_FCORE_CFG n fINTC_FCORE_CFG_FLINE == m &&
      !s.fbit .INTC_FCORE_CFG n fINTC_FCORE_CFG_FMASK && (s.bestFast n).isSome

/-- R662, R673, R708, R710: irq_n_o[m] as an asserted level: as latched while its pad group is held. -/
def State.irqLine (s : State) (m : Nat) : Bool := if s.padHeld 1 then s.power.irqHeld.testBit m else s.irqLive m

/-- R666, R673, R708, R710: fiq_n_o[m] as an asserted level: as latched while its pad group is held. -/
def State.fiqLine (s : State) (m : Nat) : Bool := if s.padHeld 1 then s.power.fiqHeld.testBit m else s.fiqLive m

/-- R668: some vector that targets core n has EN 1 and is PENDING. -/
def State.wakeLive (s : State) (n : Nat) : Bool :=
  (s.vecsOf n 2).any (fun e => fINTC_VEC_EN.get e.2 == 1) || (s.fvecsOf n 2).any (fun e => fINTC_FVEC_EN.get e.2 == 1)

/-- R709: NOTICE drives wake_o[n]. -/
def State.noticeWake (s : State) (n : Nat) : Bool :=
  s.fbit .POWER_EVT 0 fPOWER_EVT_NOTICE && (s.fget .POWER_WAKE_CORES 0 fPOWER_WAKE_CORES_CORES).testBit n

/-- R709: wake_o[n]. -/
def State.wakeLine (s : State) (n : Nat) : Bool :=
  if s.padHeld 1 then s.power.wakeHeld.toNat.testBit n || s.noticeWake n
  else s.wakeLive n || s.noticeWake n

/-- R674: a re-thatch returns every vector to IDLE and clears COUNT, REPEND, the timers, EOI_ERR and INTC_MSG_CNT. -/
def State.intcIdle (s : State) : State :=
  let s := s.forEach (s.listed .INTC_VEC) (fun s e =>
    (s.fset .INTC_VEC e.1 fINTC_VEC_STATE 0).fset .INTC_VEC e.1 ⟨34, 9⟩ 0)
  let s := s.forEach (s.listed .INTC_FVEC) (fun s e => s.fset .INTC_FVEC e.1 ⟨8, 3⟩ 0)
  { s with vecTimers := [], deferred := [] }

end Sys2Proof.Machine
end

