-- ==== Sys2Proof/Machine/Rafter.lean ====
section
/-! DEFINITION. The rafter ports: requests and their splitting (R580), tags (R585), responses and failures (R591,
R592), the handling of a failure that is fatal (R598), and protocol violations (R593). -/

namespace Sys2Proof.Machine

/-- RAFTER_ERR_INFO_p.KIND. -/
def Requester.kind : Requester → Nat
  | .intc => 0 | .txr _ => 1 | .rxr _ => 2 | .cq _ => 3 | .admin => 4 | .qw => 5 | .chan _ => 6

/-- RAFTER_ERR_INFO_p.ID. -/
def Requester.num : Requester → Nat
  | .txr r => r | .rxr r => r | .cq q => q | .chan k => k | _ => 0

/-- R600: the place of a requester in the round-robin order of a level. -/
def Requester.order : Requester → Nat
  | .chan k => k
  | .admin => 64
  | .qw => 65
  | .cq q => 66 + q
  | .txr r => 66 + 4096 + r
  | .rxr r => 66 + 4096 + 16384 + r
  | .intc => 66 + 4096 + 2 * 16384

/-- R580: the part of `n` bytes from address `a` that lies within one aligned 256 B block. -/
def blockPart (a n : Nat) : Nat := min n (256 - a % 256)

/-- R580: a transfer cut into requests that do not cross an aligned 256 B block: offsets and lengths. -/
def pieces : Nat → Nat → Nat → Nat → List (Nat × Nat)
  | 0, _, _, _ => []
  | _ + 1, _, _, 0 => []
  | fuel + 1, a, off, n + 1 =>
    let k := blockPart (a + off) (n + 1)
    (off, k) :: pieces fuel a (off + k) (n + 1 - k)

/-- R580: the requests of a transfer of `n` bytes at `a`. -/
def cuts (a n : Nat) : List (Nat × Nat) := pieces (n / 256 + 2) a 0 n

/-- R580: beats of a request: aligned 128 B halves touched. -/
def beats (a n : Nat) : Nat := (a % 256 + n - 1) / 128 - a % 256 / 128 + 1

/-- R585: tags outstanding on a port. -/
def State.tagsOut (s : State) (p : Nat) : Nat := (s.outst.filter (fun o => o.port == p)).length

/-- R585: whether a tag is outstanding. -/
def State.tagUsed (s : State) (p t : Nat) : Bool := s.outst.any (fun o => o.port == p && o.tag == t)

/-- R595, R597, R744: new requests may be presented: HOSTIF runs, and the block is not in fail-stop, in QUIESCE or on
its way into SLEEP. -/
def State.mayIssue (s : State) : Bool :=
  !s.failed && s.boot != bQUIESCE && s.up dHOSTIF && !s.bootU.asserted &&
    match s.power.sleep with
    | some e => e.step = .draining || e.step = .committed
    | none => true

/-- R585, R599: port p may issue tag t: it is not outstanding, and fewer than TAGS are. -/
def State.tagFree (s : State) (p t : Nat) : Bool :=
  !s.tagUsed p t && decide (s.tagsOut p < s.fget .RAFTER_CFG p fRAFTER_CFG_TAGS)

/-- R590: the odd parity bit of the `w` low bits of a number. -/
def oddParity (w v : Nat) : Nat := (((List.range w).filter v.testBit).length + 1) % 2

/-- A number from its bits, bit 0 first. -/
def ofBits : List Nat → Nat
  | [] => 0
  | b :: t => b % 2 + 2 * ofBits t

/-- R589: the attributes of a request. -/
def RafterReq.attr (q : RafterReq) : Nat := q.level % 4 + 4 * q.msg.toNat + 8 * q.ctrl.toNat

/-- R590: the parity bits of a request that transfers under tag t. -/
def RafterReq.parity (q : RafterReq) (t : Nat) : Nat :=
  ofBits ((List.range 8).map (fun n => oddParity 8 (q.addr / 2 ^ (8 * n))) ++
    [oddParity 8 (q.len - 1), oddParity 8 t, oddParity 7 (q.attr + 16 * q.write.toNat + 32 * (t / 256 % 4))])

/-- R580 to R582, R590: the write-data beat that carries an aligned 128 B half `h`: the byte at address X travels in lane
X mod 128, and a lane without a byte of the request carries zero. -/
def RafterReq.beat (q : RafterReq) (h : Nat) (last : Bool) : WdBeat :=
  let at_ (n : Nat) : Option Byte := if 128 * h + n < q.addr then none else q.data[128 * h + n - q.addr]?
  let lanes := (List.range 128).map at_
  let be := ofBits (lanes.map (fun b => b.isSome.toNat))
  { data := lanes.map (·.getD 0), be := be, par := ofBits (lanes.map (fun b => oddParity 8 (b.getD 0).toNat)),
    bepar := ofBits ((List.range 16).map (fun n => oddParity 8 (be / 2 ^ (8 * n)))), last := last }

/-- R576, R580, R582: what a port presents for a request under tag t; a write's beats are in ascending address order. -/
def RafterReq.pins (q : RafterReq) (t : Nat) : RafterPins :=
  let n := beats q.addr q.len
  { write := q.write, addr := q.addr, len := q.len - 1, tag := t, attr := q.attr, par := q.parity t,
    beats := if q.write then (List.range n).map (fun i => q.beat (q.addr / 128 + i) (i + 1 == n)) else [] }

/-- R585: a request transfers under a tag. -/
def State.issue (s : State) (t : Nat) (q : RafterReq) : State :=
  { s with
      outst := s.outst ++ [{ port := q.port, tag := t, req := q }]
      rftPins := s.rftPins.put q.port (q.pins t)
      rftAt := s.rftAt.put q.port s.rclk }

/-- Adds requests to those that are ready. -/
def State.enqueue (s : State) (qs : List RafterReq) : State := { s with rafterQ := s.rafterQ ++ qs }

/-- R591: the code of a response: a data parity error counts as DATA_ERR, and DATA_ERR on a write as TARGET_ERR. -/
def respCode (write : Bool) (r : Resp) : Nat :=
  if write then (if r.code.val == 3 then 1 else r.code.val)
  else if r.code.val == 0 && r.parity then 3 else r.code.val

/-- R592, R620: counts a failed request and records the first failure since RAFTER_EVT_p was last all zero. -/
def State.countFailure (s : State) (q : RafterReq) (code : Nat) (parity : Bool) : State :=
  let p := q.port
  let fresh := s.rget .RAFTER_EVT p == 0
  let s := s.count .RAFTER_ERR p (if q.write then fRAFTER_ERR_WRITES else fRAFTER_ERR_READS)
  let s := s.flag .RAFTER_EVT p (if q.write then fRAFTER_EVT_WR_FAIL else fRAFTER_EVT_RD_FAIL)
  let s := if parity && !q.write then s.flag .RAFTER_EVT p fRAFTER_EVT_PARITY else s
  if fresh then
    let s := s.rset .RAFTER_ERR_ADDR p (BitVec.ofNat 64 q.addr)
    let s := (s.fset .RAFTER_ERR_INFO p fRAFTER_ERR_INFO_CODE code).fsetB .RAFTER_ERR_INFO p
      fRAFTER_ERR_INFO_WRITE q.write
    let s := (s.fset .RAFTER_ERR_INFO p fRAFTER_ERR_INFO_KIND q.who.kind).fset .RAFTER_ERR_INFO p
      fRAFTER_ERR_INFO_ID q.who.num
    s.flag .RAFTER_ERR_INFO p fRAFTER_ERR_INFO_VALID
  else s

/-- R598, R768: a failure that is fatal. -/
def State.hostAccess (s : State) (q : RafterReq) (code : Nat) : State :=
  s.failStop .hostAccess
    (q.port + q.who.kind * 4 + q.who.num * 32 + code * 2 ^ 19 + q.write.toNat * 2 ^ 21) q.addr

/-- The outstanding request that a response answers, if its purpose is the one asked for and, for a read, the bytes
are all there. -/
def State.answered (s : State) (r : Resp) (f : Purpose → Bool) : Option RafterReq :=
  match s.outst.find? (fun o => o.port == r.port.val && o.tag == r.tag.val) with
  | none => none
  | some o =>
    if f o.req.purpose && (o.req.write || r.data.length == o.req.len) then some o.req else none

/-- R585: a response completes its tag. -/
def State.retag (s : State) (r : Resp) : State :=
  { s with outst := s.outst.filter (fun o => !(o.port == r.port.val && o.tag == r.tag.val)) }

/-- R592, R595: takes a response: the tag completes and a failure is counted. Outside fail-stop `k` brings about what
the response is for, given the request and its code, and in fail-stop `j`. A response that answers no such request changes
nothing. -/
def State.respondIn (s : State) (r : Resp) (f : Purpose → Bool) (k j : RafterReq → Nat → State → State) : State :=
  match s.answered r f with
  | none => s
  | some q =>
    let code := respCode q.write r
    let s := s.retag r
    let s := if code == 0 then s else s.countFailure q code r.parity
    if s.failed then j q code s else k q code s

/-- R595: a response that does nothing more in fail-stop. -/
def State.respond (s : State) (r : Resp) (f : Purpose → Bool) (k : RafterReq → Nat → State → State) : State :=
  s.respondIn r f k (fun _ _ s => s)

/-- R593, R768: a protocol violation, numbered in the order of R593. In fail-stop the first rule causes nothing. -/
def State.stray (s : State) (p t v : Nat) : State :=
  let dir := (s.outst.find? (fun o => o.port == p && o.tag == t)).map (·.req.write)
  let can := match v with
    | 0 => dir.isNone && !s.failed
    | 1 => dir.isSome
    | 2 => dir == some false
    | _ => true
  if can then s.failStop .rafterProtocol (p + t * 4 + v * 4096) 0 else s

end Sys2Proof.Machine
end

