-- ==== Sys2Proof/Machine/Dma.lean ====
section
/-! DEFINITION. The general DMA channels: descriptors and their checks (R602, R603), reads, writes, circular buffers
and swaps (R604 to R606), completion and chains (R607 to R612), channel states and errors (R613 to R615), and the
limiter (R601). -/

namespace Sys2Proof.Machine

/-- A channel's working state. -/
def State.chan (s : State) (k : Nat) : DmaChan := Store.get {} s.chans k
def State.setChan (s : State) (k : Nat) (c : DmaChan) : State := { s with chans := Store.set {} s.chans k c }
def State.modChan (s : State) (k : Nat) (f : DmaChan → DmaChan) : State := s.setChan k (f (s.chan k))

/-- R613: the channel states. -/
def cOFF : Nat := 0
def cRUNNING : Nat := 1
def cATEND : Nat := 2
def cSTOPPING : Nat := 3
def cHALTED : Nat := 4

def State.chanState (s : State) (k : Nat) : Nat := s.fget .DMA_CHAN_STAT k fDMA_CHAN_STAT_STATE
def State.setChanState (s : State) (k st : Nat) : State := s.fset .DMA_CHAN_STAT k fDMA_CHAN_STAT_STATE st

/-- A channel's tags outstanding. -/
def State.chanTags (s : State) (k : Nat) : Nat := (s.outst.filter (fun o => o.req.who == .chan k)).length

/-- R602: the fields of the flags word at bytes 20 to 23. -/
def DmaChan.barrier (c : DmaChan) : Bool := bitOf c.flags 0
def DmaChan.notify (c : DmaChan) : Bool := bitOf c.flags 1
def DmaChan.swap (c : DmaChan) : Nat := c.flags / 4 % 8
def DmaChan.srcCirc (c : DmaChan) : Bool := bitOf c.flags 5
def DmaChan.dstCirc (c : DmaChan) : Bool := bitOf c.flags 6
/-- R602: EOC and NEXT of the link word. -/
def linkEoc (l : Nat) : Bool := bitOf l 0
def linkNext (l : Nat) : Nat := l / 32 * 32

/-- R605: the address of byte i of a transfer at `a`, in a circular buffer of 2^log bytes if `circ`. -/
def circAddr (circ : Bool) (log a i : Nat) : Nat :=
  if circ then a - a % 2 ^ log + (a + i) % 2 ^ log else (a + i) % 2 ^ 64

/-- R606: the source byte that lands at destination byte i. -/
def swapIndex (swap i : Nat) : Nat :=
  match swap with
  | 1 => i / 4 * 4 + (3 - i % 4)
  | 2 => i / 8 * 8 + (7 - i % 8)
  | 3 => i / 4 * 4 + (i + 2) % 4
  | _ => i

/-- The descriptor in progress, or the one that completed last where none is. -/
def DmaChan.ref (c : DmaChan) : DescRef := { addr := c.cur, len := c.len, num := if c.active then c.num else c.num - 1 }

/-- R615: CUR and DONE_BYTES show the descriptor that failed; of one that has completed, every write request has
transferred. -/
def State.chanNames (s : State) (k : Nat) : Option DescRef → State
  | some d =>
    if d.num = (s.chan k).num then s
    else (s.fset .DMA_CHAN_CUR k fDMA_CHAN_CUR_ADDR d.addr).fset .DMA_CHAN_DONE_BYTES k fDMA_CHAN_DONE_BYTES_BYTES d.len
  | none => s

/-- R615: an error halts the channel and records the first one, and the descriptor that failed. -/
def State.chanHalt (s : State) (k err : Nat) (d : Option DescRef) : State :=
  if s.chanState k == cHALTED || s.chanState k == cOFF then s
  else
    let s := ((s.chanNames k d).setChanState k cHALTED).fset .DMA_CHAN_STAT k fDMA_CHAN_STAT_ERR err
    (s.modChan k (fun c => { c with fetch := none, wbs := [], stop := false, haltAt := some s.cclkStart })).flag
      .DMA_CHAN_EVT k fDMA_CHAN_EVT_HALT

/-- R603: whether a descriptor's 32 bytes are bad. -/
def State.descBad (s : State) (k : Nat) (d : List Byte) : Bool :=
  let src := cb d 0 8
  let dst := cb d 8 8
  let len := cb d 16 4
  let fl := cb d 20 4
  let link := cb d 24 8
  let swap := fl / 4 % 8
  let unit := if swap = 1 ∨ swap = 3 then 4 else if swap = 2 then 8 else 1
  len == 0 || decide (1073741824 < len) || decide (128 ≤ fl) || link / 2 % 16 != 0 || decide (4 ≤ swap) ||
    len % unit != 0 ||
    (bitOf fl 5 && decide (2 ^ s.fget .DMA_CHAN_CFG k fDMA_CHAN_CFG_SRC_LOG2 < len)) ||
    (bitOf fl 6 && decide (2 ^ s.fget .DMA_CHAN_CFG k fDMA_CHAN_CFG_DST_LOG2 < len)) ||
    (!bitOf fl 5 && decide (2 ^ 64 < src + len)) || (!bitOf fl 6 && decide (2 ^ 64 < dst + len))

/-- R601: a credit after `n` cycles at SHARE. -/
def credited (c : Int) (share n : Nat) : Int := if share = 0 then 0 else min 0 (c + (share * n : Nat))

/-- R601: the read or write credit of a channel now. -/
def State.credit (s : State) (k : Nat) (write : Bool) : Int :=
  let c := s.chan k
  credited (if write then c.wrCredit else c.rdCredit) (s.fget .DMA_CHAN_CFG k fDMA_CHAN_CFG_SHARE) (s.rclk - c.creditAt)

/-- R601: the limiter allows a request. -/
def State.allows (s : State) (k : Nat) (write : Bool) : Bool :=
  s.fget .DMA_CHAN_CFG k fDMA_CHAN_CFG_SHARE == 0 || decide (0 ≤ s.credit k write)

/-- R601: both credits are brought up to date, and one is charged 256 for each beat. -/
def State.charge (s : State) (k : Nat) (write : Bool) (n : Nat) : State :=
  let rd := s.credit k false
  let wr := s.credit k true
  let lim := s.fget .DMA_CHAN_CFG k fDMA_CHAN_CFG_SHARE != 0
  let x : Int := if lim then 256 * n else 0
  s.modChan k fun c =>
    { c with rdCredit := if write then rd else rd - x, wrCredit := if write then wr - x else wr, creditAt := s.rclk }

/-- A request of a channel. -/
def State.chanReq (s : State) (k : Nat) (write : Bool) (a n : Nat) (data : List Byte) (ctrl : Bool) (p : Purpose) :
    RafterReq :=
  { who := .chan k, port := s.fget .DMA_CHAN_CFG k fDMA_CHAN_CFG_RAFTER
    level := s.fget .DMA_CHAN_CFG k fDMA_CHAN_CFG_DMA_PRI, write := write, addr := a, len := n, data := data,
    msg := false, ctrl := ctrl, purpose := p }

/-- The byte at an offset of the staging buffer, if it has returned. -/
def stageByte : List (Nat × List Byte) → Nat → Option Byte
  | [], _ => none
  | (o, d) :: t, i => if o ≤ i && i < o + d.length then d[i - o]? else stageByte t i

/-- R604, R606: destination bytes `o` to `o + n - 1`, if all of them are in the buffer. -/
def DmaChan.destBytes (c : DmaChan) (o n : Nat) : Option (List Byte) :=
  (List.range n).mapM (fun i => stageByte c.got (swapIndex c.swap (o + i)))

/-- A descriptor read or re-read of a channel is outstanding. -/
def State.descOut (s : State) (k : Nat) : Bool :=
  s.outst.any (fun o => match o.req.purpose with | .dmaDesc j _ => j == k | _ => false)

/-- R604, R611: the read a channel would issue next. -/
def State.chanRead (s : State) (k : Nat) : Option RafterReq :=
  let c := s.chan k
  let st := s.chanState k
  if !(st == cRUNNING || st == cATEND) || !s.allows k false then none
  else
    match c.fetch with
    | some re =>
      if s.descOut k then none
      else if re then some (s.chanReq k false (c.cur + 24) 8 [] true (.dmaDesc k true))
      else some (s.chanReq k false c.cur 32 [] true (.dmaDesc k false))
    | none =>
      let a := circAddr c.srcCirc (s.fget .DMA_CHAN_CFG k fDMA_CHAN_CFG_SRC_LOG2) c.src c.rdOff
      let n := blockPart a (c.len - c.rdOff)
      if c.active && decide (c.rdOff < c.len) && decide (c.reads < 16) && decide (c.rdOff + n - c.wrOff ≤ 4096) then
        some (s.chanReq k false a n [] false (.dmaRead k c.rdOff))
      else none

/-- R604, R609: the write a channel would issue next. -/
def State.chanWrite (s : State) (k : Nat) : Option RafterReq :=
  let c := s.chan k
  let st := s.chanState k
  if !(st == cRUNNING || st == cATEND) || !s.allows k true then none
  else
    match c.wbs with
    | (d, r) :: _ => some (s.chanReq k true (s.fget .DMA_CHAN_DONE_ADDR k fDMA_CHAN_DONE_ADDR_ADDR) 8 d true (.dmaWb k r))
    | [] =>
      let a := circAddr c.dstCirc (s.fget .DMA_CHAN_CFG k fDMA_CHAN_CFG_DST_LOG2) c.dst c.wrOff
      let n := blockPart a (c.len - c.wrOff)
      if c.active && decide (c.wrOff < c.len) then
        (c.destBytes c.wrOff n).map (fun d => s.chanReq k true a n d false (.dmaWrite k c.ref))
      else none

/-- R601, R604, R611: what the transfer of a channel's request changes. -/
def State.chanIssued (s : State) (k : Nat) (q : RafterReq) : State :=
  let s := s.charge k q.write (beats q.addr q.len)
  match q.purpose with
  | .dmaDesc _ _ =>
    s.modChan k (fun c => { c with fetch := none, sample := s.fget .DMA_CHAN_APPCNT k fDMA_CHAN_APPCNT_COUNT })
  | .dmaRead _ _ =>
    let s := s.modChan k (fun c => { c with rdOff := c.rdOff + q.len, reads := c.reads + 1 })
    s.fset .DMA_CHAN_STAT k fDMA_CHAN_STAT_READS (s.chan k).reads
  | .dmaWrite _ _ =>
    let s := s.modChan k fun c =>
      let w := c.wrOff + q.len
      { c with wrOff := w, writes := c.writes + 1, got := c.got.filter (fun e => decide (w / 8 * 8 < e.1 + e.2.length)) }
    s.fset .DMA_CHAN_DONE_BYTES k fDMA_CHAN_DONE_BYTES_BYTES (s.chan k).wrOff
  | .dmaWb _ _ => s.modChan k (fun c => { c with wbs := c.wbs.drop 1 })
  | _ => s

/-- R610, R614: a write of START. -/
def State.chanStart (s : State) (k : Nat) : State :=
  let head := s.fget .DMA_CHAN_HEAD k fDMA_CHAN_HEAD_ADDR
  let bad := s.chanState k != cOFF || head % 32 != 0 ||
    (s.fbit .DMA_CHAN_CFG k fDMA_CHAN_CFG_DONE_WB && s.fget .DMA_CHAN_DONE_ADDR k fDMA_CHAN_DONE_ADDR_ADDR % 8 != 0)
  if bad then s.flag .DMA_CHAN_EVT k fDMA_CHAN_EVT_CFG_REFUSED
  else
    let s := (s.fset .DMA_CHAN_CUR k fDMA_CHAN_CUR_ADDR head).fset .DMA_CHAN_STAT k fDMA_CHAN_STAT_ERR 0
    let s := s.fset .DMA_CHAN_DONE_BYTES k fDMA_CHAN_DONE_BYTES_BYTES 0
    (s.modChan k (fun c => { rdCredit := c.rdCredit, wrCredit := c.wrCredit, creditAt := c.creditAt,
                             fetch := some false, cur := head })).setChanState k cRUNNING

/-- R613, R614: a write of STOP. In the CCLK cycle of a halt it is ignored. -/
def State.chanStop (s : State) (k : Nat) : State :=
  let st := s.chanState k
  if st == cRUNNING || st == cATEND then
    (s.modChan k (fun c => { c with fetch := none, wbs := [] })).setChanState k cSTOPPING
  else if st == cHALTED && (s.chan k).haltAt != some s.cclkStart then s.modChan k (fun c => { c with stop := true })
  else s

/-- R611: a write of RING. -/
def State.chanRing (s : State) (k : Nat) : State :=
  let s := s.wrapAdd .DMA_CHAN_APPCNT k fDMA_CHAN_APPCNT_COUNT 1
  if s.chanState k == cATEND then s.modChan k (fun c => { c with fetch := some true }) else s

/-- R612, R611: the channel goes on from a link word: to NEXT, or to AT_END or a re-read at the end of the chain. -/
def State.chanLink (s : State) (k : Nat) : State :=
  let c := s.chan k
  if !linkEoc c.link then
    let s := s.fset .DMA_CHAN_CUR k fDMA_CHAN_CUR_ADDR (linkNext c.link)
    (s.modChan k (fun c => { c with active := false, cur := linkNext c.link, fetch := some false })).setChanState k cRUNNING
  else if c.sample != s.fget .DMA_CHAN_APPCNT k fDMA_CHAN_APPCNT_COUNT then
    s.modChan k (fun c => { c with active := false, fetch := some true })
  else if s.chanState k == cATEND then s.modChan k (fun c => { c with active := false })
  else
    ((s.modChan k (fun c => { c with active := false })).setChanState k cATEND).flag .DMA_CHAN_EVT k fDMA_CHAN_EVT_AT_END

/-- R603, R612, R615: a descriptor or a re-read link word returns. A bad one halts a channel that is stopping too (R613). -/
def State.chanDesc (s : State) (k : Nat) (reread : Bool) (code : Nat) (d : List Byte) : State :=
  let st := s.chanState k
  let named := if reread then some (s.chan k).ref else none
  if code != 0 then s.chanHalt k 1 named
  else if if reread then cb d 0 8 / 2 % 16 != 0 else s.descBad k d then s.chanHalt k 2 named
  else if !(st == cRUNNING || st == cATEND) then s
  else if reread then (s.modChan k (fun c => { c with link := cb d 0 8 })).chanLink k
  else
    let s := s.fset .DMA_CHAN_DONE_BYTES k fDMA_CHAN_DONE_BYTES_BYTES 0
    s.modChan k fun c =>
      { c with active := true, src := cb d 0 8, dst := cb d 8 8, len := cb d 16 4, flags := cb d 20 4,
               link := cb d 24 8, rdOff := 0, wrOff := 0, got := [] }

/-- R595, R617: a data read of a channel is no longer outstanding. -/
def State.chanReadOver (s : State) (k : Nat) : State :=
  let s := s.modChan k (fun c => { c with reads := c.reads - 1 })
  s.fset .DMA_CHAN_STAT k fDMA_CHAN_STAT_READS (s.chan k).reads

/-- R604, R615: a data read returns into the staging buffer. -/
def State.chanData (s : State) (k off code : Nat) (d : List Byte) : State :=
  let s := s.chanReadOver k
  if code != 0 then s.chanHalt k 3 none else s.modChan k (fun c => { c with got := c.got ++ [(off, d)] })

/-- R595, R607, R618: a data write is no longer outstanding; the bytes of one answered OKAY are counted. -/
def State.chanWriteOver (s : State) (k len code : Nat) : State :=
  let s := s.modChan k (fun c => { c with writes := c.writes - 1 })
  if code = 0 then s.satAdd .DMA_CHAN_BYTES k fDMA_CHAN_BYTES_BYTES len else s

/-- R607, R615: a data write's response returns. -/
def State.chanWritten (s : State) (k len code : Nat) (d : DescRef) : State :=
  let s := s.chanWriteOver k len code
  if code != 0 then s.chanHalt k 4 (some d) else s

/-- R607: the descriptor in progress completes now. -/
def State.chanDone (s : State) (k : Nat) : Bool :=
  let c := s.chan k
  s.chanState k == cRUNNING && c.active && c.rdOff == c.len && c.reads == 0 && c.wrOff == c.len &&
    (!c.barrier || c.writes == 0)

/-- R609, R610, R611: a descriptor completes. -/
def State.chanComplete (s : State) (k : Nat) : State :=
  if s.chanDone k && !s.failed then
    let s := s.wrapAdd .DMA_CHAN_DONE_CNT k fDMA_CHAN_DONE_CNT_COUNT 1
    let s := s.fset .DMA_CHAN_DONE_BYTES k fDMA_CHAN_DONE_BYTES_BYTES 0
    let n := s.fget .DMA_CHAN_DONE_CNT k fDMA_CHAN_DONE_CNT_COUNT
    let s :=
      if (s.chan k).notify then
        if s.fbit .DMA_CHAN_CFG k fDMA_CHAN_CFG_DONE_WB then
          s.modChan k (fun c => { c with wbs := c.wbs ++ [(leBytes 8 n, c.ref)] })
        else s.flag .DMA_CHAN_EVT k fDMA_CHAN_EVT_DESC_DONE
      else s
    (s.modChan k (fun c => { c with num := c.num + 1 })).chanLink k
  else s

/-- R609, R615: a done write-back's response returns. -/
def State.chanWbDone (s : State) (k code : Nat) (d : DescRef) : State :=
  if code != 0 then s.chanHalt k 5 (some d) else s.flag .DMA_CHAN_EVT k fDMA_CHAN_EVT_DESC_DONE

/-- R613: a STOPPING channel, or a HALTED one that has been written STOP, enters OFF once no tag is outstanding. -/
def State.chanStopped (s : State) (k : Nat) : State :=
  let st := s.chanState k
  if (st == cSTOPPING || (st == cHALTED && (s.chan k).stop)) && s.chanTags k == 0 then
    (s.modChan k (fun c => { rdCredit := c.rdCredit, wrCredit := c.wrCredit, creditAt := c.creditAt })).setChanState k cOFF
  else s

/-- R617: a re-thatch stops every channel and returns its status registers to their Reset values. -/
def State.dmaClear (s : State) : State :=
  let s := s.forEach (List.range 64) fun s k =>
    (((s.rreset .DMA_CHAN_STAT k).rreset .DMA_CHAN_APPCNT k).rreset .DMA_CHAN_DONE_BYTES k).rreset .DMA_CHAN_DONE_CNT k
      |>.rreset .DMA_CHAN_EVT k
  { s with chans := [] }

end Sys2Proof.Machine
end

