-- ==== Sys2Proof/Machine/Parse.lean ====
section
/-! DEFINITION. The parser of a course (R308 to R316), the receive checksums (R327 to R329), the parse summary (R321,
R322) and the building of keys (R324, R325). -/

namespace Sys2Proof.Machine

/-- R315: slow-path reasons. -/
def rDEPTH : Nat := 1
def rLENGTH : Nat := 2
def rFRAGMENT : Nat := 3
def rUNKNOWN : Nat := 4
def rCHECKSUM : Nat := 5
def rNO_MATCH : Nat := 6
def rRECIRC : Nat := 7

/-- What COURSE_PARSE_CFG and COURSE_UDP_PORTS set. -/
structure ParseCfg where
  csum : Bool
  v6zero : Bool
  tpid : Option Nat
  vxlan : Option Nat
  geneve : Option Nat
  gtpu : Option Nat
  ecpri : Option Nat
  deriving DecidableEq, Repr

/-- The parse configuration of course c. -/
def State.parseCfg (s : State) (c : Nat) : ParseCfg :=
  let on (f : Field) := s.fbit .COURSE_PARSE_CFG c f
  let port (f : Field) := s.fget .COURSE_UDP_PORTS c f
  let ec := port fCOURSE_UDP_PORTS_ECPRI_PORT
  { csum := on fCOURSE_PARSE_CFG_CSUM_EN
    v6zero := on fCOURSE_PARSE_CFG_V6_ZERO_OK
    tpid := if on fCOURSE_PARSE_CFG_TPID_X_EN then some (s.fget .COURSE_PARSE_CFG c fCOURSE_PARSE_CFG_TPID_X) else none
    vxlan := if on fCOURSE_PARSE_CFG_VXLAN_EN then some (port fCOURSE_UDP_PORTS_VXLAN_PORT) else none
    geneve := if on fCOURSE_PARSE_CFG_GENEVE_EN then some (port fCOURSE_UDP_PORTS_GENEVE_PORT) else none
    gtpu := if on fCOURSE_PARSE_CFG_GTPU_EN then some (port fCOURSE_UDP_PORTS_GTPU_PORT) else none
    ecpri := if ec == 0 then none else some ec }

/-- The headers of R308; an extension carries its Next Header value. -/
inductive Hdr where
  | eth | vlan | mpls | ip4 | ip6 | ext (nh : Nat) | tcp | udp | vxlan | geneve | gtpu | ecpri | ptp | lpm
  deriving DecidableEq, Repr

/-- An IP header reached: its version, offset, the end of its payload, its extensions' Routing header with non-zero
Segments Left, and its TCP or UDP header. -/
structure IpPart where
  v6 : Bool
  off : Nat
  stop : Nat
  routed : Bool := false
  l4 : Option (Bool × Nat) := none       -- true: UDP
  deriving DecidableEq, Repr

/-- How far a pass has come. -/
structure Walk where
  n : Nat := 0                           -- headers so far (R310)
  pay : Nat := 0                         -- first byte after the last header
  eths : Nat := 0
  tags : Nat := 0                        -- on the present Ethernet header
  labels : Nat := 0                      -- of the present stack
  exts : Nat := 0                        -- of the present IPv6 header
  outer : Option IpPart := none
  inner : Option IpPart := none
  udpEnd : Nat := 0
  tun : Option Nat := none
  il2 : Option Nat := none
  app : Option (Hdr × Nat) := none
  vlanCnt : Nat := 0
  mplsCnt : Nat := 0
  anyMpls : Bool := false
  tci : Option Nat := none               -- first tag of the first Ethernet header
  trailer : Bool := false
  nested : Bool := false
  deriving DecidableEq, Repr

/-- What follows a header: another one at an offset, the normal end, or the slow path with a reason. -/
inductive Follow where
  | go (h : Hdr) (off : Nat)
  | stop
  | slow (reason : Nat)
  deriving DecidableEq, Repr

/-- Byte i of a list, as a number. -/
def byteAt (b : List Byte) (i : Nat) : Nat := (b.getD i 0).toNat
/-- Bytes i and i + 1 in network order. -/
def be2 (b : List Byte) (i : Nat) : Nat := byteAt b i * 256 + byteAt b (i + 1)

/-- The IP part that the walk is in. -/
def Walk.cur (w : Walk) : Option IpPart := if w.tun.isSome then w.inner else w.outer
def Walk.setCur (w : Walk) (p : IpPart) : Walk :=
  if w.tun.isSome then { w with inner := some p } else { w with outer := some p }
/-- The end of the current IP payload. -/
def Walk.lim (w : Walk) : Nat := match w.cur with | some p => p.stop | none => 0

/-- R313, then R312, for a header of `len` bytes at `off` of a frame with `av` bytes before its FCS; `extra`: its kind
is one too many. -/
def Walk.bad (w : Walk) (av off len : Nat) (extra : Bool) : Option Nat :=
  if av < off + len then some rLENGTH
  else if 16 ≤ w.n || decide (384 < off + len) || extra then some rDEPTH
  else none

/-- The header counts as reached (R310). -/
def Walk.took (w : Walk) (e : Nat) : Walk := { w with n := w.n + 1, pay := e }

/-- R308: what an Ethernet type at the end `o` of its header leads to. -/
def byType (cfg : ParseCfg) (b : List Byte) (t o : Nat) : Follow :=
  if t < 0x0600 then (if 0x05DD ≤ t ∨ b.length < o + t then .slow rLENGTH else .stop)
  else if t = 0x8100 ∨ t = 0x88A8 ∨ cfg.tpid = some t then .go .vlan o
  else if t = 0x8847 ∨ t = 0x8848 then .go .mpls o
  else if t = 0x0800 then .go .ip4 o
  else if t = 0x86DD then .go .ip6 o
  else if t = 0xAEFE then .go .ecpri o
  else if t = 0x88F7 then .go .ptp o
  else if t = 0x88B5 ∧ o < b.length ∧ byteAt b o = 0xF1 then .go .lpm o
  else .stop

/-- R308, R314: what an IPv6 Next Header leads to; `first`: it stands in the IPv6 header itself. -/
def byNext (nh o : Nat) (first : Bool) : Follow :=
  if nh = 44 then .slow rFRAGMENT
  else if nh = 135 ∨ nh = 139 ∨ nh = 140 ∨ nh = 253 ∨ nh = 254 ∨ (nh = 0 ∧ !first) then .slow rUNKNOWN
  else if nh = 0 ∨ nh = 43 ∨ nh = 51 ∨ nh = 60 then .go (.ext nh) o
  else if nh = 6 then .go .tcp o
  else if nh = 17 then .go .udp o
  else .stop

/-- An IP header is reached: TRAILER where its payload ends before the frame does. -/
def Walk.tookIp (w : Walk) (av : Nat) (p : IpPart) (e : Nat) : Walk :=
  let w := (w.took e).setCur p
  { w with exts := 0, trailer := w.trailer || decide (p.stop < av) }

/-- The length of a GTP-U header with its extensions from offset `p` on (next type `ty`), and whether an extension has
length 0 or passes `lim`; a header that runs past `av` ends there. -/
def gtpuExts (b : List Byte) (lim : Nat) : Nat → Nat → Nat → Bool → Nat × Bool
  | 0, p, _, bad => (p, bad)
  | fuel + 1, p, ty, bad =>
    if ty = 0 then (p, bad)
    else if b.length ≤ p then (b.length + 1, bad)
    else
      let e := p + 4 * byteAt b p
      if e = p then (p, true)
      else if b.length < e then (e, bad)
      else gtpuExts b lim fuel e (byteAt b (e - 1)) (bad || decide (lim < e))

/-- R308 to R314: takes one header. -/
def Walk.header (cfg : ParseCfg) (b : List Byte) (w : Walk) (h : Hdr) (o : Nat) : Walk × Follow :=
  let av := b.length
  let u8 (i : Nat) := byteAt b i
  let u16 (i : Nat) := be2 b i
  let plain (len : Nat) (extra : Bool) (k : Walk → Walk × Follow) : Walk × Follow :=
    match w.bad av o len extra with
    | some r => (w, .slow r)
    | none => k (w.took (o + len))
  match h with
  | .eth => plain 14 false fun w =>
      ({ w with eths := w.eths + 1, tags := 0, il2 := if w.eths = 0 then none else some o },
        byType cfg b (u16 (o + 12)) (o + 14))
  | .vlan => plain 4 (decide (3 ≤ w.tags)) fun w =>
      let w := { w with tags := w.tags + 1, labels := 0 }
      let w := if w.eths = 1 then
          { w with vlanCnt := w.tags, tci := some (w.tci.getD (u16 o)) } else w
      (w, byType cfg b (u16 (o + 2)) (o + 4))
  | .mpls => plain 4 (decide (4 ≤ w.labels)) fun w =>
      let w := { w with labels := w.labels + 1, anyMpls := true }
      let w := if w.eths = 1 then { w with mplsCnt := w.labels } else w
      if u8 (o + 2) % 2 = 0 then (w, .go .mpls (o + 4))
      else if av ≤ o + 4 then (w, .slow rLENGTH)
      else
        let w := { w with labels := 0 }
        (w, if u8 (o + 4) / 16 = 4 then .go .ip4 (o + 4) else if u8 (o + 4) / 16 = 6 then .go .ip6 (o + 4) else .stop)
  | .ip4 =>
      if av ≤ o then (w, .slow rLENGTH)
      else
        let hl := 4 * (u8 o % 16)
        match w.bad av o hl false with
        | some r => (w, .slow r)
        | none =>
          if hl < 20 then (w, .slow rLENGTH)
          else
            let tl := u16 (o + 2)
            if tl < hl ∨ av < o + tl then (w, .slow rLENGTH)
            else
              let w := w.tookIp av { v6 := false, off := o, stop := o + tl } (o + hl)
              (w, if u16 (o + 6) % 0x4000 ≠ 0 then .slow rFRAGMENT
                else if u8 o / 16 ≠ 4 then .slow rUNKNOWN
                else if u8 (o + 9) = 6 then .go .tcp (o + hl)
                else if u8 (o + 9) = 17 then .go .udp (o + hl)
                else .stop)
  | .ip6 =>
      match w.bad av o 40 false with
      | some r => (w, .slow r)
      | none =>
        let pl := u16 (o + 4)
        let nh := u8 (o + 6)
        if av < o + 40 + pl ∨ (pl = 0 ∧ nh ≠ 59) then (w, .slow rLENGTH)
        else
          let w := w.tookIp av { v6 := true, off := o, stop := o + 40 + pl } (o + 40)
          (w, if nh ≠ 44 ∧ u8 o / 16 ≠ 6 then .slow rUNKNOWN else byNext nh (o + 40) true)
  | .ext nh =>
      if av ≤ o + 1 then (w, .slow rLENGTH)
      else
        let hl := if nh = 51 then 4 * (u8 (o + 1) + 2) else 8 * (u8 (o + 1) + 1)
        match w.bad av o hl (decide (4 ≤ w.exts)) with
        | some r => (w, .slow r)
        | none =>
          if w.lim < o + hl then (w, .slow rLENGTH)
          else
            let w := { w.took (o + hl) with exts := w.exts + 1 }
            let w := match w.cur with
              | some p => w.setCur { p with routed := p.routed || (nh == 43 && u8 (o + 3) != 0) }
              | none => w
            (w, byNext (u8 o) (o + hl) false)
  | .tcp =>
      if av ≤ o + 12 then (w, .slow rLENGTH)
      else
        let hl := 4 * (u8 (o + 12) / 16)
        match w.bad av o hl false with
        | some r => (w, .slow r)
        | none =>
          if w.lim < o + hl ∨ hl < 20 then (w, .slow rLENGTH)
          else
            let w := w.took (o + hl)
            (match w.cur with | some p => w.setCur { p with l4 := some (false, o) } | none => w, .stop)
  | .udp =>
      match w.bad av o 8 false with
      | some r => (w, .slow r)
      | none =>
        let ul := u16 (o + 4)
        if w.lim < o + 8 ∨ ul < 8 ∨ w.lim < o + ul then (w, .slow rLENGTH)
        else
          let short := decide (o + ul < w.lim)
          let w := { w.took (o + 8) with udpEnd := o + ul, trailer := w.trailer || short }
          let w := match w.cur with | some p => w.setCur { p with l4 := some (true, o) } | none => w
          let dst := u16 (o + 2)
          let tun : Option Hdr := if cfg.vxlan = some dst then some .vxlan else if cfg.geneve = some dst then some .geneve
            else if cfg.gtpu = some dst then some .gtpu else none
          match tun with
          | some t => if w.tun.isSome then ({ w with nested := true }, .stop) else (w, .go t (o + 8))
          | none =>
            (w, if cfg.ecpri = some dst then .go .ecpri (o + 8)
              else if dst = 319 ∨ dst = 320 then .go .ptp (o + 8) else .stop)
  | .vxlan =>
      match w.bad av o 8 false with
      | some r => (w, .slow r)
      | none =>
        if w.udpEnd < o + 8 then (w, .slow rLENGTH)
        else ({ w.took (o + 8) with tun := some o }, .go .eth (o + 8))
  | .geneve =>
      if av ≤ o then (w, .slow rLENGTH)
      else
        let hl := 8 + 4 * (u8 o % 64)
        match w.bad av o hl false with
        | some r => (w, .slow r)
        | none =>
          if w.udpEnd < o + hl then (w, .slow rLENGTH)
          else if u8 o / 64 ≠ 0 then (w, .slow rUNKNOWN)
          else
            let t := u16 (o + 2)
            ({ w.took (o + hl) with tun := some o },
              if t = 0x6558 then .go .eth (o + hl) else if t = 0x0800 then .go .ip4 (o + hl)
              else if t = 0x86DD then .go .ip6 (o + hl) else .stop)
  | .gtpu =>
      if av < o + 8 then (w, .slow rLENGTH)
      else
        let f := u8 o
        let (e, bad) := if f % 8 = 0 then (o + 8, false)
          else if f / 4 % 2 = 0 then (o + 12, false)
          else if av < o + 12 then (o + 12, false)
          else gtpuExts b w.udpEnd b.length (o + 12) (u8 (o + 11)) false
        match w.bad av o (e - o) false with
        | some r => (w, .slow r)
        | none =>
          let pdu := u8 (o + 1) == 0xFF
          if bad || decide (w.udpEnd < o + 8 + u16 (o + 2)) || (pdu && decide (av ≤ e)) then (w, .slow rLENGTH)
          else if f / 32 ≠ 1 then (w, .slow rUNKNOWN)
          else
            let w := { w.took e with tun := some o }
            (w, if !pdu then .stop
              else if u8 e / 16 = 4 then .go .ip4 e
              else if u8 e / 16 = 6 then .go .ip6 e
              else .slow rUNKNOWN)
  | .ecpri =>
      match w.bad av o 4 false with
      | some r => (w, .slow r)
      | none =>
        if av < o + 4 + u16 (o + 2) then (w, .slow rLENGTH)
        else if u8 o / 16 ≠ 1 then (w, .slow rUNKNOWN)
        else ({ w.took (o + 4) with app := some (.ecpri, o) }, .stop)
  | .ptp => plain 34 false fun w => ({ w with app := some (.ptp, o) }, .stop)
  | .lpm => plain 36 false fun w => ({ w with app := some (.lpm, o) }, .stop)

/-- R308, R316: walks the headers from one on; at most 17 are tried. The reason is 0 at a normal end. -/
def walkFrom (cfg : ParseCfg) (b : List Byte) : Nat → Walk → Hdr → Nat → Walk × Nat
  | 0, w, _, _ => (w, rDEPTH)
  | fuel + 1, w, h, o =>
    match w.header cfg b h o with
    | (w, .go h' o') => walkFrom cfg b fuel w h' o'
    | (w, .stop) => (w, 0)
    | (w, .slow r) => (w, r)

/-- The sum of the 16-bit words of a list in network order, a last odd byte padded with zero. -/
def sum16 : List Byte → Nat
  | [] => 0
  | [x] => x.toNat * 256
  | x :: y :: t => x.toNat * 256 + y.toNat + sum16 t

/-- A one's complement sum whose words make 0xFFFF. -/
def sumGood (n : Nat) : Bool := n != 0 && n % 65535 == 0

/-- The bytes from `o` up to `e`. -/
def slice (b : List Byte) (o e : Nat) : List Byte := (b.drop o).take (e - o)

/-- The addresses' part of a pseudo-header -/
def IpPart.addrs (p : IpPart) (b : List Byte) : List Byte :=
  if p.v6 then slice b (p.off + 8) (p.off + 40) else slice b (p.off + 12) (p.off + 20)

/-- R327, R328: the IPv4 header checksum: 0 NONE, 1 GOOD, 2 BAD. -/
def ip4Csum (cfg : ParseCfg) (b : List Byte) : Option IpPart → Nat
  | some p => if !cfg.csum || p.v6 then 0
      else if sumGood (sum16 (slice b p.off (p.off + 4 * (byteAt b p.off % 16)))) then 1 else 2
  | none => 0

/-- R327 to R329: the TCP or UDP checksum of an IP part; `tunnelled`: its UDP header led to a tunnel that was
followed. -/
def l4Csum (cfg : ParseCfg) (b : List Byte) (trunc tunnelled : Bool) : Option IpPart → Nat
  | some p =>
    match p.l4 with
    | none => 0
    | some (udp, o) =>
      if !cfg.csum || trunc || (p.v6 && p.routed) then 0
      else
        let e := if udp then o + be2 b (o + 4) else p.stop
        if udp && be2 b (o + 6) == 0 then (if !p.v6 || (cfg.v6zero && tunnelled) then 0 else 2)
        else if sumGood (sum16 (p.addrs b) + (if udp then 17 else 6) + (e - o) + sum16 (slice b o e)) then 1 else 2
  | none => 0

/-- What a pass concludes about a frame's headers. -/
structure Parsed where
  w : Walk
  reason : Nat                           -- 0 none
  l4bad : Bool                           -- a bad TCP or UDP checksum, no IPv4 one and no structural reason
  cls : Nat
  csums : Nat                            -- bits [19:12] of the summary
  deriving DecidableEq, Repr

/-- R322: the parse class. -/
def Walk.cls (w : Walk) : Nat :=
  match w.app with
  | some (.lpm, _) => 0xE
  | some (.ptp, _) => 0xA
  | some (_, _) => if w.outer.isNone then 0x8 else if w.tun.isSome && w.inner.isNone then 0xD else 0x9
  | none =>
    if w.tun.isSome then (match w.inner with | some p => if p.v6 then 0xC else 0xB | none => 0xD)
    else match w.outer with
      | some p =>
        match p.l4 with
        | some (udp, _) => (if p.v6 then 6 else 3) + udp.toNat
        | none => if p.v6 then 5 else 2
      | none => if w.anyMpls then 1 else 0

/-- R308 to R329: one pass of the parser over a frame's bytes before its FCS. -/
def parse (cfg : ParseCfg) (b : List Byte) (trunc : Bool) : Parsed :=
  let (w, r) := walkFrom cfg b 17 {} .eth 0
  let c0 := ip4Csum cfg b w.outer
  let c1 := l4Csum cfg b trunc w.tun.isSome w.outer
  let c2 := ip4Csum cfg b w.inner
  let c3 := l4Csum cfg b trunc false w.inner
  let ipBad := c0 == 2 || c2 == 2
  { w := w
    reason := if r != 0 then r else if ipBad then rCHECKSUM else 0
    l4bad := r == 0 && !ipBad && (c1 == 2 || c3 == 2)
    cls := w.cls
    csums := c0 + c1 * 4 + c2 * 16 + c3 * 64 }

/-- R321: the parse summary of pass number `pass`. -/
def Parsed.summary (p : Parsed) (pass : Nat) : Nat :=
  p.cls + p.w.vlanCnt * 2 ^ 4 + p.w.mplsCnt * 2 ^ 6 + p.w.tun.isSome.toNat * 2 ^ 9 + p.w.trailer.toNat * 2 ^ 10 +
    p.w.nested.toNat * 2 ^ 11 + p.csums * 2 ^ 12 + p.w.pay * 2 ^ 20 + pass * 2 ^ 29

/-- R311: the offset of an anchor by its code; META is read apart. -/
def Walk.anchor (w : Walk) : Nat → Option Nat
  | 0 => some 0
  | 1 => w.outer.map (·.off)
  | 2 => w.outer.bind (fun p => p.l4.map (·.2))
  | 3 => w.tun
  | 4 => w.il2
  | 5 => w.inner.map (·.off)
  | 6 => w.inner.bind (fun p => p.l4.map (·.2))
  | 7 => w.app.map (·.2)
  | 8 => some w.pay
  | _ => none

/-- R323: the PTP header, and the UDP header at IL4, or at OL4 if IL4 is absent. -/
def Walk.ptp (w : Walk) : Option Nat := match w.app with | some (.ptp, o) => some o | _ => none
def Walk.udp (w : Walk) : Option Nat :=
  match w.inner.bind (·.l4), w.outer.bind (·.l4) with
  | some (true, o), _ => some o
  | none, some (true, o) => some o
  | _, _ => none

/-- R325: the META bytes. -/
def Parsed.metaByte (p : Parsed) (port pass i : Nat) : Nat :=
  let vid := p.w.tci.getD 0 % 4096
  match i with
  | 0 => port
  | 1 => p.cls
  | 2 => p.w.vlanCnt + p.w.mplsCnt * 4 + p.w.tun.isSome.toNat * 32
  | 3 => pass
  | 4 => vid / 256
  | 5 => vid % 256
  | _ => 0

/-- R325: the byte that an extraction reads. -/
def Parsed.keyByte (p : Parsed) (b : List Byte) (port pass anchor off : Nat) : Nat :=
  if anchor = 9 then p.metaByte port pass off
  else match p.w.anchor anchor with
    | none => 0
    | some a => if 384 ≤ a + off then 0 else byteAt b (a + off)

/-- R325: the two key bytes of a profile command. -/
def Parsed.keyPair (p : Parsed) (b : List Byte) (port pass : Nat) (cmd : Nat) : Nat :=
  if cmd % 2 = 0 then 0
  else
    let an := cmd / 2 % 16
    let off := cmd / 32 % 512
    let mask := cmd / 65536 % 65536
    let hi := p.keyByte b port pass an off &&& (mask / 256)
    let lo := p.keyByte b port pass an (off + 1) &&& (mask % 256)
    hi + lo * 256

/-- R325: a key as its length in bits and its value, key byte 0 least significant. -/
def Parsed.key (p : Parsed) (b : List Byte) (port pass : Nat) (cmds : List Nat) : Nat × Nat :=
  let used := cmds.zipIdx.foldl (fun a x => if x.1 % 2 = 1 then x.2 + 1 else a) 0
  (16 * used, (cmds.take used).foldr (fun c acc => p.keyPair b port pass c + acc * 65536) 0)

/-- The commands of a key profile of course c. -/
def State.profile (s : State) (c p : Nat) : List Nat :=
  (List.range 24).map (fun k => (s.rget .COURSE_KPROF (c * 1536 + p * 24 + k)).toNat)

/-- R324: the valid slots of a key select entry, as slot, table and profile. -/
def ksSlots (w : Nat) : List (Nat × Nat × Nat) :=
  (List.range 4).filterMap fun i =>
    let x := w / 65536 ^ i % 65536
    if x % 2 = 1 then some (i, x / 2 % 4, x / 8 % 64) else none

/-- R324, R357: one key of a pass: its slot, table, profile, length in units of 2 B and value. -/
structure KeyReq where
  slot : Nat
  table : Nat
  profile : Nat
  len : Nat
  key : Nat
  deriving DecidableEq, Repr

/-- R324: the keys of a pass of port p in course c. -/
def State.lookups (s : State) (c port pass : Nat) (b : List Byte) (p : Parsed) : List KeyReq :=
  let e := c * 64 + 16 * (port % 4) + p.cls
  (ksSlots (s.rget .COURSE_KSEL e).toNat).map fun (i, t, pr) =>
    let k := p.key b port pass (s.profile c pr)
    { slot := i, table := t, profile := pr, len := k.1 / 16, key := k.2 }

end Sys2Proof.Machine
end

