-- ==== Sys2Proof/Machine/Table.lean ====
section
/-! DEFINITION. The exact-match tables: geometry and hashing (R347 to R352), entries (R353 to R356), lookups (R357), the
check of an action (R361), the edit engine (R371, R372, R383 to R387), generations (R368 to R382) and rehash (R391 to
R393). -/

namespace Sys2Proof.Machine

/-- R368: the generation states. -/
def gSTEADY : Nat := 0
def gOPEN : Nat := 1
def gCOMMITTING : Nat := 2
def gDRAINING : Nat := 3
def gSETTLING : Nat := 4
def gABORTING : Nat := 5

def State.genState (s : State) : Nat := s.fget .TABLE_GEN_STAT 0 fTABLE_GEN_STAT_STATE
def State.genCurrent (s : State) : Nat := s.fget .TABLE_GEN_STAT 0 fTABLE_GEN_STAT_CURRENT
def State.genOther (s : State) : Nat := s.fget .TABLE_GEN_STAT 0 fTABLE_GEN_STAT_OTHER
def State.setGen (s : State) (st cur other : Nat) : State :=
  ((s.fset .TABLE_GEN_STAT 0 fTABLE_GEN_STAT_STATE st).fset .TABLE_GEN_STAT 0 fTABLE_GEN_STAT_CURRENT cur).fset
    .TABLE_GEN_STAT 0 fTABLE_GEN_STAT_OTHER other

/-- R385: the edit results. -/
def eOK : Nat := 0
def eNOT_FOUND : Nat := 1
def eEXISTS : Nat := 2
def eFULL : Nat := 3
def eBUSY : Nat := 4
def eBAD_ACTION : Nat := 5
def eBAD_KEY : Nat := 6
def eBAD_LOC : Nat := 7
def eNO_TABLE : Nat := 8

/-- R347, R348: geometry. -/
def State.tabSize (s : State) (t : Nat) : Nat := s.fget .TABLE_EM_CFG t fTABLE_EM_CFG_SIZE
def State.tabWide (s : State) (t : Nat) : Bool := s.fbit .TABLE_EM_CFG t fTABLE_EM_CFG_WIDE
/-- The physical entries that an entry takes. -/
def State.tabStep (s : State) (t : Nat) : Nat := if s.tabWide t then 2 else 1
/-- The first physical entry of a table. -/
def State.tabBase (s : State) (t : Nat) : Nat := ((List.range t).map s.tabSize).sum * 16384
def State.tabBuckets (s : State) (t : Nat) : Nat := s.tabSize t * 4096 / s.tabStep t
/-- Key width W in bytes. -/
def State.tabW (s : State) (t : Nat) : Nat := if s.tabWide t then 48 else 32

/-- The entry at a location (bucket × 4 + way) of a table. -/
def State.entryKey (s : State) (t loc : Nat) : Nat := s.tabBase t + loc * s.tabStep t

/-- The entry in a physical entry. -/
def State.phys (s : State) (k : Nat) : Entry := Store.get {} s.tables k

/-- R353: key bytes 32 to 47 of a wide entry lie in bytes 16 to 31 of its second physical entry. -/
def Entry.joined (a b : Entry) : Entry := { a with key := a.key % 256 ^ 32 + b.key % 256 ^ 16 * 256 ^ 32 }

/-- R353: the entry at a location. -/
def State.entry (s : State) (t loc : Nat) : Entry :=
  let k := s.entryKey t loc
  if s.tabWide t then (s.phys k).joined (s.phys (k + 1)) else s.phys k

/-- What an entry contributes to USED and to RESIDUE. -/
def Entry.used (e : Entry) : Nat := e.valid.toNat
def Entry.residue (e : Entry) : Nat := (e.valid && e.old).toNat

def State.hstate (s : State) (t : Nat) : Nat := s.fget .TABLE_EM_OCC t fTABLE_EM_OCC_HSTATE

/-- R353: the physical entries of a table with an entry written at a location. -/
def State.putEntry (s : State) (t loc : Nat) (e : Entry) : Store Entry :=
  let k := s.entryKey t loc
  if s.tabWide t then
    Store.set {} (Store.set {} s.tables k { e with key := e.key % 256 ^ 32 }) (k + 1) { key := e.key / 256 ^ 32 }
  else Store.set {} s.tables k e

/-- Writes an entry; USED and RESIDUE follow. -/
def State.setEntry (s : State) (t loc : Nat) (e : Entry) : State :=
  let o := s.entry t loc
  let u := s.fget .TABLE_EM_OCC t fTABLE_EM_OCC_USED + e.used - o.used
  let r := s.fget .TABLE_EM_OCC t fTABLE_EM_OCC_RESIDUE + e.residue - o.residue
  let s : State := { s with tables := s.putEntry t loc e }
  (s.fset .TABLE_EM_OCC t fTABLE_EM_OCC_USED u).fset .TABLE_EM_OCC t fTABLE_EM_OCC_RESIDUE r

/-- R393: a MIXED table becomes SINGLE as soon as RESIDUE reaches 0. -/
def State.unmix (s : State) (t : Nat) : State :=
  if s.hstate t == 2 && s.fget .TABLE_EM_OCC t fTABLE_EM_OCC_RESIDUE == 0 then
    s.fset .TABLE_EM_OCC t fTABLE_EM_OCC_HSTATE 0
  else s

/-- R350: the hash string of a key. -/
def hashString (w pf len key : Nat) : List Byte := BitVec.ofNat 8 pf :: BitVec.ofNat 8 len :: leBytes w key

/-- R350, R351: the two buckets of a key under the seeds of a seed register's word. -/
def State.bucketsUnder (s : State) (t : Nat) (seeds : Word) (pf len key : Nat) : Nat × Nat :=
  let str := hashString (s.tabW t) pf len key
  let nb := s.tabBuckets t
  let b1 := crc32c (seeds.toNat % 2 ^ 32) str * nb / 2 ^ 32
  let b2 := crc32c (seeds.toNat / 2 ^ 32) str * nb / 2 ^ 32
  (b1, if b2 = b1 then b1 ^^^ 1 else b2)

def State.buckets (s : State) (t pf len key : Nat) : Nat × Nat :=
  s.bucketsUnder t (s.rget .TABLE_EM_SEED t) pf len key

/-- The four locations of a bucket. -/
def waysOf (b : Nat) : List Nat := [4 * b, 4 * b + 1, 4 * b + 2, 4 * b + 3]

/-- R356: the locations of a key in probe order. -/
def State.probes (s : State) (t pf len key : Nat) : List Nat :=
  let (b1, b2) := s.buckets t pf len key
  let now := waysOf b1 ++ waysOf b2
  if s.hstate t == 0 then now
  else
    let (o1, o2) := s.bucketsUnder t (s.rget .TABLE_EM_SEED_OLD t) pf len key
    now ++ waysOf o1 ++ waysOf o2

/-- R354: live in generation g. -/
def Entry.live (e : Entry) (g : Nat) : Bool :=
  e.valid && (!e.firstV || e.genFirst == g) && (!e.lastV || e.genLast == g)

/-- The first entry in probe order that is live in g and holds a key. -/
def State.findKey (s : State) (t g pf len key : Nat) : Option Nat :=
  (s.probes t pf len key).find? fun l =>
    let e := s.entry t l
    e.live g && e.profile == pf && e.keyLen == len && e.key == key

/-- R386: the other bucket of an entry, under the current seeds. -/
def State.otherBucket (s : State) (t loc : Nat) : Nat :=
  let e := s.entry t loc
  let (b1, b2) := s.buckets t e.profile e.keyLen e.key
  if loc / 4 = b1 then b2 else b1

/-- One entry of a depth of the search: the free way found, or the paths its other bucket adds. A path is held newest
location first. -/
def State.extend (s : State) (t : Nat) (path : List Nat) : Option (List Nat) × List (List Nat) :=
  match path with
  | [] => (none, [])
  | loc :: _ =>
    let ws := waysOf (s.otherBucket t loc)
    match ws.find? (fun w => !(s.entry t w).valid) with
    | some w => (some (w :: path), [])
    | none => (none, (ws.filter (fun w => !path.contains w && !(s.entry t w).old)).map (· :: path))

/-- One depth: the paths in order, until a free way is found. -/
def State.searchDepth (s : State) (t : Nat) : List (List Nat) → List (List Nat) → Option (List Nat) × List (List Nat)
  | [], acc => (none, acc.reverse)
  | p :: ps, acc =>
    match s.extend t p with
    | (some f, _) => (some f, [])
    | (none, more) => s.searchDepth t ps (more.reverse ++ acc)

/-- R386: breadth first, at most `fuel` moves. -/
def State.searchMoves (s : State) (t : Nat) : Nat → List (List Nat) → Option (List Nat)
  | 0, _ => none
  | fuel + 1, ps =>
    match s.searchDepth t ps [] with
    | (some f, _) => some f
    | (none, next) => s.searchMoves t fuel next

/-- R386: the path of moves for a key, its free way first. -/
def State.insertPath (s : State) (t pf len key : Nat) : Option (List Nat) :=
  let (b1, b2) := s.buckets t pf len key
  let ws := waysOf b1 ++ waysOf b2
  match ws.find? (fun w => !(s.entry t w).valid) with
  | some w => some [w]
  | none =>
    s.searchMoves t (s.fget .TABLE_EM_CFG t fTABLE_EM_CFG_MAX_DEPTH)
      ((ws.filter (fun w => !(s.entry t w).old)).map (fun w => [w]))

/-- R356, R386: carries out the moves from the free way backwards; the last way of the path is left for the new
entry. -/
def State.runMoves (s : State) (t : Nat) : List Nat → State
  | f :: g :: rest =>
    let e := s.entry t g
    let s := s.setEntry t f e
    let s := s.setEntry t g { e with valid := false }
    s.runMoves t (g :: rest)
  | _ => s

/-- R386: places an entry: the location and the number of moves, or none with INSERT_FULL counted. -/
def State.place (s : State) (t : Nat) (e : Entry) : Option (Nat × Nat) × State :=
  match s.insertPath t e.profile e.keyLen e.key with
  | some p =>
    let loc := p.getLast?.getD 0
    (some (loc, p.length - 1), (s.runMoves t p).setEntry t loc e)
  | none => (none, (s.count .TABLE_EM_ERR t fTABLE_EM_ERR_INSERT_FULL).flag .TABLE_GEN_EVT 0 fTABLE_GEN_EVT_INSERT_FULL)

/-- R361: the malformed actions. -/
def actionBad (a : Nat) : Bool :=
  let op := a % 16
  let target := a / 16 % 2 ^ 18
  let ts := a / 2 ^ 52 % 8
  let fix := a / 2 ^ 55 % 4
  decide (4 < op) || a / 2 ^ 57 != 0 || ((op == 0 || op == 4) && target != 0) ||
    (op == 1 && decide (16384 ≤ target)) || (op == 3 && decide (2048 ≤ target)) ||
    decide (4 ≤ ts) || fix == 3 || (op != 2 && (ts != 0 || fix != 0)) || ts == 2

/-- R353, R383: the record of an entry. -/
def Entry.record (e : Entry) : List Byte :=
  leBytes 8 e.action ++ leBytes 2 e.genFirst ++ leBytes 2 e.genLast ++
    leBytes 1 (e.valid.toNat + 2 * e.firstV.toNat + 4 * e.lastV.toNat) ++ leBytes 1 e.profile ++ leBytes 1 e.keyLen ++
    leBytes 1 0 ++ leBytes 48 e.key

/-- The entry that an edit's record gives, without its generation fields (R384). -/
def entryOf (r : List Byte) : Entry :=
  { action := cb r 0 8, profile := cb r 13 1, keyLen := cb r 14 1, key := cb r 16 48 }

/-- R385: BAD_KEY. `bulk`: R389 consumes byte 15 bits [1:0] and byte 12, which must name an operation. -/
def State.keyBad (s : State) (t : Nat) (r : List Byte) (bulk : Bool) : Bool :=
  let len := cb r 14 1
  let b15 := if bulk then cb r 15 1 / 4 else cb r 15 1
  len == 0 || decide (s.tabW t < 2 * len) || decide (63 < cb r 13 1) || cb r 16 48 / 256 ^ (2 * len) != 0 || b15 != 0 ||
    (bulk && (cb r 12 1 % 16 != 0 || decide (2 < cb r 12 1 / 16)))

/-- The outcome of an edit: its result, record, location and moves. -/
structure EditOut where
  result : Nat
  bytes : List Byte := []
  loc : Option Nat := none
  moves : Nat := 0
  deriving DecidableEq, Repr

/-- R371: the first edit opens the pending generation. -/
def State.openGen (s : State) : State :=
  if s.genState == gSTEADY then s.setGen gOPEN s.genCurrent s.genOther else s

/-- R371, R385, R392: whether an edit is refused with BUSY. `early`: it had reached the engine before a COMMIT or an
ABORT took effect (R373). -/
def State.editBusy (s : State) (op t : Nat) (early : Bool) : Bool :=
  s.hstate t == 1 || ((op == 1 || op == 2 || op == 3) && !early && decide (gCOMMITTING ≤ s.genState))

/-- R372, R386: an entry takes a new way with FIRST_V in the pending generation, or for an image (R382) without. -/
def State.placeNew (s : State) (t : Nat) (e : Entry) (image : Bool) : Option (Nat × Nat) × State :=
  s.place t (if image then { e with valid := true }
    else { e with valid := true, firstV := true, genFirst := s.genOther })

/-- R384 to R386: one edit. -/
def State.edit (s : State) (op t : Nat) (genSel : Bool) (loc : Nat) (r : List Byte) (early image bulk : Bool := false) :
    EditOut × State :=
  let e := entryOf r
  let changes := op == 1 || op == 2 || op == 3
  if s.tabSize t = 0 then ({ result := eNO_TABLE, bytes := r }, s)
  else if s.editBusy op t early then ({ result := eBUSY, bytes := r }, s)
  else
    let s := if changes && !image then s.openGen else s
    if op == 4 && decide (s.tabBuckets t * 4 ≤ loc) then ({ result := eBAD_LOC, bytes := r }, s)
    else if op != 4 && s.keyBad t r bulk then ({ result := eBAD_KEY, bytes := r }, s)
    else if (op == 1 || op == 3) && actionBad e.action then ({ result := eBAD_ACTION, bytes := r }, s)
    else
      let pendingNow := s.genState == gOPEN || s.genState == gCOMMITTING || s.genState == gABORTING
      let g := if image then s.genCurrent
        else if changes then s.genOther
        else if genSel && pendingNow then s.genOther else s.genCurrent
      let at? := s.findKey t g e.profile e.keyLen e.key
      match op, at? with
      | 0, some l => ({ result := eOK, bytes := (s.entry t l).record, loc := some l }, s)
      | 1, some _ => ({ result := eEXISTS, bytes := r }, s)
      | 1, none =>
        match s.placeNew t e image with
        | (some (l, m), s) => ({ result := eOK, bytes := r, loc := some l, moves := m }, s)
        | (none, s) => ({ result := eFULL, bytes := r }, s)
      | 2, some l =>
        let o := s.entry t l
        let s := if o.firstV then s.setEntry t l { o with valid := false }
          else s.setEntry t l { o with lastV := true, genLast := s.genCurrent }
        ({ result := eOK, bytes := r }, s.unmix t)
      | 3, some l =>
        let o := s.entry t l
        if o.firstV then ({ result := eOK, bytes := r, loc := some l }, s.setEntry t l { o with action := e.action })
        else
          let s1 := s.setEntry t l { o with lastV := true, genLast := s.genCurrent }
          match s1.placeNew t e false with
          | (some (l, m), s2) => ({ result := eOK, bytes := r, loc := some l, moves := m }, s2)
          | (none, s2) => ({ result := eFULL, bytes := r }, s2.setEntry t l o)
      | 4, _ => ({ result := eOK, bytes := (s.entry t loc).record, loc := some loc }, s)
      | _, _ => ({ result := eNOT_FOUND, bytes := r }, s)

/-- The record in TABLE_WIN_DATA. -/
def State.tableWinRec (s : State) : List Byte :=
  (List.range 8).flatMap (fun i => leBytes 8 (s.rget .TABLE_WIN_DATA i).toNat)

/-- R388: serves the window operation and clears BUSY; SEARCH and READ return the record. -/
def State.serveTableWin (s : State) : State :=
  if s.fbit .TABLE_WIN_CMD 0 fTABLE_WIN_CMD_BUSY then
    let op := s.fget .TABLE_WIN_CMD 0 fTABLE_WIN_CMD_OP
    let t := s.fget .TABLE_WIN_ADDR 0 fTABLE_WIN_ADDR_TABLE
    let loc := s.fget .TABLE_WIN_ADDR 0 fTABLE_WIN_ADDR_BUCKET * 4 + s.fget .TABLE_WIN_ADDR 0 fTABLE_WIN_ADDR_WAY
    let sel := s.fbit .TABLE_WIN_CMD 0 fTABLE_WIN_CMD_GEN_SEL
    let (o, s) := s.edit op t sel loc s.tableWinRec (early := s.editQ != [])
    let s := if (op == 0 || op == 4) && o.result == eOK then
        s.forEach (List.range 8) (fun s i => s.rset .TABLE_WIN_DATA i (wordAt o.bytes i))
      else s
    let s := match o.loc with
      | some l => if op == 4 then s else
          (s.fset .TABLE_WIN_ADDR 0 fTABLE_WIN_ADDR_BUCKET (l / 4)).fset .TABLE_WIN_ADDR 0 fTABLE_WIN_ADDR_WAY (l % 4)
      | none => s
    let s := s.fset .TABLE_WIN_STAT 0 fTABLE_WIN_STAT_RESULT o.result
    let s := if op == 1 || op == 3 then s.fset .TABLE_WIN_STAT 0 fTABLE_WIN_STAT_MOVES o.moves else s
    { s.fset .TABLE_WIN_CMD 0 fTABLE_WIN_CMD_BUSY 0 with editQ := [] }
  else s

/-- The window operation named by a command is the one that waits. -/
def State.tableWinOp (s : State) (op : Nat) : State :=
  if s.fget .TABLE_WIN_CMD 0 fTABLE_WIN_CMD_OP == op then s.serveTableWin else s

/-- R373, R378: the window operation that waits had reached the engine before a COMMIT or ABORT. -/
def State.markEarly (s : State) : State :=
  if s.fbit .TABLE_WIN_CMD 0 fTABLE_WIN_CMD_BUSY then { s with editQ := [1] } else s

/-- Serves an operation that had reached the engine before a COMMIT or an ABORT. -/
def State.serveEarly (s : State) : State := if s.editQ != [] then s.serveTableWin else s

def State.genRefused (s : State) : State := s.flag .TABLE_GEN_EVT 0 fTABLE_GEN_EVT_REFUSED

/-- R381: an explicit OPEN, served after the operation that reached the engine before it. -/
def State.genOpen (s : State) : State :=
  let s := s.serveTableWin
  if s.genState == gSTEADY || s.genState == gOPEN then s.openGen else s.genRefused

/-- R373, R374: COMMIT. -/
def State.genCommit (s : State) : State :=
  if s.genState == gOPEN && !s.fbit .TABLE_GEN_STAT 0 fTABLE_GEN_STAT_BULK then
    ((s.setGen gCOMMITTING s.genCurrent s.genOther).flag .TABLE_GEN_CTRL 0 fTABLE_GEN_CTRL_COMMIT).markEarly
  else s.genRefused

/-- R377: the cycles of a sweep, in ridge clock cycles. -/
def State.sweepCycles (s : State) : Nat := s.tabBase 4 / 16 * s.power.cclk

/-- R378: ABORT. -/
def State.genAbort (s : State) : State :=
  if s.genState == gOPEN && !s.fbit .TABLE_GEN_STAT 0 fTABLE_GEN_STAT_BULK then
    let s := (s.setGen gABORTING s.genCurrent s.genOther).flag .TABLE_GEN_CTRL 0 fTABLE_GEN_CTRL_ABORT
    { s.markEarly with genAt := s.now + s.sweepCycles }
  else s.genRefused

/-- R376: frames that carry generation g (R370). -/
def State.carrying (s : State) (g : Nat) : Nat := (s.frames.filter (fun f => f.2.gen == some g)).length

/-- R373: the commit edge, four CCLK edges after the last edit that reached the engine in time. -/
def State.commitEdge (s : State) : State :=
  if s.genState == gCOMMITTING then
    let s := s.serveEarly.elapse (4 * s.power.cclk)
    let s := s.setGen gDRAINING s.genOther s.genCurrent
    let s := (s.fset .TABLE_GEN_CTRL 0 fTABLE_GEN_CTRL_COMMIT 0).flag .TABLE_GEN_EVT 0 fTABLE_GEN_EVT_COMMITTED
    { s with genAt := s.now + 100 * usCycles }
  else s

/-- R376: no frame carries the retiring generation. -/
def State.drainEnd (s : State) : State :=
  if s.genState == gDRAINING && s.carrying s.genOther == 0 then
    { s.setGen gSETTLING s.genCurrent s.genOther with genAt := s.now + s.sweepCycles }
  else s

/-- R376: DRAINING has lasted 100 µs; once. -/
def State.drainSlow (s : State) : State :=
  if s.genState == gDRAINING && s.genAt != 0 then
    let s := (s.elapseTo s.genAt).flag .TABLE_GEN_EVT 0 fTABLE_GEN_EVT_DRAIN_SLOW
    { s with genAt := 0 }
  else s

/-- The listed locations of a table. -/
def State.locsOf (s : State) (t : Nat) : List Nat :=
  let b := s.tabBase t
  let n := s.tabBuckets t * 4
  (s.tables.keys.filter (fun k => decide (b ≤ k) && decide (k < b + n * s.tabStep t))).map
    (fun k => (k - b) / s.tabStep t)

/-- R377: a change of the flags of an entry: of its first physical entry alone. -/
def State.flagEntry (s : State) (t loc : Nat) (f : Entry → Entry) : State :=
  let k := s.entryKey t loc
  let o := s.phys k
  let e := f o
  let u := s.fget .TABLE_EM_OCC t fTABLE_EM_OCC_USED + e.used - o.used
  let r := s.fget .TABLE_EM_OCC t fTABLE_EM_OCC_RESIDUE + e.residue - o.residue
  let s : State := { s with tables := Store.set {} s.tables k e }
  (s.fset .TABLE_EM_OCC t fTABLE_EM_OCC_USED u).fset .TABLE_EM_OCC t fTABLE_EM_OCC_RESIDUE r

/-- Applies a change of the flags to every entry of every table. -/
def State.sweep (s : State) (f : Entry → Entry) : State :=
  s.forEach [0, 1, 2, 3] fun s t => (s.forEach (s.locsOf t) (fun s l => s.flagEntry t l f)).unmix t

/-- R377: the settling sweep's effect on an entry. -/
def settleEntry (e : Entry) : Entry :=
  { e with valid := e.valid && !e.lastV, firstV := false }
/-- R378: the abort sweep's. -/
def abortEntry (e : Entry) : Entry :=
  { e with valid := e.valid && !e.firstV, lastV := false }

/-- R377: the settling sweep ends. -/
def State.settleEnd (s : State) : State :=
  if s.genState == gSETTLING then
    let s := ((s.elapseTo s.genAt).sweep settleEntry).setGen gSTEADY s.genCurrent ((s.genCurrent + 1) % 65536)
    s.flag .TABLE_GEN_EVT 0 fTABLE_GEN_EVT_RETIRED
  else s

/-- R378: the abort sweep ends. -/
def State.abortEnd (s : State) : State :=
  if s.genState == gABORTING then
    let s := ((s.serveEarly.elapseTo s.genAt).sweep abortEntry).setGen gSTEADY s.genCurrent ((s.genCurrent + 1) % 65536)
    (s.fset .TABLE_GEN_CTRL 0 fTABLE_GEN_CTRL_ABORT 0).flag .TABLE_GEN_EVT 0 fTABLE_GEN_EVT_ABORTED
  else s

/-- R349: a write of TABLE_EM_CFG_t, reserved encodings already set aside. -/
def State.tableCfg (s : State) (t : Nat) (v : Word) : State :=
  let size := fTABLE_EM_CFG_SIZE.get v
  let wide := fTABLE_EM_CFG_WIDE.get v
  let changes := size != s.tabSize t || wide != (s.tabWide t).toNat
  let total := s.tabBase 4 / 16384 - s.tabSize t + size
  let full := (List.range 4).any (fun i => decide (t ≤ i) && s.fget .TABLE_EM_OCC i fTABLE_EM_OCC_USED != 0)
  if changes && (s.genState != gSTEADY || full || s.hstate t != 0 || decide (32 < total)) then s.genRefused
  else s.rset .TABLE_EM_CFG t v

/-- A write of TABLE_EM_SEED_t (its register description, R381). -/
def State.tableSeed (s : State) (t : Nat) (v : Word) : State :=
  if s.genState != gSTEADY || s.fget .TABLE_EM_OCC t fTABLE_EM_OCC_USED != 0 || s.hstate t != 0 then s.genRefused
  else s.rset .TABLE_EM_SEED t v

/-- R357: the lookup of one slot for a frame stamped g: the location hit. -/
def State.lookup (s : State) (t g pf len key : Nat) : Option Nat × State :=
  if len = 0 then (none, s)
  else if s.tabSize t = 0 then (none, s.count .TABLE_EM_CNT t fTABLE_EM_CNT_LOOKUPS)
  else if s.tabW t < 2 * len then (none, s.count .TABLE_EM_ERR t fTABLE_EM_ERR_KEY_OVER)
  else
    let s1 := s.count .TABLE_EM_CNT t fTABLE_EM_CNT_LOOKUPS
    match s.findKey t g pf len key with
    | some l => (some l, s1.count .TABLE_EM_CNT t fTABLE_EM_CNT_HITS)
    | none => (none, s1)

/-- R391: whether a rehash of table t with new seeds is refused. -/
def State.rehashBad (s : State) (t : Nat) (seeds : Word) : Bool :=
  s.genState != gSTEADY || s.hstate t == 1 || (s.hstate t == 2 && seeds != s.rget .TABLE_EM_SEED t)

/-- R391: a rehash starts. -/
def State.rehashStart (s : State) (t : Nat) (seeds : Word) : State :=
  let s := if s.hstate t == 0 then
      let s := (s.rset .TABLE_EM_SEED_OLD t (s.rget .TABLE_EM_SEED t)).rset .TABLE_EM_SEED t seeds
      s.forEach (s.locsOf t) (fun s l =>
        let e := s.entry t l
        if e.valid then s.setEntry t l { e with old := true } else s)
    else s
  (s.fset .TABLE_EM_OCC t fTABLE_EM_OCC_HSTATE 1).flag .TABLE_GEN_STAT 0 fTABLE_GEN_STAT_REHASH

/-- R392: the next entry that a rehash visits, from a location on. -/
def State.rehashNext (s : State) (t cursor : Nat) : Option Nat :=
  (s.locsOf t).find? (fun l => decide (cursor ≤ l) && (s.entry t l).valid && (s.entry t l).old)

/-- R392: visits one entry: it is placed under the new seeds, or stays. -/
def State.rehashVisit (s : State) (t loc : Nat) : State :=
  let e := s.entry t loc
  match s.insertPath t e.profile e.keyLen e.key with
  | some p =>
    let dst := p.getLast?.getD 0
    ((s.runMoves t p).setEntry t dst { e with old := false }).setEntry t loc { e with valid := false, old := false }
  | none => s

/-- R393: a rehash ends or is cancelled. -/
def State.rehashEnd (s : State) (t : Nat) : State :=
  let s := s.fset .TABLE_EM_OCC t fTABLE_EM_OCC_HSTATE
    (if s.fget .TABLE_EM_OCC t fTABLE_EM_OCC_RESIDUE == 0 then 0 else 2)
  s.fsetB .TABLE_GEN_STAT 0 fTABLE_GEN_STAT_REHASH ([0, 1, 2, 3].any (fun i => s.hstate i == 1))

/-- R382, R402: what a re-thatch and a cold reset do to the tables' entries; registers follow R26. -/
def State.tablesEmpty (s : State) : State := { s with tables := [], genAt := 0, editQ := [] }

end Sys2Proof.Machine
end

