-- ==== Sys2Proof/Machine/Loft.lean ====
section
/-! DEFINITION. The loft: cells and the allocator (R404 to R412), accounts and pools (R413 to R420), the admission check
(R421 to R425) and the flow-control triggers (R428, R429). -/

namespace Sys2Proof.Machine

/-- R405: cells of a frame of `n` bytes. -/
def cellsOf (n : Nat) : Nat := (n + 255) / 256

/-- The ingress account of port p and priority i, as an instance number of the PORT_ADM registers. -/
def acctOf (p i : Nat) : Nat := p * 8 + i

def State.admMin (s : State) (a : Nat) : Nat := s.fget .PORT_ADM_PRI a fPORT_ADM_PRI_MIN
def State.admHead (s : State) (a : Nat) : Nat := s.fget .PORT_ADM_PRI a fPORT_ADM_PRI_HEADROOM
def State.admUse (s : State) (a : Nat) : Nat := s.fget .PORT_ADM_USE a fPORT_ADM_USE_USE
def State.admHeld (s : State) (a : Nat) : Nat := s.fget .PORT_ADM_USE a fPORT_ADM_USE_HEAD
def State.hostReserve (s : State) : Nat := s.fget .LOFT_POOL 0 fLOFT_POOL_HOST_RESERVE
def State.transit (s : State) : Nat := s.fget .LOFT_USE 0 fLOFT_USE_TRANSIT
def State.hostUse (s : State) : Nat := s.fget .LOFT_USE 0 fLOFT_USE_HOST

/-- R415: the transit reserve. -/
def transitReserve : Nat := 4096

/-- R415: SHARED. -/
def State.sharedSize (s : State) : Int :=
  (262144 - transitReserve : Int) - s.hostReserve - ((List.range 128).map s.admMin).sum -
    ((List.range 128).map s.admHead).sum

/-- R416, R417: cells drawn from the shared pool. -/
def State.sharedUsed (s : State) : Nat :=
  (s.transit - transitReserve) + (s.hostUse - s.hostReserve) +
    ((List.range 128).map (fun a => s.admUse a - s.admMin a)).sum

/-- R418: F. -/
def State.freeShared (s : State) : Nat := (s.sharedSize - s.sharedUsed).toNat

/-- R418: the colour-reduced value; colours are 0 green, 1 yellow, 2 red. -/
def State.freeColour (s : State) (f k : Nat) : Nat :=
  if k = 0 then f
  else if k = 1 then f - s.fget .LOFT_COLOUR 0 fLOFT_COLOUR_YEL_GUARD
  else f - s.fget .LOFT_COLOUR 0 fLOFT_COLOUR_RED_GUARD

/-- R419: floor(α × F). -/
def alphaOf (a f : Nat) : Nat := if a = 0 then 0 else if 8 ≤ a then f * 2 ^ (a - 8) else f / 2 ^ (8 - a)

/-- R415: a write of a pool or reserve register that would leave too small a shared pool is refused. -/
def State.poolWrite (s : State) (id : RegId) (i : Nat) (v : Word) : State :=
  let s' := s.rset id i v
  if s'.sharedSize < 16384 then s.flag .LOFT_EVT 0 fLOFT_EVT_CFG_REFUSED else s'

/-- Cells of a bank in use. -/
def State.bankUsed (s : State) (b : Nat) : Nat := Store.get 0 s.bankUse b
def State.setBank (s : State) (b n : Nat) : State := { s with bankUse := Store.set 0 s.bankUse b n }

/-- R406: the bank of the next cell after bank `b`, skipping any without a free cell. -/
def State.nextBank (s : State) (b : Nat) : Nat :=
  (((List.range 64).map (fun i => (b + 1 + i) % 64)).find? (fun x => decide (s.bankUsed x < 4096))).getD ((b + 1) % 64)

/-- R406: places `n` cells after bank `b`: their banks. -/
def State.allocBanks (s : State) (b : Nat) : Nat → List Nat × State
  | 0 => ([], s)
  | n + 1 =>
    let x := s.nextBank b
    let r := (s.setBank x (s.bankUsed x + 1)).allocBanks x n
    (x :: r.1, r.2)

/-- The cells' bytes of a frame of `n` bytes, by cell number. -/
def cellFill (n : Nat) : List (Nat × Nat) := (List.range (cellsOf n)).map (fun i => (i, min 256 (n - 256 * i)))

def State.frame? (s : State) (f : Nat) : Option Frame := s.frames.find? f
def State.setFrame (s : State) (f : Nat) (x : Frame) : State := { s with frames := s.frames.put f x }
def State.modFrame (s : State) (f : Nat) (g : Frame → Frame) : State :=
  match s.frame? f with
  | some x => s.setFrame f (g x)
  | none => s

/-- Cell numbers that still hold the frame. -/
def Frame.cells (f : Frame) : List Nat := f.layout.map (·.1)

/-- Frees cells of a frame that no reference holds any more. -/
def State.freeCells (s : State) (f : Frame) (ids : List Nat) : State :=
  s.forEach (ids.filter (fun i => !f.refs.any (·.contains i))) fun s i =>
    let b := f.banks.getD i 0
    s.setBank b (s.bankUsed b - 1)

/-- R410: releases a reference to a frame's cells; the frame is gone with its last reference. -/
def State.release (s : State) (fid : Nat) (ids : List Nat) : State :=
  match s.frame? fid with
  | none => s
  | some f =>
    let f := { f with refs := f.refs.erase ids }
    let s := s.freeCells f ids
    if f.refs.isEmpty then { s with frames := s.frames.del fid } else s.setFrame fid f

/-- R429: PORT_FC_CFG.TX_MODE: 0 none, 1 PAUSE, 2 PFC. -/
def State.fcTxMode (s : State) (p : Nat) : Nat := s.fget .PORT_FC_CFG p fPORT_FC_CFG_TX_MODE

/-- R428: the asserted state of account (p, i). -/
def State.asserted (s : State) (p i : Nat) : Bool := bitOf (s.fget .PORT_FC_TX_STAT p fPORT_FC_TX_STAT_ASSERTED) i

/-- R429: fc_asserted of R422, under the PORT_FC_TX_STAT `w` of its port. -/
def State.fcOf (s : State) (w : Word) (a : Nat) : Bool :=
  if s.fcTxMode (a / 8) == 1 then fPORT_FC_TX_STAT_PAUSE.get w == 1
  else bitOf (fPORT_FC_TX_STAT_ASSERTED.get w) (a % 8)

/-- R428: fc_asserted as an admission reads it: the states compared at the end of the cycle before its own. -/
def State.fcAsserted (s : State) (a : Nat) : Bool :=
  match s.fcThen with
  | some l => s.fcOf (l.getD (a / 8) 0) a
  | none => s.fcOf (s.rget .PORT_FC_TX_STAT (a / 8)) a

/-- R428: what a count makes of a state under XOFF and XON. -/
def fcState (old : Bool) (t xoff xon : Nat) : Bool := if old then decide (xon < t) else decide (xoff ≤ t)

def State.xoff (s : State) (a : Nat) : Nat := s.fget .PORT_FC_THR a fPORT_FC_THR_XOFF
def State.xon (s : State) (a : Nat) : Nat := s.fget .PORT_FC_THR a fPORT_FC_THR_XON

/-- R237: a flow-control frame falls due; a later change of the same priority replaces it. -/
def State.fcFall (s : State) (p i : Nat) (on : Bool) : State :=
  s.modMac p (fun m => { m with fcDue := m.fcDue.filter (fun e => e.1 != i) ++ [(i, on)] })

/-- R428: T of an account. -/
def State.fcCount (s : State) (a : Nat) : Nat := s.admUse a + s.admHeld a

/-- R428, R429: the asserted state of account (p, i), and a PFC frame where it changes. DEDUCED (log 79): in PAUSE mode,
which ignores PORT_FC_THR_1 to PORT_FC_THR_7, the states of priorities 1 to 7 read 0. -/
def State.fcPriority (s : State) (p i : Nat) : State :=
  let a := acctOf p i
  let old := s.asserted p i
  let new := if s.fcTxMode p == 1 && i != 0 then false else fcState old (s.fcCount a) (s.xoff a) (s.xon a)
  if new == old then s
  else
    let v := s.fget .PORT_FC_TX_STAT p fPORT_FC_TX_STAT_ASSERTED
    let s := s.fset .PORT_FC_TX_STAT p fPORT_FC_TX_STAT_ASSERTED (v ^^^ 2 ^ i)
    if s.fcTxMode p == 2 then s.fcFall p i new else s

/-- R429: the port's state in PAUSE mode. -/
def State.fcPause (s : State) (p : Nat) : State :=
  let old := s.fbit .PORT_FC_TX_STAT p fPORT_FC_TX_STAT_PAUSE
  if s.fcTxMode p == 1 then
    let t := ((List.range 8).map (fun i => s.fcCount (acctOf p i))).sum
    let new := fcState old t (s.xoff (acctOf p 0)) (s.xon (acctOf p 0))
    if new == old then s else (s.fsetB .PORT_FC_TX_STAT p fPORT_FC_TX_STAT_PAUSE new).fcFall p 8 new
  else if old then s.fset .PORT_FC_TX_STAT p fPORT_FC_TX_STAT_PAUSE 0 else s

/-- R428, R429: compares the counts of port p with their thresholds. -/
def State.fcUpdate (s : State) (p : Nat) : State := (s.forEach (List.range 8) (fun s i => s.fcPriority p i)).fcPause p

/-- R426: `n` cells of the shared pool are freed: a decision of the same CCLK cycle does not see them as free. -/
def State.lagFree (s : State) (n : Nat) : State := { s with freed := s.freed + n }

/-- R414: changes the charges of an ingress account. -/
def State.chargeIngress (s : State) (a use head : Nat) : State :=
  let s := s.fset .PORT_ADM_USE a fPORT_ADM_USE_USE (s.admUse a + use)
  (s.fset .PORT_ADM_USE a fPORT_ADM_USE_HEAD (s.admHeld a + head)).fcUpdate (a / 8)
/-- Takes the charges of a frame off its ingress account, before the comparisons at the end of the cycle (R428). -/
def State.dropIngress (s : State) (a use head : Nat) : State :=
  let shared (u : Nat) : Nat := u - s.admMin a
  let t := s.fset .PORT_ADM_USE a fPORT_ADM_USE_USE (s.admUse a - use)
  (t.fset .PORT_ADM_USE a fPORT_ADM_USE_HEAD (s.admHeld a - head)).lagFree (shared (s.admUse a) - shared (s.admUse a - use))
def State.unchargeIngress (s : State) (a use head : Nat) : State := (s.dropIngress a use head).fcUpdate (a / 8)

/-- R417: changes the transit account. -/
def State.setTransit (s : State) (n : Nat) : State := s.fset .LOFT_USE 0 fLOFT_USE_TRANSIT n
def State.setHostUse (s : State) (n : Nat) : State := s.fset .LOFT_USE 0 fLOFT_USE_HOST n

/-- The cells of the shared pool that the transit account draws (R417). -/
def transitShared (n : Nat) : Nat := n - transitReserve

/-- R424: a host frame leaves the host account. -/
def State.dropHost (s : State) (n : Nat) : State :=
  let shared (u : Nat) : Nat := u - s.hostReserve
  (s.setHostUse (s.hostUse - n)).lagFree (shared s.hostUse - shared (s.hostUse - n))

/-- Leaves by number; a leaf that is not listed does not exist. -/
def State.leaf? (s : State) (l : Nat) : Option Node := s.leaves.find? l
def State.setLeaf (s : State) (l : Nat) (n : Node) : State := { s with leaves := s.leaves.put l n }
def State.rxr? (s : State) (r : Nat) : Option RxRing := s.rxrs.find? r
def State.setRxr (s : State) (r : Nat) (x : RxRing) : State := { s with rxrs := s.rxrs.put r x }
def State.txr? (s : State) (r : Nat) : Option TxRing := s.txrs.find? r
def State.setTxr (s : State) (r : Nat) (x : TxRing) : State := { s with txrs := s.txrs.put r x }

/-- A destination: a leaf queue or a receive buffer ring's delivery queue. -/
structure Dest where
  leaf : Bool
  id : Nat
  deriving DecidableEq, Repr

def State.destExists (s : State) (d : Dest) : Bool := if d.leaf then (s.leaf? d.id).isSome else (s.rxr? d.id).isSome

/-- R413: cells on a queue's account. -/
def State.queueUse (s : State) (d : Dest) : Nat :=
  if d.leaf then (match s.leaf? d.id with | some n => n.depth | none => 0)
  else (match s.rxr? d.id with | some r => r.dqCells | none => 0)

/-- R420, R422: the limit of a queue for a colour-reduced free count. -/
def State.queueLim (s : State) (d : Dest) (fk : Nat) : Nat :=
  if d.leaf then
    match s.leaf? d.id with
    | some n => max (n.d0.toNat / 2 ^ 30 % 2 ^ 18) (alphaOf (n.d0.toNat / 2 ^ 26 % 16) fk)
    | none => 0
  else min (s.fget .LOFT_RING_MAX 0 fLOFT_RING_MAX_MAX) (alphaOf (s.fget .LOFT_CFG 0 fLOFT_CFG_RING_ALPHA) fk)

/-- R422: what admission decides. -/
inductive Verdict where
  | accepted (head : Bool)
  | queue
  | ingress
  | headFull
  deriving DecidableEq, Repr

/-- R421: a lossless account. -/
def State.lossless (s : State) (a : Nat) : Bool := s.admHead a != 0

/-- R418, R426: F as an admission decision reads it: cells freed in its cycle are not counted. -/
def State.freeNow (s : State) : Nat := s.freeShared - s.freed

/-- R422: admission of a received frame of `c` cells and colour k. -/
def State.admission (s : State) (a : Nat) (d : Dest) (k c : Nat) : Verdict :=
  let f := s.freeNow
  let fk := s.freeColour f k
  if !s.lossless a && decide (s.queueLim d fk < s.queueUse d + c) then .queue
  else
    let u := s.admUse a
    let m := s.admMin a
    let alpha := s.fget .PORT_ADM_PRI a fPORT_ADM_PRI_ALPHA
    if u + c ≤ m then .accepted false
    else if u + c - m ≤ alphaOf alpha fk ∧ u + c - max u m ≤ f then .accepted false
    else if s.fcAsserted a && k != 2 && decide (s.admHeld a + c ≤ s.admHead a) then .accepted true
    else if s.lossless a then .headFull else .ingress

/-- R422: admission of a mirror copy: the queue check alone. -/
def State.admitCopy (s : State) (d : Dest) (k c : Nat) : Bool :=
  decide (s.queueUse d + c ≤ s.queueLim d (s.freeColour s.freeNow k))

/-- R426, R428: the CCLK cycle in which the next admission is decided begins: cells freed before it are free in it, and the
flow-control states are those that now stand. -/
def State.newCycle (s : State) : State :=
  { s with freed := 0, lastDec := 0, fcThen := some ((List.range 16).map (fun p => s.rget .PORT_FC_TX_STAT p)) }

/-- R426, R428: the cycle of a decision of course c. `same`: it falls in the cycle of the last decision, which it can
only if no higher course has had one in it. -/
def State.decCycle (s : State) (c : Nat) (same : Bool) : State :=
  { (if same && s.fcThen.isSome && decide (s.lastDec ≤ c) then s else s.newCycle) with lastDec := c }

/-- R424, R426: the cycle of a host frame's admission. DESIGN CHOICE (log 8): where it falls in the cycle of a received
frame's, the order of the commands is their order. -/
def State.hostCycle (s : State) (same : Bool) : State := if same && s.fcThen.isSome then s else s.newCycle

/-- R424: admission of a host frame. -/
def State.admitHost (s : State) (d : Dest) (c : Nat) : Bool :=
  let f := s.freeNow
  let u := s.hostUse
  let m := s.hostReserve
  decide (s.queueUse d + c ≤ s.queueLim d f) &&
    (decide (u + c ≤ m) ||
      (decide (u + c - m ≤ alphaOf (s.fget .LOFT_CFG 0 fLOFT_CFG_HOST_ALPHA) f) && decide (u + c - max u m ≤ f)))

/-- R425: whether a received frame finds a cell for each of its beats. -/
def State.cellsFree (s : State) (c : Nat) : Bool :=
  decide ((s.transit + c - max s.transit transitReserve) ≤ s.freeShared)

/-- R422, R486, R772: counts a drop of a queue. -/
def sat32 (n : Nat) : Nat := min (2 ^ 32 - 1) n
def State.dropAt (s : State) (d : Dest) (n : Nat) : State :=
  if d.leaf then
    match s.leaf? d.id with
    | some x => s.setLeaf d.id { x with drops := sat32 (x.drops + n) }
    | none => s
  else
    match s.rxr? d.id with
    | some x => s.setRxr d.id { x with drops := sat32 (x.drops + n) }
    | none => s

/-- R422: counts a refused frame or copy. -/
def State.refuseCount (s : State) (v : Verdict) (a : Nat) (d : Dest) : State :=
  match v with
  | .accepted _ => s
  | .queue => (s.count .LOFT_DROP 0 fLOFT_DROP_QUEUE).dropAt d 1
  | .ingress => s.portCount .PORT_ADM_DROP (a / 8) a fPORT_ADM_DROP_INGRESS
  | .headFull => (s.portCount .PORT_ADM_DROP (a / 8) a fPORT_ADM_DROP_HEAD_FULL).flag .LOFT_EVT 0 fLOFT_EVT_HEAD_FULL

/-- R417, R370: a received frame leaves the transit account and stops carrying its generation. -/
def State.leaveTransit (s : State) (fid : Nat) : State :=
  match s.frame? fid with
  | none => s
  | some f => (s.setTransit (s.transit - f.transit)).setFrame fid { f with transit := 0, gen := none }

/-- R410: frees a received frame that is on no queue. -/
def State.freeFrame (s : State) (fid : Nat) : State :=
  match s.frame? fid with
  | none => s
  | some f =>
    ((s.leaveTransit fid).lagFree (transitShared s.transit - transitShared (s.transit - f.transit))).release fid f.cells

/-- R508, R511: marks the transmit entry of a host frame as freed, and counts the frame as a drop of its ring. -/
def State.markFreed (s : State) (ring first : Nat) : State :=
  match s.txr? ring with
  | none => s
  | some x =>
    let gone (e : TxEntry) := if e.first == first then { e with freed := true, stage := .retired } else e
    let n := (x.entries.filter (fun e => e.first == first && !e.freed)).length
    s.setTxr ring { x with entries := x.entries.map gone, drops := sat32 (x.drops + n) }

/-- R410, R414: the reference of a packet that leaves its queue is released, with the charges of its account. The
queue's own charge is the caller's. -/
def State.releasePkt (s : State) (k : Pkt) : State :=
  match s.frame? k.fid with
  | none => s
  | some f =>
    let s := if k.copy then s
      else match f.acct with
        | some a => s.unchargeIngress a f.use f.head
        | none => if f.host then s.dropHost f.hostUse else s
    let s := if k.copy then s else s.setFrame k.fid { f with acct := none, use := 0, head := 0, hostUse := 0 }
    s.release k.fid k.ids

/-- R412: what a strip of `n` bytes from byte `lo` leaves of a frame's cells; inserted bytes lie in the cell of byte
11. -/
def stripLayout : List (Nat × Nat) → Nat → Nat → List (Nat × Nat)
  | [], _, _ => []
  | (c, k) :: t, lo, n =>
    let keep := min lo k
    let cut := min (k - keep) n
    let left := k - cut
    let rest := stripLayout t (lo - keep) (n - cut)
    if left = 0 then rest else (c, left) :: rest

/-- Adds bytes to the cell that holds byte `at` of a layout. -/
def growLayout : List (Nat × Nat) → Nat → Nat → List (Nat × Nat)
  | [], _, _ => []
  | (c, k) :: t, pos, n => if pos < k then (c, k + n) :: t else (c, k) :: growLayout t (pos - k) n

end Sys2Proof.Machine
end

