-- ==== Sys2Proof/Machine/Sched.lean ====
section
/-! DEFINITION. The scheduler: nodes and eligibility (R441 to R445), deficit weighted round robin (R446 to R449), class
and port stage (R450 to R454), credit shapers and pacing (R452, R457 to R462), three-colour meters (R463 to R472), and
the node and meter windows (R480 to R486). -/

namespace Sys2Proof.Machine

/-- Nodes of a level: 0 leaf, 1 client, 2 group. -/
def State.node? (s : State) (lvl i : Nat) : Option Node :=
  if lvl = 0 then s.leaves.find? i else if lvl = 1 then s.clients.find? i else s.groups.find? i
def State.setNode (s : State) (lvl i : Nat) (n : Node) : State :=
  if lvl = 0 then { s with leaves := s.leaves.put i n }
  else if lvl = 1 then { s with clients := s.clients.put i n } else { s with groups := s.groups.put i n }
def State.delNode (s : State) (lvl i : Nat) : State :=
  if lvl = 0 then { s with leaves := s.leaves.del i }
  else if lvl = 1 then { s with clients := s.clients.del i } else { s with groups := s.groups.del i }
def State.nodesOf (s : State) (lvl : Nat) : Store Node :=
  if lvl = 0 then s.leaves else if lvl = 1 then s.clients else s.groups

/-- Fields of a node's record. -/
def Node.parent (n : Node) : Nat := n.d0.toNat % 2 ^ 14
def Node.prio (n : Node) : Nat := n.d0.toNat / 2 ^ 14 % 8
def Node.weight (n : Node) : Nat := n.d0.toNat / 2 ^ 17 % 256
def Node.shaped (n : Node) : Bool := n.d0.toNat.testBit 25
def Node.rate (n : Node) : Nat := n.d1.toNat % 2 ^ 32
def Node.hi (n : Node) : Int := (n.d2.toNat % 2 ^ 32 : Nat)
def Node.lo (n : Node) : Int := toSigned 32 (n.d2.toNat / 2 ^ 32)

/-- One byte of credit. -/
def byteUnit : Int := 4294967296

/-- R457: round(RATE × 2^32 / 8,000,000). -/
def increment (rate : Nat) : Nat := (rate * 2 ^ 33 + 8000000) / 16000000

/-- R457: the count of nanosecond ticks, one for every fifth ridge clock cycle. -/
def State.tick (s : State) : Nat := s.now / 5

/-- R457: a shaper's refill up to a tick. -/
def Node.refill (n : Node) (t : Nat) : Node :=
  if n.shaped then { n with credit := min (n.hi * byteUnit) (n.credit + (increment n.rate * (t - n.at5) : Nat)), at5 := t }
  else { n with credit := 0, at5 := t }

/-- R458: the charge of a selection. -/
def Node.charge (n : Node) (len : Nat) : Node :=
  if n.shaped then
    let c := max (n.lo * byteUnit) (n.credit - (len : Int) * byteUnit)
    { n with credit := c, blocked := n.blocked || decide (c < 0) }
  else n

/-- R458: the whole bytes of a credit. -/
def wholeBytes (c : Int) : Int := c / byteUnit

/-- The active list of children of level `lvl` under a parent at one PRIO (R447). -/
def listKey (lvl parent prio : Nat) : Nat := (lvl * 16384 + parent) * 8 + prio
def State.activeAt (s : State) (k : Nat) : List Nat := Store.get [] s.active k
def State.setActive (s : State) (k : Nat) (l : List Nat) : State := { s with active := Store.set [] s.active k l }

/-- A parent has an eligible child. -/
def State.anyActive (s : State) (lvl parent : Nat) : Bool :=
  (List.range 8).any (fun p => !(s.activeAt (listKey lvl parent p)).isEmpty)

/-- R442: the class of a node. -/
def State.classOf (s : State) (lvl i : Nat) : Option Nat :=
  let up (l j : Nat) : Option Nat := (s.node? l j).map Node.parent
  match lvl with
  | 0 => (up 0 i).bind fun c => (up 1 c).bind fun g => up 2 g
  | 1 => (up 1 i).bind fun g => up 2 g
  | _ => up 2 i

/-- R629: a leaf's binding: PROT in bit 0, HELD in bit 1, SLOT in [13:2]. -/
def State.bind (s : State) (leaf : Nat) : Nat := Store.get 0 s.sealU.binds leaf
def State.setBind (s : State) (leaf v : Nat) : State :=
  { s with sealU := { s.sealU with binds := Store.set 0 s.sealU.binds leaf v } }
def State.protLeaf (s : State) (leaf : Nat) : Bool := bitOf (s.bind leaf) 0

/-- R640, R642: a leaf that a seal hold makes ineligible. -/
def State.sealHeld (s : State) (leaf : Nat) : Bool :=
  bitOf (s.bind leaf) 1 || (s.protLeaf leaf &&
    (match s.classOf 0 leaf with | some k => s.fbit .SEAL_PORT_STAT (k / 8) fSEAL_PORT_STAT_HOLD | none => false))

/-- R632: what protection adds to a wire length on port p. -/
def State.sealExtra (s : State) (p leaf : Nat) : Nat :=
  if s.protLeaf leaf then s.fget .SEAL_PORT_CFG p fSEAL_PORT_CFG_TX_HDR * 8 + s.fget .SEAL_PORT_CFG p fSEAL_PORT_CFG_TX_TRL
  else 0

/-- R445, R640, R642: eligibility of a leaf, client or group. -/
def State.eligibleNode (s : State) : Nat → Nat → Bool
  | 0, i =>
    match s.node? 0 i with
    | some n => !n.fifo.isEmpty && !s.sealHeld i && (!n.shaped || !n.blocked)
    | none => false
  | lvl + 1, i =>
    match s.node? (lvl + 1) i with
    | some n =>
      (s.nodesOf lvl).any (fun e => e.2.parent == i && s.eligibleNode lvl e.1) && (lvl == 1 || !n.shaped || !n.blocked)
    | none => false

/-- R456: a node's eligibility has not reached the port stage. -/
def State.isRising (s : State) (lvl i : Nat) : Bool := s.rising.any (fun e => e.1 == lvl && e.2.1 == i)

/-- R447, R456: whether a node belongs on its parent's active list: it is eligible, a child of it is on its own list, and
its eligibility has reached the port stage. -/
def State.listable (s : State) (lvl i : Nat) : Bool :=
  match s.node? lvl i with
  | none => false
  | some n =>
    let has := if lvl = 0 then !n.fifo.isEmpty && !s.sealHeld i else s.anyActive (lvl - 1) i
    has && (lvl == 2 || !n.shaped || !n.blocked) && !s.isRising lvl i

/-- The node or a node below it holds a frame. -/
def State.backlog (s : State) : Nat → Nat → Bool
  | 0, i => match s.node? 0 i with | some n => !n.fifo.isEmpty | none => false
  | lvl + 1, i => (s.nodesOf lvl).any (fun e => e.2.parent == i && s.backlog lvl e.1)

/-- R448: a child joins, keeps or leaves its list, and a child without frames loses its deficit; then its parent
follows. -/
def State.relist (s : State) (lvl i : Nat) : State :=
  match s.node? lvl i with
  | none => s
  | some n =>
    let el := s.listable lvl i
    let key := listKey lvl n.parent n.prio
    let was := (List.range 8).any (fun p => (s.activeAt (listKey lvl n.parent p)).contains i)
    let s := s.forEach (List.range 8) (fun s p =>
      let k := listKey lvl n.parent p
      if el && p == n.prio then s else s.setActive k ((s.activeAt k).filter (· != i)))
    if el then
      if (s.activeAt key).contains i then s else s.setActive key (s.activeAt key ++ [i])
    else
      let held := s.backlog lvl i
      let d := if held then n.deficit else 0
      if was || n.turn || n.deficit != d then s.setNode lvl i { n with turn := false, deficit := d } else s

/-- Applies `relist` from a node up to its class. -/
def State.relistUp (s : State) (lvl i : Nat) : State :=
  let s := s.relist lvl i
  match lvl, s.node? lvl i with
  | 0, some n =>
    let s := s.relist 1 n.parent
    (match s.node? 1 n.parent with | some c => s.relist 2 c.parent | none => s)
  | 1, some n => s.relist 2 n.parent
  | _, _ => s

/-- R456: a leaf or client has become eligible: it can be chosen 6 CCLK cycles later, a client 5. -/
def State.rise (s : State) (lvl i : Nat) : State :=
  { s with rising := s.rising.filter (fun e => !(e.1 == lvl && e.2.1 == i)) ++ [(lvl, i, s.now + (6 - lvl) * s.power.cclk)] }

/-- R456: the nodes whose eligibility has reached the port stage by now join their lists, in the order in which they
became eligible. -/
def State.risen (s : State) : State :=
  let up := s.rising.filter (fun e => decide (e.2.2 ≤ s.now))
  ({ s with rising := s.rising.filter (fun e => !decide (e.2.2 ≤ s.now)) } : State).forEach up
    (fun s e => s.relistUp e.1 e.2.1)

/-- R449: the charged length of a wire length on port p. -/
def State.chargedLen (s : State) (p wire : Nat) : Nat :=
  (max 1 ((wire : Int) + toSigned 7 (s.fget .SCHED_PORT_CFG p fSCHED_PORT_CFG_LEN_ADJ))).toNat

/-- R447: selections among the children of one list; `sel` gives the leaf, charged length and state that a child's own
choice would yield. -/
def State.dwrr (lvl key : Nat) (sel : State → Nat → Option (Nat × Nat × State)) : Nat → State → Option (Nat × Nat × State)
  | 0, _ => none
  | fuel + 1, s =>
    match s.activeAt key with
    | [] => none
    | ch :: rest =>
      match s.node? lvl ch with
      | none => none
      | some n =>
        let n := if n.turn then n else { n with deficit := n.deficit + (64 * n.weight : Nat), turn := true }
        match sel s ch with
        | none => none
        | some (leaf, len, s1) =>
          if (len : Int) ≤ n.deficit then some (leaf, len, s1.setNode lvl ch { n with deficit := n.deficit - len })
          else
            let s := (s.setNode lvl ch { n with turn := false }).setActive key (rest ++ [ch])
            State.dwrr lvl key sel fuel s

/-- R446: the choice among a parent's eligible children: the highest PRIO, then DWRR. -/
def State.pickAmong (s : State) (lvl parent : Nat) (sel : State → Nat → Option (Nat × Nat × State)) :
    Option (Nat × Nat × State) :=
  match [7, 6, 5, 4, 3, 2, 1, 0].find? (fun p => !(s.activeAt (listKey lvl parent p)).isEmpty) with
  | none => none
  | some p =>
    let key := listKey lvl parent p
    State.dwrr lvl key sel (300 * ((s.activeAt key).length + 1)) s

/-- R213, R449, R632: the wire length of a packet to which the engine adds `n` bytes: a host frame is padded after them. -/
def Pkt.wireWith (k : Pkt) (n : Nat) : Nat :=
  if n = 0 then k.wire else if k.host.isSome then max (k.bytes.length + n) 60 + 4 else k.wire + n

/-- The next frame of a leaf, with its charged length on port p. -/
def State.pickLeaf (s : State) (p l : Nat) : Option (Nat × Nat × State) :=
  match s.leaf? l with
  | some n => match n.fifo with
    | k :: _ => some (l, s.chargedLen p (k.wireWith (s.sealExtra p l)), s)
    | [] => none
  | none => none
def State.pickClient (s : State) (p c : Nat) : Option (Nat × Nat × State) := s.pickAmong 0 c (fun s l => s.pickLeaf p l)
def State.pickGroup (s : State) (p g : Nat) : Option (Nat × Nat × State) := s.pickAmong 1 g (fun s c => s.pickClient p c)
/-- The choice within class k of port p. -/
def State.pickClass (s : State) (p k : Nat) : Option (Nat × Nat × State) :=
  s.pickAmong 2 (8 * p + k) (fun s g => s.pickGroup p g)

/-- R234: the classes of port p that are paused. -/
def State.classPaused (s : State) (p k : Nat) : Bool :=
  let m := s.mac p
  m.pauseEnd.isSome ||
    m.pfcEnd.any (fun e => bitOf (s.fget .PORT_PFC_MAP p (fPORT_PFC_MAP_CLASSES e.1)) k)

/-- R445: class k of port p is eligible. -/
def State.eligibleClass (s : State) (p k : Nat) : Bool :=
  s.groups.any (fun e => e.2.parent == 8 * p + k && s.eligibleNode 2 e.1) && !s.classPaused p k

/-- R445, R456: an eligible class whose eligibility has reached the port stage. -/
def State.classEligible (s : State) (p k : Nat) : Bool := s.anyActive 2 (8 * p + k) && !s.classPaused p k

/-- R241, R247: preemption is active on port p; after a write of EN = 0 it is so until the preemptable frame in progress
ends. -/
def State.preemptActive (s : State) (p : Nat) : Bool :=
  s.portUp p && ((s.mac p).finishing || (s.fbit .PORT_PREEMPT_CFG p fPORT_PREEMPT_CFG_EN &&
    (s.fbit .PORT_PREEMPT_CFG p fPORT_PREEMPT_CFG_VERIFY_DIS ||
      s.fget .PORT_PREEMPT_STAT p fPORT_PREEMPT_STAT_VERIFY_STATE == 3)))

def State.expressClass (s : State) (p k : Nat) : Bool := bitOf (s.fget .PORT_PREEMPT_CFG p fPORT_PREEMPT_CFG_EXPRESS) k

/-- R450: the class that port p serves. -/
def State.serveClass (s : State) (p : Nat) : Option Nat :=
  let order := [7, 6, 5, 4, 3, 2, 1, 0]
  let order := if s.preemptActive p then
      order.filter (s.expressClass p) ++ order.filter (fun k => !s.expressClass p k) else order
  order.find? (s.classEligible p)

/-- R452: the pacing rate in kb/s: 99.99 % of the data rate. -/
def State.paceRate (s : State) (p : Nat) : Nat := s.portRate p * 999900

/-- R452: the pacing credit now. -/
def State.paceNow (s : State) (p : Nat) : Int :=
  let m := s.mac p
  min (16384 * byteUnit) (m.pace + (increment (s.paceRate p) * (s.tick - m.paceAt) : Nat))

/-- R452: the pacing credit is reset. -/
def State.paceReset (s : State) (p : Nat) : State :=
  s.modMac p (fun m => { m with pace := 0, paceAt := s.tick, paceWait := false })

/-- R451: whether a frame fits in the transmit buffer of port p. -/
def State.fits (s : State) (p k wire : Nat) : Bool :=
  let m := s.mac p
  decide (wire + m.inFlight ≤ 16384) &&
    (!s.preemptActive p || s.expressClass p k ||
      decide (wire + m.inFlightPre ≤ 16384 - s.fget .SCHED_PORT_CFG p fSCHED_PORT_CFG_EXP_ROOM))

/-- R458, R486: what a selection charges its leaf: its shaper and its counters. -/
def Node.taken (n : Node) (t len wire : Nat) (rest : List Pkt) : Node :=
  let n := (n.refill t).charge len
  { n with fifo := rest, bytes := min (2 ^ 40 - 1) (n.bytes + wire), frames := sat32 (n.frames + 1) }

/-- R451, R452, R458: the frame chosen for port p leaves its leaf, and every charge applies. -/
def State.takeFrom (s : State) (p k leaf len : Nat) : Option (Pkt × State) :=
  match s.leaf? leaf with
  | none => none
  | some n =>
    match n.fifo with
    | [] => none
    | pkt0 :: rest =>
      let b := s.bind leaf
      let slot := b / 4 % 4096
      let pkt := { pkt0 with wire := pkt0.wireWith (s.sealExtra p leaf), prot := bitOf b 0, slot := slot,
                             slotGen := s.fget .SEAL_SLOT slot fSEAL_SLOT_GEN,
                             slotOk := s.fbit .SEAL_SLOT slot fSEAL_SLOT_VALID,
                             hdr := s.fget .SEAL_PORT_CFG p fSEAL_PORT_CFG_TX_HDR * 8,
                             trl := s.fget .SEAL_PORT_CFG p fSEAL_PORT_CFG_TX_TRL }
      let s := s.setLeaf leaf (n.taken s.tick len pkt.wire rest)
      let s := match s.node? 1 n.parent with
        | some c => s.setNode 1 n.parent ((c.refill s.tick).charge len)
        | none => s
      let s := s.relistUp 0 leaf
      let ex := s.expressClass p k
      let pace := s.paceNow p - ((pkt.wire + 20 : Nat) : Int) * byteUnit
      let s := s.modMac p (fun m =>
        { m with
          pace := pace, paceAt := s.tick, paceWait := decide (pace < 0), inFlight := m.inFlight + pkt.wire,
          inFlightPre := m.inFlightPre + (if ex then 0 else pkt.wire),
          altTx := if s.sprayed p then 1 - m.altTx else m.altTx })
      let s := s.count .SCHED_PORT_CNT p fSCHED_PORT_CNT_FRAMES
      let s := if ex && s.preemptActive p then s.count .SCHED_PORT_CNT p fSCHED_PORT_CNT_EXPRESS else s
      some ({ pkt with path := k, express := ex, leaf := leaf, born := n.born }, s)

/-- R445 to R452: one selection for port p, if it can make one. -/
def State.selectPort (s : State) (p : Nat) : Option (Pkt × State) :=
  if !s.portUsed p || s.fbit .PORT_MAC_STAT p fPORT_MAC_STAT_HELD || (s.mac p).paceWait || s.failed then none
  else
    match s.serveClass p with
    | none => none
    | some k =>
      match s.pickClass p k with
      | none => none
      | some (leaf, len, s1) =>
        match s1.leaf? leaf with
        | none => none
        | some n =>
          match n.fifo with
          | [] => none
          | pkt :: _ => if s1.fits p k (pkt.wireWith (s1.sealExtra p leaf)) then s1.takeFrom p k leaf len else none

/-- R454: the ports of course c in the order in which it tries them. -/
def State.coursePorts (s : State) (c : Nat) : List Nat :=
  if s.paired c && s.portSpeed (c / 2 * 8) == 8 then [c / 2 * 8]
  else (List.range 4).map (fun i => 4 * c + ((s.course c).lastPort + 1 + i) % 4)

/-- R453, R454: one selection of course c. -/
def State.selectCourse (s : State) (c : Nat) : Option (Nat × Pkt × State) :=
  (s.coursePorts c).findSome? fun p =>
    (s.selectPort p).map fun r => (p, r.1, r.2.setCourse c { r.2.course c with lastPort := p % 4 })

/-- R444, R456: a frame or copy joins its leaf. -/
def State.joinLeaf (s : State) (l : Nat) (k : Pkt) : State :=
  match s.leaf? l with
  | none => s
  | some n =>
    let s := (s.access dSCHED).setLeaf l { n with fifo := n.fifo ++ [{ k with joined := s.blockTime.total, leaf := l }] }
    (if n.fifo.isEmpty && !(n.shaped && n.blocked) then s.rise 0 l else s).relistUp 0 l

/-- R414: charges a leaf's account. -/
def State.chargeLeaf (s : State) (l c : Nat) : State :=
  match s.leaf? l with
  | some n => s.setLeaf l { n with depth := n.depth + c }
  | none => s
def State.unchargeLeaf (s : State) (l c : Nat) : State :=
  match s.leaf? l with
  | some n => s.setLeaf l { n with depth := n.depth - c }
  | none => s

/-- R414, R484: a selected packet leaves its leaf's account, unless that leaf has been destroyed meanwhile. -/
def State.unchargeSent (s : State) (k : Pkt) : State :=
  match s.leaf? k.leaf with
  | some n => if n.born = k.born then s.unchargeLeaf k.leaf k.ids.length else s
  | none => s

/-- The tick at which a credit of `c` reaches zero at an increment, from tick `t`. -/
def zeroTick (c : Int) (inc t : Nat) : Nat :=
  if 0 ≤ c ∨ inc = 0 then t else t + ((-c).toNat + inc - 1) / inc

/-- R456: a leaf's or client's credit has refilled to zero. -/
def State.shaperEligible (s : State) (lvl i : Nat) : State :=
  match s.node? lvl i with
  | none => s
  | some n =>
    if lvl < 2 && n.shaped && n.blocked then
      let s := s.elapseTo (5 * zeroTick n.credit (increment n.rate) n.at5)
      let s := s.setNode lvl i { n.refill s.tick with blocked := false }
      (if s.eligibleNode lvl i then s.rise lvl i else s).relistUp lvl i
    else s

/-- R452: a port's pacing credit has refilled to zero. -/
def State.pacingEligible (s : State) (p : Nat) : State :=
  let m := s.mac p
  if m.paceWait && s.portRate p != 0 then
    let s := s.elapseTo (5 * zeroTick m.pace (increment (s.paceRate p)) m.paceAt)
    s.modMac p (fun m => { m with pace := s.paceNow p, paceAt := s.tick, paceWait := false })
  else s

-- Meters

def State.meter (s : State) (m : Nat) : Meter := Store.get {} s.meters m
def State.setMeter (s : State) (m : Nat) (x : Meter) : State := { s with meters := Store.set {} s.meters m x }
def Meter.en (m : Meter) : Bool := m.d0.toNat.testBit 0
def Meter.rfc4115 (m : Meter) : Bool := m.d0.toNat.testBit 1
def Meter.aware (m : Meter) : Bool := m.d0.toNat.testBit 2
def Meter.dei (m : Meter) : Bool := m.d0.toNat / 8 % 4 == 1
def Meter.redDrop (m : Meter) : Bool := m.d0.toNat.testBit 5
def Meter.couple (m : Meter) : Bool := m.d0.toNat.testBit 6
def Meter.cir (m : Meter) : Nat := m.d1.toNat % 2 ^ 32
def Meter.pir (m : Meter) : Nat := m.d1.toNat / 2 ^ 32
def Meter.cbs (m : Meter) : Int := (m.d2.toNat % 2 ^ 32 : Nat) * byteUnit
def Meter.pbs (m : Meter) : Int := (m.d2.toNat / 2 ^ 32 : Nat) * byteUnit

/-- R465: the buckets' fill up to a tick. -/
def Meter.refill (m : Meter) (t : Nat) : Meter :=
  let n := t - m.at5
  let c := m.tc + (increment m.cir * n : Nat)
  let extra := if m.rfc4115 && m.couple then max 0 (c - m.cbs) else 0
  { m with tc := min m.cbs c, tp := min m.pbs (m.tp + (increment m.pir * n : Nat) + extra), at5 := t }

/-- R466, R467: the colour of a pass of `b` bytes with input colour `k`, and the buckets after it. Colours are 0 green,
1 yellow, 2 red. -/
def Meter.mark (m : Meter) (k b : Nat) : Nat × Meter :=
  let n : Int := (b : Int) * byteUnit
  let c :=
    if m.rfc4115 then
      if n ≤ m.tc && (!m.aware || k == 0) then 0
      else if n ≤ m.tp && (!m.aware || k != 2) then 1 else 2
    else if m.tp < n || (m.aware && k == 2) then 2
    else if m.tc < n || (m.aware && k == 1) then 1 else 0
  if c = 0 then
    (0, { m with tc := m.tc - n, tp := if m.rfc4115 then m.tp else m.tp - n, green := sat32 (m.green + 1) })
  else if c = 1 then (1, { m with tp := m.tp - n, yellow := sat32 (m.yellow + 1) })
  else (2, { m with red := sat32 (m.red + 1) })

/-- R463 to R469: meters a pass: the colour, and whether its frame is dropped. `first`: no earlier pass was metered. -/
def State.meterPass (s : State) (id b colour : Nat) (first dei : Bool) : Nat × Bool × State :=
  let m := (s.meter id).refill s.tick
  if m.en then
    let k := if first then (m.dei && dei).toNat else colour
    let r := m.mark k b
    (r.1, r.1 == 2 && m.redDrop, s.setMeter id r.2)
  else (colour, false, s)

-- Windows

/-- R482: the results of a node operation. -/
def nOK : Nat := 0
def nNO_NODE : Nat := 1
def nEXISTS : Nat := 2
def nBAD_PARENT : Nat := 3
def nBUSY : Nat := 4
def nBAD_VALUE : Nat := 5

/-- R441: nodes of a level. -/
def levelSize (lvl : Nat) : Nat := if lvl = 0 then 262144 else if lvl = 1 then 16384 else if lvl = 2 then 1024 else 0

/-- The Reset values of a record, without EXISTS. -/
def recReset0 (lvl : Nat) : Nat := 0x20000 + (if lvl = 0 then 8 * 2 ^ 26 + 0x40 * 2 ^ 30 else 0)
def recReset1 (lvl : Nat) : Nat := if lvl < 2 then 0x5F5E1000 else 0
def recReset2 (lvl : Nat) : Nat := if lvl < 2 then 0x3E80 + 0xFFFFC180 * 2 ^ 32 else 0

/-- The writable bits of a record's words at a level. -/
def recMask0 (lvl : Nat) : Word := if lvl = 0 then 0x0000FFFFFFFFFFFF else if lvl = 1 then 0x3FFFFFF else 0x1FFFFFF
def recMask1 (lvl : Nat) : Word := if lvl < 2 then 0xFFFFFFFF else 0
def recMask2 (lvl : Nat) : Word := if lvl < 2 then 0xFFFFFFFFFFFFFFFF else 0

/-- R457, R459: rates that a shaper takes. -/
def rateOk (r : Nat) : Bool := decide (64 ≤ r) && decide (r ≤ 1600000000)

/-- R482: a reserved encoding in a record. -/
def recBad (lvl : Nat) (w0 w1 w2 : Word) : Bool :=
  let p := w0.toNat % 2 ^ 14
  let hi := w2.toNat % 2 ^ 32
  let lo := w2.toNat / 2 ^ 32
  decide ((if lvl = 0 then 16384 else if lvl = 1 then 1024 else 128) ≤ p) || w0.toNat / 2 ^ 17 % 256 == 0 ||
    (lvl == 0 && decide (12 ≤ w0.toNat / 2 ^ 26 % 16)) ||
    (decide (lvl < 2) && (!rateOk (w1.toNat % 2 ^ 32) || decide (2 ^ 31 ≤ hi) || (lo != 0 && decide (lo < 2 ^ 31))))

/-- R482: PARENT names a node that exists. -/
def State.parentOk (s : State) (lvl : Nat) (w0 : Word) : Bool :=
  lvl == 2 || (s.node? (lvl + 1) (w0.toNat % 2 ^ 14)).isSome

/-- R483: CREATE. -/
def State.nodeCreate (s : State) (lvl i : Nat) (w0 w1 w2 : Word) : Nat × State :=
  if levelSize lvl ≤ i || recBad lvl w0 w1 w2 then (nBAD_VALUE, s)
  else if (s.node? lvl i).isSome then (nEXISTS, s)
  else if !s.parentOk lvl w0 then (nBAD_PARENT, s)
  else
    let n : Node :=
      { d0 := (w0 &&& recMask0 lvl) ||| 0x8000000000000000, d1 := w1 &&& recMask1 lvl, d2 := w2 &&& recMask2 lvl }
    (nOK, { s.setNode lvl i { n with credit := if n.shaped && decide (lvl < 2) then n.hi * byteUnit else 0, at5 := s.tick,
                                     born := s.births } with births := s.births + 1 })

/-- R484, R486: DESTROY. The frames freed count as drops of the leaf, whose record then goes. -/
def State.nodeDestroy (s : State) (lvl i : Nat) : Nat × State :=
  if levelSize lvl ≤ i then (nBAD_VALUE, s)
  else
    match s.node? lvl i with
    | none => (nNO_NODE, s)
    | some n =>
      if 0 < lvl && (s.nodesOf (lvl - 1)).any (fun e => e.2.parent == i) then (nBUSY, s)
      else
        let s := s.forEach n.fifo (fun s k =>
          let s := s.releasePkt k
          match k.host with | some (r, f) => s.markFreed r f | none => s)
        let drops := if lvl = 0 then sat32 (n.drops + n.fifo.length) else n.drops
        let s := (s.setNode lvl i { n with fifo := [], drops := drops }).relistUp lvl i
        (nOK, s.delNode lvl i)

/-- R460, R461: the credit after a WRITE. -/
def Node.rewritten (old : Node) (t : Nat) (w0 w1 w2 : Word) (forgive : Bool) : Node :=
  let o := old.refill t
  let n := { o with d0 := w0, d1 := w1, d2 := w2 }
  if !n.shaped then { n with credit := 0, blocked := false }
  else
    let c := if !o.shaped then n.hi * byteUnit else o.credit
    let c := if forgive && decide (c < 0) then 0 else c
    let c := min (n.hi * byteUnit) (max (n.lo * byteUnit) c)
    { n with credit := c, blocked := decide (c < 0) }

/-- R456, R480, R482, R485: WRITE. A leaf or client that it makes eligible is chosen no earlier than R456 gives. -/
def State.nodeWrite (s : State) (lvl i : Nat) (w0 w1 w2 : Word) (forgive : Bool) : Nat × State :=
  if levelSize lvl ≤ i || recBad lvl w0 w1 w2 then (nBAD_VALUE, s)
  else
    match s.node? lvl i with
    | none => (nNO_NODE, s)
    | some n =>
      if !s.parentOk lvl w0 then (nBAD_PARENT, s)
      else if w0.toNat % 2 ^ 14 != n.parent && s.backlog lvl i then (nBUSY, s)
      else
        let n' := n.rewritten s.tick ((w0 &&& recMask0 lvl) ||| 0x8000000000000000) (w1 &&& recMask1 lvl)
          (w2 &&& recMask2 lvl) forgive
        let t := s.setNode lvl i n'
        let up := decide (lvl < 2) && !s.eligibleNode lvl i && t.eligibleNode lvl i
        (nOK, (if up then t.rise lvl i else t).relistUp lvl i)

/-- R480, R482: READ: the four words of a record. -/
def State.nodeRead (s : State) (lvl i : Nat) : Nat × List Word :=
  if levelSize lvl ≤ i then (nBAD_VALUE, [])
  else
    match s.node? lvl i with
    | none => (nOK, [BitVec.ofNat 64 (recReset0 lvl), BitVec.ofNat 64 (recReset1 lvl), BitVec.ofNat 64 (recReset2 lvl), 0])
    | some n =>
      let n := n.refill s.tick
      let credit := if n.shaped then ofSigned 32 (wholeBytes n.credit) else 0
      let w3 := credit + n.depth * 2 ^ 32 + (s.backlog lvl i).toNat * 2 ^ 50 + (s.eligibleNode lvl i).toNat * 2 ^ 51
      (nOK, [n.d0, n.d1, n.d2, BitVec.ofNat 64 w3])

/-- The SCHED window's operation: OP 0 READ, 1 WRITE. -/
def State.schedWin (s : State) (op : Nat) : State :=
  if s.fbit .SCHED_WIN_CMD 0 fSCHED_WIN_CMD_BUSY && s.fget .SCHED_WIN_CMD 0 fSCHED_WIN_CMD_OP == op then
    let lvl := s.fget .SCHED_WIN_ADDR 0 fSCHED_WIN_ADDR_LEVEL
    let i := s.fget .SCHED_WIN_ADDR 0 fSCHED_WIN_ADDR_INDEX
    let done (r : Nat) (s : State) : State :=
      (s.fset .SCHED_WIN_STAT 0 fSCHED_WIN_STAT_RESULT r).fset .SCHED_WIN_CMD 0 fSCHED_WIN_CMD_BUSY 0
    if op = 0 then
      match s.nodeRead lvl i with
      | (r, [a, b, c, d]) =>
        done r ((((s.rset .SCHED_WIN_DATA_0 0 a).rset .SCHED_WIN_DATA_1 0 b).rset .SCHED_WIN_DATA_2 0 c).rset
          .SCHED_WIN_DATA_3 0 d)
      | (r, _) => done r s
    else
      let r := s.nodeWrite lvl i (s.rget .SCHED_WIN_DATA_0 0) (s.rget .SCHED_WIN_DATA_1 0) (s.rget .SCHED_WIN_DATA_2 0)
        (s.fbit .SCHED_WIN_CMD 0 fSCHED_WIN_CMD_FORGIVE)
      done r.1 r.2
  else s

/-- R472: a reserved encoding in a meter record. -/
def meterBad (w0 w1 w2 : Word) : Bool :=
  let cir := w1.toNat % 2 ^ 32
  let pir := w1.toNat / 2 ^ 32
  let rate (r : Nat) := r == 0 || rateOk r
  decide (2 ≤ w0.toNat / 8 % 4) || !rate cir || !rate pir || (!w0.toNat.testBit 1 && decide (pir < cir)) ||
    decide (2 ^ 31 ≤ w2.toNat % 2 ^ 32) || decide (2 ^ 31 ≤ w2.toNat / 2 ^ 32)

/-- R472: WRITE and WRITE_FILL; false: BAD_VALUE. -/
def State.meterWrite (s : State) (i : Nat) (w0 w1 w2 : Word) (fill : Bool) : Bool × State :=
  if meterBad w0 w1 w2 then (false, s)
  else
    let o := (s.meter i).refill s.tick
    let m := { o with d0 := w0 &&& 0x7F, d1 := w1, d2 := w2 }
    (true, s.setMeter i (if fill then { m with tc := m.cbs, tp := m.pbs }
      else { m with tc := min m.tc m.cbs, tp := min m.tp m.pbs }))

/-- R480: the six words of a meter's record. -/
def State.meterRead (s : State) (i : Nat) : List Word :=
  let m := (s.meter i).refill s.tick
  [m.d0, m.d1, m.d2, BitVec.ofNat 64 ((wholeBytes m.tc).toNat + (wholeBytes m.tp).toNat * 2 ^ 32),
    BitVec.ofNat 64 (m.green + m.yellow * 2 ^ 32), BitVec.ofNat 64 m.red]

/-- R480: clears a meter's counters. -/
def State.meterClear (s : State) (i : Nat) : State :=
  s.setMeter i { s.meter i with green := 0, yellow := 0, red := 0 }

/-- The METER window's operation: 0 READ, 1 READ_CLEAR, 2 WRITE, 3 WRITE_FILL. -/
def State.meterWin (s : State) (op : Nat) : State :=
  if s.fbit .METER_WIN_CMD 0 fMETER_WIN_CMD_BUSY && s.fget .METER_WIN_CMD 0 fMETER_WIN_CMD_OP == op then
    let i := s.fget .METER_WIN_ADDR 0 fMETER_WIN_ADDR_METER
    let s := s.fset .METER_WIN_CMD 0 fMETER_WIN_CMD_BUSY 0
    if op < 2 then
      match s.meterRead i with
      | [a, b, c, d, e, f] =>
        let s := ((s.rset .METER_WIN_DATA_0 0 a).rset .METER_WIN_DATA_1 0 b).rset .METER_WIN_DATA_2 0 c
        let s := ((s.rset .METER_WIN_DATA_3 0 d).rset .METER_WIN_DATA_4 0 e).rset .METER_WIN_DATA_5 0 f
        if op = 1 then s.meterClear i else s
      | _ => s
    else
      let r := s.meterWrite i (s.rget .METER_WIN_DATA_0 0) (s.rget .METER_WIN_DATA_1 0) (s.rget .METER_WIN_DATA_2 0)
        (op == 3)
      r.2.fsetB .METER_WIN_STAT 0 fMETER_WIN_STAT_BAD_VALUE (!r.1)
  else s

-- Queue watch

/-- R479: a write of QW_CFG, its reserved encodings set aside. -/
def State.qwCfg (s : State) (v : Word) : State :=
  let old := s.rget .QW_CFG 0
  let on := fQW_CFG_EN.get v == 1
  if fQW_CFG_EN.get old == 1 then
    if v &&& 0xFFFFE != old &&& 0xFFFFE then s.flag .SCHED_EVT 0 fSCHED_EVT_CFG_REFUSED else s.fsetB .QW_CFG 0 fQW_CFG_EN on
  else if on then
    let s := ((s.rset .QW_CFG 0 v).fset .QW_PROD 0 fQW_PROD_PROD 0).fset .QW_CONS 0 fQW_CONS_CONS 0
    if (s.rget .QW_BUF_BASE 0).toNat % 2 ^ fQW_CFG_LOG2.get v != 0 then
      (s.fset .QW_CFG 0 fQW_CFG_EN 0).flag .SCHED_EVT 0 fSCHED_EVT_CFG_REFUSED
    else { s with qwNext := s.now, qwRound := 0 }
  else s.rset .QW_CFG 0 v

/-- R473, R475: one sample of a slot, `i` CCLK cycles after the round's start. -/
def State.qwSample (s : State) (slot : Nat) : Word :=
  let w := (s.rget .QW_SLOT slot).toNat
  let ring := w / 2 % 2 == 1
  let id := w / 4 % 2 ^ 18
  let d : Dest := { leaf := !ring, id := id }
  let head : Option Pkt := if ring then (s.rxr? id).bind (·.dq.head?) else (s.leaf? id).bind (·.fifo.head?)
  let now := if s.timeCounts then (s.timeIn (slot / 16 * s.power.cclk)).total else s.time.coarse.total
  let hol := match head with
    | some k => min (2 ^ 32 - 1) ((now - k.joined) / 2 ^ 48)
    | none => 0
  let depth := if head.isSome then s.queueUse d else 0
  BitVec.ofNat 64 (slot + ring.toNat * 2 ^ 12 + depth * 2 ^ 14 + hol * 2 ^ 32)

/-- R473: the slots that are enabled. -/
def State.qwSlots (s : State) : List Nat := ((s.listed .QW_SLOT).filter (fun e => e.2.toNat % 2 == 1)).map (·.1)

/-- R476: the record of a round. -/
def State.qwRecord (s : State) : List Byte :=
  let slots := s.qwSlots
  leBytes 8 s.blockTime.stamp ++ leBytes 4 s.qwRound ++ leBytes 2 slots.length ++
    leBytes 2 (s.fget .QW_CFG 0 fQW_CFG_PERIOD) ++ leBytes 16 0 ++
    slots.flatMap (fun i => leBytes 8 (s.qwSample i).toNat)

/-- R477: where `n` bytes from offset `off` of a buffer of `size` bytes lie: an offset in the data, one in the buffer
and a length for each part. -/
def wrapParts (size off n : Nat) : List (Nat × Nat × Nat) :=
  let o := off % size
  if o + n ≤ size then [(0, o, n)] else [(0, o, size - o), (size - o, 0, n - (size - o))]

/-- R474 to R477: a round falls due. -/
def State.qwRoundDue (s : State) : State :=
  if s.fbit .QW_CFG 0 fQW_CFG_EN then
    let s := s.elapseTo s.qwNext
    let s : State := { s with qwNext := s.qwNext + s.fget .QW_CFG 0 fQW_CFG_PERIOD * usCycles }
    if s.qwOut != 0 then (s.count .QW_CNT 0 fQW_CNT_SKIPPED).flag .SCHED_EVT 0 fSCHED_EVT_SKIP
    else
      let r := s.qwRecord
      let size := 2 ^ s.fget .QW_CFG 0 fQW_CFG_LOG2
      let prod := s.fget .QW_PROD 0 fQW_PROD_PROD
      let used := (prod + 2 ^ 32 - s.fget .QW_CONS 0 fQW_CONS_CONS) % 2 ^ 32
      if size < used + r.length then (s.count .QW_CNT 0 fQW_CNT_LOST).flag .SCHED_EVT 0 fSCHED_EVT_LOST
      else
        let base := (s.rget .QW_BUF_BASE 0).toNat
        let reqs := (wrapParts size prod r.length).flatMap fun (o, at_, n) =>
          (cuts (base + at_) n).map fun (x, len) =>
            ({ who := .qw, port := s.fget .QW_CFG 0 fQW_CFG_RAFTER, level := s.fget .QW_CFG 0 fQW_CFG_DMA_PRI,
               write := true, addr := base + at_ + x, len := len, data := (r.drop (o + x)).take len, msg := false,
               ctrl := false, purpose := .qwWrite } : RafterReq)
        { s.enqueue reqs with qwOut := reqs.length, qwLen := r.length, qwFail := false }
  else s

/-- R478, R598: a response to a write of the round. -/
def State.qwWritten (s : State) (code : Nat) : State :=
  let s : State := { s with qwOut := s.qwOut - 1, qwFail := s.qwFail || code != 0 }
  if s.qwOut != 0 then s
  else if s.qwFail then (s.count .QW_CNT 0 fQW_CNT_LOST).flag .SCHED_EVT 0 fSCHED_EVT_LOST
  else
    let s := (s.wrapAdd .QW_PROD 0 fQW_PROD_PROD s.qwLen).count .QW_CNT 0 fQW_CNT_ROUNDS
    { s.flag .SCHED_EVT 0 fSCHED_EVT_QW_ROUND with qwRound := (s.qwRound + 1) % 2 ^ 32 }

/-- R437, R443, R488: what a re-thatch leaves of the loft and the scheduler, registers apart. -/
def State.schedClear (s : State) : State :=
  { s with leaves := [], clients := [], groups := [], active := [], rising := [], meters := [], qwOut := 0, qwLen := 0,
           qwFail := false }

end Sys2Proof.Machine
end

