-- ==== Sys2Proof/Machine/Ring.lean ====
section
/-! DEFINITION. Descriptor rings and completion queues: doorbells (R529 to R532), transmit entries and their checks
(R500 to R507), retiring (R508 to R511), receive buffers and delivery (R512 to R516), completions (R517 to R520), shadow
indices (R522), shutting a ring down (R523 to R528), and the descriptor cache (R754). -/

namespace Sys2Proof.Machine

/-- R491: an index difference. -/
def idxDiff (a b : Nat) : Nat := (a + 2 ^ 32 - b) % 2 ^ 32
def idxAdd (a n : Nat) : Nat := (a + n) % 2 ^ 32

def State.txProd (s : State) (r : Nat) : Nat := s.fget .TXR_PROD r fTXR_PROD_PROD
def State.txCons (s : State) (r : Nat) : Nat := s.fget .TXR_CONS r fTXR_CONS_CONS
def State.txFetch (s : State) (r : Nat) : Nat := s.fget .TXR_FETCH r fTXR_FETCH_FETCH
def State.rxProd (s : State) (r : Nat) : Nat := s.fget .RXR_PROD r fRXR_PROD_PROD
def State.rxCons (s : State) (r : Nat) : Nat := s.fget .RXR_CONS r fRXR_CONS_CONS
def State.cqProd (s : State) (q : Nat) : Nat := s.fget .CQ_PROD q fCQ_PROD_PROD
def State.cqCons (s : State) (q : Nat) : Nat := s.fget .CQ_CONS q fCQ_CONS_CONS
def State.cq? (s : State) (q : Nat) : Option CqCtx := s.cqs.find? q
def State.setCq (s : State) (q : Nat) (c : CqCtx) : State := { s with cqs := s.cqs.put q c }
def State.modTxr (s : State) (r : Nat) (f : TxRing → TxRing) : State :=
  match s.txr? r with | some x => s.setTxr r (f x) | none => s
def State.modRxr (s : State) (r : Nat) (f : RxRing → RxRing) : State :=
  match s.rxr? r with | some x => s.setRxr r (f x) | none => s

def State.txOn (s : State) (r : Nat) : Bool := s.fbit .TXR_CTRL r fTXR_CTRL_EN
def State.rxOn (s : State) (r : Nat) : Bool := s.fbit .RXR_CTRL r fRXR_CTRL_EN
def State.txDraining (s : State) (r : Nat) : Bool := s.fbit .TXR_STAT r fTXR_STAT_DRAINING
def State.txIdle (s : State) (r : Nat) : Bool := s.fbit .TXR_STAT r fTXR_STAT_IDLE
def State.rxResetting (s : State) (r : Nat) : Bool := s.fbit .RXR_CTRL r fRXR_CTRL_RESET

/-- R527: a receive buffer ring that frames can reach. -/
def State.rxrOpen (s : State) (r : Nat) : Bool := (s.rxr? r).isSome && s.rxOn r

/-- R527: a destination that exists for R228, R319, R366 and R367. -/
def State.destOpen (s : State) (d : Dest) : Bool := if d.leaf then (s.leaf? d.id).isSome else s.rxrOpen d.id

/-- R529, R531: a malformed entry or doorbell write. `pos`: the record of a fragment table. -/
def State.malformed (s : State) (kind ring reason addr : Nat) (copy : List Byte) (pos : Nat := 0) : State :=
  s.failStop .malformed (kind + ring * 4 + reason * 2 ^ 16 + copy.length * 2 ^ 24 + pos * 2 ^ 32) addr copy

/-- R529: DB_RANGE. -/
def dbRange (old new cons size : Nat) : Bool := decide (2 ^ 31 ≤ idxDiff new old) || decide (size < idxDiff new cons)

/-- R529, R532, R764: a write of TXR_PROD. -/
def State.txDoorbell (s : State) (r v : Nat) : State :=
  match s.txr? r with
  | none => s.flag .TXR_STAT r fTXR_STAT_REFUSED
  | some x =>
    if s.failed || !s.txOn r then s.flag .TXR_STAT r fTXR_STAT_REFUSED
    else if dbRange (s.txProd r) v (s.txCons r) (2 ^ x.log2) then s.malformed 0 r 0x20 v []
    else s.fset .TXR_PROD r fTXR_PROD_PROD v

/-- R529, R532, R764: a write of RXR_PROD. -/
def State.rxDoorbell (s : State) (r v : Nat) : State :=
  match s.rxr? r with
  | none => s.flag .RXR_STAT r fRXR_STAT_REFUSED
  | some x =>
    if s.failed || !s.rxOn r then s.flag .RXR_STAT r fRXR_STAT_REFUSED
    else if dbRange (s.rxProd r) v (s.rxCons r) (2 ^ x.log2) then s.malformed 1 r 0x20 v []
    else s.fset .RXR_PROD r fRXR_PROD_PROD v

-- Completions

/-- R519, R520: the completions due in a queue for which it has no space. -/
def State.cqWaiting (s : State) (q : Nat) : List Compl :=
  match s.cq? q with
  | none => []
  | some c => c.due.drop (2 ^ c.log2 - idxDiff (s.cqProd q) (s.cqCons q))

/-- R520: a completion of a queue waits for space. -/
def State.cqFull (s : State) (q : Nat) : Bool := !(s.cqWaiting q).isEmpty

/-- R520: a ring has a completion waiting for space. -/
def State.cqWait (s : State) (tx : Bool) (r q : Nat) : Bool := (s.cqWaiting q).any (fun x => x.tx == tx && x.ring == r)

/-- R510, R516: a completion becomes due. -/
def State.complDue (s : State) (q : Nat) (c : Compl) : State :=
  match s.cq? q with
  | none => s
  | some x =>
    let s := s.setCq q { x with due := x.due ++ [c] }
    if c.tx then s.modTxr c.ring (fun t => { t with complOut := t.complOut + 1 })
    else s.modRxr c.ring (fun t => { t with complOut := t.complOut + 1 })

/-- R517, R518: the bytes of a completion at index P of a queue of 2^log2 entries. -/
def Compl.bytes (c : Compl) (p log2 : Nat) : List Byte :=
  let phase := if p / 2 ^ log2 % 2 = 0 then 1 else 0
  leBytes 8 c.ts ++ leBytes 4 c.parse ++ leBytes 4 c.hit ++ leBytes 4 c.index ++ leBytes 4 c.tag ++
    leBytes 2 c.length ++ leBytes 2 (c.ring + c.tx.toNat * 2 ^ 14) ++ leBytes 1 c.status ++ leBytes 1 c.reason ++
    leBytes 1 c.bufCnt ++ leBytes 1 (c.port + c.colour * 16 + c.aux.toNat * 64 + phase * 128)

/-- R519, R580: how many completions one write request can carry: at most `k`, within the queue's space, its end and
one 256 B block. -/
def State.cqRoom (s : State) (q k : Nat) : Nat :=
  match s.cq? q with
  | none => 0
  | some c =>
    let size := 2 ^ c.log2
    let p := s.cqProd q
    let at_ := p % size
    let space := size - idxDiff p (s.cqCons q)
    min (min k 8) (min c.due.length (min space (min (size - at_) ((256 - (c.base + 32 * at_) % 256) / 32))))

/-- R519: writes up to `k` due completions of a queue. -/
def State.complIssue (s : State) (q k : Nat) : State :=
  match s.cq? q with
  | none => s
  | some c =>
    let n := s.cqRoom q k
    if n = 0 || s.failed then s
    else
      let p := s.cqProd q
      let take := c.due.take n
      let data := take.zipIdx.flatMap (fun x => x.1.bytes (idxAdd p x.2) c.log2)
      let req : RafterReq :=
        { who := .cq q, port := c.rafter, level := c.pri, write := true, addr := c.base + 32 * (p % 2 ^ c.log2),
          len := 32 * n, data := data, msg := false, ctrl := true,
          purpose := .cqWrite q (take.map (fun x => (x.tx, x.ring))) }
      ((s.setCq q { c with due := c.due.drop n }).fset .CQ_PROD q fCQ_PROD_PROD (idxAdd p n)).enqueue [req]

/-- R751: the context of ring or queue r is read, of KIND k in R768. -/
def State.contextRead (s : State) (k r : Nat) (e : Ecc) : State :=
  s.eccCheck (eccOf e 0) fGEN_INTEG_CORR_SCHED .contextEcc (k + r * 4)

/-- R519, R751: a queue's context is read, and completions that are due are written. -/
def State.complRun (s : State) (q : Nat) (x : ComplRun) : State :=
  if s.cqRoom q x.most = 0 || s.failed then s else (s.contextRead 2 q x.ctx).complIssue q x.most

/-- R524: IDLE, once a drained ring's completions have their write responses. -/
def State.idleCheck (s : State) (r : Nat) : State :=
  match s.txr? r with
  | none => s
  | some x =>
    if !s.txOn r && !s.txDraining r && x.complOut == 0 then s.flag .TXR_STAT r fTXR_STAT_IDLE else s

/-- R525: RESET clears when the ring's last completion has had its write response. -/
def State.resetCheck (s : State) (r : Nat) : State :=
  match s.rxr? r with
  | none => s
  | some x =>
    if s.rxResetting r && !x.resetting && x.active.isEmpty && x.complOut == 0 then
      s.fset .RXR_CTRL r fRXR_CTRL_RESET 0
    else s

/-- One completion of a ring has had its write response. -/
def State.complAcked (s : State) (tx : Bool) (r : Nat) : State :=
  if tx then (s.modTxr r (fun x => { x with complOut := x.complOut - 1 })).idleCheck r
  else s.modRxr r (fun x => { x with complOut := x.complOut - 1 })

/-- R648, R650: completions of queue q are in memory: each makes an arrival while the source of the queue is enabled. -/
def State.complShown (s : State) (q : Nat) (req : RafterReq) : State :=
  match s.cq? q with
  | none => s
  | some c =>
    let size := 2 ^ c.log2
    let at_ := (req.addr - c.base) / 32
    let p := s.cqProd q
    let last := idxAdd (p + 2 ^ 32 - 1 - (p + 2 ^ 32 - 1 - (at_ + req.len / 32 - 1)) % size) 0
    let acked := match c.acked with
      | some a => if idxDiff last a < 2 ^ 31 then last else a
      | none => last
    let s := s.setCq q { c with acked := some acked }
    if s.fbit .INTC_SRC q fINTC_SRC_EN then s.arrive q (req.len / 32) else s

/-- R519, R598: the response to a completion write. -/
def State.complWritten (s : State) (q : Nat) (rings : List (Bool × Nat)) (req : RafterReq) (code : Nat) : State :=
  if code != 0 then s.hostAccess req code
  else if (s.cq? q).isNone then s
  else (s.complShown q req).forEach rings (fun s x => s.complAcked x.1 x.2)

-- Transmit rings

/-- R589: a read is of descriptors, and not of frame data. -/
def Purpose.isCtrl : Purpose → Bool
  | .txData .. => false
  | _ => true

/-- A read of a transmit ring. -/
def TxRing.req (x : TxRing) (r : Nat) (addr len : Nat) (p : Purpose) : RafterReq :=
  { who := .txr r, port := x.rafter, level := x.pri, write := false, addr := addr, len := len, data := [],
    msg := false, ctrl := p.isCtrl, purpose := p }

/-- R505, R523: the slots below which entries may be taken. -/
def State.txEnd (s : State) (r : Nat) (x : TxRing) : Nat := if s.txOn r then s.txProd r else x.limit

/-- R505: the next slot read of a transmit ring, if it has one: at most 8 slots, split at the ring's end (and at a
256 B block, R580). -/
def State.txSlotReq (s : State) (r : Nat) : Option RafterReq :=
  match s.txr? r with
  | none => none
  | some x =>
    let size := 2 ^ x.log2
    let left := idxDiff (s.txEnd r x) x.readPtr
    if left = 0 || decide (2 ^ 31 ≤ left) || !(s.txOn r || s.txDraining r) then none
    else
      let at_ := x.readPtr % size
      let a := x.base + 32 * at_
      let n := min (min 8 left) (min (size - at_) ((256 - a % 256) / 32))
      some (x.req r a (32 * n) (.txSlots r x.readPtr n))

/-- The slot read has been issued. -/
def State.txSlotIssued (s : State) (r n : Nat) : State := s.modTxr r (fun x => { x with readPtr := idxAdd x.readPtr n })

/-- Fields of an entry's header (R500). -/
def hdrSlots (w0 : Nat) : Nat := w0 % 4 + 1
def hdrIndirect (w0 : Nat) : Bool := bitOf w0 2
def hdrRecs (w0 : Nat) : Nat := w0 / 8 % 8
def hdrCqReq (w0 : Nat) : Bool := bitOf w0 6
def hdrLeaf (w0 : Nat) : Nat := w0 / 2 ^ 8 % 2 ^ 18
def hdrTsOp (w0 : Nat) : Nat := w0 / 2 ^ 26 % 8
def hdrUdpFix (w0 : Nat) : Nat := w0 / 2 ^ 29 % 4
def hdrTag (w0 : Nat) : Nat := w0 / 2 ^ 32 % 2 ^ 32
def hdrPtpOff (w1 : Nat) : Nat := w1 % 2 ^ 9

/-- The checksum operands of one level (R330). -/
structure CsumOps where
  ip4 : Bool
  l4 : Bool
  udp : Bool
  v6 : Bool
  l3off : Nat
  l4off : Nat
  deriving DecidableEq, Repr
def outerOps (w1 : Nat) : CsumOps :=
  { ip4 := bitOf w1 9, l4 := bitOf w1 10, udp := bitOf w1 11, v6 := bitOf w1 12, l3off := w1 / 2 ^ 13 % 512,
    l4off := w1 / 2 ^ 22 % 512 }
def innerOps (w1 : Nat) : CsumOps :=
  { ip4 := bitOf w1 32, l4 := bitOf w1 33, udp := bitOf w1 34, v6 := bitOf w1 35, l3off := w1 / 2 ^ 36 % 512,
    l4off := w1 / 2 ^ 45 % 512 }

/-- R333: an operand that insertion reads or writes lies outside the first 384 B or at the FCS. -/
def CsumOps.bad (o : CsumOps) (len : Nat) : Bool :=
  let past (e : Nat) := decide (min 384 len < e)
  (o.ip4 && (o.v6 || past (o.l3off + 20))) ||
    (o.l4 && (past (o.l3off + (if o.v6 then 40 else 20)) || past (o.l4off + (if o.udp then 8 else 18))))

/-- R501: TYPE and fields of the record at byte `o`. -/
def recType (b : List Byte) (o : Nat) : Nat := cb b (o + 15) 1
def recAddr (b : List Byte) (o : Nat) : Nat := cb b o 8
def recLen (b : List Byte) (o : Nat) : Nat := cb b (o + 8) 2
/-- R501: a field given as zero is not zero. -/
def recResv (b : List Byte) (o : Nat) : Bool := cb b (o + 10) 5 != 0 || (recType b o == 3 && cb b (o + 8) 2 != 0)

/-- The offsets of an entry's records (R502). -/
def recOffs (n : Nat) : List Nat := (List.range n).map (fun k => 16 * (k + 1))

/-- R529, R530: the checks that need only an entry's slots: SLOT_COUNT, RESERVED, RECORD and FRAG_COUNT. -/
def slotChecks (b : List Byte) : Nat :=
  let w0 := cb b 0 8
  let w1 := cb b 8 8
  let recs := hdrRecs w0
  let ind := hdrIndirect w0
  let turn := !ind && hdrTsOp w0 == 2
  let offs := recOffs recs
  let want (i : Nat) : Nat := if ind then 2 else if turn && i + 1 == recs then 3 else 1
  if (if ind then w0 % 4 != 0 || recs != 1 else w0 % 4 != (recs + 2) / 2 - 1) then 0x01
  else if bitOf w0 7 || bitOf w0 31 || bitOf w1 31 || w1 / 2 ^ 54 != 0 || offs.any (recResv b) then 0x02
  else if offs.zipIdx.any (fun x => recType b x.1 != want x.2) then 0x03
  else if ind then
    (let n := recLen b 16
     if n == 0 || decide (256 < n) || recAddr b 16 % 16 != 0 then 0x04 else 0)
  else if recs - turn.toNat == 0 then 0x04
  else 0

/-- The fragments of records at offsets of a list: address and LEN. -/
def fragsAt (b : List Byte) (offs : List Nat) : List (Nat × Nat) := offs.map (fun o => (recAddr b o, recLen b o))

/-- R529: a fragment record's FRAG_LEN. -/
def fragBad (f : Nat × Nat) : Bool := f.2 == 0 || decide (2 ^ 64 < f.1 + f.2)

/-- R529: FRAME_LEN, TS_FIELDS and CSUM_FIELDS of a whole entry. -/
def wholeChecks (w0 w1 len : Nat) : Nat :=
  let ts := hdrTsOp w0
  let fix := hdrUdpFix w0
  let ptp := hdrPtpOff w1
  let o := outerOps w1
  let i := innerOps w1
  if len < 14 || decide (15996 < len) then 0x06
  else if decide (3 ≤ ts) || (ts == 2 && hdrIndirect w0) || fix == 3 || (fix != 0 && ts == 0) ||
      (ts == 1 && decide (len < ptp + 44)) || (ts == 2 && decide (len < ptp + 16)) then 0x07
  else if o.bad len || i.bad len || ((i.ip4 || i.l4 || i.udp || i.v6) && decide (i.l3off < o.l4off + 8)) then 0x08
  else 0

/-- The first of a list's positions that a check fails at. -/
def firstBad (l : List Nat) (f : Nat → Bool) : Option Nat := (l.zipIdx.find? (fun x => f x.1)).map (·.2)

/-- R530: the second stage for an indirect entry, on its table's bytes: a reason, and the record it failed at. -/
def tableChecks (b tab : List Byte) : Nat × Option Nat :=
  let offs := (List.range (recLen b 16)).map (16 * ·)
  match firstBad offs (recResv tab) with
  | some k => (0x02, some k)
  | none =>
    match firstBad offs (fun o => recType tab o != 1) with
    | some k => (0x03, some k)
    | none =>
      match firstBad offs (fun o => fragBad (recAddr tab o, recLen tab o)) with
      | some k => (0x05, some k)
      | none =>
        let len := ((fragsAt tab offs).map (·.2)).sum
        let c := wholeChecks (cb b 0 8) (cb b 8 8) len
        (c, none)

/-- The FRAG records of a direct entry. -/
def directFrags (b : List Byte) : List (Nat × Nat) :=
  let w0 := cb b 0 8
  fragsAt b (recOffs (hdrRecs w0 - (hdrTsOp w0 == 2).toNat))

/-- R529, R530: a direct entry's checks. -/
def directChecks (b : List Byte) : Nat :=
  let c := slotChecks b
  if c != 0 then c
  else
    let fr := directFrags b
    if fr.any fragBad then 0x05 else wholeChecks (cb b 0 8) (cb b 8 8) ((fr.map (·.2)).sum)

/-- The entry of a ring that begins at a slot, changed. -/
def State.modEntry (s : State) (r first : Nat) (f : TxEntry → TxEntry) : State :=
  s.modTxr r (fun x => { x with entries := x.entries.map (fun e => if e.first == first then f e else e) })
def State.entryAt (s : State) (r first : Nat) : Option TxEntry :=
  (s.txr? r).bind (fun x => x.entries.find? (fun e => e.first == first))

/-- R507: a checked entry waits for admission, or retires at once because its leaf does not exist. -/
def State.entryReady (s : State) (r first : Nat) (frags : List (Nat × Nat)) : State :=
  match s.entryAt r first with
  | none => s
  | some e =>
    let leaf := hdrLeaf (cb e.bytes 0 8)
    let len := (frags.map (·.2)).sum
    let s := s.modEntry r first (fun e => { e with frags := frags, lhost := len, stage := .admission })
    if (s.leaf? leaf).isNone then s.markFreed r first else s

/-- R507, R511: the L_host of an indirect entry whose leaf does not exist when its slots are checked: its table is not read,
and the spec does not say what LENGTH then shows: an open value (log 85). -/
def State.unreadLength (s : State) : Nat × State :=
  let d := s.draw 13
  (d.1 % 2 ^ 16, d.2)

/-- R507: the entry that begins at a slot retires at its first check, its leaf being absent and its table unread. -/
def State.unreadFreed (s : State) (r first : Nat) : State :=
  let d := s.unreadLength
  (d.2.modEntry r first (fun e => { e with lhost := d.1 })).markFreed r first

/-- R505, R507, R530: takes the entry at TXR_FETCH if every slot of it has been read; the flag tells whether it did. -/
def State.txTakeOne (s : State) (r : Nat) : Bool × State :=
  match s.txr? r with
  | none => (false, s)
  | some x =>
    let f := s.txFetch r
    let waiting := x.entries.any (fun e => e.stage = .table || e.stage = .admission)
    match x.slotBuf.find? (fun e => e.1 == f) with
    | none => (false, s)
    | some (_, b0) =>
      let n := hdrSlots (cb b0 0 8)
      let slots := (List.range n).filterMap (fun i => (x.slotBuf.find? (fun e => e.1 == idxAdd f i)).map (·.2))
      if waiting || s.failed || s.cqWait true r x.cq || slots.length != n || decide (idxDiff (s.txEnd r x) f < n) then
        (false, s)
      else
        let b := slots.flatten
        let w0 := cb b 0 8
        let ind := hdrIndirect w0
        let code := if ind then slotChecks b else directChecks b
        let gone := (List.range n).map (idxAdd f)
        let e : TxEntry := { first := f, slots := n, bytes := b, stage := .table, cqReq := hdrCqReq w0 }
        let s := s.setTxr r { x with entries := x.entries ++ [e], slotBuf := x.slotBuf.filter (fun y => !gone.contains y.1) }
        let s := s.fset .TXR_FETCH r fTXR_FETCH_FETCH (idxAdd f n)
        if code != 0 then (false, s.malformed 0 r code f b)
        else if ind && (s.leaf? (hdrLeaf w0)).isNone then (true, s.unreadFreed r f)
        else if ind then
          let a := recAddr b 16
          let reqs := (cuts a (16 * recLen b 16)).map (fun p => x.req r (a + p.1) p.2 (.txTable r f p.1 p.2))
          (false, s.enqueue reqs)
        else (true, s.entryReady r f (directFrags b))

/-- R505: takes entries while it can. -/
def State.txTake (s : State) (r : Nat) : Nat → State
  | 0 => s
  | fuel + 1 =>
    match s.txTakeOne r with
    | (true, s) => s.txTake r fuel
    | (false, s) => s

/-- The entries that a ring may hold. -/
def takeFuel : Nat := 1048576

/-- Runs every transmit ring that completes into a queue. -/
def State.txTakeCq (s : State) (q : Nat) : State :=
  s.forEach ((s.txrs.filter (fun e => e.2.cq == q)).map (·.1)) (fun s r => s.txTake r takeFuel)

/-- The parts of `size` bytes of what a read of `n` of them returns, but for those at the positions `bad`. -/
def readParts (n size : Nat) (bad : List Nat) (b : List Byte) : List (Nat × List Byte) :=
  ((List.range n).filter (fun i => !bad.contains i)).map (fun i => (i, (b.drop (size * i)).take size))

/-- Slots of a ring have been read, but for those at the positions `bad`. -/
def State.txSlotsRead (s : State) (r first n : Nat) (b : List Byte) (bad : List Nat := []) : State :=
  let got := (readParts n 32 bad b).map (fun e => (idxAdd first e.1, e.2))
  (s.modTxr r (fun x => { x with slotBuf := x.slotBuf ++ got })).txTake r takeFuel

/-- R530: part of a fragment table has been read, but for its records at the positions `bad`. -/
def State.txTableRead (s : State) (r first pos : Nat) (b : List Byte) (bad : List Nat := []) : State :=
  let got := (readParts (b.length / 16) 16 bad b).map (fun e => (pos + 16 * e.1, e.2))
  let s := s.modEntry r first (fun e => { e with table := e.table ++ got })
  match s.entryAt r first with
  | none => s
  | some e =>
    let n := 16 * recLen e.bytes 16
    if (e.table.map (fun x => x.2.length)).sum < n then s
    else
      let whole := (List.range (n / 16)).flatMap fun i =>
        match e.table.find? (fun x => decide (x.1 ≤ 16 * i) && decide (16 * i < x.1 + x.2.length)) with
        | some x => (x.2.drop (16 * i - x.1)).take 16
        | none => []
      match tableChecks e.bytes whole with
      | (0, _) => (s.entryReady r first (fragsAt whole ((List.range (n / 16)).map (16 * ·)))).txTake r takeFuel
      | (c, some k) => s.malformed 0 r c first (e.bytes.take 32 ++ (whole.drop (16 * k)).take 16) k
      | (c, none) => s.malformed 0 r c first e.bytes

/-- The cells of a host frame placed after the bank its rafter port used last (R406). -/
def State.hostCells (s : State) (rafter n : Nat) : List Nat × State :=
  let r := s.allocBanks (Store.get 63 s.moverBank rafter) n
  (r.1, { r.2 with moverBank := Store.set 63 r.2.moverBank rafter (r.1.getLast?.getD (Store.get 63 s.moverBank rafter)) })

/-- The data reads of an entry's fragments, with their offsets in the frame (R68). -/
def TxRing.dataReqs (x : TxRing) (r first : Nat) : List (Nat × Nat) → Nat → List RafterReq
  | [], _ => []
  | (a, n) :: t, off =>
    (cuts a n).map (fun p => x.req r (a + p.1) p.2 (.txData r first (off + p.1))) ++ x.dataReqs r first t (off + n)

/-- R424, R435, R507: one check of the entry of ring r that waits for admission. `a`: what the reads of the free lists find
as its cells are allocated. -/
def State.hostAdmission (s : State) (r : Nat) (a : Ecc) : State :=
  match s.txr? r with
  | none => s
  | some x =>
    match x.entries.find? (fun e => e.stage = .admission) with
    | none => s
    | some e =>
      let leaf := hdrLeaf (cb e.bytes 0 8)
      let d : Dest := { leaf := true, id := leaf }
      let c := cellsOf e.lhost
      if s.failed then s
      else if (s.leaf? leaf).isNone then
        ((s.markFreed r e.first).fset .TXR_STAT r fTXR_STAT_ADM_WAIT 0).txTake r takeFuel
      else if s.admitHost d c then
        let s := s.eccCheck a fGEN_INTEG_CORR_LINK .loftCtrlEcc 1
        if s.failed then s
        else
        let (banks, s) := s.hostCells x.rafter c
        let fid := s.nextId
        let fr : Frame :=
          { port := 0, host := true, bytes := List.replicate e.lhost 0, banks := banks, layout := cellFill e.lhost,
            refs := [List.range c], hostUse := c, stage := .queued, done := true }
        let s : State := { s with nextId := fid + 1 }
        let s := ((s.setFrame fid fr).setHostUse (s.hostUse + c)).chargeLeaf leaf c
        let s := s.modEntry r e.first (fun e => { e with stage := .loading, fid := fid, missing := e.lhost })
        let s := (s.enqueue (x.dataReqs r e.first e.frags 0)).fset .TXR_STAT r fTXR_STAT_ADM_WAIT 0
        s.txTake r takeFuel
      else
        ((s.count .LOFT_HOST_WAIT 0 fLOFT_HOST_WAIT_CYCLES).flag .TXR_STAT r fTXR_STAT_ADM_WAIT).elapse s.power.cclk

/-- Replaces the bytes of a list from an offset on. -/
def patch (l : List Byte) (o : Nat) (b : List Byte) : List Byte := l.take o ++ b ++ l.drop (o + b.length)

/-- The packet of a host frame (R444). DESIGN CHOICE (log 91): R504 leaves L4_OFF and L3_V6 of a level unread while its
INS is clear, but UDP_FIX of R296 needs the UDP header and the IP version: the header is the 8 bytes before PTP_OFF, and
the version is the outer L3_V6, or the inner one where an inner INS bit is set. -/
def TxEntry.pkt (e : TxEntry) (r : Nat) (f : Frame) : Pkt :=
  let w0 := cb e.bytes 0 8
  let w1 := cb e.bytes 8 8
  let ts := hdrTsOp w0
  let v6 := if (innerOps w1).ip4 || (innerOps w1).l4 then (innerOps w1).v6 else (outerOps w1).v6
  { fid := e.fid, host := some (r, e.first), bytes := f.bytes, ids := f.cells, tsOp := ts, udpFix := hdrUdpFix w0,
    ptpOff := if ts = 0 then none else some (hdrPtpOff w1),
    udpOff := if ts = 0 then none else some (hdrPtpOff w1 - 8), udpV6 := v6, ins := w1,
    tref := if ts = 2 then recAddr e.bytes (16 * hdrRecs w0) else 0, poison := e.poisoned, wire := max e.lhost 60 + 4 }

/-- R506, R444: loaded frames join their leaves in ring order. -/
def State.txJoin (s : State) (r : Nat) : List TxEntry → State
  | [] => s
  | e :: t =>
    if e.stage = .queued || e.stage = .retired then s.txJoin r t
    else if e.stage = .loading && e.missing == 0 then
      let leaf := hdrLeaf (cb e.bytes 0 8)
      match s.frame? e.fid with
      | none => s.txJoin r t
      | some f =>
        let k := e.pkt r f
        if (s.leaf? leaf).isNone then ((s.releasePkt k).markFreed r e.first).txJoin r t
        else ((s.modEntry r e.first (fun e => { e with stage := .queued })).joinLeaf leaf k).txJoin r t
    else s

/-- R68, R598, R753, R755: frame data has returned. `bad`: a parity error on the way into the loft. -/
def State.txDataRead (s : State) (r first off : Nat) (req : RafterReq) (code : Nat) (bad : Bool) (b : List Byte) :
    State :=
  if code != 0 && code != 3 then s.hostAccess req code
  else
    match s.entryAt r first with
    | none => s
    | some e =>
      let poison := bad || code == 3
      let b := if code == 3 then List.replicate req.len 0 else b
      let s := s.modFrame e.fid (fun f =>
        { f with bytes := patch f.bytes off b,
                 poison := if poison then f.poison ++ (List.range (cellsOf (off + req.len))).filter (fun i =>
                   decide (off / 256 ≤ i)) else f.poison })
      let s := if poison then s.poisoned else s
      let s := s.modEntry r first (fun e => { e with missing := e.missing - req.len, poisoned := e.poisoned || poison })
      match s.txr? r with
      | none => s
      | some x => s.txJoin r x.entries

/-- R754: the descriptors at the positions `bad` of a read, of `size` bytes each, show a parity error in the cache: each is
discarded and read again. Kind 0: transmit slots; 1: buffer entries; 2: records of a fragment table. -/
def State.reread (s : State) (req : RafterReq) (kind r size : Nat) (index : Nat → Nat) (bad : List Nat) : State :=
  s.forEach bad fun s i =>
    (s.corrected fGEN_INTEG_CORR_DESC).enqueue
      [{ req with addr := req.addr + size * i, len := size, purpose := .descReread kind r (index i) }]

/-- R530, R751, R754: the slots or part of the fragment table of a transmit entry return, and the ring's context is read. -/
def State.txEntryRead (s : State) (req : RafterReq) (code : Nat) (x : CacheRead) (b : List Byte) : State :=
  if code != 0 then s.hostAccess req code
  else
    match req.purpose with
    | .txSlots r first n =>
      let s := s.contextRead 0 r x.ctx
      let bad := (x.bad.filter (· < n)).dedup
      if s.failed then s else (s.reread req 0 r 32 (idxAdd first) bad).txSlotsRead r first n b bad
    | .txTable r first pos _ =>
      let s := s.contextRead 0 r x.ctx
      let bad := (x.bad.filter (· < b.length / 16)).dedup
      if s.failed then s else (s.reread req 2 r 16 (fun _ => first) bad).txTableRead r first pos b bad
    | _ => s

/-- R511, R510: the completion of a retired entry. -/
def TxEntry.compl (e : TxEntry) (r : Nat) : Compl :=
  { tx := true, ring := r, ts := e.ts, parse := 0, hit := 0, index := idxAdd e.first e.slots,
    tag := hdrTag (cb e.bytes 0 8), length := e.lhost, status := if e.poisoned && !e.freed then 5 else 0,
    reason := 0, bufCnt := 0,
    port := e.port, colour := 0, aux := e.freed }

/-- TXR_CONS or RXR_CONS has moved (R522). -/
def State.txConsMoved (s : State) (r : Nat) : State := s.modTxr r (fun x => { x with shadowDue := x.shadowEn })
def State.rxConsMoved (s : State) (r : Nat) : State := s.modRxr r (fun x => { x with shadowDue := x.shadowEn })

/-- R509, R510: TXR_CONS passes one entry. -/
def State.passEntry (s : State) (r : Nat) (e : TxEntry) : State :=
  let s := s.fset .TXR_CONS r fTXR_CONS_CONS (idxAdd (s.txCons r) e.slots)
  let s := (s.modTxr r (fun x =>
    { x with entries := x.entries.drop 1, sinceDue := !e.cqReq,
             lastRet := if e.cqReq then none else some (e.compl r) })).txConsMoved r
  match s.txr? r with
  | some x => if e.cqReq then s.complDue x.cq (e.compl r) else s
  | none => s

/-- R508, R509, R819: TXR_CONS passes the run of retired entries at its head, once their timestamps are known. -/
def State.txRetire (s : State) (r : Nat) : State :=
  match s.txr? r with
  | none => s
  | some x =>
    let run := x.entries.takeWhile (fun e => e.stage = .retired)
    (s.elapseTo ((run.map (·.known)).foldl max 0)).forEach run (fun s e => s.passEntry r e)

/-- R508, R819: a host frame has been sent: its egress timestamp, the cycle in which it is known, and its port. -/
def State.txSent (s : State) (r first ts known port : Nat) : State :=
  let s := s.modTxr r (fun x =>
    let n := ((x.entries.find? (fun e => e.first == first)).map (·.lhost)).getD 0
    { x with bytes := min (2 ^ 40 - 1) (x.bytes + n), frames := sat32 (x.frames + 1) })
  s.modEntry r first (fun e => { e with stage := .retired, ts := ts, known := known, port := port })

/-- R508, R510, R758: a host frame is found poisoned before it starts. -/
def State.txPoisoned (s : State) (r first : Nat) : State :=
  (s.modEntry r first (fun e => { e with stage := .retired, poisoned := true, ts := 0, port := 0 })).modTxr r
    (fun x => { x with drops := sat32 (x.drops + 1) })

/-- R523: TXR_CTRL.EN is written 0. -/
def State.txDisable (s : State) (r : Nat) : State :=
  if (s.txr? r).isNone then s.flag .TXR_STAT r fTXR_STAT_REFUSED
  else if s.txOn r then
    let s := (s.fset .TXR_CTRL r fTXR_CTRL_EN 0).flag .TXR_STAT r fTXR_STAT_DRAINING
    s.modTxr r (fun x => { x with limit := s.txProd r })
  else s

/-- R524: the drain ends. -/
def State.txDrainEnd (s : State) (r : Nat) : State :=
  match s.txr? r with
  | none => s
  | some x =>
    if s.txDraining r && s.txCons r == x.limit then
      let s := s.fset .TXR_STAT r fTXR_STAT_DRAINING 0
      let s := match x.lastRet with
        | some c => if x.sinceDue then (s.modTxr r (fun x => { x with sinceDue := false, lastRet := none })).complDue x.cq c
            else s
        | none => s
      s.idleCheck r
    else s

/-- R524: TXR_CTRL.EN is written 1. -/
def State.txEnable (s : State) (r : Nat) : State :=
  if (s.txr? r).isNone then s.flag .TXR_STAT r fTXR_STAT_REFUSED
  else if s.txOn r then s
  else if s.txIdle r then (s.fset .TXR_CTRL r fTXR_CTRL_EN 1).fset .TXR_STAT r fTXR_STAT_IDLE 0
  else s.flag .TXR_STAT r fTXR_STAT_REFUSED

-- Receive buffer rings

/-- The next buffer entry read of a receive buffer ring, if it has one. -/
def State.rxEntryReq (s : State) (r : Nat) : Option RafterReq :=
  match s.rxr? r with
  | none => none
  | some x =>
    let size := 2 ^ x.log2
    let left := idxDiff (s.rxProd r) x.readPtr
    if left = 0 || decide (2 ^ 31 ≤ left) then none
    else
      let at_ := x.readPtr % size
      let a := x.base + 16 * at_
      let n := min left (min (size - at_) ((256 - a % 256) / 16))
      some { who := .rxr r, port := x.rafter, level := x.pri, write := false, addr := a, len := 16 * n, data := [],
             msg := false, ctrl := true, purpose := .rxEntries r x.readPtr n }
def State.rxEntryIssued (s : State) (r n : Nat) : State := s.modRxr r (fun x => { x with readPtr := idxAdd x.readPtr n })

/-- R512, R529: RX_BUF. -/
def bufBad (b : List Byte) : Bool :=
  let len := cb b 8 2
  cb b 0 8 % 64 != 0 || len == 0 || len % 64 != 0 || decide (16384 < len) || cb b 10 2 != 0

/-- Moves entries that have been returned, in index order, to the prefetched buffers. -/
def RxRing.gather (x : RxRing) (cons : Nat) : Nat → RxRing
  | 0 => x
  | fuel + 1 =>
    let i := idxAdd cons x.bufs.length
    match x.raw.find? (fun e => e.1 == i) with
    | none => x
    | some (_, b) =>
      let y : RxRing :=
        { x with bufs := x.bufs ++ [{ index := i, addr := cb b 0 8, len := cb b 8 2, tag := cb b 12 4 }],
                 raw := x.raw.filter (fun e => e.1 != i) }
      y.gather cons fuel

/-- R525: the ABORTED completion of a buffer. -/
def RxBuf.aborted (b : RxBuf) (r : Nat) : Compl :=
  { tx := false, ring := r, ts := 0, parse := 0, hit := 0, index := b.index, tag := b.tag, length := 0, status := 1,
    reason := 0, bufCnt := 1, port := 0, colour := 0, aux := false }

/-- R525 steps 3 and 4: returns prefetched buffers of a ring in reset, once its deliveries have finished. -/
def State.rxAbort (s : State) (r : Nat) : State :=
  match s.rxr? r with
  | none => s
  | some x =>
    if x.resetting && x.active.isEmpty then
      let n := x.bufs.length
      let s := s.setRxr r { x with bufs := [] }
      let s := s.forEach x.bufs (fun s b => s.complDue x.cq (b.aborted r))
      let cons := idxAdd (s.rxCons r) n
      let s := s.fset .RXR_CONS r fRXR_CONS_CONS cons
      let s := if n = 0 then s else s.rxConsMoved r
      s.modRxr r (fun x => { x with resetting := cons != s.rxProd r })
    else s

/-- R530: buffer entries have been read, but for those at the positions `bad`, and are checked in index order. -/
def State.rxEntriesRead (s : State) (r first n : Nat) (b : List Byte) (bad : List Nat := []) : State :=
  let got := (readParts n 16 bad b).map (fun e => (idxAdd first e.1, e.2))
  match got.find? (fun e => bufBad e.2) with
  | some (i, e) => s.malformed 1 r 0x10 i e
  | none =>
    let s := s.modRxr r (fun x => ({ x with raw := x.raw ++ got }).gather (s.rxCons r) (x.raw.length + n))
    s.rxAbort r

/-- R530, R751, R754: the response to a read of buffer entries; the ring's context is read. -/
def State.rxBufferRead (s : State) (req : RafterReq) (code : Nat) (x : CacheRead) (b : List Byte) : State :=
  if code != 0 then s.hostAccess req code
  else
    match req.purpose with
    | .rxEntries r first n =>
      let s := s.contextRead 1 r x.ctx
      let bad := (x.bad.filter (· < n)).dedup
      if s.failed then s else (s.reread req 1 r 16 (idxAdd first) bad).rxEntriesRead r first n b bad
    | _ => s

/-- R754: a descriptor read again: a second parity error is fatal. -/
def State.rereadDone (s : State) (req : RafterReq) (code : Nat) (parity : Bool) (b : List Byte) : State :=
  match req.purpose with
  | .descReread kind r i =>
    if code != 0 then s.hostAccess req code
    else if parity then s.failStop .descCache (kind % 2 + r * 4) i
    else if kind = 0 then s.txSlotsRead r i (req.len / 32) b
    else if kind = 1 then s.rxEntriesRead r i (req.len / 16) b
    else
      match s.entryAt r i with
      | some e => s.txTableRead r i (req.addr - recAddr e.bytes 16) b
      | none => s
  | _ => s

/-- R513: the fewest buffers that hold `n` bytes. -/
def takeBufs : List RxBuf → Nat → Option (List RxBuf)
  | _, 0 => some []
  | [], _ => none
  | b :: t, n => (takeBufs t (n - b.len)).map (b :: ·)

/-- The writes of a delivered frame's bytes into its buffers. -/
def RxRing.bufWrites (x : RxRing) (r id : Nat) (b : RxBuf) (part : List Byte) : List RafterReq :=
  (cuts b.addr part.length).map fun p =>
    { who := .rxr r, port := x.rafter, level := x.pri, write := true, addr := b.addr + p.1, len := p.2,
      data := (part.drop p.1).take p.2, msg := false, ctrl := false, purpose := .rxData r id }
def RxRing.writes (x : RxRing) (r id : Nat) : List RxBuf → List Byte → List RafterReq
  | [], _ => []
  | b :: t, d => x.bufWrites r id b (d.take b.len) ++
      x.writes r id t (d.drop b.len)

/-- R757, R759: a read of a packet's cells finds poison. -/
def State.pktPoisoned (s : State) (k : Pkt) : Bool :=
  k.poison || (match s.frame? k.fid with | some f => f.poison.any (fun i => k.ids.contains i) | none => false)

/-- R433 to R435, R753: what the reads of the cells `ids` of a frame find: corrected words, the cells found uncorrectable,
which are those that `x` names and those written with a bad check code, and errors of the cell links. -/
def State.cellReads (s : State) (fid : Nat) (ids : List Nat) (x : CellRead) : State :=
  let stored := match s.frame? fid with | some f => f.poison.filter ids.contains | none => []
  let new := (x.bad.filter (fun i => ids.contains i && !stored.contains i)).dedup
  let n := stored.length + new.length
  let s := if x.corr = 0 then s
    else (s.satAdd .LOFT_ECC 0 fLOFT_ECC_CORR x.corr).flag .GEN_INTEG_EVT 0 fGEN_INTEG_EVT_CORR
  let s := if n = 0 then s
    else ((s.modFrame fid (fun f => { f with poison := new ++ f.poison })).satAdd .LOFT_ECC 0 fLOFT_ECC_POISON n).flag
      .LOFT_EVT 0 fLOFT_EVT_POISON
  let s := if new.isEmpty && x.parity.isNone then s else s.poisoned
  s.eccCheck x.links fGEN_INTEG_CORR_LINK .loftCtrlEcc 0

/-- R433, R434: what the read of one word of a frame's cells finds. -/
def State.cellRead (s : State) (fid : Nat) (e : Ecc) : State :=
  match e with
  | .clean | .bus => s
  | .corrected => (s.count .LOFT_ECC 0 fLOFT_ECC_CORR).flag .GEN_INTEG_EVT 0 fGEN_INTEG_EVT_CORR
  | .uncorrectable i =>
    let s := s.modFrame fid (fun f => { f with poison := i :: f.poison })
    ((s.count .LOFT_ECC 0 fLOFT_ECC_POISON).flag .LOFT_EVT 0 fLOFT_EVT_POISON).poisoned

/-- R514: the head frame of a ring waits for buffers. -/
def RxRing.starved (x : RxRing) : Bool :=
  match x.dq with
  | [] => false
  | k :: _ => (takeBufs x.bufs (k.bytes.length + k.fcs.length)).isNone

/-- R513, R514, R520, R526: starts the delivery of a ring's head frame. `e`: what the reads of its cells find. -/
def State.deliver (s : State) (r : Nat) (e : CellRead) : State :=
  match s.rxr? r with
  | none => s
  | some x =>
    match x.dq with
    | [] => s
    | k :: rest =>
      if s.rxResetting r || s.failed || s.cqWait false r x.cq then s
      else
        let d := k.bytes ++ k.fcs
        match takeBufs x.bufs d.length with
        | none => s
        | some bs =>
          let s := s.cellReads k.fid k.ids e
          if s.failed then s
          else
          let id := s.nextId
          let reqs := x.writes r id bs d
          let k := { k with poison := k.poison || e.parity.isSome }
          let del : Delivery := { id := id, pkt := k, bufs := bs, left := reqs.length, len := d.length }
          let s : State := { s with nextId := id + 1 }
          let s := (s.setRxr r { x with dq := rest, bufs := x.bufs.drop bs.length, active := x.active ++ [del] }).enqueue reqs
          let s := s.fset .RXR_CONS r fRXR_CONS_CONS (idxAdd (s.rxCons r) bs.length)
          s.rxConsMoved r

/-- R516, R32, R757: the completion of a delivery. -/
def State.rxCompl (s : State) (r : Nat) (d : Delivery) : Compl :=
  let b := d.bufs.headD { index := 0, addr := 0, len := 0, tag := 0 }
  let st := if s.pktPoisoned d.pkt then 5 else d.pkt.status
  { tx := false, ring := r, ts := d.pkt.ts, parse := d.pkt.parse, hit := d.pkt.hit, index := b.index, tag := b.tag,
    length := d.len, status := st, reason := if st = 6 then d.pkt.reason else 0, bufCnt := d.bufs.length,
    port := d.pkt.port, colour := d.pkt.colour, aux := d.pkt.copy }

/-- R414: changes a ring's delivery queue account. -/
def State.unchargeRing (s : State) (r c : Nat) : State := s.modRxr r (fun x => { x with dqCells := x.dqCells - c })

/-- R67, R410, R515: finished deliveries at the head complete in order. -/
def State.rxFinish (s : State) (r : Nat) : Nat → State
  | 0 => s
  | fuel + 1 =>
    match s.rxr? r with
    | none => s
    | some x =>
      match x.active with
      | [] => s
      | d :: rest =>
        if d.left != 0 then s
        else
          let c := s.rxCompl r d
          let s := if c.status = 5 then s.poisonCount fGEN_INTEG_POISON_RX_DELIVERED else s
          let s := s.setRxr r { x with
            active := rest, bytes := min (2 ^ 40 - 1) (x.bytes + d.len), frames := sat32 (x.frames + 1) }
          (s.complDue x.cq c).rxFinish r fuel

/-- R67, R410: a response to a write of frame data. The references to the frame's cells are released with its last. -/
def State.rxDataWritten (s : State) (r id : Nat) (req : RafterReq) (code : Nat) : State :=
  if code != 0 then s.hostAccess req code
  else
    match s.rxr? r with
    | none => s
    | some x =>
      match x.active.find? (fun d => d.id == id) with
      | none => s
      | some d =>
        let poison := s.pktPoisoned d.pkt
        let s := s.setRxr r { x with active := x.active.map (fun d => if d.id == id then
          { d with left := d.left - 1, pkt := { d.pkt with poison := poison } } else d) }
        let s := if d.left == 1 then (s.releasePkt d.pkt).unchargeRing r d.pkt.ids.length else s
        (s.rxFinish r x.active.length).rxAbort r

/-- R525: RXR_CTRL.RESET is written 1. -/
def State.rxReset (s : State) (r : Nat) : State :=
  match s.rxr? r with
  | none => s.flag .RXR_STAT r fRXR_STAT_REFUSED
  | some x =>
    if s.rxResetting r then s
    else
      let s := (s.fset .RXR_CTRL r fRXR_CTRL_EN 0).flag .RXR_CTRL r fRXR_CTRL_RESET
      let s := s.setRxr r { x with dq := [], resetting := true, drops := sat32 (x.drops + x.dq.length) }
      let s := s.forEach x.dq (fun s k => (s.releasePkt k).unchargeRing r k.ids.length)
      s.rxAbort r

/-- R527: RXR_CTRL.EN is written 1. -/
def State.rxEnable (s : State) (r : Nat) : State :=
  if (s.rxr? r).isNone || s.rxResetting r then s.flag .RXR_STAT r fRXR_STAT_REFUSED
  else s.fset .RXR_CTRL r fRXR_CTRL_EN 1

/-- A frame or copy joins a ring's delivery queue (R413). -/
def State.joinRing (s : State) (r : Nat) (k : Pkt) : State :=
  s.modRxr r (fun x => { x with dq := x.dq ++ [{ k with joined := s.blockTime.total }] })
def State.chargeRing (s : State) (r c : Nat) : State := s.modRxr r (fun x => { x with dqCells := x.dqCells + c })

-- Completion queue doorbell and shadow indices

/-- R529, R532, R764: a write of CQ_CONS. -/
def State.cqDoorbell (s : State) (q v : Nat) : State :=
  match s.cq? q with
  | none => s.flag .CQ_STAT q fCQ_STAT_REFUSED
  | some _ =>
    if s.failed then s.flag .CQ_STAT q fCQ_STAT_REFUSED
    else if 2 ^ 31 ≤ idxDiff v (s.cqCons q) || decide (2 ^ 31 ≤ idxDiff (s.cqProd q) v) then s.malformed 2 q 0x21 v []
    else (s.fset .CQ_CONS q fCQ_CONS_CONS v).txTakeCq q

/-- R522: the shadow write of a ring. -/
def shadowReq (rx : Bool) (r port level addr cons : Nat) : RafterReq :=
  { who := if rx then .rxr r else .txr r, port := port, level := level, write := true, addr := addr, len := 8,
    data := leBytes 8 cons, msg := false, ctrl := true, purpose := .shadow rx r }

/-- R522: a shadow write is issued. -/
def State.shadowWrite (s : State) (rx : Bool) (r : Nat) : State :=
  if s.failed then s
  else if rx then
    match s.rxr? r with
    | some x =>
      if x.shadowEn && x.shadowDue && !x.shadowOut then
        (s.setRxr r { x with shadowDue := false, shadowOut := true }).enqueue
          [shadowReq true r x.rafter x.pri x.shadow (s.rxCons r)]
      else s
    | none => s
  else
    match s.txr? r with
    | some x =>
      if x.shadowEn && x.shadowDue && !x.shadowOut then
        (s.setTxr r { x with shadowDue := false, shadowOut := true }).enqueue
          [shadowReq false r x.rafter x.pri x.shadow (s.txCons r)]
      else s
    | none => s

/-- R522, R598: the response to a shadow write. -/
def State.shadowWritten (s : State) (rx : Bool) (r : Nat) (req : RafterReq) (code : Nat) : State :=
  if code != 0 then s.hostAccess req code
  else if rx then s.modRxr r (fun x => { x with shadowOut := false })
  else s.modTxr r (fun x => { x with shadowOut := false })

end Sys2Proof.Machine
end

