-- ==== Sys2Proof/Machine/Lane.lean ====
section
/-! DEFINITION. Lanes: taps and presets (R72 to R74), lane states (R84 to R94), pitch training (R99 to R116), fixed mode
(R117 to R120), the quad PLL (R79 to R83), loopbacks (R128 to R132), patterns (R137), and what a lane's entry into BLIND
or DATA sets. -/

namespace Sys2Proof.Machine

/-- R72: the taps of a register with the layout of LANE_TX_TAPS. -/
def tapsOf (w : Word) : Taps :=
  { m3 := toSigned 8 (fLANE_TX_TAPS_C_M3.get w), m2 := toSigned 8 (fLANE_TX_TAPS_C_M2.get w),
    m1 := toSigned 8 (fLANE_TX_TAPS_C_M1.get w), p1 := toSigned 8 (fLANE_TX_TAPS_C_P1.get w) }

/-- R73: c0. -/
def Taps.c0 (t : Taps) : Int := 64 - ((t.m3.natAbs + t.m2.natAbs + t.m1.natAbs + t.p1.natAbs : Nat) : Int)

/-- R73: the ranges. -/
def Taps.inRange (t : Taps) : Bool :=
  decide (-8 ≤ t.m3 ∧ t.m3 ≤ 8 ∧ -12 ≤ t.m2 ∧ t.m2 ≤ 12 ∧ -24 ≤ t.m1 ∧ t.m1 ≤ 0 ∧ -16 ≤ t.p1 ∧ t.p1 ≤ 0)

/-- R73: a setting that the block accepts. -/
def Taps.ok (t : Taps) : Bool := t.inRange && decide (24 ≤ t.c0)

/-- The word of a setting in the layout of LANE_TX_TAPS. -/
def Taps.word (t : Taps) : Word :=
  BitVec.ofNat 64 (ofSigned 8 t.m3 + ofSigned 8 t.m2 * 2 ^ 8 + ofSigned 8 t.m1 * 2 ^ 16 + ofSigned 8 t.c0 * 2 ^ 24 +
    ofSigned 8 t.p1 * 2 ^ 32)

/-- R74: the presets. -/
def preset : Nat → Taps
  | 2 => { m3 := 0, m2 := 0, m1 := -8, p1 := 0 }
  | 3 => { m3 := 0, m2 := 2, m1 := -12, p1 := -4 }
  | 4 => { m3 := -2, m2 := 4, m1 := -16, p1 := -2 }
  | _ => { m3 := 0, m2 := 0, m1 := 0, p1 := 0 }

/-- The taps in use. -/
def State.txTaps (s : State) (n : Nat) : Taps := tapsOf (s.rget .LANE_TX_TAPS n)

/-- A quotient of integers rounded to nearest. -/
def roundDiv (a : Int) (b : Nat) : Int := (2 * a + b) / (2 * b : Nat)

/-- R149, R151: D_tx of a setting at a rate, in units of 2^-16 ns. -/
def dTxOf (rate : Nat) (t : Taps) : Int :=
  roundDiv (-((3 * t.m3.natAbs + 2 * t.m2.natAbs + t.m1.natAbs : Nat) - (t.p1.natAbs : Int)) * (1000000 * 65536 : Nat))
    (64 * rateKbd rate)

/-- D_ctle of R150: characterised into the lane macro, an open value for each rate and code, as 32 bits in units of
2^-16 ns. -/
def dCtle (rate code : Nat) : Int := toSigned 32 (Config.freeValue 2 (rate * 32 + code))

/-- The FFE taps f_0 to f_31. -/
def State.ffe (s : State) (n : Nat) : List Int :=
  [RegId.LANE_RX_FFE0, .LANE_RX_FFE1, .LANE_RX_FFE2, .LANE_RX_FFE3].flatMap fun id =>
    (List.range 8).map (fun k => toSigned 8 ((s.rget id n).toNat / 256 ^ k))

/-- R150, R151: D_rx of FFE taps and a CTLE code. Where every tap is zero the model draws an open value. -/
def dRxOf (rate code : Nat) (f : List Int) : Int :=
  let den := (f.map Int.natAbs).sum
  let num : Int := (f.zipIdx.map (fun x => ((x.2 : Int) - 7) * (x.1.natAbs : Nat))).sum
  if den = 0 then toSigned 32 (Config.freeValue 3 code)
  else dCtle rate code + roundDiv (num * (1000000 * 65536 : Nat)) (rateKbd rate * den)

/-- Sets the transmit taps; D_tx follows. -/
def State.setTaps (s : State) (n : Nat) (t : Taps) : State :=
  (s.rset .LANE_TX_TAPS n t.word).fset .LANE_GD n fLANE_GD_TX_GD (ofSigned 32 (dTxOf (s.laneRate n) t))

/-- D_rx follows the receive settings. -/
def State.showRx (s : State) (n : Nat) : State :=
  let code := s.fget .LANE_RX_EQ n fLANE_RX_EQ_CTLE
  let rate := s.laneRate n
  (s.fset .LANE_GD n fLANE_GD_RX_GD (ofSigned 32 (dRxOf rate code (s.ffe n)))).fset .LANE_GD_CTLE n
    fLANE_GD_CTLE_D_CTLE (ofSigned 32 (dCtle rate code))

/-- R87: the receive adaptation returns to its start values. -/
def State.startAdapt (s : State) (n : Nat) : State :=
  let s := (s.fset .LANE_RX_EQ n fLANE_RX_EQ_CTLE 0).fset .LANE_RX_EQ n fLANE_RX_EQ_DFE 0
  let s := ((s.rreset .LANE_RX_RC n).rreset .LANE_RX_FFE0 n).rreset .LANE_RX_FFE1 n
  ((s.rreset .LANE_RX_FFE2 n).rreset .LANE_RX_FFE3 n).showRx n

def State.setLaneState (s : State) (n st : Nat) : State := s.fset .LANE_STAT n fLANE_STAT_STATE st
def State.fixedMode (s : State) (n : Nat) : Bool := s.fbit .LANE_CTRL n fLANE_CTRL_TRAIN_MODE
def State.laneEn (s : State) (n : Nat) : Bool := s.fbit .LANE_CTRL n fLANE_CTRL_EN
def State.localReady (s : State) (n : Nat) : Bool := s.fbit .LANE_STAT n fLANE_STAT_LOCAL_READY
def State.partnerReady (s : State) (n : Nat) : Bool := s.fbit .LANE_STAT n fLANE_STAT_PARTNER_READY
def State.frameLock (s : State) (n : Nat) : Bool := s.fbit .LANE_STAT n fLANE_STAT_FRAME_LOCK
def State.cdrLock (s : State) (n : Nat) : Bool := s.fbit .LANE_STAT n fLANE_STAT_CDR_LOCK
def State.endCount (s : State) (n : Nat) : Nat := s.fget .LANE_STAT n fLANE_STAT_END_COUNT

/-- R162: a lane record has changed, and a message falls due on the lane's port. -/
def State.lpmTouch (s : State) (n : Nat) : State :=
  match s.laneOwner n with
  | some p => s.modMac p (fun m => { m with lpmDue := true })
  | none => s

/-- R154: the total D_rx of a lane with its history, a step that the time unit has acknowledged taken in. -/
def State.rxHistory (s : State) (n : Nat) : Int × List (Nat × Int) :=
  let l := s.lane n
  let cur := toSigned 32 (s.fget .LANE_GD n fLANE_GD_RX_GD)
  match l.rxStep with
  | some x =>
    if x.acked then
      (dRxOf (s.laneRate n) x.ctle (x.ffe.flatMap (fun w => (List.range 8).map (fun k => toSigned 8 (w.toNat / 256 ^ k)))),
        (x.apply, cur) :: l.rxOld)
    else (cur, l.rxOld)
  | none => (cur, l.rxOld)

/-- R131, R147, R154, R157: a lane leaves DATA: reported steps and live requests are dropped, the receive settings return to
their start values, and a far-end loopback ends. The totals of its stay remain for the frames that it carried. -/
def State.leaveData (s : State) (n : Nat) : State :=
  if s.laneState n == lDATA then
    let past := s.rxHistory n
    let s := (s.startAdapt n).modLane n (fun l =>
      { l with rxStep := none, txStep := none, txDriver := none, txReq := none, txRetry := none, ctleDue := false,
               trial := 0, liveOut := false, oneStep := [], rxOld := [], txOld := [], life := l.life + 1,
               rxPast := l.rxPast.put l.life past })
    let s := (s.fset .LANE_CAL_STAT n fLANE_CAL_STAT_TX_PEND 0).fset .LANE_CAL_STAT n fLANE_CAL_STAT_RX_PEND 0
    let s := s.fset .LANE_CAL_STAT n fLANE_CAL_STAT_REQ_OUT 0
    if s.loopMode n == 3 then s.fset .LANE_LOOP n fLANE_LOOP_MODE 0 else s
  else s

/-- R84: the receiver is off, and no training frame is sent. PARTNER_READY keeps the last good status field's bit
(R111). -/
def State.rxOff (s : State) (n : Nat) : State :=
  let s := (s.fset .LANE_STAT n fLANE_STAT_SIG_DET 0).fset .LANE_STAT n fLANE_STAT_CDR_LOCK 0
  let s := (s.fset .LANE_STAT n fLANE_STAT_FRAME_LOCK 0).fset .LANE_STAT n fLANE_STAT_LOCAL_READY 0
  let s := s.fset .LANE_STAT n fLANE_STAT_END_COUNT 0
  s.modLane n (fun l => { l with readyRun := 0, stepped := false, good := 0, bad := 0, fell := false, frame := none })

/-- R102: the status field that the block sends. -/
def State.statusField (s : State) (n : Nat) : Nat :=
  let l := s.lane n
  (s.localReady n).toNat * 2 ^ 15 + l.ackSeq * 2 ^ 11 + l.tapAck * 2 ^ 8 + l.tapStat * 2 ^ 5 + s.endCount n

/-- R95: a training frame begins now with the fields as they stand. -/
def State.beginFrame (s : State) (n : Nat) : State :=
  s.modLane n (fun l => { l with frameAt := s.now, frame := some (l.ctl, s.statusField n) })

/-- R87, R104: a lane enters BLIND. -/
def State.enterBlind (s : State) (n : Nat) : State :=
  let s := ((s.leaveData n).rxOff n).setLaneState n lBLIND
  let s := s.modLane n (fun l =>
    { l with startAt := s.now, ctl := 0, reqOut := false, ackSeq := 0, tapAck := 7, tapStat := 0,
             partnerAck := 0, pendReq := none, sentOne := false, rcvdOne := false, search := {} })
  let s := (s.startAdapt n).fset .LANE_CTRL n fLANE_CTRL_RESTART 0
  if s.fixedMode n then s.setTaps n (tapsOf (s.rget .LANE_TX_FIXED n))
  else (s.setTaps n (preset (s.fget .LANE_TRAIN_CFG n fLANE_TRAIN_CFG_INIT_PRESET))).beginFrame n

/-- R114, R117, R144, R147, R166: a lane enters DATA. The taps of a fixed-mode lane are those of LANE_TX_FIXED. -/
def State.enterData (s : State) (n : Nat) : State :=
  let s := (s.setLaneState n lDATA).flag .LANE_EVENT n fLANE_EVENT_TRAIN_DONE
  let s := s.fset .LANE_STAT n fLANE_STAT_END_COUNT 0
  let s := if s.fixedMode n then s
    else (s.fset .LANE_STAT n fLANE_STAT_FRAME_LOCK 0).fset .LANE_STAT n fLANE_STAT_LOCAL_READY 0
  let s := s.modLane n (fun l =>
    { l with dataAt := s.now, rxIv := 0, txIv := 0, ctleIv := none, rxStep := none, txStep := none, txDriver := none,
             txReq := none, txRetry := none, reqOut := false, pendReq := none, search := {},
             quietTx := s.fbit .LANE_CAL_CTRL n fLANE_CAL_CTRL_TX_QUIET,
             quietRx := s.fbit .LANE_CAL_CTRL n fLANE_CAL_CTRL_RX_QUIET,
             liveSeq := 0, liveSel := 0, liveReq := 0, liveOut := false, liveFirst := none, liveAck := 0,
             liveTapAck := 7, liveStat := 0, ackSent := 0, partnerLiveAck := 0, trialAt := s.now, cand := 0, trial := 0,
             stepped := false, ctleDue := s.fbit .LANE_RX_EQ n fLANE_RX_EQ_CTLE_HOLD, oneStep := [], rxOld := [],
             txOld := [], good := 0, bad := 0, fell := false, frame := none })
  let s := s.setTaps n (if s.fixedMode n then tapsOf (s.rget .LANE_TX_FIXED n) else s.txTaps n)
  (s.showRx n).lpmTouch n

/-- R79, R84, R707: a lane in PLL_WAIT proceeds once its quad PLL is locked and its pads are released. -/
def State.pllGo (s : State) (n : Nat) : State :=
  let q := n / 4
  if s.laneState n == lPLL && s.fbit .LANE_QUAD_STAT q fLANE_QUAD_STAT_PLL_LOCK &&
      !bitOf (s.fget .POWER_PAD 0 fPOWER_PAD_HELD) (3 + q) then
    if s.loopMode n == 2 then s.enterData n else s.enterBlind n
  else s

/-- LANE_STAT.PLL_LOCK of a quad's lanes follows LANE_QUAD_STAT. -/
def State.setPll (s : State) (q : Nat) (b : Bool) : State :=
  (s.fsetB .LANE_QUAD_STAT q fLANE_QUAD_STAT_PLL_LOCK b).forEach (List.range 4)
    (fun s i => s.fsetB .LANE_STAT (4 * q + i) fLANE_STAT_PLL_LOCK b)

/-- R79: some lane of the quad is in a state other than OFF. -/
def State.pllRuns (s : State) (q : Nat) : Bool := (List.range 4).any (fun i => s.laneState (4 * q + i) != lOFF)

/-- R79: an enabled lane in OFF enters PLL_WAIT. -/
def State.laneStart (s : State) (n : Nat) : State :=
  if s.laneEn n && s.laneState n == lOFF then (s.setLaneState n lPLL).pllGo n else s

/-- R84, R88, R739, R741: LANE_CTRL.EN is written 1. -/
def State.laneEnable (s : State) (n : Nat) : State :=
  let rateOk := match s.laneOwner n with
    | some p => s.portLaneRate p == some (s.laneRate n)
    | none => false
  if !rateOk then s.flag .LANE_EVENT n fLANE_EVENT_CFG_REFUSED
  else if s.laneEn n then s
  else
    let s := s.flag .LANE_CTRL n fLANE_CTRL_EN
    if s.boot == bRUNNING then s.laneStart n else s

/-- R79, R85: LANE_CTRL.EN is written 0. -/
def State.laneDisable (s : State) (n : Nat) : State :=
  let s := (s.fset .LANE_CTRL n fLANE_CTRL_EN 0).fset .LANE_CTRL n fLANE_CTRL_RESTART 0
  if s.laneState n == lOFF then s
  else
    let s := ((s.leaveData n).rxOff n).setLaneState n lOFF
    if s.pllRuns (n / 4) then s else s.setPll (n / 4) false

/-- R86: LANE_CTRL.RESTART is written 1. -/
def State.laneRestart (s : State) (n : Nat) : State :=
  if s.laneEn n && s.laneState n != lOFF && s.laneState n != lPLL then s.enterBlind n else s

/-- R81: the quad PLL locks. -/
def State.quadLock (s : State) (q : Nat) : State :=
  if s.pllRuns q then (s.setPll q true).forEach (List.range 4) (fun s i => s.pllGo (4 * q + i)) else s

/-- R83, R85: the quad PLL loses lock. -/
def State.quadLost (s : State) (q : Nat) : State :=
  if s.fbit .LANE_QUAD_STAT q fLANE_QUAD_STAT_PLL_LOCK then
    let s := (s.setPll q false).flag .LANE_QUAD_STAT q fLANE_QUAD_STAT_LOCK_LOST
    s.forEach ((List.range 4).map (4 * q + ·)) fun s n =>
      if s.laneState n == lOFF then s
      else (((s.leaveData n).rxOff n).setLaneState n lPLL).fset .LANE_CTRL n fLANE_CTRL_RESTART 0
  else s

/-- R91: the receiver finds energy; with `lock`, its CDR has locked. -/
def State.cdrLocks (s : State) (n : Nat) (lock : Bool) : State :=
  if lBLIND ≤ s.laneState n && s.laneState n ≤ lDATA then
    let s := s.flag .LANE_STAT n fLANE_STAT_SIG_DET
    if lock then s.flag .LANE_STAT n fLANE_STAT_CDR_LOCK else s
  else s

/-- R140, R118, R109: the CDR loses lock: the block in progress is discarded, and a run of ready blocks ends. SIG_DET
stays while energy is present (R91). -/
def State.cdrLoses (s : State) (n : Nat) (energy : Bool) : State :=
  let s := if energy then s else s.fset .LANE_STAT n fLANE_STAT_SIG_DET 0
  if s.cdrLock n then
    let s := s.fset .LANE_STAT n fLANE_STAT_CDR_LOCK 0
    let s := s.modLane n (fun l => { l with readyRun := 0, stepped := false })
    if s.fixedMode n then s.fset .LANE_STAT n fLANE_STAT_LOCAL_READY 0 else s
  else s

-- The search of pitch training

/-- The presets of the search: the initial one first, then 2, 4, 1, 3 skipping it. -/
def searchPresets (init : Nat) : List Nat := init :: [2, 4, 1, 3].filter (· != init)

/-- TAP_SEL of the search's order c-1, c+1, c-2, c-3. -/
def searchTap (i : Nat) : Nat := [2, 3, 1, 0].getD i 0

/-- The control field without its REQ_SEQ that the search asks for. -/
def Search.want (x : Search) : Nat :=
  let tap := searchTap x.tap * 2 ^ 10
  match x.phase with
  | .presetReq => (x.presets.headD 1) * 2 ^ 13
  | .tapReq => tap + (if x.dec then 2 else 1) * 2 ^ 8
  | .undoReq => tap + (if x.dec then 1 else 2) * 2 ^ 8
  | _ => 0

/-- A request of the search is due. -/
def Search.wants (x : Search) : Bool := x.phase = .presetReq || x.phase = .tapReq || x.phase = .undoReq

/-- The search begins (R109). -/
def State.searchStart (s : State) (n : Nat) : State :=
  let init := s.fget .LANE_TRAIN_CFG n fLANE_TRAIN_CFG_INIT_PRESET
  s.modLane n (fun l => { l with search := { presets := searchPresets init, phase := .presetReq }, readyRun := 0 })

/-- The next candidate after one direction of a tap has been tried; `keep`: the change was kept. -/
def Search.next (x : Search) (keep : Bool) : Search :=
  if !keep && !x.dec then { x with dec := true, phase := .tapReq }
  else if x.tap < 3 then { x with tap := x.tap + 1, dec := false, phase := .tapReq }
  else if x.improved then { x with tap := 0, dec := false, improved := false, phase := .tapReq }
  else { x with roundDone := true, phase := .idle }

/-- The request of the search is acknowledged with a status. DESIGN CHOICE (log 86): the 128 frames that a measurement waits
are those whose blocks end after the acknowledgement has been decoded, the acknowledging frame's own among them where its
block ends later. -/
def Search.acked (x : Search) (status : Nat) : Search :=
  let x := { x with count := 0, sum := 0 }
  match x.phase with
  | .presetReq => { x with phase := .presetMeas }
  | .tapReq => if status = 1 then { x with phase := .tapMeas } else x.next false
  | .undoReq => { x with phase := .undoMeas }
  | _ => x

/-- A measurement ends. -/
def Search.measured (x : Search) : Search :=
  match x.phase with
  | .presetMeas => { x with best := x.sum, tap := 0, dec := false, improved := false, phase := .tapReq }
  | .tapMeas =>
    if x.best + 128 ≤ x.sum then ({ x with best := x.sum, improved := true } : Search).next true
    else { x with phase := .undoReq }
  | .undoMeas => x.next false
  | _ => x

/-- R109: the conditions of LOCAL_READY. -/
def State.readyHolds (s : State) (n : Nat) : Bool :=
  (s.lane n).search.roundDone && decide (1024 ≤ (s.lane n).readyRun) && s.cdrLock n && s.frameLock n

/-- R112: both ends are ready. -/
def State.endingCheck (s : State) (n : Nat) : State :=
  if s.laneState n == lTRAIN && s.localReady n && s.partnerReady n then s.setLaneState n lENDING else s

/-- R109, R110: LOCAL_READY sets, and the block makes only hold requests. -/
def State.laneReady (s : State) (n : Nat) : State :=
  if (s.laneState n == lTRAIN) && !s.localReady n && s.readyHolds n then
    let s := (s.flag .LANE_STAT n fLANE_STAT_LOCAL_READY).modLane n (fun l =>
      { l with search := { l.search with phase := .idle }, ctl := l.ctl / 16 % 16 * 16 })
    s.endingCheck n
  else s

/-- R109: a round ends: readiness, or the next preset. DESIGN CHOICE (log 86): `held_ready` of the pseudocode tests the
conditions of R109 as they stand when the round ends; where the run of 1,024 frames is not complete by then, the search
goes on to the next preset, and the round just completed no longer counts. -/
def State.roundEnd (s : State) (n : Nat) : State :=
  let x := (s.lane n).search
  if s.readyHolds n then s.laneReady n
  else if x.roundDone && decide (1 < x.presets.length) then
    s.modLane n (fun l =>
      { l with search := { l.search with presets := x.presets.drop 1, roundDone := false, phase := .presetReq } })
  else s

/-- The pseudocode before R109: a measurement of the search ends. -/
def State.searchMeasure (s : State) (n : Nat) : State :=
  let x := (s.lane n).search
  let meas := x.phase = .presetMeas || x.phase = .tapMeas || x.phase = .undoMeas
  if s.laneState n == lTRAIN && meas && decide (256 ≤ x.count) then
    let s := s.modLane n (fun l => { l with search := x.measured })
    if (s.lane n).search.phase = .idle then s.roundEnd n else s
  else s

/-- R99, R100, R116: the receiver gains frame lock, three good frames having come at consecutive positions. DESIGN
CHOICE (log 76): after a retrain the first frames carry TAP_ACK 0b111 and TAP_STATUS NONE. -/
def State.frameLocks (s : State) (n : Nat) : State :=
  if s.fixedMode n || !s.cdrLock n || decide ((s.lane n).good < 3) then s
  else if s.laneState n == lBLIND then
    ((s.flag .LANE_STAT n fLANE_STAT_FRAME_LOCK).setLaneState n lTRAIN).searchStart n
  else if s.laneState n == lDATA then
    let s := ((s.leaveData n).flag .LANE_STAT n fLANE_STAT_FRAME_LOCK).setLaneState n lTRAIN
    let s := s.flag .LANE_EVENT n fLANE_EVENT_RETRAIN
    let s := s.modLane n (fun l =>
      { l with startAt := s.now, ctl := 0, reqOut := false, ackSeq := 0, tapAck := 7, tapStat := 0,
               pendReq := none, sentOne := false, rcvdOne := false })
    (s.beginFrame n).searchStart n
  else s

/-- R99, R100: frame lock is lost, four expected frames in a row not being good. After a good frame with END_COUNT 1 the
receiver takes PCS data and expects no frame (R114). -/
def State.frameLost (s : State) (n : Nat) : State :=
  if (s.laneState n == lTRAIN || s.laneState n == lENDING) && s.frameLock n && !(s.lane n).rcvdOne &&
      decide (4 ≤ (s.lane n).bad) then
    (s.enterBlind n).flag .LANE_EVENT n fLANE_EVENT_FRAME_LOSS
  else s

/-- R114: the countdown has been sent and received. -/
def State.countdownCheck (s : State) (n : Nat) : State :=
  let l := s.lane n
  if s.laneState n == lENDING && l.sentOne && l.rcvdOne then s.enterData n else s

/-- R105: the partner acknowledges the request that is out. -/
def State.trainAck (s : State) (n status : Nat) : State :=
  let l := s.lane n
  if l.reqOut && status / 2 ^ 11 % 16 == l.ctl / 16 % 16 then
    let s := s.setLane n { l with reqOut := false, search := l.search.acked (status / 32 % 8) }
    let x := (s.lane n).search
    if x.phase = .idle && x.roundDone && s.laneState n == lTRAIN && !s.localReady n then s.roundEnd n else s
  else s

/-- R99, R105, R111, R113, R114: a good training frame is received. In DATA its fields are taken, but no request is
answered before the retrain. -/
def State.trainFrameGood (s : State) (n control status : Nat) : State :=
  let st := s.laneState n
  let s := (s.fset .LANE_TRAIN_LAST n fLANE_TRAIN_LAST_CONTROL control).fset .LANE_TRAIN_LAST n
    fLANE_TRAIN_LAST_STATUS status
  let s := s.fsetB .LANE_STAT n fLANE_STAT_PARTNER_READY (bitOf status 15)
  let fresh := st != lDATA && control / 16 % 16 != (s.lane n).ackSeq && (s.lane n).pendReq.isNone
  let s := s.modLane n (fun l =>
    { l with
      good := min 3 (l.good + 1)
      bad := 0
      partnerAck := status / 2 ^ 11 % 16
      pendReq := if fresh then some (control % 65536, s.now) else l.pendReq
      pendEnd := if fresh then st == lENDING else l.pendEnd
      fell := l.fell || (st == lENDING && !bitOf status 15)
      rcvdOne := l.rcvdOne || (st == lENDING && status % 16 == 1) })
  ((s.trainAck n status).endingCheck n).countdownCheck n

/-- R99: an expected frame has no marker or a bad check field. -/
def State.trainFrameBad (s : State) (n : Nat) : State :=
  s.modLane n (fun l => { l with good := 0, bad := min 4 (l.bad + 1) })

/-- R95: the symbols of the training frame that lane n is sending, as its serial output carries them (R75); none where
it sends no training frame. -/
def State.frameOut (s : State) (n : Nat) : List Nat :=
  match (s.lane n).frame with
  | some (c, st) => inverted (s.fbit .LANE_CTRL n fLANE_CTRL_TX_INV) (trainSymbols (decide (s.laneRate n < 3)) n c st)
  | none => []

/-- R75, R128: the symbols that the receiver decides: in near-end serial loopback the lane's own output, otherwise those
of its pins; inverted under RX_INV. -/
def State.frameIn (s : State) (n : Nat) (x : List Nat) : List Nat :=
  inverted (s.fbit .LANE_CTRL n fLANE_CTRL_RX_INV) (if s.loopMode n == 1 then s.frameOut n else x)

/-- The clocks that can drive a lane's transmitter. -/
inductive TxClock where
  | refA | refB | recovered
  deriving DecidableEq, Repr

/-- R79, R80, R129: the clock of lane n's transmitter: its quad PLL's, from the reference of REF_SEL, or in far-end
loopback the clock recovered by its own receiver. -/
def State.txClock (s : State) (n : Nat) : TxClock :=
  if s.loopMode n == 3 then .recovered
  else if s.fbit .LANE_QUAD_CFG (n / 4) fLANE_QUAD_CFG_REF_SEL then .refB else .refA

/-- What a lane's transmit pins carry. -/
inductive TxPins where
  | idle | training | pcs | echo
  deriving DecidableEq, Repr

/-- R84, R128, R129, R708: what the transmit pins of lane n carry: electrical idle while the quad's pads are held, in
the states without a transmitter and in the near-end loopbacks, the received symbols in far-end loopback, and otherwise
training frames or PCS data. -/
def State.txPins (s : State) (n : Nat) : TxPins :=
  let st := s.laneState n
  if s.padHeld (3 + n / 4) || st < lBLIND || st == lFAIL || s.loopMode n == 1 || s.loopMode n == 2 then .idle
  else if s.loopMode n == 3 then .echo
  else if st == lDATA || s.fixedMode n || (s.lane n).sentOne then .pcs else .training

/-- R99, R129: training symbols received in far-end loopback are re-sent after 64 symbols, under both inversions. -/
def State.echoFrame (s : State) (n : Nat) (x : List Nat) : State :=
  if s.loopMode n == 3 then
    let out := inverted (s.fbit .LANE_CTRL n fLANE_CTRL_TX_INV) (s.frameIn n x)
    s.modLane n (fun l => { l with echoSyms := out, echoAt := s.now + symCycles (s.laneRate n) 64 })
  else s

/-- R99, R114: the symbols at an expected position are received. A lane that has received END_COUNT 1 takes PCS data. -/
def State.trainFrameRx (s : State) (n : Nat) (x : List Nat) : State :=
  let st := s.laneState n
  let s := s.echoFrame n x
  if s.fixedMode n || st < lBLIND || lDATA < st || s.loopMode n == 2 || (st == lENDING && (s.lane n).rcvdOne) then s
  else match readFrame (s.frameIn n x) with
    | some (c, t) => s.trainFrameGood n c t
    | none => s.trainFrameBad n

/-- The tap that TAP_SEL names, and its range. -/
def Taps.tap (t : Taps) : Nat → Int
  | 0 => t.m3 | 1 => t.m2 | 2 => t.m1 | _ => t.p1
def Taps.setTap (t : Taps) (sel : Nat) (v : Int) : Taps :=
  match sel with
  | 0 => { t with m3 := v } | 1 => { t with m2 := v } | 2 => { t with m1 := v } | _ => { t with p1 := v }
def tapMin : Nat → Int
  | 0 => -8 | 1 => -12 | 2 => -24 | _ => -16
def tapMax : Nat → Int
  | 0 => 8 | 1 => 12 | _ => 0

/-- R103, R161: a request of one tap: its status code and the taps after it. -/
def Taps.request (t : Taps) (sel req : Nat) : Nat × Taps :=
  if 4 ≤ sel ∨ req = 3 then (6, t)
  else if req = 0 then (0, t)
  else if req = 1 ∧ t.tap sel = tapMax sel then (3, t)
  else if req = 2 ∧ t.tap sel = tapMin sel then (2, t)
  else
    let t' := t.setTap sel (t.tap sel + if req = 1 then 1 else -1)
    if t'.c0 < 24 then (4, t) else (1, t')

/-- TAP_ACK of a request: 0b111 for a hold. -/
def ackOf (sel req : Nat) : Nat := if req = 0 then 7 else sel

/-- R106, R108: acts on the partner's request. DESIGN CHOICE (log 76): REQ_RCVD counts a request acknowledged in ENDING
too. -/
def State.trainAct (s : State) (n control : Nat) : State :=
  let pre := control / 2 ^ 13 % 8
  let sel := control / 2 ^ 10 % 8
  let req := control / 2 ^ 8 % 4
  let t := s.txTaps n
  let r : Nat × Taps := if s.laneState n == lENDING || (s.lane n).pendEnd then (0, t)
    else if pre != 0 then (if 4 < pre then (6, t) else (5, preset pre))
    else t.request sel req
  let s := s.modLane n (fun l =>
    { l with pendReq := none, ackSeq := control / 16 % 16, tapAck := if pre != 0 then 7 else ackOf sel req, tapStat := r.1 })
  let s := s.count .LANE_TRAIN_CNT n fLANE_TRAIN_CNT_REQ_RCVD
  if r.1 = 1 || r.1 = 5 then s.setTaps n r.2 else s

/-- R105: the block sends its own request. -/
def State.trainAsk (s : State) (n : Nat) : State :=
  let l := s.lane n
  if s.laneState n == lTRAIN && l.search.wants && !l.reqOut then
    let seq := (l.partnerAck + 1) % 16
    (s.setLane n { l with ctl := l.search.want + seq * 16, reqOut := true, reqAt := s.now }).count .LANE_TRAIN_CNT n
      fLANE_TRAIN_CNT_REQ_SENT
  else s

/-- R112, R113: the countdown in the frame that begins. DESIGN CHOICE (log 76): a ready bit that falls before the first
countdown frame has begun returns the lane to TRAIN as well. A lane that finds both ends ready there enters ENDING again,
and counts from the frame after. -/
def State.trainCount (s : State) (n : Nat) : State :=
  let k := s.endCount n
  if s.laneState n == lENDING then
    if k == 1 then
      (s.modLane n (fun l => { l with sentOne := true, oneAt := s.now, frame := none })).countdownCheck n
    else if (s.lane n).fell || !(s.localReady n && s.partnerReady n) then
      ((((s.fset .LANE_STAT n fLANE_STAT_END_COUNT 0).setLaneState n lTRAIN).modLane n
        (fun l => { l with fell := false, rcvdOne := false })).beginFrame n).endingCheck n
    else (s.fset .LANE_STAT n fLANE_STAT_END_COUNT (if k == 0 then 15 else k - 1)).beginFrame n
  else s.beginFrame n

/-- R95, R105, R106, R112: a transmit training frame begins. -/
def State.trainFrameTx (s : State) (n : Nat) : State :=
  let st := s.laneState n
  if s.fixedMode n || !(st == lBLIND || st == lTRAIN || st == lENDING) || (s.lane n).sentOne then s
  else
    let rate := s.laneRate n
    let s := s.elapseTo ((s.lane n).frameAt + symCycles rate 4096)
    let s := match (s.lane n).pendReq with
      | some (c, d) => if d + symCycles rate 1024 ≤ s.now then s.trainAct n c else s
      | none => s
    (s.trainAsk n).trainCount n

/-- R118: a fixed-mode lane has held READY_PF for 4,194,304 symbols, which are 1,024 blocks. -/
def State.fixedReady (s : State) (n : Nat) : State :=
  if s.fixedMode n && s.laneState n == lBLIND && s.cdrLock n && decide (1024 ≤ (s.lane n).readyRun) then
    (s.flag .LANE_STAT n fLANE_STAT_LOCAL_READY).enterData n
  else s

/-- R107: the block's request has been unacknowledged for 256 frames, and it is still being sent. -/
def State.trainReqTimeout (s : State) (n : Nat) : State :=
  let l := s.lane n
  if l.reqOut && (s.laneState n == lTRAIN || s.laneState n == lENDING) then
    (s.elapseTo (l.reqAt + symCycles (s.laneRate n) (256 * 4096))).flag .LANE_EVENT n fLANE_EVENT_REQ_TIMEOUT
  else s

/-- R92, R93: the training timeout; where the lane enters ENDING, or DATA in fixed mode, in the same cycle, it makes
that transition. DESIGN CHOICE (log 76): a timeout that ENDING has stopped runs on from its first start once a countdown
reset returns the lane to TRAIN. -/
def State.trainTimeout (s : State) (n : Nat) : State :=
  if s.laneState n == lBLIND || s.laneState n == lTRAIN then
    let t := s.fget .LANE_TRAIN_CFG n fLANE_TRAIN_CFG_TIMEOUT
    let s := s.elapseTo ((s.lane n).startAt + t * 10 * msCycles)
    let s := (s.laneReady n).fixedReady n
    if s.laneState n == lBLIND || s.laneState n == lTRAIN then
      let s := ((s.rxOff n).setLaneState n lFAIL).flag .LANE_EVENT n fLANE_EVENT_TRAIN_FAIL
      s.modLane n (fun l => { l with failAt := s.now })
    else s
  else s

/-- R115: no partner countdown within 64 frame times. -/
def State.countdownTimeout (s : State) (n : Nat) : State :=
  let l := s.lane n
  if s.laneState n == lENDING && l.sentOne && !l.rcvdOne then
    ((s.elapseTo (l.oneAt + symCycles (s.laneRate n) (64 * 4096))).enterBlind n).flag .LANE_EVENT n
      fLANE_EVENT_FRAME_LOSS
  else s

/-- R94: a retry from FAIL. -/
def State.failRetry (s : State) (n : Nat) : State :=
  if s.laneState n == lFAIL && s.fbit .LANE_TRAIN_CFG n fLANE_TRAIN_CFG_AUTO_RETRY then
    (s.elapseTo ((s.lane n).failAt + 10 * msCycles)).enterBlind n
  else s

/-- R84, R128: signal or CDR lock has been lost for 1 µs in DATA. In near-end parallel loopback the receiver's input is
ignored. -/
def State.signalLoss (s : State) (n : Nat) : State :=
  if s.laneState n == lDATA && s.loopMode n != 2 then (s.enterBlind n).flag .LANE_EVENT n fLANE_EVENT_SIG_LOSS else s

-- Writes

/-- GEN_ACC_ERR.RSVD_ENC sets (R17). -/
def State.rsvdEnc (s : State) : State := s.flag .GEN_ACC_ERR 0 fGEN_ACC_ERR_RSVD_ENC

/-- R119, R120: a write of LANE_TX_FIXED. -/
def State.txFixedWrite (s : State) (n : Nat) (v : Word) : State :=
  let t := tapsOf v
  if t.ok then
    let s := s.rset .LANE_TX_FIXED n t.word
    if s.fixedMode n && s.laneState n == lBLIND then s.setTaps n t
    else if s.fixedMode n && s.laneState n == lDATA then
      (s.modLane n (fun l => { l with txDriver := some t })).flag .LANE_CAL_STAT n fLANE_CAL_STAT_TX_PEND
    else s
  else s.rsvdEnc

/-- R128, R130, R132: a write of LANE_LOOP. DESIGN CHOICE (log 76): a change to 0b00 leaves a lane in OFF or PLL_WAIT
where it is; it enters BLIND from PLL_WAIT under R84. -/
def State.loopWrite (s : State) (n : Nat) (v : Word) : State :=
  let mode := fLANE_LOOP_MODE.get v
  let old := s.loopMode n
  let st := s.laneState n
  let past := st != lOFF && st != lPLL
  if mode == old then s
  else if mode == 3 && st != lDATA then s.flag .LANE_EVENT n fLANE_EVENT_CFG_REFUSED
  else
    let s := s.fset .LANE_LOOP n fLANE_LOOP_MODE mode
    if !past || mode == 3 then s
    else if mode == 2 then (if st == lDATA then s else s.enterData n)
    else s.enterBlind n

/-- The mode of a lane's port is TEST. -/
def State.laneTest (s : State) (n : Nat) : Bool :=
  match s.laneOwner n with
  | some p => s.fget .PORT_MODE p fPORT_MODE_MODE == 2
  | none => false

/-- R137: a write of LANE_PATTERN. -/
def State.patternWrite (s : State) (n : Nat) (v : Word) : State :=
  if (fLANE_PATTERN_GEN.get v != 0 || fLANE_PATTERN_CHK.get v != 0) && !s.laneTest n then
    s.flag .LANE_EVENT n fLANE_EVENT_CFG_REFUSED
  else s.rset .LANE_PATTERN n (v &&& 0xF)

/-- R78, R84 to R86, R88: a write of LANE_CTRL. `v`: the value, its reserved encodings set aside. DESIGN CHOICE
(log 76): the check of EN under R88 uses the RATE of the same write, and a refused EN leaves the other fields
written. -/
def State.laneCtrlWrite (s : State) (n : Nat) (v : Word) : State :=
  let mask : Word := 0x7E
  let old := s.rget .LANE_CTRL n
  let s := if v &&& mask == old &&& mask then s
    else if s.laneEn n then s.flag .LANE_EVENT n fLANE_EVENT_CFG_REFUSED
    else s.rset .LANE_CTRL n ((old &&& ~~~ mask) ||| (v &&& mask))
  let s := if fLANE_CTRL_EN.get v == 1 then s.laneEnable n else s.laneDisable n
  if fLANE_CTRL_RESTART.get v == 1 && fLANE_CTRL_EN.get v == 1 then s.laneRestart n else s

/-- R82: a write of LANE_QUAD_CFG. -/
def State.quadCfgWrite (s : State) (q : Nat) (v : Word) : State :=
  let r := fLANE_QUAD_CFG_REF_SEL.get v
  if (List.range 4).any (fun i => s.laneEn (4 * q + i)) then s.flag .LANE_QUAD_STAT q fLANE_QUAD_STAT_SEL_REFUSED
  else s.fset .LANE_QUAD_CFG q fLANE_QUAD_CFG_REF_SEL r

end Sys2Proof.Machine
end

