-- ==== Sys2Proof/Machine/Cal.lean ====
section
/-! DEFINITION. Live calibration: the pitch figure (R140 to R143), receive and transmit steps with their reports to the
time unit (R144 to R157), live pitch messages (R158 to R172), the live search (R173 to R175), quieting and override (R176
to R181), and the delay that corrects a timestamp (R154). -/

namespace Sys2Proof.Machine

/-- R141: the pitch figure of P_sig / P_err, given as two numbers in that ratio. With both zero it is not defined; the
model then takes an open value. -/
def pitchFigure (sig err : Nat) : Nat :=
  if err = 0 then (if sig = 0 then Config.freeValue 4 0 % 256 else 255)
  else (((List.range 256).filter (fun k => decide (10 ^ k * err ^ 40 ≤ sig ^ 40))).length - 1)

/-- R142: the mean of the last 256 block values. -/
def pfMean (l : List (Nat × Bool)) : Nat :=
  let k := l.take 256
  if k.isEmpty then 0 else (k.map (·.1)).sum / k.length

/-- The settings in force of a lane's receiver. -/
def State.rxSet (s : State) (n : Nat) : RxSet :=
  let rc := (s.rget .LANE_RX_RC n).toNat
  { ctle := s.fget .LANE_RX_EQ n fLANE_RX_EQ_CTLE
    dfe := toSigned 8 (s.fget .LANE_RX_EQ n fLANE_RX_EQ_DFE)
    rc := (List.range 4).map (fun i => (rc / 2 ^ (16 * i) % 512, toSigned 7 (rc / 2 ^ (16 * i + 9) % 128)))
    ffe := s.ffe n }

/-- The words of a list of settings. -/
def rcWord (l : List (Nat × Int)) : Word :=
  BitVec.ofNat 64 ((l.take 4).zipIdx.map (fun x => (x.1.1 % 512 + ofSigned 7 x.1.2 * 512) * 2 ^ (16 * x.2))).sum
def ffeWord (l : List Int) (m : Nat) : Word :=
  BitVec.ofNat 64 (((l.drop (8 * m)).take 8).zipIdx.map (fun x => ofSigned 8 x.1 * 256 ^ x.2)).sum

/-- Sets the receiver's settings; D_rx follows. -/
def State.setRx (s : State) (n : Nat) (x : RxStep) : State :=
  let s := (s.fset .LANE_RX_EQ n fLANE_RX_EQ_CTLE x.ctle).fset .LANE_RX_EQ n fLANE_RX_EQ_DFE x.dfe
  let s := (s.rset .LANE_RX_RC n x.rc).rset .LANE_RX_FFE0 n (x.ffe.getD 0 0)
  let s := (s.rset .LANE_RX_FFE1 n (x.ffe.getD 1 0)).rset .LANE_RX_FFE2 n (x.ffe.getD 2 0)
  (s.rset .LANE_RX_FFE3 n (x.ffe.getD 3 0)).showRx n

/-- Settings as the words of a step. -/
def stepOf (x : RxSet) (apply : Nat) (acked : Bool) : RxStep :=
  { ctle := x.ctle, dfe := ofSigned 8 x.dfe, rc := rcWord x.rc, ffe := (List.range 4).map (ffeWord x.ffe), apply := apply,
    acked := acked }

/-- A value within a range. -/
def clampTo (lo hi v : Int) : Int := max lo (min hi v)

/-- R145: a setting moves by at most one unit towards its estimate, within its range. -/
def stepTo (lo hi old est : Int) : Int := clampTo lo hi (old + clampTo (-1) 1 (est - old))

/-- R145: the settings of a step towards the estimates; `ctle`: the CTLE code it takes. -/
def towards (old est : RxSet) (ctle : Nat) : RxSet :=
  { ctle := ctle
    dfe := stepTo (-128) 127 old.dfe est.dfe
    rc := old.rc.zipIdx.map (fun x =>
      let e := est.rc.getD x.2 x.1
      ((stepTo 32 511 x.1.1 e.1).toNat, stepTo (-64) 63 x.1.2 e.2))
    ffe := old.ffe.zipIdx.map (fun x => stepTo (-128) 127 x.1 (est.ffe.getD x.2 x.1)) }

/-- R144, R181: outside DATA the receiver's adaptation sets what it finds, but for a CTLE that is held. -/
def State.adapt (s : State) (n : Nat) (x : Option RxSet) : State :=
  match x with
  | some x =>
    if s.laneState n == lDATA then s
    else if s.fbit .LANE_RX_EQ n fLANE_RX_EQ_CTLE_HOLD then
      s.setRx n (stepOf { x with ctle := s.fget .LANE_RX_EQ n fLANE_RX_EQ_CTLE } 0 true)
    else s.setRx n (stepOf x 0 true)
  | none => s

/-- A live measurement takes in a block (R173). -/
def Lane.measure (l : Lane) (v : Nat) : Lane :=
  if l.trial = 2 then
    let (b, sum, k) := l.meas
    if 1024 ≤ b then l
    else { l with meas := (b + 1, if l.stepped then sum else sum + v, if l.stepped then k else k + 1) }
  else l

/-- The training search takes in a block. -/
def Search.block (x : Search) (v : Nat) : Search :=
  if x.count < 256 then { x with count := x.count + 1, sum := if 128 ≤ x.count then x.sum + v else x.sum } else x

/-- R140 to R143: a block is complete. `errs`: symbols in error that a pattern checker saw in it (R137). -/
def State.pfBlock (s : State) (n sig err : Nat) (x : Option RxSet) (errs : Nat) : State :=
  if s.cdrLock n then
    let v := pitchFigure sig err
    let l := s.lane n
    let ready := decide (s.fget .LANE_TRAIN_CFG n fLANE_TRAIN_CFG_READY_PF ≤ v)
    let alarm := s.fget .LANE_CAL_CFG n fLANE_CAL_CFG_ALARM_PF
    let pf := ((v, l.stepped) :: l.pf).take 1024
    let was := match l.pf with | (p, _) :: _ => decide (p < alarm) | [] => false
    let l := { l.measure v with pf := pf, stepped := false, readyRun := if ready then min 1024 (l.readyRun + 1) else 0,
                                search := l.search.block v }
    let s := ((s.setLane n l).fset .LANE_STAT n fLANE_STAT_PITCH_FIGURE v).fset .LANE_PF n fLANE_PF_AVG (pfMean pf)
    let s := if s.fixedMode n then s.fsetB .LANE_STAT n fLANE_STAT_LOCAL_READY (decide (1024 ≤ l.readyRun)) else s
    let s := if s.laneState n == lDATA && decide (v < alarm) then
        let s := s.count .LANE_PF n fLANE_PF_LOW_CNT
        if was then s else s.flag .LANE_CAL_EVENT n fLANE_CAL_EVENT_PF_LOW
      else s
    let s := if s.laneState n == lDATA && s.fget .LANE_PATTERN n fLANE_PATTERN_CHK != 0 then
        s.satAdd .LANE_PATTERN_ERR n fLANE_PATTERN_ERR_SYMBOLS errs
      else s
    s.adapt n x
  else s

-- Steps

/-- R276: whether a symbol index lies at or after another, modulo 2^32. -/
def symReached (sym apply : Nat) : Bool := decide ((sym + 2 ^ 32 - apply % 2 ^ 32) % 2 ^ 32 < 2 ^ 31)

/-- R144, R152: the symbols that have passed on lane n since its entry into DATA. -/
def State.symbolsNow (s : State) (n : Nat) : Nat :=
  (s.now - (s.lane n).dataAt) * rateKbd (s.laneRate n) / 5000000

/-- R144, R152: the update interval in progress, at least number `k`. -/
def State.intervalNow (s : State) (n k : Nat) : Nat := max k (s.symbolsNow n / 65536)

/-- Time passes up to symbol `k` of lane n's stay in DATA. -/
def State.elapseSym (s : State) (n k : Nat) : State := s.elapseTo ((s.lane n).dataAt + symCycles (s.laneRate n) k)

/-- R153: the time unit acknowledges a report made now within 8 cycles while TIME is in RUN, which is in time where it
comes at least 256 symbols before the apply symbol. The exact cycle is an open value. -/
def State.timeAcks (s : State) (n apply : Nat) : Bool :=
  s.dom dTIME == 0 &&
    decide (s.now + Config.freeValue 10 s.now % 9 ≤ (s.lane n).dataAt + symCycles (s.laneRate n) (apply - 256))

/-- R276: how far back apply symbols are kept: 2^31 symbols. -/
def keepOld : Nat := 32768

/-- R144, R153, R154: the receive step that is reported applies, or is deferred. -/
def State.rxApply (s : State) (n : Nat) : State :=
  let l := s.lane n
  match l.rxStep with
  | none => s
  | some x =>
    let s := s.elapseSym n x.apply
    let s := (s.modLane n (fun l => { l with rxStep := none })).fset .LANE_CAL_STAT n fLANE_CAL_STAT_RX_PEND 0
    if x.acked then
      let moved := x.ctle != s.fget .LANE_RX_EQ n fLANE_RX_EQ_CTLE
      let old := toSigned 32 (s.fget .LANE_GD n fLANE_GD_RX_GD)
      let s := s.modLane n (fun l =>
        { l with stepped := true, ctleIv := if moved then some l.rxIv else l.ctleIv,
                 rxOld := ((x.apply, old) :: l.rxOld).take keepOld })
      (s.setRx n x).count .LANE_CAL_CNT n fLANE_CAL_CNT_RX_STEPS
    else
      (s.modLane n (fun l => { l with ctleDue := l.ctleDue || x.hold })).count .LANE_CAL_CNT n
        fLANE_CAL_CNT_DEFERRED

/-- R145, R181: the CTLE code that the next step takes. -/
def State.nextCtle (s : State) (n est : Nat) : Nat :=
  let cur := s.fget .LANE_RX_EQ n fLANE_RX_EQ_CTLE
  let l := s.lane n
  if s.fbit .LANE_RX_EQ n fLANE_RX_EQ_CTLE_HOLD then
    (if l.ctleDue then s.fget .LANE_RX_EQ n fLANE_RX_EQ_CTLE_SET else cur)
  else
    let free := match l.ctleIv with
      | some k => decide (k + 256 ≤ l.rxIv + 1)
      | none => true
    if free then (stepTo 0 31 cur est).toNat else cur

/-- R144, R152, R177, R181: a receive update interval: the engine reports the step of the next one. DESIGN CHOICE
(log 87): a CTLE step that falls due while RX_QUIET is in force stays due until the quiet ends. -/
def State.rxInterval (s : State) (n : Nat) (est : RxSet) : State :=
  if s.laneState n == lDATA then
    let s := s.rxApply n
    let k := s.intervalNow n (s.lane n).rxIv
    let s := s.elapseSym n (k * 65536)
    let quiet := s.fbit .LANE_CAL_CTRL n fLANE_CAL_CTRL_RX_QUIET
    let s := if quiet == (s.lane n).quietRx then s else s.lpmTouch n
    let apply := (k + 1) * 65536
    let hold := s.fbit .LANE_RX_EQ n fLANE_RX_EQ_CTLE_HOLD && (s.lane n).ctleDue
    let old := s.rxSet n
    let new := towards old est (s.nextCtle n est.ctle)
    let s := s.modLane n (fun l => { l with rxIv := k + 1, quietRx := quiet })
    if quiet then s
    else
      let s := s.modLane n (fun l => { l with ctleDue := false })
      if new = old then s
      else
        let x := { stepOf new apply (s.timeAcks n apply) with hold := hold }
        (s.modLane n (fun l => { l with rxStep := some x })).flag .LANE_CAL_STAT n fLANE_CAL_STAT_RX_PEND
  else s

/-- TX_PEND: a transmit step is taken and not yet applied. DESIGN CHOICE (log 87): a driver's write is such a step from the
write on; a request that a live pitch message brings is one from the interval that reports its step. -/
def State.showTxPend (s : State) (n : Nat) : State :=
  let l := s.lane n
  s.fsetB .LANE_CAL_STAT n fLANE_CAL_STAT_TX_PEND
    (l.txDriver.isSome || l.txRetry.isSome || (match l.txStep with | some x => x.change | none => false))

/-- R152 to R154, R169, R170, R285: the transmit step that is reported applies, or is deferred. -/
def State.txApply (s : State) (n : Nat) : State :=
  let l := s.lane n
  match l.txStep with
  | none => s
  | some x =>
    let s := s.elapseSym n x.apply
    let s := s.modLane n (fun l => { l with txStep := none })
    if x.change && !x.acked then
      let s := s.modLane n (fun l =>
        { l with txDriver := if x.drv && l.txDriver.isNone then some x.taps else l.txDriver, txRetry := x.req })
      (s.count .LANE_CAL_CNT n fLANE_CAL_CNT_DEFERRED).showTxPend n
    else
      let s := if x.change then
          let old := toSigned 32 (s.fget .LANE_GD n fLANE_GD_TX_GD)
          let s := s.modLane n (fun l => { l with txOld := ((x.apply, old) :: l.txOld).take keepOld })
          (s.setTaps n x.taps).count .LANE_CAL_CNT n fLANE_CAL_CNT_TX_STEPS
        else s
      let s := match x.ack with
        | some (seq, sel, st) =>
          (s.modLane n (fun l => { l with liveAck := seq, liveTapAck := sel, liveStat := st })).lpmTouch n
        | none => s
      s.showTxPend n

/-- R285: no one-step frame predicted on the lane lies at or after the apply symbol. -/
def Lane.oneStepClear (l : Lane) (apply : Nat) : Bool := l.oneStep.all (fun sym => !symReached sym apply)

/-- R169, R170: the partner's request that the next transmit update interval acts on: a deferred one first, then the
latest taken, once the acknowledgement before it has been sent. DEDUCED (log 77): a record that repeats the request so
acknowledged is not new. -/
def Lane.nextReq (l : Lane) : Option Nat :=
  match l.txRetry with
  | some r => some r
  | none =>
    if l.liveAck != l.ackSent then none
    else l.txReq.bind (fun r => if r / 2 ^ 28 % 16 == l.ackSent then none else some r)

/-- Fields of a lane record's request (R160): REQ_SEQ, TAP_SEL, TAP_REQ. -/
def reqSeq (r : Nat) : Nat := r / 2 ^ 28 % 16
def reqSel (r : Nat) : Nat := r / 2 ^ 25 % 8
def reqTap (r : Nat) : Nat := r / 2 ^ 23 % 4

/-- R152, R169 to R171, R177, R180, R285: a transmit update interval: the change that waits is reported for the next
one. DESIGN CHOICE (log 77): a driver or fixed-mode write taken while transmit changes are quieted waits until the quiet
ends. -/
def State.txInterval (s : State) (n : Nat) : State :=
  if s.laneState n == lDATA then
    let s := s.txApply n
    let k := s.intervalNow n (s.lane n).txIv
    let s := s.elapseSym n (k * 65536)
    let quiet := s.fbit .LANE_CAL_CTRL n fLANE_CAL_CTRL_TX_QUIET
    let s := if quiet == (s.lane n).quietTx then s else s.lpmTouch n
    let l := s.lane n
    let apply := (k + 1) * 65536
    let cur := s.txTaps n
    let drv := if quiet then none else l.txDriver
    let held := quiet || s.fixedMode n || drv.isSome
    let req := l.nextReq
    let answer := req.map (fun r => if held then (7, cur) else cur.request (reqSel r) (reqTap r))
    let ack := match req, answer with
      | some r, some (st, _) => some (reqSeq r, ackOf (reqSel r) (reqTap r), st)
      | _, _ => none
    let taps := match drv, answer with
      | some t, _ => t
      | none, some (_, t) => t
      | none, none => cur
    let taken := l.txRetry.isNone && l.liveAck == l.ackSent
    let s := s.modLane n (fun l =>
      { l with txIv := k + 1, quietTx := quiet, txRetry := none, txReq := if taken then none else l.txReq,
               txDriver := if drv.isSome then none else l.txDriver,
               oneStep := l.oneStep.filter (fun sym => symReached sym (k * 65536)) })
    let s := if taps != cur || ack.isSome then
        let x : TxStep :=
          { taps := taps, change := taps != cur, apply := apply, acked := s.timeAcks n apply && l.oneStepClear apply,
            ack := ack,
            req := req, drv := drv.isSome }
        s.modLane n (fun l => { l with txStep := some x })
      else s
    s.showTxPend n
  else s

/-- R152: the apply symbol of a direction. -/
def State.stepApply (s : State) (n : Nat) (rx : Bool) : State := if rx then s.rxApply n else s.txApply n

/-- R154: the total in force at a symbol: that before the earliest apply symbol after it, or the present one. -/
def totalAt (sym : Nat) (cur : Int) : List (Nat × Int) → Int
  | [] => cur
  | (apply, old) :: t => if symReached sym apply then cur else totalAt sym old t

/-- R154, R155: the receive delay of a timestamp point at a symbol of lane n's stay `life` in DATA, in units of 2^-16 ns. -/
def State.dRxAt (s : State) (n life sym : Nat) : Int :=
  let h := ((s.lane n).rxPast.find? life).getD (s.rxHistory n)
  totalAt sym h.1 h.2

/-- R154: the transmit delay of a timestamp point at a symbol. -/
def State.dTxAt (s : State) (n sym : Nat) : Int :=
  let cur := totalAt sym (toSigned 32 (s.fget .LANE_GD n fLANE_GD_TX_GD)) (s.lane n).txOld
  match (s.lane n).txStep with
  | some x => if x.change && x.acked && symReached sym x.apply then dTxOf (s.laneRate n) x.taps else cur
  | none => cur

-- Live pitch messages

def State.lpmEn (s : State) (p : Nat) : Bool := s.fbit .PORT_LPM_CFG p fPORT_LPM_CFG_EN

/-- R159: the lanes of port p in the order of its records. -/
def State.lpmLanes (s : State) (p : Nat) : List Nat :=
  if s.fbit .PORT_LPM_CFG p fPORT_LPM_CFG_REVERSE then (s.portLanes p).reverse else s.portLanes p

/-- R160: the record of a lane. -/
def State.lpmRecord (s : State) (n : Nat) : Nat :=
  let l := s.lane n
  l.liveSeq * 2 ^ 28 + l.liveSel * 2 ^ 25 + l.liveReq * 2 ^ 23 + l.liveAck * 2 ^ 19 + l.liveTapAck * 2 ^ 16 +
    l.liveStat * 2 ^ 13 + (l.quietTx || s.fixedMode n).toNat * 2 ^ 12 + l.quietRx.toNat * 2 ^ 11 +
    s.fget .LANE_STAT n fLANE_STAT_PITCH_FIGURE

/-- R158: the bytes of a message before its FCS. -/
def State.lpmBytes (s : State) (p : Nat) : List Byte :=
  let lanes := s.lpmLanes p
  let recs := lanes.flatMap (fun n => beBytes 4 (s.lpmRecord n))
  leBytes 6 (s.fget .PORT_LPM_DA p fPORT_LPM_DA_DA) ++ leBytes 6 (s.fget .PORT_LPM_SA p fPORT_LPM_SA_SA) ++
    [0x88, 0xB5, 0xF1, 0x01] ++ leBytes 1 lanes.length ++ leBytes 1 (s.mac p).lpmSeq ++ recs ++
    List.replicate (42 - recs.length) 0

/-- R162, R204: messages may be sent. -/
def State.lpmMay (s : State) (p : Nat) : Bool :=
  s.lpmEn p && s.portUp p && !s.failed && !s.fbit .PORT_MAC_STAT p fPORT_MAC_STAT_RX_LF &&
    !s.fbit .PORT_MAC_STAT p fPORT_MAC_STAT_RX_RF

/-- The earlier of two deadlines. -/
def minOpt : Option Nat → Option Nat → Option Nat
  | some a, some b => some (min a b)
  | some a, none => some a
  | none, b => b

/-- R162: when the next message falls due by time. -/
def State.lpmDeadline (s : State) (p : Nat) : Option Nat :=
  let last := (s.mac p).lpmLast.getD s.now
  let keep := s.fget .PORT_LPM_CFG p fPORT_LPM_CFG_KEEPALIVE
  let rep := (s.portLanes p).any (fun n => (s.lane n).liveOut)
  minOpt (if keep == 0 then none else some (last + keep * 10 * msCycles)) (if rep then some (last + 10 * msCycles) else none)

/-- R162: a keepalive or repeat period expires. -/
def State.lpmTimer (s : State) (p : Nat) : State :=
  if s.lpmEn p && s.portUp p && !s.failed then
    match s.lpmDeadline p with
    | some d => (s.elapseTo d).modMac p (fun m => { m with lpmDue := true })
    | none => s
  else s

/-- Every lane of port p is in a near-end loopback, so that the port receives what it sends (R128). -/
def State.portLooped (s : State) (p : Nat) : Bool :=
  s.portLanes p != [] && (s.portLanes p).all (fun n => s.loopMode n == 1 || s.loopMode n == 2)

/-- Some lane of port p is in a near-end loopback, so that what comes from outside does not reach it whole (R128). -/
def State.portNear (s : State) (p : Nat) : Bool := (s.portLanes p).any (fun n => s.loopMode n == 1 || s.loopMode n == 2)

/-- R128: what port p has sent comes back in a near-end loopback. -/
def State.loopItem (s : State) (p : Nat) (x : RxFrame ⊕ Fragment) : State :=
  if s.portLooped p then s.modMac p (fun m => { m with loopQ := m.loopQ ++ [x] }) else s

/-- R211, R769: a frame of the MAC's own is sent: the frame with its FCS. -/
def State.ctlSent (s : State) (p : Nat) (b : List Byte) : State :=
  let f := b ++ fcsOf b
  let s := (s.modMac p (fun m => { m with lastCtl := f })).onLine p (preamble 0xD5 ++ f) false
  (s.loopItem p (.inl { bytes := f })).statTx p f f.length

/-- R163: a due message may be sent now: 1 ms has passed since the last. -/
def State.lpmReady (s : State) (p : Nat) : Bool :=
  s.lpmMay p && (s.mac p).lpmDue &&
    (match (s.mac p).lpmLast with | some d => decide (d + msCycles ≤ s.now) | none => true)

/-- R163, R164, R187: a due message is sent at a frame boundary, at least 1 ms after the last. A request counts as sent with
the first message that carries it. -/
def State.lpmSend (s : State) (p : Nat) : State :=
  if s.lpmMay p && (s.mac p).lpmDue && (s.mac p).cur.isNone then
    let s := match (s.mac p).lpmLast with
      | some d => s.elapseTo (d + msCycles)
      | none => s
    let b := s.lpmBytes p
    let s := s.modMac p (fun m => { m with lpmDue := false, lpmLast := some s.now, lpmSeq := (m.lpmSeq + 1) % 256 })
    let s := s.forEach (s.portLanes p) fun s n =>
      let l := s.lane n
      let new := l.liveOut && l.liveFirst.isNone
      let s := if new then s.count .LANE_CAL_CNT n fLANE_CAL_CNT_REQ_SENT else s
      s.setLane n { l with ackSent := l.liveAck, liveFirst := if new then some s.now else l.liveFirst }
    ((s.ctlSent p b).stat p 46 1).count .PORT_LPM_CNT p fPORT_LPM_CNT_SENT
  else s

/-- R174: TAP_SEL and TAP_REQ of the live search's candidates. -/
def liveCand (i : Nat) : Nat × Nat := [(2, 1), (2, 2), (3, 1), (3, 2), (1, 1), (1, 2), (0, 1), (0, 2)].getD i (2, 1)

/-- R105, R175: a live request of the block. -/
def State.liveAsk (s : State) (n sel req trial : Nat) : State :=
  let s := s.modLane n (fun l =>
    { l with liveSeq := (l.partnerLiveAck + 1) % 16, liveSel := sel, liveReq := req, liveOut := true, liveFirst := none,
             trial := trial })
  (s.flag .LANE_CAL_STAT n fLANE_CAL_STAT_REQ_OUT).lpmTouch n

/-- R173, R174: the block's live request is acknowledged. -/
def State.liveAcked (s : State) (n status : Nat) : State :=
  let s := s.fset .LANE_CAL_STAT n fLANE_CAL_STAT_REQ_OUT 0
  s.modLane n (fun l =>
    { l with liveOut := false, meas := (0, 0, 0),
             trial := if l.trial = 1 && status = 1 then 2 else 0 })

/-- R169, R170, R172: one lane record is acted on. -/
def State.lpmLane (s : State) (n r : Nat) : State :=
  let quiet := bitOf r 12 != s.fbit .LANE_CAL_STAT n fLANE_CAL_STAT_PARTNER_TX_QUIET ||
    bitOf r 11 != s.fbit .LANE_CAL_STAT n fLANE_CAL_STAT_PARTNER_RX_QUIET
  let s := (s.fsetB .LANE_CAL_STAT n fLANE_CAL_STAT_PARTNER_TX_QUIET (bitOf r 12)).fsetB .LANE_CAL_STAT n
    fLANE_CAL_STAT_PARTNER_RX_QUIET (bitOf r 11)
  let s := s.fset .LANE_CAL_STAT n fLANE_CAL_STAT_PARTNER_PF (r % 256)
  let s := if quiet then s.flag .LANE_CAL_EVENT n fLANE_CAL_EVENT_PARTNER_QUIET else s
  let ack := r / 2 ^ 19 % 16
  let s := s.modLane n (fun l =>
    { l with partnerLiveAck := ack, txReq := if reqSeq r == l.ackSent then l.txReq else some r })
  let l := s.lane n
  if l.liveOut && ack == l.liveSeq then s.liveAcked n (r / 2 ^ 13 % 8) else s

/-- R168: a consumed message that is not bad: acted on or ignored. -/
def State.lpmAct (s : State) (p : Nat) (b : List Byte) : State :=
  let lanes := s.lpmLanes p
  if byteAt b 15 == 1 && byteAt b 16 == lanes.length && s.lpmEn p then
    let s := s.forEach lanes.zipIdx (fun s x => s.lpmLane x.1 (beNat (slice b (18 + 4 * x.2) (22 + 4 * x.2))))
    s.count .PORT_LPM_CNT p fPORT_LPM_CNT_ACTED
  else s.count .PORT_LPM_CNT p fPORT_LPM_CNT_IGNORED

-- The live search

/-- R173: sum and number of the last 1,024 blocks in which no receive step applied. -/
def Lane.baseline (l : Lane) : Nat × Nat :=
  let k := (l.pf.take 1024).filter (fun x => !x.2)
  ((k.map (·.1)).sum, k.length)

/-- R173, R174: a trial begins. -/
def State.liveTrial (s : State) (n : Nat) : State :=
  let l := s.lane n
  if s.laneState n == lDATA && s.fbit .LANE_CAL_CTRL n fLANE_CAL_CTRL_LIVE_SEARCH_EN &&
      !l.quietRx && !s.fixedMode n && l.trial == 0 && !l.liveOut then
    let s := s.elapseTo (l.trialAt + s.fget .LANE_CAL_CFG n fLANE_CAL_CFG_LIVE_PERIOD * 1000 * msCycles)
    let c := liveCand l.cand
    let s := s.modLane n (fun l => { l with trialAt := s.now, base := l.baseline, cand := (l.cand + 1) % 8 })
    s.liveAsk n c.1 c.2 1
  else s

/-- R173: a trial's measurement ends: the change is kept, or its opposite is requested. DESIGN CHOICE (log 87): a trial that
RX_QUIET overtakes ends with its change kept, and one that a clearing of LIVE_SEARCH_EN overtakes goes on to its end. -/
def State.liveMeasure (s : State) (n : Nat) : State :=
  let l := s.lane n
  if s.laneState n == lDATA && l.trial == 2 && decide (1024 ≤ l.meas.1) then
    let keep := decide (l.base.1 * l.meas.2.2 + l.meas.2.2 * l.base.2 ≤ l.meas.2.1 * l.base.2)
    if keep || l.quietRx then s.modLane n (fun l => { l with trial := 0 })
    else s.liveAsk n l.liveSel (3 - l.liveReq) 3
  else s

/-- R175: a live request has been unacknowledged for 100 ms. -/
def State.liveTimeout (s : State) (n : Nat) : State :=
  let l := s.lane n
  match l.liveFirst with
  | some d =>
    if l.liveOut then (s.elapseTo (d + 100 * msCycles)).flag .LANE_CAL_EVENT n fLANE_CAL_EVENT_REQ_TIMEOUT else s
  | none => s

-- Writes

/-- R176, R178, R179: a write of LANE_CAL_TX_SET. -/
def State.calTxWrite (s : State) (n : Nat) (v : Word) : State :=
  let t := tapsOf v
  if t.ok then
    let s := s.rset .LANE_CAL_TX_SET n t.word
    if !s.fixedMode n && s.laneState n == lDATA && !(s.lane n).quietTx then
      (s.modLane n (fun l => { l with txDriver := some t })).flag .LANE_CAL_STAT n fLANE_CAL_STAT_TX_PEND
    else s.flag .LANE_CAL_EVENT n fLANE_CAL_EVENT_OVR_REFUSED
  else s.rsvdEnc

/-- R181: a write of LANE_RX_EQ. -/
def State.ctleWrite (s : State) (n : Nat) (v : Word) : State :=
  let hold := fLANE_RX_EQ_CTLE_HOLD.get v
  let set := fLANE_RX_EQ_CTLE_SET.get v
  let s := (s.fset .LANE_RX_EQ n fLANE_RX_EQ_CTLE_HOLD hold).fset .LANE_RX_EQ n fLANE_RX_EQ_CTLE_SET set
  s.modLane n (fun l => { l with ctleDue := hold == 1 })

end Sys2Proof.Machine
end

