-- ==== Sys2Proof/Machine/Course.lean ====
section
/-! DEFINITION. A course: its ingress FIFO (R43), the parser's passes (R66, R357 to R365), the reorder stage (R335 to
R341), the decision of a frame's fate (R65, R226, R318, R366), admission and queue joins (R422, R818), mirror copies
(R367) and recirculation (R394 to R398). -/

namespace Sys2Proof.Machine

-- Timestamps (R279, R280)

/-- The time of `k` sixty-fourths of a unit interval of a rate, in units of 2^-48 ns. -/
def phaseTime (rate k : Nat) : Nat := (k * 1000000 * 2 ^ 48 + 32 * rateKbd rate) / (64 * rateKbd rate)

/-- The time of `k` ridge clock cycles at 0.2 ns, in units of 2^-48 ns. -/
def ridgeTime (k : Nat) : Nat := k * 2 ^ 48 / 5

/-- RX_FIX or TX_FIX of lane n at its rate: a characterised value the manual does not give, in units of 2^-16 ns. -/
def State.laneFix (s : State) (rx : Bool) (n : Nat) : Nat :=
  Config.freeValue (if rx then 5 else 6) (s.laneRate n * 16 + n) % 2 ^ 32

/-- R278: RX_ADJ and TX_ADJ in units of 2^-48 ns. -/
def State.rxAdj (s : State) (p : Nat) : Int := toSigned 16 (s.fget .TIME_PORT_ADJ p fTIME_PORT_ADJ_RX_ADJ) * 2 ^ 40
def State.txAdj (s : State) (p : Nat) : Int := toSigned 16 (s.fget .TIME_PORT_ADJ p fTIME_PORT_ADJ_TX_ADJ) * 2 ^ 40

/-- R125: the depth in symbols at which the deskew buffer holds lane n's symbols: the skew of the port's last lane over
lane n's, and a base depth. DEDUCED (log 78): the base depth is the 16 symbols of the example after R289. -/
def State.deskewOf (s : State) (n : Nat) : Nat :=
  let skew (i : Nat) : Nat := s.fget .LANE_SKEW i fLANE_SKEW_SKEW_SYM
  match s.laneOwner n with
  | some p => if (s.portLanes p).length < 2 then 16 else ((s.portLanes p).map skew).foldl max 0 - skew n + 16
  | none => 16

/-- R279, R277: the ingress timestamp of a frame whose first beat leaves the ingress FIFO now, in units of 2^-48 ns. The
count of ridge clock cycles runs from the deskew output of its first symbol, or first fragment. -/
def State.ingressTime (s : State) (f : Frame) : Int :=
  let x := f.path
  let n := x.lane.val
  let r := s.laneRate n
  (s.blockTime.total : Int) - ridgeTime (2 + x.cycles + (s.now - f.arrived)) - symTime r (x.symbols + f.deskew) -
    phaseTime r x.phase - (s.dRxAt n f.life x.sym + s.laneFix true n) * 2 ^ 32 - s.rxAdj f.port

/-- R280: the egress timestamp of a packet whose launch point is now, in units of 2^-48 ns: from the counter at its
strobe, by its residence in the transmit buffer, to the pins. -/
def State.egressTime (s : State) (p : Nat) (k : Pkt) (x : Path) : Int :=
  let n := x.lane.val
  let r := s.laneRate n
  (k.strobe : Int) - ridgeTime 2 + ridgeTime (s.now - k.strobeAt) + ridgeTime x.cycles + symTime r x.symbols +
    phaseTime r x.phase + (s.dTxAt n x.sym + s.laneFix false n) * 2 ^ 32 + s.txAdj p

/-- R290: a time in the completion format. -/
def stampOf (t : Int) : Nat := (BlockTime.ofTotal t).stamp

-- The ingress FIFO and the reorder stage

/-- L of R405 for a received frame. -/
def Frame.len (f : Frame) : Nat := f.bytes.length + f.fcs.length

/-- Bytes in a course's ingress FIFO. -/
def State.fifoBytes (s : State) (c : Nat) : Nat :=
  ((s.course c).fifo.map (fun i => match s.frame? i with | some f => f.len | none => 0)).sum

/-- The even course of port p's pair. -/
def pairCourse (p : Nat) : Nat := p / 8 * 2

/-- R338, R344: HOLD_CYC of the pair whose even course is `b` counts the CCLK cycles of a stall that have passed. -/
def State.holdCycles (s : State) (b : Nat) : State :=
  let held := [b, b + 1].filter (fun c => (s.course c).stalled.isSome)
  match held.map (fun c => (s.course c).stallAt) with
  | [] => s
  | t :: ts =>
    let t0 := ts.foldl min t
    let k := (s.now - t0) / s.power.cclk
    (s.forEach held (fun s c => s.setCourse c { s.course c with stallAt := t0 + k * s.power.cclk })).satAdd
      .COURSE_SPRAY_CNT b fCOURSE_SPRAY_CNT_HOLD_CYC k

/-- HOLDING of the pair whose even course is `b` (R338). -/
def State.showHolding (s : State) (b : Nat) : State :=
  s.fsetB .COURSE_SPRAY_STAT b fCOURSE_SPRAY_STAT_HOLDING
    ((s.course b).stalled.isSome || (s.course (b + 1)).stalled.isSome)

/-- R338: the pipeline of course c stalls with a frame that waits to enter the reorder stage. -/
def State.stall (s : State) (c fid : Nat) : State :=
  let b := c / 2 * 2
  let s := s.holdCycles b
  let other := s.course (if c = b then b + 1 else b)
  let since := if other.stalled.isSome then other.stallAt else s.now
  ((s.setCourse c { s.course c with stalled := some fid, stallAt := since }).showHolding b).flag .COURSE_PARSE_EVT c
    fCOURSE_PARSE_EVT_SPRAY_HOLD

/-- R336, R344: a frame with a sequence number enters the reorder stage. -/
def State.enterStage (s : State) (fid : Nat) (f : Frame) (n : Nat) : State :=
  let b := pairCourse f.port
  (s.setFrame fid { f with stage := .reorder }).fset .COURSE_SPRAY_STAT b fCOURSE_SPRAY_STAT_SPAN_MAX
    (max (s.fget .COURSE_SPRAY_STAT b fCOURSE_SPRAY_STAT_SPAN_MAX) (n - (s.mac f.port).oldest))

/-- R338: a sequence number that cannot enter the reorder stage yet. -/
def State.tooFar (s : State) (p n : Nat) : Bool := decide ((s.mac p).oldest + 1024 ≤ n)

/-- R338: the frames that wait at the reorder stage of a sprayed port enter it where they can, and their stalls end. -/
def State.unstall (s : State) (p : Nat) : State :=
  let b := pairCourse p
  let s := s.holdCycles b
  let s := s.forEach [b, b + 1] fun s c =>
    let x := s.course c
    let on (s : State) : State := s.setCourse c { x with stalled := none, stallAt := 0 }
    match x.stalled with
    | none => s
    | some i =>
      match s.frame? i with
      | none => on s
      | some f => if s.tooFar p (f.seq.getD 0) then s else (on s).enterStage i f (f.seq.getD 0)
  s.showHolding b

/-- Moves the oldest unreleased sequence number past the positions marked released. -/
def MacPort.skipMarks (m : MacPort) : Nat → MacPort
  | 0 => m
  | fuel + 1 =>
    if m.released.contains m.oldest then
      ({ m with oldest := m.oldest + 1, released := m.released.filter (· != m.oldest) }).skipMarks fuel
    else m

/-- R337: a position is marked released. -/
def State.markSeq (s : State) (p : Nat) (seq : Option Nat) : State :=
  match seq with
  | none => s
  | some n => (s.modMac p (fun m => ({ m with released := m.released ++ [n] }).skipMarks (m.released.length + 1))).unstall p

/-- R337: a dealt frame is discarded at its ingress FIFO. -/
def State.holeAt (s : State) (p : Nat) (seq : Option Nat) : State :=
  if seq.isSome then (s.count .COURSE_SPRAY_CNT (pairCourse p) fCOURSE_SPRAY_CNT_HOLES).markSeq p seq else s

/-- R335: deals a frame: its course and sequence number. -/
def State.deal (s : State) (p : Nat) : Nat × Option Nat × State :=
  if s.sprayed p then
    let n := (s.mac p).nextSeq
    (pairCourse p + n % 2, some n, s.modMac p (fun m => { m with nextSeq := n + 1 }))
  else (portCourse p, none, s)

/-- R43, R47, R404 to R406, R417, R425: a frame with its course and sequence number enters the ingress FIFO and the loft. -/
def State.enterFifo (s : State) (f : Frame) : State :=
  let c := f.course
  let k := cellsOf f.len
  if 65536 < s.fifoBytes c + f.len then (s.count .COURSE_RX_OVERRUN c fCOURSE_RX_OVERRUN_FRAMES).holeAt f.port f.seq
  else if !s.cellsFree k then
    ((s.count .LOFT_DROP 0 fLOFT_DROP_NO_CELL).flag .LOFT_EVT 0 fLOFT_EVT_NO_CELL).holeAt f.port f.seq
  else
    let x := s.course c
    let r := s.allocBanks x.lastBank k
    let s := r.2
    let id := s.nextId
    let beat := if f.same then ((x.fifo.getLast?.bind s.frame?).map (·.beat)).getD id else id
    let after (i : Nat) : Bool := match s.frame? i with | some g => g.beat == beat && decide (f.port < g.port) | none => false
    let f := { f with
      banks := r.1, layout := cellFill f.len, refs := [List.range k], transit := k, stage := .fifo, beat := beat }
    let s : State := { s with nextId := id + 1 }
    ((s.setFrame id f).setTransit (s.transit + k)).setCourse c
      { x with fifo := x.fifo.filter (fun i => !after i) ++ [id] ++ x.fifo.filter after,
               lastBank := r.1.getLast?.getD x.lastBank }

-- Actions (R359)

def actOp (a : Nat) : Nat := a % 16
def actTarget (a : Nat) : Nat := a / 2 ^ 4 % 2 ^ 18
def actMeter (a : Nat) : Option Nat := if a.testBit 22 then some (a / 2 ^ 23 % 2 ^ 18) else none
def actMirror (a : Nat) : Option Nat := if a.testBit 41 then some (a / 2 ^ 42 % 64) else none
def actPri (a : Nat) : Option Nat := if a.testBit 48 then some (a / 2 ^ 49 % 8) else none
def actTsOp (a : Nat) : Nat := a / 2 ^ 52 % 8
def actUdpFix (a : Nat) : Nat := a / 2 ^ 55 % 4

/-- R394: strip operands. -/
def stripLen (t : Nat) : Nat := t % 512
def stripMode (t : Nat) : Nat := t / 512 % 4

/-- R394: a frame's bytes after a strip. -/
def stripBytes (t : Nat) (b : List Byte) : List Byte :=
  let n := stripLen t
  match stripMode t with
  | 0 => b.drop n
  | 1 => b.take 12 ++ b.drop (12 + n)
  | 2 => b.take 12 ++ [0x08, 0x00] ++ b.drop (12 + n)
  | _ => b.take 12 ++ [0x86, 0xDD] ++ b.drop (12 + n)

/-- R395: a strip that leaves fewer than 14 B before the FCS. -/
def stripShort (t : Nat) (b : List Byte) : Bool :=
  decide (b.length + (if 2 ≤ stripMode t then 2 else 0) < 14 + stripLen t)

/-- R362: one hit of a pass. -/
structure Hit where
  slot : Nat
  table : Nat
  loc : Nat
  action : Nat
  deriving DecidableEq, Repr

/-- R357: the lookups of a pass, in slot order. -/
def State.hitsOf (s : State) (g : Nat) : List KeyReq → List Hit × State
  | [] => ([], s)
  | k :: t =>
    let r := s.lookup k.table g k.profile k.len k.key
    let rest := r.2.hitsOf g t
    match r.1 with
    | some l => ({ slot := k.slot, table := k.table, loc := l, action := (s.entry k.table l).action } :: rest.1, rest.2)
    | none => rest

/-- R358: the hit index. -/
def hitIndex : Option Hit → Nat
  | some h => h.loc % 2 ^ 19 + h.table * 2 ^ 19 + h.slot * 2 ^ 21 + 2 ^ 31
  | none => 2 ^ 30

/-- R360, R363, R395, R398: the disposition of an action on a pass: operation and slow-path reason. -/
def dispose (a pass : Nat) (b : List Byte) : Nat × Nat :=
  if actOp a = 0 then (0, rNO_MATCH)
  else if actOp a = 3 then
    (if 3 ≤ pass then (3, rRECIRC) else if stripShort (actTarget a) b then (3, rLENGTH) else (3, 0))
  else (actOp a, 0)

/-- R363: the actions of a pass, in slot order: of its hits, and the default action where no hit has an operation. -/
def passActs (hits : List Hit) (dflt : Nat) : List Nat :=
  hits.map (·.action) ++ (if hits.all (fun h => actOp h.action == 0) then [dflt] else [])

-- A pass of the parser

/-- R366 to R369, R469: the pass ends in the meter: the frame goes on to the reorder stage or to its decision. -/
def State.afterMeter (s : State) (fid : Nat) : State :=
  match s.frame? fid with
  | none => s
  | some f =>
    if f.res.drop then ((s.freeFrame fid).markSeq f.port f.seq)
    else if s.sprayed f.port then
      match f.seq with
      | some n =>
        if s.tooFar f.port n then (s.setFrame fid { f with stage := .window }).stall f.course fid else s.enterStage fid f n
      | none => s.setFrame fid { f with stage := .reorder }
    else
      let x := s.course f.course
      (s.setFrame fid { f with stage := .decide }).setCourse f.course { x with dec := x.dec ++ [fid] }

/-- R309 to R329, R357 to R365, R399, R751: parses, looks up and meters one pass of a frame. `e`: what the read of its meter
record finds (R768: structure 3). -/
def State.runPass (s : State) (fid : Nat) (e : Ecc) : State :=
  match s.frame? fid with
  | none => s
  | some f =>
    let c := f.course
    let pass := f.pass + 1
    let p := parse (s.parseCfg c) f.bytes f.trunc
    let pcp := p.w.tci.getD 0 / 8192
    let bad := p.l4bad && s.fbit .COURSE_PARSE_CFG c fCOURSE_PARSE_CFG_L4_BAD_SLOW
    let base : PassResult :=
      { parse := p.summary pass, pri := pcp, reason := p.reason, l4bad := bad, ptpOff := p.w.ptp, udpOff := p.w.udp,
        udpV6 := match p.w.inner with
          | some i => i.v6
          | none => match p.w.outer with | some o => o.v6 | none => false }
    let f := { f with pass := pass, res := base }
    if p.reason != 0 then (s.setFrame fid f).afterMeter fid
    else
      let r := s.hitsOf (f.gen.getD 0) (s.lookups c f.port pass f.bytes p)
      let s := r.2
      let prim := r.1.find? (fun h => actOp h.action != 0)
      let dflt := (s.rget .TABLE_DEFAULT f.port).toNat
      let act := match prim with | some h => h.action | none => dflt
      let acts := passActs r.1 dflt
      let d := dispose act pass f.bytes
      let res := { base with
        op := d.1, reason := d.2, target := actTarget act, strip := actTarget act, tsOp := actTsOp act,
        udpFix := actUdpFix act, mirror := acts.findSome? actMirror, pri := (acts.findSome? actPri).getD pcp,
        hit := hitIndex prim }
      match acts.findSome? actMeter with
      | none => (s.setFrame fid { f with res := res }).afterMeter fid
      | some m =>
        let s := s.eccCheck (eccOf e m) fGEN_INTEG_CORR_SCHED .schedEcc 3
        if s.failed then s
        else
          let x := s.meterPass m f.len f.colour (!f.metered) ((p.w.tci.getD 0).testBit 12)
          let s := x.2.2
          let on := (s.meter m).en
          let f := { f with res := { res with drop := x.2.1 }, colour := x.1, metered := f.metered || on }
          (s.setFrame fid f).afterMeter fid

/-- R279, R369: a first pass: its ingress timestamp and its generation. -/
def State.firstPass (s : State) (c fid : Nat) (f : Frame) (rest : List Nat) (m : Ecc) : State :=
  let t := s.ingressTime f
  let s := s.setCourse c { s.course c with fifo := rest }
  let s := s.count .COURSE_PARSE_CNT c fCOURSE_PARSE_CNT_FIRST
  (s.setFrame fid { f with tsRaw := t, ts := stampOf t, gen := some s.genCurrent }).runPass fid m

/-- R686: the domains that the next pass of a frame hands work to: TABLE for its lookups, and SCHED for its meter. -/
def State.passNeeds (s : State) (fid : Nat) : List Nat :=
  match s.frame? fid with
  | none => []
  | some f =>
    let pass := f.pass + 1
    let p := parse (s.parseCfg f.course) f.bytes f.trunc
    if p.reason != 0 then []
    else
      let hits := (s.hitsOf (f.gen.getD s.genCurrent) (s.lookups f.course f.port pass f.bytes p)).1
      let acts := passActs hits (s.rget .TABLE_DEFAULT f.port).toNat
      dTABLE :: (if (acts.findSome? actMeter).isSome then [dSCHED] else [])

/-- R66, R397: the frame whose pass course c takes next: a recirculated one first. -/
def CourseSt.next (x : CourseSt) : Option Nat := (x.recirc ++ x.fifo).head?

/-- R64, R66, R338, R396, R397, R687: the parser of course c takes a pass, a recirculated one first. A pass that needs TABLE
or SCHED wakes it and stalls until it is ready. `e`, `m`: what the reads of table memory and of the meter record of the
pass find. -/
def State.parserTake (s : State) (c : Nat) (e m : Ecc) : State :=
  if s.failed || s.boot != bRUNNING || !s.up (dCOURSE c) || (s.course c).stalled.isSome then s
  else
    let down := ((s.course c).next.elim [] s.passNeeds).filter (fun d => !s.up d)
    if down != [] then down.foldl State.access s else
    match (s.course c).recirc, (s.course c).fifo with
    | i :: rest, _ =>
      let s := s.eccCheck e fGEN_INTEG_CORR_TABLE .tableEcc 0
      if s.failed then s
      else
        let s := s.setCourse c { s.course c with recirc := rest }
        ((s.count .COURSE_PARSE_CNT c fCOURSE_PARSE_CNT_LATER).count .TABLE_RECIRC_CNT c fTABLE_RECIRC_CNT_PASSES).runPass i m
    | [], i :: rest =>
      match s.frame? i with
      | none => s
      | some f =>
        let s := s.eccCheck e fGEN_INTEG_CORR_TABLE .tableEcc 0
        if s.failed then s else s.firstPass c i f rest m
    | [], [] => s

-- The reorder stage

/-- A frame of port p in the reorder stage that satisfies a condition, lowest number first. -/
def State.inStage (s : State) (p : Nat) (ok : Frame → Bool) : Option Nat :=
  (List.find? (fun (e : Nat × Frame) => e.2.port == p && e.2.stage = .reorder && !e.2.host && ok e.2) s.frames).map (·.1)

/-- A frame leaves the reorder stage for its decision, in the order of R336. -/
def State.releaseOne (s : State) (fid : Nat) : State :=
  match s.frame? fid with
  | none => s
  | some f =>
    let b := pairCourse f.port
    let s := s.setFrame fid { f with stage := .decide, seq := none }
    let s := s.setCourse b { s.course b with dec := (s.course b).dec ++ [fid] }
    match f.seq with
    | some n => s.modMac f.port (fun m => ({ m with oldest := n + 1 }).skipMarks m.released.length)
    | none => s

/-- R336: the run of consecutive sequence numbers, at most one frame a course. -/
def State.releaseRun (s : State) (p : Nat) (used : List Nat) : Nat → State
  | 0 => s
  | fuel + 1 =>
    match s.inStage p (fun f => f.seq == some (s.mac p).oldest && !used.contains f.course) with
    | some i =>
      match s.frame? i with
      | some f => (s.releaseOne i).releaseRun p (f.course :: used) fuel
      | none => s
    | none => s

/-- R336: one cycle of port p's reorder stage: recirculated passes, then the run. -/
def State.reorderRelease (s : State) (p : Nat) : State :=
  if s.failed || !s.sprayed p then s
  else
    let b := pairCourse p
    let rc := [b, b + 1].filterMap (fun c => (s.inStage p (fun f => f.seq.isNone && f.course == c)).map (fun i => (c, i)))
    let s := s.forEach rc (fun s e => s.releaseOne e.2)
    (s.releaseRun p (rc.map (·.1)) 2).unstall p

-- What becomes of a frame

/-- R755, R759: a frame's cells hold poison. -/
def Frame.poisoned (f : Frame) : Bool := f.poison.any f.cells.contains

/-- R65: a condition that keeps a frame from its queue, besides poison. -/
def Frame.errored (f : Frame) : Bool := f.fcsBad || f.trunc || f.tagFail || f.stale

/-- What a pass leads to. -/
inductive Fate where
  | free
  | drop
  | recirc
  | slow
  | diag
  | to (d : Dest)
  deriving DecidableEq, Repr

/-- The slow-path reason of a frame's last pass (R315, R316, R318). `known`: its checks at the last beat are made. -/
def Frame.reason (f : Frame) (known : Bool) : Nat :=
  if f.res.reason != 0 then f.res.reason else if known && f.res.l4bad then rCHECKSUM else 0

/-- R360: the disposition, with R318. -/
def Frame.disposition (f : Frame) (known : Bool) : Fate :=
  if f.reason known != 0 then .slow
  else match f.res.op with
    | 1 => .to { leaf := false, id := f.res.target % 2 ^ 14 }
    | 2 => .to { leaf := true, id := f.res.target }
    | 3 => .recirc
    | _ => .drop

/-- R65, R226, R227, R366, R756: what becomes of a frame. -/
def Frame.fate (f : Frame) (known : Bool) : Fate :=
  if f.diagAll then .diag
  else
    let d := f.disposition known
    if (known && f.errored) || (d != .recirc && f.poisoned) then (if f.diagDel then .diag else .free)
    else d

/-- R317 to R319: the slow-path condition holds, on a port that does not deliver everything for diagnosis, or with a
reason that the pass raised before any lookup. -/
def Frame.slowHolds (f : Frame) (known : Bool) : Bool := f.reason known != 0 && (!f.diagAll || f.res.hit == 0)

/-- R31, R32: the status of a delivery of a frame whose cells hold poison or do not. -/
def Frame.statusOf (f : Frame) (poison : Bool) : Nat :=
  if poison then 5 else if f.trunc then 2 else if f.fcsBad then 3 else if f.tagFail then 4 else if f.stale then 7
  else if f.slowHolds true then 6 else 0

/-- R31, R32: a frame's status when it is delivered. -/
def Frame.status (f : Frame) : Nat := f.statusOf f.poisoned

/-- The packet of a received frame (R214, R222). -/
def Frame.pkt (f : Frame) (fid : Nat) : Pkt :=
  { fid := fid, bytes := f.bytes, fcs := if f.fcsKeep then f.fcs else [], ids := f.cells, colour := f.colour,
    port := f.port, status := f.status, reason := if f.status = 6 then f.reason true else 0, parse := f.res.parse,
    hit := f.res.hit, ts := f.ts, tsRaw := f.tsRaw, tsOp := f.res.tsOp, udpFix := f.res.udpFix, ptpOff := f.res.ptpOff,
    udpOff := f.res.udpOff, udpV6 := f.res.udpV6, poison := f.poisoned, wire := f.bytes.length + 4 }

/-- R367, R411, R449, R759: the packet of a mirror copy: its own poison decides its status, and no padding counts in its
wire length. -/
def Frame.copyPkt (f : Frame) (fid trunc : Nat) (leaf : Bool) : Pkt :=
  let k := f.pkt fid
  let d := k.bytes ++ (if leaf then [] else k.fcs)
  let d := if trunc = 0 then d else d.take trunc
  let ids := if trunc = 0 then f.cells else f.cells.take (cellsOf trunc)
  let bad := f.poison.any ids.contains
  let st := f.statusOf bad
  { k with copy := true, bytes := d, fcs := [], ids := ids, tsOp := 0, udpFix := 0, ptpOff := none, udpOff := none,
           poison := bad, status := st, reason := if st = 6 then f.reason true else 0, wire := d.length + 4 }

/-- R226, R317: where a fate delivers to. -/
def State.target (s : State) (f : Frame) : Fate → Option Dest
  | .to d => some d
  | .slow => some { leaf := false, id := s.fget .COURSE_SLOW_CFG f.course fCOURSE_SLOW_CFG_RING }
  | .diag => some { leaf := false, id := s.fget .PORT_DIAG_CFG f.port fPORT_DIAG_CFG_RING }
  | _ => none

/-- R414: charges or uncharges a queue. -/
def State.chargeQueue (s : State) (d : Dest) (c : Nat) : State := if d.leaf then s.chargeLeaf d.id c else s.chargeRing d.id c
def State.unchargeQueue (s : State) (d : Dest) (c : Nat) : State :=
  if d.leaf then s.unchargeLeaf d.id c else s.unchargeRing d.id c
def State.joinQueue (s : State) (d : Dest) (k : Pkt) : State := if d.leaf then s.joinLeaf d.id k else s.joinRing d.id k

/-- R228, R319, R366: a frame does not reach its destination. `there`: the destination exists. -/
def State.notDelivered (s : State) (f : Frame) (x : Fate) (there : Bool) : State :=
  match x with
  | .diag =>
    (s.portCount .PORT_DIAG_CNT f.port f.port fPORT_DIAG_CNT_DROPPED).flag .PORT_MAC_EVT f.port fPORT_MAC_EVT_DIAG_DROP
  | .slow => (s.count .COURSE_SLOW_DROP f.course fCOURSE_SLOW_DROP_FRAMES).flag .COURSE_PARSE_EVT f.course
      fCOURSE_PARSE_EVT_SLOW_DROP
  | _ => if there then s else s.count .TABLE_ACT_CNT 0 fTABLE_ACT_CNT_NO_TARGET

/-- R66, R414, R422: admission of a frame to a destination: admitted, and charged; or refused, and counted. -/
def State.admitTo (s : State) (fid : Nat) (f : Frame) (d : Dest) : Bool × State :=
  let c := f.layout.length
  let a := acctOf f.port f.res.pri
  match s.admission a d f.colour c with
  | .accepted head =>
    let use := if head then 0 else c
    let hd := if head then c else 0
    (true, ((s.chargeIngress a use hd).chargeQueue d c).setFrame fid { f with acct := some a, use := use, head := hd })
  | v => (false, s.refuseCount v a d)

/-- R32, R319: a slow-path frame counts once for its reason, delivered or freed. -/
def State.slowCount (s : State) (f : Frame) (known : Bool) : State :=
  if f.slowHolds known then s.count .COURSE_SLOW_CNT (f.course * 7 + (f.reason known - 1)) fCOURSE_SLOW_CNT_FRAMES else s

/-- R818: an admitted frame joins its queue. -/
def State.join (s : State) (fid : Nat) (x : Fate) (d : Dest) : State :=
  match s.frame? fid with
  | none => s
  | some f =>
    if s.destOpen d then
      let s := s.setFrame fid { f with stage := .queued, pend := none }
      let s := if x = .diag then s.portCount .PORT_DIAG_CNT f.port f.port fPORT_DIAG_CNT_DELIVERED else s
      s.joinQueue d (f.pkt fid)
    else
      (s.notDelivered f x false).releasePkt (f.pkt fid)

/-- R367: a mirror copy joins its queue. -/
def State.joinCopy (s : State) (k : Pkt) (d : Dest) : State :=
  if s.destOpen d then (s.count .TABLE_MIRROR_CNT 0 fTABLE_MIRROR_CNT_COPIES).joinQueue d k
  else (s.count .TABLE_MIRROR_CNT 0 fTABLE_MIRROR_CNT_REFUSED).release k.fid k.ids

/-- R367, R422, R759: the mirror copy of a pass: refused, or admitted and charged. -/
def State.copyFor (s : State) (fid : Nat) (f : Frame) : Option (Pkt × Dest) × State :=
  match f.res.mirror with
  | none => (none, s)
  | some m =>
    if !s.fbit .TABLE_MIRROR m fTABLE_MIRROR_EN then (none, s)
    else
      let leaf := s.fbit .TABLE_MIRROR m fTABLE_MIRROR_TO_LEAF
      let t := s.fget .TABLE_MIRROR m fTABLE_MIRROR_TARGET
      let d : Dest := { leaf := leaf, id := if leaf then t else t % 2 ^ 14 }
      let k := f.copyPkt fid (s.fget .TABLE_MIRROR m fTABLE_MIRROR_TRUNC) leaf
      let no (s : State) : State := s.count .TABLE_MIRROR_CNT 0 fTABLE_MIRROR_CNT_REFUSED
      if k.poison then (none, s.poisonCount fGEN_INTEG_POISON_RX_FREED)
      else if !s.destOpen d then (none, no s)
      else if s.admitCopy d f.colour k.ids.length then
        let s := s.modFrame fid (fun f => { f with refs := f.refs ++ [k.ids] })
        (some (k, d), s.chargeQueue d k.ids.length)
      else (none, no ((s.count .LOFT_DROP 0 fLOFT_DROP_QUEUE).dropAt d 1))

/-- R226, R318, R367: whether a frame whose fate is `x` may be mirrored. -/
def Frame.mirrors (f : Frame) (x : Fate) : Bool := !f.errored && x != .diag && !(f.res.reason == 0 && f.res.l4bad)

/-- The mirror copy of a frame whose checks are made joins its queue at once. -/
def State.copyNow (s : State) (fid : Nat) (f : Frame) (x : Fate) : State :=
  if f.mirrors x then
    match s.copyFor fid f with
    | (some (k, d), s) => s.joinCopy k d
    | (none, s) => s
  else s

/-- R318, R367: a mirror copy that was charged is given up. -/
def State.dropCopy (s : State) (k : Pkt) (d : Dest) : State := (s.unchargeQueue d k.ids.length).release k.fid k.ids

/-- R394 to R397, R412: a frame is stripped and joins its course's recirculation queue. -/
def State.joinRecirc (s : State) (fid : Nat) : State :=
  match s.frame? fid with
  | none => s
  | some f =>
    let x := s.course f.course
    if 256 ≤ x.recirc.length then (s.count .TABLE_RECIRC_CNT f.course fTABLE_RECIRC_CNT_DROPS).freeFrame fid
    else
      let t := f.res.strip
      let lay := stripLayout f.layout (if stripMode t = 0 then 0 else 12) (stripLen t)
      let lay := if 2 ≤ stripMode t then growLayout lay 11 2 else lay
      let keep := lay.map (·.1)
      let gone := f.cells.filter (fun i => !keep.contains i)
      let f' := { f with bytes := stripBytes t f.bytes, layout := lay, refs := keep :: f.refs.erase f.cells,
                         transit := f.transit - gone.length, stage := .recirc, pend := none }
      let n := transitShared s.transit - transitShared (s.transit - gone.length)
      let s := (((s.setFrame fid f').freeCells f' gone).setTransit (s.transit - gone.length)).lagFree n
      s.setCourse f.course { x with recirc := x.recirc ++ [fid] }

/-- R317, R366, R422: the decision for a fate with a destination. Whether the frame was admitted there. -/
def State.decideTo (s : State) (fid : Nat) (x : Fate) : Option Dest × State :=
  match s.frame? fid with
  | none => (none, s)
  | some f =>
    match s.target f x with
    | none => (none, s)
    | some d =>
      if s.destOpen d then
        let r := s.admitTo fid f d
        if r.1 then (some d, r.2) else (none, r.2.notDelivered f x true)
      else (none, s.notDelivered f x false)

/-- R410, R756, R760: a frame that no queue takes is freed. -/
def State.discard (s : State) (fid : Nat) (poison : Bool) : State :=
  (if poison then s.poisonCount fGEN_INTEG_POISON_RX_FREED else s).freeFrame fid

/-- R65, R396, R422: the decision on a frame whose checks at the last beat are made. `copy`: what its mirror session
does. -/
def State.decideWith (s : State) (fid : Nat) (f : Frame) (copy : State → State) : State :=
  let x := f.fate true
  let s := s.slowCount f true
  match x with
  | .recirc => (copy s).joinRecirc fid
  | .free => (copy (s.leaveTransit fid)).discard fid f.poisoned
  | .drop => (copy ((s.count .TABLE_ACT_CNT 0 fTABLE_ACT_CNT_DROPPED).leaveTransit fid)).discard fid false
  | _ =>
    let r := (s.leaveTransit fid).decideTo fid x
    match r.1 with
    | some d => (copy r.2).join fid x d
    | none => (copy r.2).discard fid false

/-- R65, R367, R422: the decision on a frame whose checks are made by its admission cycle. -/
def State.decideKnown (s : State) (fid : Nat) : State :=
  match s.frame? fid with
  | none => s
  | some f => s.decideWith fid f (fun s => s.copyNow fid f (f.fate true))

/-- R65, R379, R818: the decision on a frame whose last beat is still to come; a DROP and a RECIRC wait for it. The
mirror copy of the pass is decided now. -/
def State.decideEarly (s : State) (fid : Nat) : State :=
  match s.frame? fid with
  | none => s
  | some f =>
    let x := f.fate false
    let s := s.slowCount f false
    let copied (s : State) : Option (Pkt × Bool × Nat) × State :=
      let c := if x = .diag then (none, s) else s.copyFor fid f
      (c.1.map (fun e => (e.1, e.2.leaf, e.2.id)), c.2)
    match x with
    | .drop | .recirc =>
      let c := copied s
      c.2.modFrame fid (fun f => { f with stage := .waitFcs, pendCopy := c.1 })
    | .free =>
      let c := copied (s.leaveTransit fid)
      (c.2.modFrame fid (fun f => { f with stage := .waitFcs, pendCopy := c.1 })).discard fid f.poisoned
    | _ =>
      let r := (s.leaveTransit fid).decideTo fid x
      let c := copied r.2
      match r.1 with
      | some d =>
        c.2.modFrame fid (fun f =>
          { f with stage := .waitFcs, pend := some (f.pkt fid), pendQ := d.id, pendLeaf := d.leaf, pendCopy := c.1 })
      | none =>
        (c.2.modFrame fid (fun f => { f with stage := .waitFcs, pendCopy := c.1 })).discard fid false

/-- R426: the shared cells that the transit charge of a refused frame gives back are free from the next cycle. `s`: the
state before its decision. -/
def State.refusedCells (t s : State) (fid : Nat) (f : Frame) : State :=
  let out := match t.frame? fid with
    | some g => g.transit == 0 && g.acct.isNone
    | none => t.freed == s.freed
  if out then t.lagFree (transitShared s.transit - transitShared (s.transit - f.transit)) else t

/-- R422, R426: the admission decision of the next frame of course c. `same`: it falls in the CCLK cycle of the last one,
so that cells freed in that cycle are not yet free. -/
def State.admissionDecision (s : State) (c : Nat) (same : Bool) : State :=
  match (s.course c).dec with
  | [] => s
  | i :: rest =>
    if s.failed then s
    else
      let s := s.setCourse c { s.course c with dec := rest }
      match s.frame? i with
      | none => s
      | some f =>
        let s := s.decCycle c same
        (if f.done then s.decideKnown i else s.decideEarly i).refusedCells s i f

/-- R318, R818: a decision is undone: its charges are removed. -/
def State.undecide (s : State) (fid : Nat) (f : Frame) (d : Dest) : State :=
  let s := match f.acct with | some a => s.dropIngress a f.use f.head | none => s
  (s.unchargeQueue d f.layout.length).setFrame fid { f with acct := none, use := 0, head := 0, pend := none }

/-- R818: a frame that waited for its checks: it joins, or its decision is made again. -/
def State.resolve (s : State) (fid : Nat) : State :=
  match s.frame? fid with
  | none => s
  | some f =>
    if f.stage != .waitFcs || s.failed then s
    else
      let x := f.fate true
      let same := x == f.fate false
      let copy (s : State) : State :=
        match f.pendCopy with
        | none => s
        | some (k, leaf, q) =>
          let d : Dest := { leaf := leaf, id := q }
          if same && f.mirrors x then s.joinCopy k d else s.dropCopy k d
      let f' := { f with pendCopy := none }
      match f.pend with
      | some _ =>
        let d : Dest := { leaf := f.pendLeaf, id := f.pendQ }
        if same then (copy (s.setFrame fid f')).join fid x d
        else
          let s := copy (s.undecide fid f' d)
          let s := if f.slowHolds false then s else s.slowCount f true
          let s := if x = .free then s.discard fid f.poisoned
            else
              match s.decideTo fid x with
              | (some d, s) => s.join fid x d
              | (none, s) => s.discard fid false
          s.fcUpdate f.port
      | none => if f.transit = 0 then copy (s.setFrame fid f') else (s.setFrame fid f').decideWith fid f' copy

/-- R66, R220, R818: a frame's last beat arrives and its FCS and checksums are checked. -/
def State.rxLastBeat (s : State) (fid : Nat) : State :=
  match s.frame? fid with
  | none => s
  | some f =>
    if f.host || f.done then s
    else
      (({ s with fcThen := none } : State).setFrame fid { f with done := true }).resolve fid

end Sys2Proof.Machine
end

