-- ==== Sys2Proof/Machine/Seal.lean ====
section
/-! DEFINITION. The seal port: enabling (R631), protocol violations (R627), received frames (R636 to R638), key-erase
alarms, seal hold and the hold sweep (R640, R641) and the bindings' window (R629, R642). -/

namespace Sys2Proof.Machine

/-- SEAL_CFG.EN in force. -/
def State.sealEn (s : State) : Bool := s.fbit .SEAL_CFG 0 fSEAL_CFG_EN

/-- R631: a write of SEAL_CFG.EN. -/
def State.sealEnWrite (s : State) (v : Bool) : State :=
  { s with sealU := { s.sealU with enNext := if v == s.sealEn then none else some v } }

/-- R631: the new EN takes effect once no frame is outstanding on a transmit path. -/
def State.sealEnApply (s : State) : State :=
  match s.sealU.enNext with
  | some v =>
    if s.sealU.tx.all (·.ended) then
      ({ s with sealU := { s.sealU with enNext := none } } : State).fsetB .SEAL_CFG 0 fSEAL_CFG_EN v
    else s
  | none => s

/-- R627, R768: a seal protocol violation, numbered in the order of R627. -/
def State.sealViolation (s : State) (chan : Nat) (rx : Bool) (fid v : Nat) : State :=
  s.failStop .sealProtocol (chan + rx.toNat * 4 + fid * 8 + v * 2048) 0

/-- R623: a path's next identifier. -/
def State.nextFid (s : State) (chan : Nat) (rx : Bool) : Nat × State :=
  let k := 2 * chan + rx.toNat
  let n := Store.get 0 s.sealU.fids k
  (n, { s with sealU := { s.sealU with fids := Store.set 0 s.sealU.fids k ((n + 1) % 256) } })

/-- R623: frames outstanding on a path. -/
def State.sealOut (s : State) (chan : Nat) (rx : Bool) : List SealOut :=
  (if rx then s.sealU.rx else s.sealU.tx).filter (fun o => o.chan == chan && !o.ended)

/-- The first record that satisfies a condition, replaced. -/
def replaceFirst (p : SealOut → Bool) (f : SealOut → SealOut) : List SealOut → List SealOut
  | [] => []
  | o :: t => if p o then f o :: t else o :: replaceFirst p f t

-- Receive

/-- R636: what the seal port makes of a received frame of port p. -/
inductive SealClass where
  | plain
  | unprot
  | stale
  | engine (slot gen : Nat)
  deriving DecidableEq, Repr

/-- R10, R631, R636: classifies a received frame, its FCS with it, under the settings it took at its first beat. -/
def State.sealClass (s : State) (p : Nat) (g : RxCfg) (b : List Byte) : SealClass :=
  let c := g.sealCfg
  if !g.sealEn || fSEAL_PORT_CFG_RX_EN.get c == 0 then .plain
  else if be2 b 12 == fSEAL_PORT_CFG_RX_ETYPE.get c then
    let an := byteAt b (fSEAL_PORT_CFG_AN_OFF.get c) % 4
    let slot := s.fget .SEAL_RX_MAP p (fSEAL_RX_MAP_SLOT an)
    if s.fbit .SEAL_RX_MAP p (fSEAL_RX_MAP_VALID an) && s.fbit .SEAL_SLOT slot fSEAL_SLOT_VALID then
      .engine slot (s.fget .SEAL_SLOT slot fSEAL_SLOT_GEN)
    else .stale
  else if fSEAL_PORT_CFG_RX_STRICT.get c == 1 then .unprot
  else .plain

/-- R637: a protected frame is presented on the receive path of its course. -/
def State.sealPresent (s : State) (f : Frame) (slot gen : Nat) : State :=
  let r := s.nextFid f.course true
  let s := r.2
  let o : SealOut := { chan := f.course, fid := r.1, port := f.port, slot := slot, gen := gen, input := f.bytes,
                       abort := f.trunc, rx := some f, times := [s.now] }
  { s with sealU := { s.sealU with rx := s.sealU.rx ++ [o] } }

/-- R628, R638, R755: the engine's result for a frame, applied and counted: ENGINE_ERR poisons all of it, a lane parity
error the cell of its byte, and poison that it brought stays in the cells that now hold those bytes, the last one at
most. -/
def State.sealResult (s : State) (f : Frame) (r : SealResp) : State :=
  let p := f.port
  if f.trunc then s.enterFifo { f with done := true }
  else
    let bad := r.par.isSome || r.status == 3
    let n := cellsOf (r.data.length + 4)
    let old := (f.poison.map (min (n - 1))).dedup
    let f := { f with bytes := r.data, fcs := fcsOf r.data, done := true, tagFail := r.status == 1, stale := r.status == 2,
                      poison := if r.status == 3 then List.range n
                        else (r.par.toList.map (min (n - 1) <| · / 256) ++ old).dedup }
    let s := if r.status == 0 then s.portCount .SEAL_PORT_CNT p p fSEAL_PORT_CNT_RX_PROT
      else if r.status == 1 then s.portCount .SEAL_PORT_ERR p p fSEAL_PORT_ERR_TAG_FAIL
      else if r.status == 2 then s.portCount .SEAL_PORT_ERR p p fSEAL_PORT_ERR_RX_STALE else s
    (if bad then s.poisoned else s).enterFifo f

/-- R625, R627, R638: the engine returns a received frame. -/
def State.sealRxResponse (s : State) (chan : Nat) (r : SealResp) : State :=
  match s.sealOut chan true with
  | [] => if s.sealEn && !s.failed then s.sealViolation chan true r.fid.val 0 else s
  | o :: _ =>
    if s.failed then { s with sealU := { s.sealU with rx := s.sealU.rx.erase o } }
    else if r.fid.val != o.fid then s.sealViolation chan true r.fid.val 1
    else if !r.sof || !r.eof || r.susp || r.resume then s.sealViolation chan true o.fid 2
    else if r.late then s.sealViolation chan true o.fid 5
    else if r.cpar then s.sealViolation chan true o.fid 6
    else
      let s : State := { s with sealU := { s.sealU with rx := s.sealU.rx.erase o } }
      match o.rx with
      | some f => s.sealResult f r
      | none => s

/-- R627: a received frame has not come back within RX_MAX cycles. -/
def State.sealRxTimeout (s : State) (chan : Nat) : State :=
  match s.sealOut chan true with
  | [] => s
  | o :: _ =>
    if s.failed then s
    else
      let s := s.elapseTo (o.times.headD 0 + (s.fget .SEAL_CFG 0 fSEAL_CFG_RX_MAX + 1) * s.power.cclk)
      s.sealViolation chan true o.fid 5

-- Alarm and seal hold

/-- Leaves with PROT 1 whose path leads to one of the ports. -/
def State.protLeaves (s : State) (ports : List Nat) : List Nat :=
  ((s.sealU.binds.filter (fun e => bitOf e.2 0)).map (·.1)).filter fun l =>
    match s.classOf 0 l with
    | some k => ports.contains (k / 8)
    | none => false

/-- Eligibility of leaves has changed (R445). -/
def State.relistLeaves (s : State) (ls : List Nat) : State := s.forEach ls (fun s l => s.relistUp 0 l)

/-- Ports in seal hold. -/
def State.heldPorts (s : State) : List Nat := (List.range 16).filter (fun p => s.fbit .SEAL_PORT_STAT p fSEAL_PORT_STAT_HOLD)

/-- R627, R640, R641: a key-erase alarm. -/
def State.sealAlarm (s : State) (p slot : Nat) (par : Bool) : State :=
  if !s.sealEn then s
  else if par then s.sealViolation 0 false 0 7
  else
    let s := s.fset .SEAL_SLOT slot fSEAL_SLOT_VALID 0
    let s := (s.fset .SEAL_ALARM_LOG 0 fSEAL_ALARM_LOG_PORT p).fset .SEAL_ALARM_LOG 0 fSEAL_ALARM_LOG_SLOT slot
    let s := (s.count .SEAL_ALARM_LOG 0 fSEAL_ALARM_LOG_COUNT).flag .SEAL_EVT 0 fSEAL_EVT_ALARM
    let s := s.flag .SEAL_PORT_STAT p fSEAL_PORT_STAT_HOLD
    let ps := s.heldPorts
    let s := s.forEach ps (fun s p => s.flag .SEAL_PORT_STAT p fSEAL_PORT_STAT_SWEEP)
    ({ s with sealU := { s.sealU with sweep := ps, sweepAt := s.now } } : State).relistLeaves (s.protLeaves [p])

/-- R641: the hold sweep ends. -/
def State.sealSweepEnd (s : State) : State :=
  match s.sealU.sweep with
  | [] => s
  | ps =>
    let s := s.elapseTo (s.sealU.sweepAt + 16384 * s.power.cclk)
    let ls := s.protLeaves ps
    let s := s.forEach ls (fun s l => s.setBind l (s.bind l ||| 2))
    let s := s.forEach ps (fun s p =>
      (s.fset .SEAL_PORT_STAT p fSEAL_PORT_STAT_HOLD 0).fset .SEAL_PORT_STAT p fSEAL_PORT_STAT_SWEEP 0)
    let s : State := { s with sealU := { s.sealU with sweep := [], sweepAt := 0 } }
    (s.flag .SEAL_EVT 0 fSEAL_EVT_HOLD_DONE).relistLeaves ls

/-- R629, R642, R729: a WRITE of a binding, refused while the sweep of SEAL_CFG.EN runs. HELD 1 is a reserved encoding:
HELD stays, and PROT and SLOT take effect (R17, R29). The outcome is given as an admin status (R735). -/
def State.bindWrite (s : State) (leaf v : Nat) : Nat × State :=
  if s.sealU.sweep != [] then (aFailed, s.flag .SEAL_EVT 0 fSEAL_EVT_BIND_REFUSED)
  else if bitOf v fSEAL_BIND_DATA_HELD.lo then
    let s := (s.setBind leaf (v - 2 + (bitOf (s.bind leaf) 1).toNat * 2)).relistUp 0 leaf
    (aBadOperand, s.tracked (addrOf .SEAL_BIND_CMD 0) s.rsvdEnc)
  else (aOK, (s.setBind leaf v).relistUp 0 leaf)

/-- R642: the SEAL_BIND window's operation: OP 0 READ, 1 WRITE. -/
def State.sealBindWin (s : State) (op : Nat) : State :=
  if s.fbit .SEAL_BIND_CMD 0 fSEAL_BIND_CMD_BUSY && s.fget .SEAL_BIND_CMD 0 fSEAL_BIND_CMD_OP == op then
    let leaf := s.fget .SEAL_BIND_ADDR 0 fSEAL_BIND_ADDR_LEAF
    let s := s.fset .SEAL_BIND_CMD 0 fSEAL_BIND_CMD_BUSY 0
    if op = 0 then s.rset .SEAL_BIND_DATA 0 (BitVec.ofNat 64 (s.bind leaf))
    else (s.bindWrite leaf ((s.rget .SEAL_BIND_DATA 0).toNat % 2 ^ 14)).2
  else s

end Sys2Proof.Machine
end

