-- ==== Sys2Proof/Machine/Egress.lean ====
section
/-! DEFINITION. Egress: checksum insertion (R330 to R332), one-step rewriting (R294 to R298), selection into a port's
transmit buffer (R451), the frames of a port's own (R237 to R243), the start and end of a frame on the wire (R45, R204,
R211, R216, R283), preemption (R244) and the transmit side of the seal port (R625 to R635). -/

namespace Sys2Proof.Machine

-- Checksums on transmit

/-- The one's complement of a one's complement sum. -/
def onesFold (n : Nat) : Nat := if n = 0 then 0 else (n - 1) % 65535 + 1
def csumOf (n : Nat) : Nat := 65535 - onesFold n

/-- R331: inserts an IPv4 header checksum. -/
def insertIp4 (o : CsumOps) (b : List Byte) : List Byte :=
  if !o.ip4 then b
  else
    let ihl := byteAt b o.l3off % 16
    let hl := if ihl < 5 then 20 else 4 * ihl
    let z := patch b (o.l3off + 10) [0, 0]
    patch b (o.l3off + 10) (beBytes 2 (csumOf (sum16 (slice z o.l3off (min (o.l3off + hl) 384)))))

/-- R331: inserts a TCP or UDP checksum. -/
def insertL4 (o : CsumOps) (b : List Byte) : List Byte :=
  if !o.l4 then b
  else
    let stop := min b.length (if o.v6 then o.l3off + 40 + be2 b (o.l3off + 4) else o.l3off + be2 b (o.l3off + 2))
    let pos := if o.udp then o.l4off + 6 else o.l4off + 16
    let addrs := if o.v6 then slice b (o.l3off + 8) (o.l3off + 40) else slice b (o.l3off + 12) (o.l3off + 20)
    let z := patch b pos [0, 0]
    let c := csumOf (sum16 addrs + (if o.udp then 17 else 6) + (stop - o.l4off) + sum16 (slice z o.l4off stop))
    patch b pos (beBytes 2 (if o.udp && c == 0 then 65535 else c))

/-- R330 to R332: the insertions of a host frame, the inner level first. -/
def insertCsums (w1 : Nat) (b : List Byte) : List Byte :=
  let i := innerOps w1
  let o := outerOps w1
  insertIp4 o (insertL4 o (insertIp4 i (insertL4 i b)))

-- One-step operations

/-- R295: adds to a correctionField; saturates. -/
def addCorrection (b : List Byte) (off : Nat) (d : Int) : List Byte :=
  let v := toSigned 64 (beNat (slice b off (off + 8)))
  let n := v + d
  let top : Int := 2 ^ 63 - 1
  let r := if v = top ∨ top < n ∨ n < -(2 ^ 63) then top else n
  patch b off (beBytes 8 (ofSigned 64 r))

/-- A time difference in units of 2^-48 ns as units of 2^-16 ns, to nearest. -/
def toCorrection (d : Int) : Int := (d + 2 ^ 31) / 2 ^ 32

/-- R295: the full time of a T_ref in the window of the egress time. -/
def turnRef (egress : BlockTime) (tref : Nat) : Nat :=
  let sec := egress.sec / 2 ^ 26 * 2 ^ 26 + tref / 2 ^ 38
  sec * secUnits + (tref / 2 ^ 8 % 2 ^ 30) * 2 ^ 48 + tref % 2 ^ 8 * 2 ^ 40

/-- R294: the rewritten bytes before UDP_FIX, or none where R298 or R323 leaves the frame unmodified. -/
def oneStepBytes (k : Pkt) (t : Int) (b : List Byte) : Option (List Byte) :=
  let e := BlockTime.ofTotal t
  match k.ptpOff with
  | none => none
  | some p =>
    if k.tsOp = 1 then
      if b.length < p + 44 then none
      else
        let b := patch b (p + 34) (beBytes 6 e.sec ++ beBytes 4 e.ns)
        some (addCorrection b (p + 8) (toCorrection (e.sub % 2 ^ 48 : Nat)))
    else if b.length < p + 16 then none
    else if k.tsOp = 2 then some (addCorrection b (p + 8) (toCorrection ((e.total : Int) - turnRef e k.tref)))
    else some (addCorrection b (p + 8) (toCorrection (t - k.tsRaw)))

/-- R296: RFC 1624's update of a checksum for the 16-bit words from `off` on that differ. -/
def updateCsum (hc off : Nat) (old new : List Byte) : Nat :=
  let words := (List.range ((new.length - off + 1) / 2)).filter (fun i => be2 old (off + 2 * i) != be2 new (off + 2 * i))
  let sum := (words.map (fun i => 65535 - be2 old (off + 2 * i) + be2 new (off + 2 * i))).sum
  if words.isEmpty then hc else csumOf (65535 - hc + sum)

/-- R296: the UDP checksum after a rewrite. -/
def udpFixBytes (k : Pkt) (old new : List Byte) : List Byte :=
  match k.udpOff with
  | none => new
  | some u =>
    let hc := be2 old (u + 6)
    let upd := patch new (u + 6) (beBytes 2 (updateCsum hc u old new))
    if k.udpFix = 0 then new
    else if k.udpFix = 2 && !k.udpV6 then patch new (u + 6) [0, 0]
    else if hc = 0 && !k.udpV6 then new
    else upd

/-- R68, R294 to R298, R330: a packet's bytes as they leave the rewrite stage; the state counts a skipped operation. -/
def State.rewrite (s : State) (k : Pkt) (t : Int) : List Byte × State :=
  let r : List Byte × State :=
    if k.tsOp = 0 then (k.bytes, s)
    else match oneStepBytes k t k.bytes with
      | some b => (udpFixBytes k k.bytes b, s)
      | none => (k.bytes, s.count .TIME_ONESTEP_SKIP 0 fTIME_ONESTEP_SKIP_FRAMES)
  (if k.host.isSome then insertCsums k.ins r.1 else r.1, r.2)

-- What a port sends of its own

/-- R202, R204, R763: the MAC may send frames. -/
def State.macMay (s : State) (p : Nat) : Bool :=
  s.portUp p && !s.failed && !s.fbit .PORT_MAC_STAT p fPORT_MAC_STAT_RX_LF && !s.fbit .PORT_MAC_STAT p fPORT_MAC_STAT_RX_RF

/-- R237, R238: the frame that port p sends for the priorities due. -/
def State.fcBytes (s : State) (p : Nat) (due : List (Nat × Bool)) : List Byte :=
  let q (on : Bool) : Nat := if on then s.fget .PORT_FC_CFG p fPORT_FC_CFG_TX_QUANTA else 0
  let head : List Byte := [0x01, 0x80, 0xC2, 0x00, 0x00, 0x01] ++ leBytes 6 (s.fget .PORT_MAC_ADDR p fPORT_MAC_ADDR_ADDR) ++
    [0x88, 0x08]
  let time (i : Nat) : Nat := ((due.find? (fun e => e.1 == i)).map (fun e => q e.2)).getD 0
  let body : List Byte :=
    if due.any (·.1 == 8) then beBytes 2 1 ++ beBytes 2 (time 8) ++ List.replicate 16 0
    else beBytes 2 0x101 ++ beBytes 2 ((due.map (fun e => 2 ^ e.1)).sum) ++
      (List.range 8).flatMap (fun i => beBytes 2 (time i))
  head ++ body ++ List.replicate 26 0

/-- R237, R437: what the flow-control frame that is due names; one that a re-thatch made due goes first, whatever TX_MODE
then holds. -/
def State.fcNext (s : State) (p : Nat) : List (Nat × Bool) :=
  let m := s.mac p
  if m.fcRelease != [] then m.fcRelease.map (fun i => (i, false))
  else m.fcDue.filter (fun e => if s.fcTxMode p == 1 then e.1 == 8 else s.fcTxMode p == 2 && e.1 != 8)

/-- R204, R239: a flow-control frame is due and may be sent. -/
def State.fcReady (s : State) (p : Nat) : Bool := s.macMay p && s.fcNext p != []

/-- R204, R237 to R239, R430: the flow-control frame that is due on port p is sent, at a frame boundary. -/
def State.fcSend (s : State) (p : Nat) : State :=
  let m := s.mac p
  let due := s.fcNext p
  if !s.fcReady p || m.cur.isSome then s
  else
    let b := s.fcBytes p due
    let s := s.modMac p (fun m =>
      if m.fcRelease != [] then { m with fcRelease := [] }
      else { m with fcDue := m.fcDue.filter (fun e => !due.contains e),
                    fcSent := due.foldl (fun a e => if e.2 then a.put e.1 s.now else a.del e.1) m.fcSent })
    let s := s.ctlSent p b
    if due.any (·.1 == 8) then s.stat p 36 1 else s.forEach due (fun s e => s.stat p (37 + e.1) 1)

/-- The mCRC of a fragment: the FCS over the frame data sent so far, its two first-sent bytes inverted. PRESUMED
(log 78): Clause 99 of IEEE 802.3. -/
def mcrcOf (b : List Byte) : List Byte := leBytes 4 (leNat (fcsOf b) ^^^ 0x0000FFFF)

/-- A verify or respond packet of Clause 99: 60 bytes of zero with their mCRC. -/
def mPacket : List Byte := List.replicate 60 0 ++ mcrcOf (List.replicate 60 0)

/-- The start bytes of a verify and of a respond packet (SMD-V and SMD-R of Clause 99). -/
def smdV : Byte := 0x07
def smdR : Byte := 0x19

/-- R240: a verify or respond packet waits and may be sent. -/
def State.mReady (s : State) (p : Nat) : Bool := s.macMay p && ((s.mac p).verifyDue || (s.mac p).respondDue)

/-- R242, R243: the respond and verify packets that wait are sent, at a frame boundary; a verify packet starts its
interval. -/
def State.mSend (s : State) (p : Nat) : State :=
  let send (s : State) (start : Byte) : State :=
    let s := (s.modMac p (fun m => { m with lastCtl := mPacket })).onLine p (preamble start ++ mPacket) false
    s.loopItem p (.inl { bytes := mPacket, start := start })
  if !s.mReady p || (s.mac p).cur.isSome then s
  else
    let m := s.mac p
    let s := if m.respondDue then send (s.modMac p (fun m => { m with respondDue := false })) smdR else s
    if m.verifyDue then
      let wait := s.fget .PORT_PREEMPT_CFG p fPORT_PREEMPT_CFG_VERIFY_TIME * msCycles
      send (s.modMac p (fun m =>
        { m with verifyDue := false, verifyTries := m.verifyTries + 1, verifyEnd := some (s.now + wait) })) smdV
    else s

/-- R164, R239, R240: at a frame boundary the MAC first sends the frames of its own that are due. -/
def State.ownSend (s : State) (p : Nat) : State :=
  let s := (s.mSend p).fcSend p
  if s.lpmReady p then s.lpmSend p else s

-- Frames on the wire

/-- R213: a frame's bytes padded to 60. -/
def padded (b : List Byte) : List Byte := b ++ List.replicate (60 - b.length) 0

/-- R213: a frame's bytes as they are sent: padded, with their FCS. -/
def onWire (b : List Byte) : List Byte := padded b ++ fcsOf (padded b)

/-- R128: a fragment of the frame in progress comes back in a near-end loopback. -/
def TxCur.fragment (c : TxCur) (data : List Byte) (final : Bool) : Fragment :=
  { cont := c.frag != 0, frame := Fin.ofNat 4 (c.number.getD 0), count := Fin.ofNat 4 c.count, data := data, final := final }

-- Frames that leave a port

/-- R410, R414, R451: a selected packet leaves its port: its bytes in flight, its leaf's charge and its cells. -/
def State.leavePort (s : State) (p : Nat) (k : Pkt) : State :=
  let s := s.modMac p (fun m => { m with inFlight := m.inFlight - k.wire,
                                         inFlightPre := m.inFlightPre - (if k.express then 0 else k.wire) })
  (s.unchargeSent k).releasePkt k

/-- R629, R633, R511: a protected frame is dropped at the seal port. -/
def State.sealDrop (s : State) (p : Nat) (k : Pkt) : State :=
  let s := (s.portCount .SEAL_PORT_ERR p p fSEAL_PORT_ERR_TX_STALE).leavePort p k
  match k.host with
  | some (r, f) => s.markFreed r f
  | none => s

/-- R758, R760: a frame found poisoned before it starts is freed. -/
def State.freePoisoned (s : State) (p : Nat) (k : Pkt) : State :=
  let s := (s.poisonCount fGEN_INTEG_POISON_TX_FREED).leavePort p k
  match k.host with
  | some (r, f) => s.txPoisoned r f
  | none => s

/-- R285: the prediction of a frame that is cut or dropped no longer stands. -/
def State.clearOneStep (s : State) (c : TxCur) : State :=
  if c.one then s.modLane c.lane (fun l => { l with oneStep := l.oneStep.erase c.sym }) else s

/-- R508, R758: the host entry of a frame that has entered the MAC retires. -/
def State.hostSent (s : State) (p : Nat) (k : Pkt) (t : Int) (known : Nat) (poison : Bool) : State :=
  match k.host with
  | some (r, f) =>
    let s := s.txSent r f (stampOf t) known p
    if poison then s.modEntry r f (fun e => { e with poisoned := true }) else s
  | none => s

/-- The quad of a frame's carrying lane takes its reference from refclk_b_i. -/
def State.refB (s : State) (c : TxCur) : Bool := s.fbit .LANE_QUAD_CFG (c.lane / 4) fLANE_QUAD_CFG_REF_SEL

/-- R284: 4 ps in units of 2^-48 ns. -/
def predictLimit : Int := 1125899906842

/-- R284: the measured egress timestamp. It differs from the prediction, by at most 4 ps, only on a quad that runs from
refclk_b_i. -/
def State.measured (s : State) (c : TxCur) (delta : Int) : Int :=
  if s.refB c then c.ts + clampTo (-predictLimit) predictLimit delta else c.ts

/-- R819: the ridge clock cycle in which the egress timestamp of a frame is known. -/
def State.knownAt (s : State) (c : TxCur) : Nat := (if s.refB c || c.crossed then c.gear else c.launch) + 22

/-- The difference of R284 for a frame that is cut, which no command brings: an open value. -/
def State.cutDelta (s : State) : Int := toSigned 48 (Config.freeValue 12 s.now)

/-- R291, R508: a frame that is cut leaves its port. -/
def State.hostCut (s : State) (p : Nat) (c : TxCur) (poison : Bool) : State :=
  (s.hostSent p c.pkt (s.measured c s.cutDelta) (s.knownAt c) poison).leavePort p c.pkt

/-- R216, R760, R291: a frame found poisoned after its start is ended, after its first `n` bytes, with an error control
character and an inverted FCS. -/
def State.cutPoisoned (s : State) (p : Nat) (c : TxCur) (n : Nat) : State :=
  let sent := c.pkt.bytes.take n
  let s := s.onLine p (c.head ++ sent.drop c.frag ++ (fcsOf sent).map (~~~ ·)) true
  (((s.statCut p (n + 4)).poisonCount fGEN_INTEG_POISON_TX_CUT).clearOneStep c).hostCut p c true

/-- R197, R204, R291: a frame in progress on a port that has left UP, `n` bytes of which have left: its remaining bytes are
discarded. -/
def State.cutLink (s : State) (p : Nat) (c : TxCur) (n : Nat) : State :=
  ((if s.portUsed p then s.statCut p n else s).clearOneStep c).hostCut p c false

-- Selection

/-- R453, R456: course c's next selection: at once, or else in the first cycle in which a node whose eligibility is on its
way lets it make one. The state before it, the port, the packet and the state after it. -/
def State.reachSelect (s : State) (c : Nat) : Nat → Option (State × Nat × Pkt × State)
  | 0 => none
  | fuel + 1 =>
    let s := s.risen
    match s.selectCourse c with
    | some r => some (s, r)
    | none =>
      match s.rising.map (·.2.2) with
      | [] => none
      | t :: ts => (s.elapseTo (ts.foldl min t)).reachSelect c fuel

/-- R40, R280, R451 to R454, R629, R686: course c selects a frame into a port's transmit buffer. A course in DOZE is
woken by the handover, which waits for it. `e`: what the reads of scheduler state find, in structure `str` of R768.
DEDUCED (log 78): the frame's first beat enters the MAC in that cycle. -/
def State.schedSelect (s : State) (c : Nat) (e : Ecc) (str : Nat) : State :=
  if s.failed || s.boot != bRUNNING || s.power.sleep.isSome || !s.up dSCHED then s
  else
    match s.reachSelect c (s.rising.length + 1) with
    | none => s
    | some (s, p, k, s') =>
      if !s.up (dCOURSE c) then s.access (dCOURSE c) else
      let s := s.eccCheck e fGEN_INTEG_CORR_SCHED .schedEcc str
      if s.failed then s
      else
        let s' := s'.eccCheck e fGEN_INTEG_CORR_SCHED .schedEcc str
        let k := { k with course := if s.sprayed p then pairCourse p + (s.mac p).altTx else c,
                          strobe := s.blockTime.total, strobeAt := s.now }
        if k.prot && (!s.sealEn || !s.fbit .SEAL_PORT_CFG p fSEAL_PORT_CFG_TX_EN || !k.slotOk) then s'.sealDrop p k
        else s'.modMac p (fun m => { m with txBuf := m.txBuf ++ [k] })

-- Starting a frame

/-- What a MAC sends next: the frame that is suspended, or a frame of its buffer with what is left. -/
inductive TxNext where
  | resume
  | start (k : Pkt) (rest : List Pkt)
  deriving DecidableEq, Repr

/-- R634: a frame of port p that passes the engine is suspended there. -/
def State.paused (s : State) (p : Nat) : Bool := s.sealU.tx.any (fun o => o.port == p && o.paused)

/-- R245, R635: the preemptable frame in progress on port p is suspended: at the engine, or in the MAC. -/
def State.suspended (s : State) (p : Nat) : Bool :=
  s.paused p || ((s.mac p).held.isSome && !s.sealU.tx.any (fun o => o.port == p && !o.susp.isEmpty))

/-- R245, R247: a preemptable frame of port p is in progress. -/
def State.preInProgress (s : State) (p : Nat) : Bool :=
  let m := s.mac p
  (match m.cur with | some c => !c.pkt.express | none => false) || m.held.isSome ||
    s.sealU.tx.any (fun o => o.port == p && (match o.tx with | some c => !c.pkt.express | none => false))

/-- R240, R241, R244, R245: a MAC's next frame. An express frame goes ahead of a suspended one, and no preemptable frame
starts while one is suspended. -/
def State.txNext (s : State) (p : Nat) : Option TxNext :=
  let m := s.mac p
  let ex := if s.preemptActive p then m.txBuf.find? (·.express) else none
  match ex, m.txBuf with
  | some k, l => some (.start k (l.erase k))
  | none, l =>
    if s.suspended p then some .resume
    else if m.finishing && s.preInProgress p then none
    else match l with
      | k :: rest => some (.start k rest)
      | [] => none

/-- R287: a CCLK divisor change waits for held one-step frames. -/
def State.divisorPending (s : State) : Bool :=
  match s.power.change with
  | some c => c.step = .divisor
  | none => false

/-- The frames on the transmit paths of the seal port. -/
def State.setSealTx (s : State) (l : List SealOut) : State := { s with sealU := { s.sealU with tx := l } }

/-- R625: a request segment of a record begins now. -/
def SealOut.present (o : SealOut) (now num : Nat) : SealOut :=
  { o with paused := false, times := o.times ++ [now], nums := o.nums ++ [num] }

/-- The transmit paths of the seal port after a request segment more. -/
def State.presentSeg (s : State) (l : List SealOut) : State :=
  { s with sealU := { s.sealU with tx := l, segs := s.sealU.segs + 1 } }

/-- R216, R630: a frame's bytes are presented to the engine, those from byte `cut` on as they were read in spite of poison
there. -/
def State.sealRequest (s : State) (p : Nat) (c : TxCur) (cut : Option Nat) : State :=
  let k := c.pkt
  let r := s.nextFid k.course false
  let s := r.2
  let hdr := if k.prot then k.hdr else 0
  let o : SealOut := { chan := k.course, fid := r.1, port := p, bypass := !k.prot, hdr := hdr,
                       trl := if k.prot then k.trl else 0, slot := if k.prot then k.slot else 0,
                       gen := if k.prot then k.slotGen else 0, input := k.bytes, tx := some c, cut := cut.map (· + hdr) }
  s.presentSeg (s.sealU.tx ++ [o.present s.now s.sealU.segs])

/-- R216: the bytes of a packet before the beat of 128 bytes in which poison is first found: `bad` cells, or a parity
error at a byte. -/
def State.sentBefore (s : State) (k : Pkt) (x : CellRead) : Nat :=
  let lay := match s.frame? k.fid with | some f => f.layout | none => []
  let cell := ((lay.takeWhile (fun e => !x.bad.contains e.1)).map (·.2)).sum
  min (if x.bad.any k.ids.contains then cell else k.bytes.length) (x.parity.getD k.bytes.length) / 128 * 128

/-- R241: the frame number of the next frame of port p, where preemption is active and the frame is preemptable. -/
def State.takeNumber (s : State) (p : Nat) (k : Pkt) : Option Nat × State :=
  if s.preemptActive p && !k.express then
    (some (s.mac p).frameNo, s.modMac p (fun m => { m with frameNo := (m.frameNo + 1) % 4 }))
  else (none, s)

/-- R45, R283, R294, R433, R434, R629, R758: a frame of port p's buffer starts. A frame already known to be poisoned is
freed unread, and a protected one never goes past the seal port while it is off. DESIGN CHOICE (log 90): a frame keeps the
D_tx that its prediction takes at launch; one without a one-step operation, whose lane applies a step reported later at or
before its timestamp point, does not take the new total. -/
def State.startFrame (s : State) (p : Nat) (k : Pkt) (rest : List Pkt) (x : Path) (e : CellRead) : State :=
  if s.pktPoisoned k then (s.modMac p (fun m => { m with txBuf := rest })).freePoisoned p k
  else if k.prot && !s.sealEn then (s.modMac p (fun m => { m with txBuf := rest })).sealDrop p k
  else
    let s := s.cellReads k.fid k.ids e
    if s.failed then s
    else
      let s := s.modMac p (fun m => { m with txBuf := rest })
      let bad := s.pktPoisoned k || e.parity.isSome
      let n := s.sentBefore k e
      if bad && n = 0 then s.freePoisoned p k
      else
        let t := s.egressTime p k x
        let r := s.rewrite k t
        let one := k.tsOp != 0
        let f := r.2.takeNumber p k
        let c : TxCur :=
          { pkt := { k with bytes := r.1, started := true }, ts := t, lane := x.lane.val, sym := x.sym, one := one,
            launch := s.now, gear := s.now + x.cycles, number := f.1 }
        let s := f.2
        if bad && !s.sealEn then s.cutPoisoned p c n
        else
          let s := if one then s.modLane x.lane.val (fun l => { l with oneStep := l.oneStep ++ [x.sym] }) else s
          if s.sealEn then s.sealRequest p c (if bad then some n else none)
          else s.modMac p (fun m => { m with cur := some c })

/-- R244, R634: a preempted frame goes on with a continuation fragment, or its suspension at the engine ends. -/
def State.resumeFrame (s : State) (p : Nat) : State :=
  if s.paused p then
    s.presentSeg (replaceFirst (fun o => o.port == p && o.paused) (fun o => o.present s.now s.sealU.segs) s.sealU.tx)
  else (s.modMac p (fun m => { m with cur := m.held, held := none })).stat p 61 1

/-- R204, R244, R644: a frame of port p that has begun goes on though the MAC starts none: while a fault is received, and at
the engine in any case. -/
def State.goesOn (s : State) (p : Nat) : Bool := s.paused p || (s.portUp p && !s.failed && s.suspended p)

/-- R45, R164, R204, R239, R287, R623, R631: port p is at a frame boundary: its own frames that are due go first, then
its MAC launches its next frame. While a change of SEAL_CFG.EN is due it launches none, but a suspended frame resumes. -/
def State.egressStart (s : State) (p : Nat) (x : Path) (e : CellRead) : State :=
  if (s.mac p).cur.isSome then s
  else if !s.macMay p then (if s.goesOn p then s.resumeFrame p else s)
  else
    let s := s.ownSend p
    if s.sealU.enNext.isSome && s.suspended p then s.resumeFrame p
    else if s.sealU.enNext.isSome || (!s.sealEn && s.sealU.tx.any (fun o => o.port == p)) then s
    else
      match s.txNext p with
      | none => s
      | some .resume => s.resumeFrame p
      | some (.start k rest) =>
        if k.tsOp != 0 && s.divisorPending then s.flag .TIME_STAT 0 fTIME_STAT_CCLK_HOLD
        else if s.sealEn && (decide (128 ≤ (s.sealOut k.course false).length) || s.boot == bQUIESCE) then s
        else s.startFrame p k rest x e

-- Preemption

/-- R239, R240, R244, R437: an express frame waits: of the scheduler's, or of the MAC's own and free to be sent. -/
def State.expressWaits (s : State) (p : Nat) : Bool :=
  (s.mac p).txBuf.any (·.express) || s.fcReady p || s.lpmReady p || s.mReady p

/-- The least multiple of `m` at or above `n`. -/
def roundUp (m n : Nat) : Nat := (n + m - 1) / m * m

/-- R244: the first point at or after `k` bytes of a fragment at which it may end, `sent` bytes of the frame's `total`
having been sent before it. -/
def fragPoint (add sent total k : Nat) : Option Nat :=
  let n := roundUp 8 (sent + max k (64 * (1 + add) - 4)) - sent
  if sent + n + 60 ≤ total then some n else none

/-- R246, R634, R635: the first input offset at or after `k` at which a request segment of port p's frame may end, while
no other frame of its channel is suspended. -/
def State.suspPoint (s : State) (p k : Nat) (o : SealOut) : Option Nat :=
  match o.tx with
  | none => none
  | some c =>
    let prev := match o.susp.getLast? with | some q => q + o.hdr | none => 0
    let least := prev + 64 * (1 + s.fget .PORT_PREEMPT_CFG p fPORT_PREEMPT_CFG_ADD_FRAG_SIZE) - 4 - o.hdr
    let n := roundUp 16 (max k least)
    let free := !s.sealU.tx.any (fun q => q.chan == o.chan && q.paused)
    if free && !c.pkt.express && c.number.isSome && !o.ended && decide (n < o.input.length) &&
        decide (n + 60 ≤ o.input.length + o.trl) then some n else none

/-- The frame of port p whose request segment was presented last. -/
def State.lastSeal (s : State) (p : Nat) : Option SealOut :=
  (s.sealU.tx.filter (fun o => o.port == p)).foldl (fun a o =>
    match a with
    | some x => if x.nums.getLastD 0 < o.nums.getLastD 0 then some o else some x
    | none => some o) none

/-- R244, R249: a fragment of the frame c ends at byte `upto` of the frame data `b`: it is closed with its mCRC, and the
rest is held. -/
def State.sendFragment (s : State) (p : Nat) (c : TxCur) (upto : Nat) (b : List Byte) : State :=
  let data := (b.take upto).drop c.frag
  let s := (s.onLine p (c.head ++ data ++ mcrcOf (b.take upto)) false).loopItem p (.inr (c.fragment data false))
  s.modMac p (fun m =>
    { m with cur := none, held := some { c with frag := upto, count := if c.frag = 0 then 0 else (c.count + 1) % 4 } })

/-- R241, R244, R246, R634, R635: an express frame waits, so that the preemptable frame in progress on port p ends its
fragment at the first point that allows it at or after byte `k` of the fragment, unless it began with the SFD; of a
frame that passes the engine, its request segment ends at the first such input offset. -/
def State.fragmentEnd (s : State) (p k : Nat) : State :=
  let m := s.mac p
  if !s.preemptActive p || !s.expressWaits p || s.failed || s.paused p then s
  else if s.sealEn then
    match s.lastSeal p with
    | none => s
    | some o =>
      match s.suspPoint p k o with
      | some n => s.setSealTx (replaceFirst (· == o) (fun o => { o with susp := o.susp ++ [n], paused := true }) s.sealU.tx)
      | none => s
  else
    match m.cur with
    | none => s
    | some c =>
      match if c.pkt.express || c.number.isNone then none
          else fragPoint (s.fget .PORT_PREEMPT_CFG p fPORT_PREEMPT_CFG_ADD_FRAG_SIZE) c.frag c.pkt.bytes.length k with
      | some n => s.sendFragment p c (c.frag + n) c.pkt.bytes
      | none => s

-- The engine's transmit path

/-- A request segment of a frame has been presented and its response has not returned. -/
def SealOut.waits (o : SealOut) : Bool := !o.ended && decide (o.back < o.times.length)

/-- A response segment has not been released. -/
def SealOut.due (o : SealOut) : Bool := o.tx.isSome && decide (o.released < o.times.length)

/-- The cycle in which the next segment to be released was presented. -/
def SealOut.dueFrom (o : SealOut) : Nat := o.times.getD o.released 0

/-- R625, R630: the record, of those that satisfy a condition, whose segment `i` was presented first. -/
def firstBy (i : SealOut → Nat) (p : SealOut → Bool) (l : List SealOut) : Option SealOut :=
  (l.filter p).foldl (fun a o =>
    match a with
    | some x => if o.nums.getD (i o) 0 < x.nums.getD (i x) 0 then some o else some x
    | none => some o) none

/-- The record whose next segment to be released was presented first. -/
def firstSeg (p : SealOut → Bool) (l : List SealOut) : Option SealOut := firstBy (·.released) p l

/-- R625: the record whose next response is to return first. -/
def firstWait (p : SealOut → Bool) (l : List SealOut) : Option SealOut := firstBy (·.back) p l

/-- R216, R626, R628: the output byte at whose beat of a response segment the frame is found poisoned. -/
def SealOut.badAt (o : SealOut) (r : SealResp) : Option Nat :=
  let at' (k : Nat) : Nat := o.out.length + k / 128 * 128
  minOpt (r.par.map at') (if r.status == 3 then some (at' r.stAt) else none)

/-- R626, R628: a response segment is taken. -/
def SealOut.take (o : SealOut) (r : SealResp) : SealOut :=
  { o with out := o.out ++ r.data, ends := o.ends ++ [o.out.length + r.data.length], back := o.back + 1, ended := r.eof,
           status := if o.status = 0 then r.status.val else o.status, cut := minOpt o.cut (o.badAt r) }

/-- A record with another in its place; one that has ended, and with which the MAC has done, is gone. -/
def State.putSeal (s : State) (o o' : SealOut) : State :=
  s.setSealTx (if o'.ended && o'.tx.isNone then s.sealU.tx.erase o else replaceFirst (· == o) (fun _ => o') s.sealU.tx)

/-- R625, R627: the MAC has done with a frame at the engine; responses that are outstanding are still awaited. -/
def State.endSeal (s : State) (o : SealOut) : State := s.putSeal o { o with tx := none }

/-- R625 to R628, R644: the engine returns a transmit response segment. In fail-stop it is discarded, and its frame is
outstanding until its last. -/
def State.sealTxResponse (s : State) (chan : Nat) (r : SealResp) : State :=
  match firstWait (fun o => o.chan == chan && o.waits) s.sealU.tx with
  | none => if s.sealEn && !s.failed then s.sealViolation chan false r.fid.val 0 else s
  | some o =>
    let last := o.back == o.susp.length
    if s.failed then s.putSeal o { o with back := o.back + 1, ended := r.eof, tx := if r.eof then none else o.tx }
    else if r.fid.val != o.fid then s.sealViolation chan false r.fid.val 1
    else if r.sof != (o.back == 0) || r.resume != (o.back != 0) || r.eof != last || r.susp == last then
      s.sealViolation chan false o.fid 2
    else if r.status == 1 then s.sealViolation chan false o.fid 3
    else if r.late then s.sealViolation chan false o.fid 4
    else if r.cpar then s.sealViolation chan false o.fid 6
    else
      let o' := o.take r
      let s := s.putSeal o o'
      let s := if (o.badAt r).isSome then s.poisoned else s
      if o'.ended && !o.bypass && o'.status == 0 then s.portCount .SEAL_PORT_CNT o.port o.port fSEAL_PORT_CNT_TX_PROT else s

/-- R216, R630, R633 to R635, R755, R758: a returned segment is released to MAC framing: the frame starts, goes on, is
dropped, or is ended before the beat in which it is found poisoned. The bytes sent in earlier fragments are those that the
MAC holds for the frame. -/
def State.releaseSeg (s : State) (o : SealOut) (c : TxCur) : State :=
  let p := o.port
  let first := o.released == 0
  let drop (s : State) : State := if first then s.endSeal o else (s.endSeal o).modMac p (fun m => { m with held := none })
  let upto := o.ends.getD o.released o.out.length
  let out := o.out.take upto
  let at' := if first then c else (s.mac p).held.getD c
  let c := { c with pkt := { c.pkt with bytes := out }, frag := at'.frag, count := at'.count, crossed := at'.crossed }
  let bad := o.cut.any (fun n => decide (n < upto) || o.released == o.susp.length)
  let n := max c.frag (o.cut.getD c.frag)
  if o.status == 2 && first then (((drop s).clearOneStep c).sealDrop p c.pkt)
  else if bad && n = 0 then ((drop s).clearOneStep c).freePoisoned p c.pkt
  else if !s.portUp p then (drop s).cutLink p c c.frag
  else if bad || o.status == 2 then (drop s).cutPoisoned p c n
  else
    let s := if first then s else s.stat p 61 1
    if o.released < o.susp.length then
      (s.setSealTx (replaceFirst (· == o) (fun o => { o with released := o.released + 1 }) s.sealU.tx)).sendFragment p c
        out.length out
    else (drop s).modMac p (fun m => { m with cur := some c })

/-- R40, R164, R239, R627, R630: TX_DELAY cycles after a request segment's first beat its response is released, the
frames of the port's own that are due ahead of it; one that has not returned is a violation. A port whose frames take
two channels takes them in the order of their launch. -/
def State.sealTxRelease (s : State) (chan : Nat) : State :=
  match firstSeg (fun o => o.chan == chan && o.due) s.sealU.tx with
  | none => s
  | some o =>
    if s.failed || firstSeg (fun q => q.port == o.port && q.due) s.sealU.tx != some o then s
    else
      let s := s.elapseTo (o.dueFrom + s.fget .SEAL_CFG 0 fSEAL_CFG_TX_DELAY * s.power.cclk)
      if o.back ≤ o.released then s.sealViolation chan false o.fid 4
      else
        match o.tx with
        | some c => if (s.mac o.port).cur.isSome then s else (s.ownSend o.port).releaseSeg o c
        | none => s

-- The end of a frame

/-- R819: the last byte of a frame has left its port, its carrying symbol before it, and its timestamp is known. -/
def State.endsAt (s : State) (c : TxCur) : Nat := max (s.knownAt c) c.gear

/-- R211, R410, R435, R451, R508, R769, R819: the last byte of port p's frame has left, and its timestamp is known. `links`:
what the reads of its cells' links find as they are freed. -/
def State.egressEnd (s : State) (p : Nat) (delta : Int) (links : Ecc) : State :=
  match (s.mac p).cur with
  | none => s
  | some c =>
    if s.failed then s
    else
      let w := onWire c.pkt.bytes
      let s := (s.modMac p (fun m => { m with cur := none, lastTx := w })).onLine p (c.head ++ w.drop c.frag) false
      let s := s.loopItem p
        (match c.number with | none => .inl { bytes := w } | some _ => .inr (c.fragment (w.drop c.frag) true))
      let s := ((s.statTx p w w.length).elapseTo (s.endsAt c)).eccCheck links fGEN_INTEG_CORR_LINK .loftCtrlEcc 0
      if s.failed then s else (s.hostSent p c.pkt (s.measured c delta) (s.knownAt c) false).leavePort p c.pkt

end Sys2Proof.Machine
end

