-- ==== Sys2Proof/Machine/Mac.lean ====
section
/-! DEFINITION. The MAC and PCS of a port: the port map (R195), modes (R225), received frames and fragments (R217 to
R224, R248), flow control (R231 to R239), preemption's verification (R242), FEC counters (R205, R209), ordered sets
(R202) and alignment (R122 to R124). -/

namespace Sys2Proof.Machine

-- Received frames

/-- The FCS of a frame with its FCS is good (R220). -/
def fcsGood (b : List Byte) : Bool := decide (4 ≤ b.length) && b.drop (b.length - 4) == fcsOf (b.take (b.length - 4))

/-- PORT_MODE.MODE (R225). -/
def State.portMode (s : State) (p : Nat) : Nat := s.fget .PORT_MODE p fPORT_MODE_MODE

def State.maxFrame (s : State) (p : Nat) : Nat := s.fget .PORT_MAXFRAME p fPORT_MAXFRAME_MAX_FRAME
def State.preemptEn (s : State) (p : Nat) : Bool := s.fbit .PORT_PREEMPT_CFG p fPORT_PREEMPT_CFG_EN

/-- The SMD values of Clause 99 other than the SFD: verify, respond, first fragments and continuations. -/
def isSmd (b : Byte) : Bool :=
  [0x07, 0x19, 0xE6, 0x4C, 0x7F, 0xB3, 0x61, 0x52, 0x9E, 0x2A].contains b.toNat

/-- R206, R207: data of an uncorrectable codeword is marked as errored. -/
def State.fecMarks (s : State) (p : Nat) : Bool :=
  s.portFec p && !(s.fbit .PORT_FEC_CFG p fPORT_FEC_CFG_BYPASS_IND && (s.portSpeed p == 3 || s.portSpeed p == 4))

/-- R203, R702: received frames are discarded after they are counted. -/
def State.rxHalted (s : State) : Bool := s.failed || s.power.sleep.isSome

/-- R223, R229, R631: the settings that a frame whose first beat enters the MAC now is handled under. -/
def State.rxCfg (s : State) (p : Nat) : RxCfg :=
  { max := s.maxFrame p, keep := s.fbit .PORT_MAC_CFG p fPORT_MAC_CFG_RX_FCS_KEEP,
    diagDel := s.fbit .PORT_MODE p fPORT_MODE_DIAG_DELIVER && s.portMode p != 0,
    diagAll := s.fbit .PORT_MODE p fPORT_MODE_DIAG_ALL && s.portMode p == 1,
    sealEn := s.sealEn, sealCfg := s.rget .SEAL_PORT_CFG p }

/-- What a frame whose first beat enters the MAC now has with it. -/
def State.rxFirst (s : State) (p : Nat) (t : Path) : RxFirst :=
  { cfg := s.rxCfg p, path := t, deskew := s.deskewOf t.lane, life := (s.lane t.lane).life, cycle := s.now }

/-- R233: `n` quanta of port p in tenths of a ridge clock cycle. -/
def State.quanta (s : State) (p n : Nat) : Nat := n * (25600 / s.portRate p)

/-- R234: PORT_FC_STAT follows the pause timers. -/
def State.showPause (s : State) (p : Nat) : State :=
  let m := s.mac p
  let all := m.pauseEnd.isSome
  let cls := (List.range 8).foldl (fun a i =>
    if m.pfcEnd.has i then a ||| s.fget .PORT_PFC_MAP p (fPORT_PFC_MAP_CLASSES i) else a) 0
  (s.fset .PORT_FC_STAT p fPORT_FC_STAT_PAUSED (if all then 255 else cls)).fsetB .PORT_FC_STAT p fPORT_FC_STAT_PAUSE_ON all

/-- R232: loads a pause timer (8: PAUSE); zero ends the pause. -/
def State.loadPause (s : State) (p i n : Nat) : State :=
  let e := 10 * s.now + s.quanta p n
  s.modMac p (fun m =>
    if i = 8 then { m with pauseEnd := if n = 0 then none else some e }
    else { m with pfcEnd := if n = 0 then m.pfcEnd.del i else m.pfcEnd.put i e })

/-- R231, R232: a consumed flow-control frame. -/
def State.fcRx (s : State) (p : Nat) (b : List Byte) : State :=
  let op := be2 b 14
  let s := if op != 1 && op != 0x101 then s.stat p 10 1 else s
  let da := leNat (b.take 6)
  let ours := b.take 6 == [0x01, 0x80, 0xC2, 0x00, 0x00, 0x01] || da == s.fget .PORT_MAC_ADDR p fPORT_MAC_ADDR_ADDR
  let mode := s.fget .PORT_FC_CFG p fPORT_FC_CFG_RX_MODE
  if ours && mode == 1 && op == 1 then
    (((s.stat p 11 1).loadPause p 8 (be2 b 16)).showPause p).flag .PORT_MAC_EVT p fPORT_MAC_EVT_FC_RX
  else if ours && mode == 2 && op == 0x101 then
    let s := s.forEach (List.range 8) (fun s i =>
      if bitOf (byteAt b 17) i then (s.stat p (12 + i) 1).loadPause p i (be2 b (18 + 2 * i)) else s)
    (s.showPause p).flag .PORT_MAC_EVT p fPORT_MAC_EVT_FC_RX
  else s

/-- The frame that goes on to the course (R221, R222, R229, R277): the words in which its path to the loft shows parity
errors are marked, so that the cells that hold them are poisoned (R753). -/
def rxBuild (p : Nat) (x : RxFrame) (a : RxFirst) (trunc bad : Bool) : Frame :=
  let n := x.bytes.length
  let b := if trunc then x.bytes.take a.cfg.max else x.bytes.take (n - 4)
  let fcs := if trunc then [] else x.bytes.drop (n - 4)
  { port := p, bytes := b, fcs := fcs, length := n, trunc := trunc, fcsBad := bad,
    poison := ((x.parity.filter (· < b.length + fcs.length)).map (· / 256)).dedup,
    diagDel := a.cfg.diagDel, diagAll := a.cfg.diagAll, fcsKeep := a.cfg.keep,
    path := a.path, deskew := a.deskew, life := a.life, arrived := a.cycle, same := x.same }

/-- R636, R744: a frame that has been dealt goes to the engine, which in QUIESCE takes no new frame, or to the ingress
FIFO. -/
def State.rxGo (s : State) (f : Frame) : SealClass → State
  | .stale => (s.count .SEAL_PORT_ERR f.port fSEAL_PORT_ERR_RX_STALE).enterFifo { f with stale := true }
  | .engine slot gen =>
    if s.boot == bQUIESCE then s.holeAt f.port f.seq
    else if 128 ≤ (s.sealOut f.course true).length then
      (s.count .COURSE_RX_OVERRUN f.course fCOURSE_RX_OVERRUN_FRAMES).holeAt f.port f.seq
    else s.sealPresent f slot gen
  | _ => s.enterFifo f

/-- R335, R435, R636: a frame of port p bound for its course: classified at the seal port and dealt. `x`: what the reads of
the free lists find as its cells are allocated. -/
def State.rxToCourse (s : State) (p : Nat) (g : RxCfg) (f : Frame) (x : RxFrame) : State :=
  let cls := s.sealClass p g (f.bytes ++ f.fcs)
  if cls = .unprot then s.count .SEAL_PORT_ERR p fSEAL_PORT_ERR_UNPROT
  else
    let s := s.eccCheck x.alloc fGEN_INTEG_CORR_LINK .loftCtrlEcc 1
    if s.failed then s
    else
      let d := s.deal p
      let s := if f.poison.isEmpty then d.2.2 else d.2.2.poisoned
      s.rxGo { f with course := d.1, seq := d.2.1 } cls

/-- R167: a live pitch message; R224: a MAC control frame. -/
def isLpm (b : List Byte) : Bool := slice b 12 15 == [0x88, 0xB5, 0xF1]
def isCtl (b : List Byte) : Bool := slice b 12 14 == [0x88, 0x08]

/-- R167, R203, R217 to R224, R769, R770: a frame whose start byte is good is received whole. `marked`: it held an error
control character or errored FEC data; `a`: what it had with its first beat. DESIGN CHOICE (log 88): a frame that is
discarded in fail-stop, or while a SLEEP entry drains, counts as received and as discarded; as the MAC control frame or live
pitch message that it may be, it counts nothing. -/
def State.rxBody (s : State) (p : Nat) (x : RxFrame) (marked : Bool) (a : RxFirst) : State :=
  let b := x.bytes
  let n := b.length
  let trunc := decide (a.cfg.max < n)
  let bad := marked || (!trunc && !fcsGood b)
  if n < 64 then
    let s := if bad then s.stat p 5 1 else s.stat p 4 1
    if isLpm b && !s.rxHalted then (s.stat p 21 1).count .PORT_LPM_CNT p fPORT_LPM_CNT_BAD else s
  else
    let s := s.stat p (22 + sizeBucket n) 1
    let s := if trunc then s.stat p 3 1 else s
    let s := if bad then s.stat p 2 1 else s
    let s := if x.err then s.stat p 20 1 else s
    let s := if !trunc && !bad then s.statRxOk p b n else s
    if s.rxHalted then s.stat p 62 1
    else if isLpm b then
      let s := s.stat p 21 1
      if bad || trunc then s.count .PORT_LPM_CNT p fPORT_LPM_CNT_BAD else s.lpmAct p b
    else if isCtl b && !bad && !trunc then (s.stat p 9 1).fcRx p b
    else s.rxToCourse p a.cfg (rxBuild p x a trunc bad) x

/-- R217, R243: a frame discarded for its start byte. -/
def State.startBad (s : State) (p : Nat) (smd : Bool) : State :=
  let s := s.stat p 6 1
  if smd then s.stat p 58 1 else s

/-- R128: what port p receives of the frames and packets that `ok` accepts: in a near-end loopback the oldest that it has
sent, with the marks of its way; otherwise what comes from outside, of which nothing comes whole where some lanes are
looped. -/
def State.heard (s : State) (p : Nat) (ok : RxFrame → Bool) (x : RxFrame) : Option (RxFrame × State) :=
  if s.portLooped p then
    match (s.mac p).loopQ with
    | .inl y :: rest =>
      if ok y then
        some ({ y with fec := x.fec, parity := x.parity, same := x.same, alloc := x.alloc },
          s.modMac p (fun m => { m with loopQ := rest }))
      else none
    | _ => none
  else if ok x && !s.portNear p then some (x, s)
  else none

/-- R129: what is received on lanes in far-end loopback is re-sent on them after 64 symbols, whatever the state of the
port. -/
def State.echo (s : State) (p : Nat) (b : List Byte) : State :=
  s.forEach ((s.portLanes p).filter (fun n => s.loopMode n == 3)) fun s n =>
    s.modLane n (fun l => { l with echo := b, echoAt := s.now + symCycles (s.laneRate n) 64 })

/-- R217, R243: a frame is received, with its start byte. -/
def State.rxStart (s : State) (p : Nat) (x : RxFrame) (t : Path) : State :=
  if x.start = 0xD5 then s.rxBody p x (x.err || (x.fec && s.fecMarks p)) (s.rxFirst p t)
  else if s.preemptEn p then (if isSmd x.start then s else s.startBad p true)
  else s.startBad p (isSmd x.start)

/-- R217, R243: the next frame of those that `ok` accepts is received. -/
def State.rxSome (s : State) (p : Nat) (ok : RxFrame → Bool) (x : RxFrame) (t : Path) : State :=
  let s := s.echo p (preamble x.start ++ x.bytes)
  if !s.portUp p then s
  else match s.heard p ok x with
    | some (x, s) => s.rxStart p x t
    | none => s

/-- A packet of Clause 99 with the start byte of a verify or respond packet. -/
def isMPacket (x : RxFrame) : Bool := x.start == smdV || x.start == smdR

/-- R217, R243: a frame is received: with preemption disabled, one with the start byte of a verify or respond packet too. -/
def State.rxFrame (s : State) (p : Nat) (x : RxFrame) (t : Path) : State :=
  s.rxSome p (fun y => !isMPacket y || !s.preemptEn p) x t

/-- R224, R231: a flow-control frame is received. -/
def State.fcFrameRx (s : State) (p : Nat) (x : RxFrame) (t : Path) : State :=
  s.rxSome p (fun y => isCtl y.bytes && !isMPacket y) x t

/-- R167, R168: a live pitch message is received. -/
def State.lpmRx (s : State) (p : Nat) (x : RxFrame) : State := s.rxSome p (fun y => isLpm y.bytes && !isMPacket y) x {}

/-- R818: the last beat of the oldest frame of port p still arriving. -/
def State.rxFrameLastBeat (s : State) (p : Nat) : State :=
  match List.find? (fun (e : Nat × Frame) => e.2.port == p && !e.2.host && !e.2.done) s.frames with
  | some e => s.rxLastBeat e.1
  | none => s

/-- R249: an assembly error discards the open frame. -/
def State.assemblyError (s : State) (p : Nat) : State := (s.modMac p (fun m => { m with rxOpen := none })).stat p 57 1

/-- R206, R219, R248: a fragment in sequence is kept with the marks of those before it, or completes its frame. -/
def State.fragTake (s : State) (p : Nat) (x : Fragment) (o : RxOpen) : State :=
  let o := { o with bytes := o.bytes ++ x.data, frags := o.frags + 1, err := o.err || x.err,
                    parity := o.parity ++ x.parity.map (· + o.bytes.length),
                    bad := o.bad || x.err || (x.fec && s.fecMarks p) }
  if x.final then
    let s := s.modMac p (fun m => { m with rxOpen := none })
    let s := if 2 ≤ o.frags then s.stat p 59 1 else s
    s.rxBody p { bytes := o.bytes, err := o.err, parity := o.parity, alloc := x.alloc } o.bad o.first
  else if x.crcOk then s.modMac p (fun m => { m with rxOpen := some o })
  else s.assemblyError p

/-- R128: the fragment that port p receives: in a near-end loopback the oldest that it has sent. -/
def State.heardFragment (s : State) (p : Nat) (x : Fragment) : Option (Fragment × State) :=
  if s.portLooped p then
    match (s.mac p).loopQ with
    | .inr y :: rest =>
      some ({ y with fec := x.fec, parity := x.parity, alloc := x.alloc }, s.modMac p (fun m => { m with loopQ := rest }))
    | _ => none
  else if s.portNear p then none
  else some (x, s)

/-- R129, R211, R244: what port p receives with a fragment: preamble and start byte, its data and its mCRC, which is an open
value where it is bad. -/
def State.fragmentLine (s : State) (p : Nat) (x : Fragment) : List Byte :=
  let old := match (s.mac p).rxOpen with | some o => if x.cont then o.bytes else [] | none => []
  let crc := if x.final then [] else if x.crcOk then mcrcOf (old ++ x.data) else leBytes 4 (Config.freeValue 14 s.now)
  (if x.cont then List.replicate 6 0x55 ++ [smdCont x.frame, fragByte x.count] else preamble (smdStart x.frame)) ++
    x.data ++ crc

/-- R243, R248, R249: a fragment is received. DEDUCED (log 78): a continuation whose start byte names another frame number
is out of sequence, as one with another fragment count is. -/
def State.rxFragment (s : State) (p : Nat) (x : Fragment) (t : Path) : State :=
  let s := s.echo p (s.fragmentLine p x)
  if !s.portUp p then s
  else match s.heardFragment p x with
    | none => s
    | some (x, s) =>
      if !s.preemptEn p then s.startBad p true
      else if x.cont then
        let s := s.stat p 60 1
        match (s.mac p).rxOpen with
        | none => s.assemblyError p
        | some o =>
          if x.count.val != o.next || x.frame.val != o.frame then s.assemblyError p
          else s.fragTake p x { o with next := (o.next + 1) % 4 }
      else
        let s := if (s.mac p).rxOpen.isSome then s.assemblyError p else s
        s.fragTake p x { bytes := [], frame := x.frame, next := 0, frags := 0, first := s.rxFirst p t }

-- Flow control

/-- R281: the first CCLK edge at or after an instant in tenths of a ridge clock cycle. -/
def State.cclkEdge (s : State) (e : Nat) : Nat :=
  let k := 10 * s.power.cclk
  s.power.cclkAt + (e - 10 * s.power.cclkAt + k - 1) / k * s.power.cclk

/-- R233, R235: a pause timer (8: PAUSE) of port p expires, at the first CCLK edge at or after its instant. -/
def State.pauseExpiry (s : State) (p i : Nat) : State :=
  let m := s.mac p
  let e := if i = 8 then m.pauseEnd else m.pfcEnd.find? i
  match e with
  | none => s
  | some e => ((s.elapseTo (s.cclkEdge e)).loadPause p i 0).showPause p

/-- R238: half of TX_QUANTA has passed since the last frame of a pause (8: PAUSE) still asserted. -/
def State.fcResend (s : State) (p i : Nat) : State :=
  let on := if i = 8 then s.fcTxMode p == 1 && s.fbit .PORT_FC_TX_STAT p fPORT_FC_TX_STAT_PAUSE
    else s.fcTxMode p == 2 && s.asserted p i
  match (s.mac p).fcSent.find? i with
  | some t =>
    if on then
      (s.elapseTo (t + (s.quanta p (s.fget .PORT_FC_CFG p fPORT_FC_CFG_TX_QUANTA / 2) + 9) / 10)).fcFall p i true
    else s
  | none => s

-- Verification of preemption

/-- R242: VERIFY_STATE. -/
def State.verifyState (s : State) (p : Nat) : Nat := s.fget .PORT_PREEMPT_STAT p fPORT_PREEMPT_STAT_VERIFY_STATE
def State.setVerify (s : State) (p v : Nat) : State := s.fset .PORT_PREEMPT_STAT p fPORT_PREEMPT_STAT_VERIFY_STATE v

/-- R240, R242: a verify packet waits for the express path. -/
def State.verifySend (s : State) (p : Nat) : State :=
  (s.modMac p (fun m => { m with verifyDue := true, verifyEnd := none })).setVerify p 2

/-- R242: verification starts: at once while the port is UP, otherwise when it enters UP. -/
def State.verifyStart (s : State) (p : Nat) : State :=
  let s := s.modMac p (fun m => { m with verifyTries := 0, verifyEnd := none, verifyDue := false })
  if !s.preemptEn p || s.fbit .PORT_PREEMPT_CFG p fPORT_PREEMPT_CFG_VERIFY_DIS then s.setVerify p 0
  else if s.portUp p then s.verifySend p
  else s.setVerify p 1

/-- R242: the verify interval ends. -/
def State.verifyTimer (s : State) (p : Nat) : State :=
  match (s.mac p).verifyEnd with
  | none => s
  | some e =>
    let s := s.elapseTo e
    if (s.mac p).verifyTries < 3 then s.verifySend p
    else ((s.modMac p (fun m => { m with verifyEnd := none })).setVerify p 4).flag .PORT_MAC_EVT p fPORT_MAC_EVT_VERIFY_FAIL

/-- R243: a packet of Clause 99 with a start byte is received: with preemption disabled it is discarded. -/
def State.mPacketRx (s : State) (p : Nat) (start : Byte) (f : State → State) : State :=
  let s := s.echo p (preamble start ++ mPacket)
  if !s.portUp p then s
  else match s.heard p (fun y => y.start == start) { bytes := mPacket, start := start } with
    | none => s
    | some (_, s) => if s.preemptEn p then f s else s.startBad p true

/-- R240, R243: a verify packet is answered with a respond packet, which waits for the express path. -/
def State.verifyRx (s : State) (p : Nat) : State :=
  s.mPacketRx p smdV fun s => s.modMac p (fun m => { m with respondDue := true })

/-- R242, R243: a respond packet ends verification. -/
def State.respondRx (s : State) (p : Nat) : State :=
  s.mPacketRx p smdR fun s =>
    if s.verifyState p == 2 then
      ((s.modMac p (fun m => { m with verifyEnd := none, verifyDue := false })).setVerify p 3).flag
        .PORT_MAC_EVT p fPORT_MAC_EVT_VERIFY_OK
    else s

-- FEC and ordered sets

/-- R205, R208 to R210: a codeword is decoded; `lanes` gives its corrected symbols by physical lane of the port, none
for an uncorrectable one. -/
def State.fecDecode (s : State) (p : Nat) (lanes : Option (List Nat)) : State :=
  if !s.portFec p || !s.portUsed p || !s.fbit .PORT_FEC_STAT p fPORT_FEC_STAT_LOCKED then s
  else
    let s := s.modMac p (fun m => { m with fecCw := m.fecCw + 1 })
    match lanes with
    | none => (s.count .PORT_FEC_CNT p fPORT_FEC_CNT_UNCORR_CW).flag .PORT_FEC_EVT p fPORT_FEC_EVT_UNCORR
    | some l =>
      let l := l.take (s.portLanes p).length
      let n := l.sum
      if n = 0 || 15 < n then s
      else
        let s := (s.count .PORT_FEC_CNT p fPORT_FEC_CNT_CORR_CW).satAdd .PORT_FEC_SYM p fPORT_FEC_SYM_CORR_SYM n
        let s := s.forEach l.zipIdx (fun s e => s.satAdd .PORT_FEC_LANE (p * 8 + e.2) fPORT_FEC_LANE_SYM e.1)
        (s.count .PORT_FEC_HIST (p * 15 + (n - 1)) fPORT_FEC_HIST_CW).modMac p (fun m => { m with fecSym := m.fecSym + n })

/-- R209, R210: a window of 8,192 codewords ends. -/
def State.fecWindow (s : State) (p : Nat) : State :=
  let m := s.mac p
  if m.fecCw < 8192 || !s.portFec p then s
  else
    let thr := s.fget .PORT_FEC_CFG p fPORT_FEC_CFG_DEGRADE_THR
    let d := thr != 0 && decide (thr < m.fecSym)
    let was := s.fbit .PORT_FEC_STAT p fPORT_FEC_STAT_DEGRADED
    let s := (s.setMac p { m with fecCw := 0, fecSym := 0 }).fsetB .PORT_FEC_STAT p fPORT_FEC_STAT_DEGRADED d
    if d && !was then s.flag .PORT_FEC_EVT p fPORT_FEC_EVT_DEGRADE else s

/-- R128, R202: the ordered sets that port p receives: in a near-end loopback those that it sends. -/
def State.faultKind (s : State) (p kind : Nat) : Nat :=
  if !s.portLooped p then kind
  else if s.fbit .PORT_MAC_STAT p fPORT_MAC_STAT_TX_LF then 1
  else if s.fbit .PORT_MAC_STAT p fPORT_MAC_STAT_TX_RF then 2 else 0

/-- R129, R202: a fault ordered set on the line. PRESUMED (log 78): the sequence ordered set of IEEE 802.3. -/
def orderedSet (kind : Nat) : List Byte := if kind = 0 then [] else [0x9C, 0, 0, BitVec.ofNat 8 kind]

/-- R128, R129, R202: ordered sets start or stop being received: 0 none, 1 local fault, 2 remote fault. A port with only
some lanes in a near-end loopback receives none whole. -/
def State.faultRx (s : State) (p kind : Nat) : State :=
  let s := s.echo p (orderedSet kind)
  if s.portNear p && !s.portLooped p then s
  else
  let kind := s.faultKind p kind
  let lf := kind == 1
  let rf := kind == 2
  let was1 := s.fbit .PORT_MAC_STAT p fPORT_MAC_STAT_RX_LF
  let was2 := s.fbit .PORT_MAC_STAT p fPORT_MAC_STAT_RX_RF
  let s := (s.fsetB .PORT_MAC_STAT p fPORT_MAC_STAT_RX_LF lf).fsetB .PORT_MAC_STAT p fPORT_MAC_STAT_RX_RF rf
  let s := if lf && !was1 then s.flag .PORT_MAC_EVT p fPORT_MAC_EVT_RX_LF else s
  if rf && !was2 then s.flag .PORT_MAC_EVT p fPORT_MAC_EVT_RX_RF else s

-- Alignment

/-- Every lane of a used port is in DATA. -/
def State.allData (s : State) (p : Nat) : Bool := s.portUsed p && (s.portLanes p).all (fun n => s.laneState n == lDATA)
def State.markerLock (s : State) (p : Nat) : Bool := s.fbit .PORT_LINK_STAT p fPORT_LINK_STAT_MARKER_LOCK

/-- R122, R201: every PCS lane of the port has marker lock. -/
def State.markers (s : State) (p : Nat) : State :=
  if s.allData p then s.flag .PORT_LINK_STAT p fPORT_LINK_STAT_MARKER_LOCK else s

/-- R126: a PCS lane loses marker lock. DESIGN CHOICE (log 76): with every lane still in DATA, SKEW_OVER stands as it
was. -/
def State.markersLost (s : State) (p : Nat) : State :=
  (s.fset .PORT_LINK_STAT p fPORT_LINK_STAT_MARKER_LOCK 0).forEach (s.portLanes p)
    (fun s n => s.fset .LANE_SKEW n fLANE_SKEW_VALID 0)

/-- R123: the skew limit of a lane rate in symbols. -/
def skewLimit (rate : Nat) : Nat := if rate = 0 then 21250 else if rate = 1 then 10625 else 5312

/-- R122 to R124: the skew of each lane of the port in symbols, in ascending lane number. -/
def State.skewMeasured (s : State) (p : Nat) (skews : List Nat) : State :=
  let ls := s.portLanes p
  if !s.allData p || !s.markerLock p || ls.length < 2 then s
  else
    let l := ls.zip (skews ++ List.replicate (ls.length - skews.length) 0)
    let s := s.forEach l (fun s e =>
      (s.fset .LANE_SKEW e.1 fLANE_SKEW_SKEW_SYM (min 65535 e.2)).flag .LANE_SKEW e.1 fLANE_SKEW_VALID)
    let rate := s.laneRate (ls.headD 0)
    let top := (l.map (·.2)).foldl max 0
    let s := s.fset .PORT_LINK_STAT p fPORT_LINK_STAT_MAX_SKEW_PS
      (min 0xFFFFF ((top * 1000000000 + rateKbd rate / 2) / rateKbd rate))
    let big := decide (skewLimit rate < top)
    let was := s.fbit .PORT_LINK_STAT p fPORT_LINK_STAT_SKEW_OVER
    let s := s.fsetB .PORT_LINK_STAT p fPORT_LINK_STAT_SKEW_OVER big
    if big && !was then s.flag .PORT_LINK_EVT p fPORT_LINK_EVT_SKEW_LIMIT else s

-- The port map and modes

/-- The parse registers of R343 with their instances in a course. -/
def pairRegs : List (RegId × Nat) :=
  [(.COURSE_PARSE_CFG, 1), (.COURSE_UDP_PORTS, 1), (.COURSE_SLOW_CFG, 1), (.COURSE_KSEL, 64), (.COURSE_KPROF, 1536)]

/-- R343: the even course's parse registers are copied to the odd course. -/
def State.copyParse (s : State) (c : Nat) : State :=
  s.forEach pairRegs (fun s r => s.forEach (List.range r.2) (fun s i =>
    s.rset r.1 ((c + 1) * r.2 + i) (s.rget r.1 (c * r.2 + i))))

/-- R197, R210: the FEC counters of port p return to zero. -/
def State.fecClear (s : State) (p : Nat) : State :=
  let s := (s.rset .PORT_FEC_CNT p 0).rset .PORT_FEC_SYM p 0
  let s := s.forEach (List.range 8) (fun s k => s.rset .PORT_FEC_LANE (p * 8 + k) 0)
  s.forEach (List.range 15) (fun s k => s.rset .PORT_FEC_HIST (p * 15 + k) 0)

/-- R197, R769: a port that has become unused: its counters. -/
def State.portGone (s : State) (p : Nat) : State :=
  let s := s.forEach (List.range 64) (fun s k => s.rset .STATS_PORT (p * 64 + k) 0)
  let s := s.forEach (List.range 8) (fun s i => s.rset .PORT_ADM_DROP (acctOf p i) 0)
  (s.forEach [RegId.PORT_DIAG_CNT, .PORT_LPM_CNT, .SEAL_PORT_CNT, .SEAL_PORT_ERR] (fun s id => s.rset id p 0)).fecClear p

/-- R205, R210: what the FEC counters of port p no longer count after a change of its width: all of them without FEC, with
the window in progress, and those of lanes beyond its own. -/
def State.fecWidth (s : State) (p : Nat) : State :=
  if s.portFec p then
    s.forEach ((List.range 8).drop (s.portLanes p).length) (fun s k => s.rset .PORT_FEC_LANE (p * 8 + k) 0)
  else (s.fecClear p).modMac p (fun m => { m with fecCw := 0, fecSym := 0 })

/-- R195 to R198, R452: a write of COURSE_PORT_MAP; the pacing credit of a port whose width of R191 changes is reset. -/
def State.portMapWrite (s : State) (c : Nat) (w : Word) : State :=
  let w := w &&& 0x1FFFFFFF
  let cause := s.mapCause c w
  if cause != 0 then (s.flag .COURSE_MAP_STAT c fCOURSE_MAP_STAT_REFUSED).fset .COURSE_MAP_STAT c fCOURSE_MAP_STAT_CAUSE cause
  else
    let ports := (List.range 8).map (pairCourse (4 * c) * 4 + ·)
    let s' := s.rset .COURSE_PORT_MAP c w
    let s' := if mapPair w && c % 2 == 0 then s'.copyParse c else s'
    let gone := ports.filter (fun p => s.portUsed p && !s'.portUsed p)
    let moved := ports.filter (fun p =>
      s'.portSpeed p != s.portSpeed p || (s'.portLanes p).length != (s.portLanes p).length)
    ((s'.forEach gone State.portGone).forEach ports State.fecWidth).forEach moved State.paceReset

/-- R137, R208: a port leaves TEST mode. -/
def State.leaveTest (s : State) (p : Nat) : State :=
  let s := (s.fset .PORT_FEC_CFG p fPORT_FEC_CFG_BYPASS_CORR 0).fset .PORT_FEC_STAT p fPORT_FEC_STAT_BYPASSING 0
  s.forEach (s.portLanes p) (fun s n => (s.fset .LANE_PATTERN n fLANE_PATTERN_GEN 0).fset .LANE_PATTERN n fLANE_PATTERN_CHK 0)

/-- R225, R229: a write of PORT_MODE. -/
def State.portModeWrite (s : State) (p : Nat) (v : Word) : State :=
  let was := s.portMode p
  let s := s.rset .PORT_MODE p (v &&& 0xF)
  if was == 2 && s.portMode p != 2 then s.leaveTest p else s

end Sys2Proof.Machine
end

