-- ==== Sys2Proof/Machine/Settle.lean ====
section
/-! DEFINITION. What follows from a port's lanes, faults and configuration at once: its link state (R121, R123, R126,
R340), what a link that goes up or down brings about (R204, R242, R335, R452), HELD (R204), the ordered sets sent
(R202, R203), FEC lock, and the squelch of recovered clocks (R274). `State.settle` runs after every command. -/

namespace Sys2Proof.Machine

/-- Sets a one-bit field that differs. -/
def State.follow (s : State) (id : RegId) (i : Nat) (f : Field) (b : Bool) : State :=
  if s.fbit id i f == b then s else s.fsetB id i f b

/-- R123, R124: the skew of a port of several lanes is measured and within its limit. -/
def State.skewOk (s : State) (p : Nat) : Bool :=
  decide ((s.portLanes p).length < 2) ||
    ((s.portLanes p).all (fun n => s.fbit .LANE_SKEW n fLANE_SKEW_VALID) &&
      !s.fbit .PORT_LINK_STAT p fPORT_LINK_STAT_SKEW_OVER)

/-- R340: a frame of the old sequence of port p is unreleased. -/
def State.unreleased (s : State) (p : Nat) : Bool :=
  s.frames.any (fun e => e.2.port == p && !e.2.host && e.2.seq.isSome) || s.sealU.rx.any (fun o => o.port == p)

def State.linkState (s : State) (p : Nat) : Nat := s.fget .PORT_LINK_STAT p fPORT_LINK_STAT_LINK_STATE

/-- R121: the link state that a port's lanes and PCS give. -/
def State.linkRule (s : State) (p : Nat) : Nat :=
  if !s.portUsed p || !(s.portLanes p).any s.laneEn then 0
  else if !((s.portLanes p).all (fun n => s.laneEn n && s.laneState n == lDATA)) then 1
  else if s.markerLock p && s.skewOk p && !(s.sprayed p && s.linkState p != 3 && s.unreleased p) then 3
  else 2

/-- R126: marker lock and the skew are lost with any lane's DATA. -/
def State.dropMarkers (s : State) (p : Nat) : State :=
  if s.allData p then s
  else
    let s := s.forEach (s.portLanes p) (fun s n => s.follow .LANE_SKEW n fLANE_SKEW_VALID false)
    (s.follow .PORT_LINK_STAT p fPORT_LINK_STAT_MARKER_LOCK false).follow .PORT_LINK_STAT p fPORT_LINK_STAT_SKEW_OVER false

/-- R126, R242, R335, R452: a port enters UP. -/
def State.linkUp (s : State) (p : Nat) : State :=
  let s := (s.fset .PORT_LINK_STAT p fPORT_LINK_STAT_LINK_STATE 3).flag .PORT_LINK_EVT p fPORT_LINK_EVT_UP
  let s := s.modMac p (fun m => { m with nextSeq := 0, oldest := 0, released := [], rxOpen := none })
  (s.paceReset p).verifyStart p

/-- R126: a frame of the port, if there is one, is cut with its link. -/
def State.cutIf (s : State) (p : Nat) (o : Option TxCur) (n : TxCur → Nat) : State :=
  match o with | some c => s.cutLink p c (n c) | none => s

/-- R126, R204, R242: a port leaves UP. -/
def State.linkDown (s : State) (p st : Nat) : State :=
  let s := (s.fset .PORT_LINK_STAT p fPORT_LINK_STAT_LINK_STATE st).flag .PORT_LINK_EVT p fPORT_LINK_EVT_DOWN
  let m := s.mac p
  let atEngine := s.sealU.tx.any (fun o => o.port == p && o.tx.isSome && decide (0 < o.released))
  let s := s.setMac p { m with cur := none, held := if atEngine then m.held else none, rxOpen := none,
                               verifyDue := false, respondDue := false, loopQ := [], finishing := false }
  let s := s.cutIf p m.cur (s.cutAt p)
  (if atEngine then s else s.cutIf p m.held TxCur.frag).verifyStart p

/-- R121: a port's link state follows. -/
def State.followLink (s : State) (p : Nat) : State :=
  let s := s.dropMarkers p
  let old := s.linkState p
  let new := s.linkRule p
  if new = old then s
  else if new = 3 then s.linkUp p
  else if old = 3 then s.linkDown p new
  else s.fset .PORT_LINK_STAT p fPORT_LINK_STAT_LINK_STATE new

/-- R204: the scheduler serves no class of the port. -/
def State.heldRule (s : State) (p : Nat) : Bool :=
  !s.portUsed p || !s.portUp p || s.fbit .PORT_MAC_STAT p fPORT_MAC_STAT_RX_LF ||
    s.fbit .PORT_MAC_STAT p fPORT_MAC_STAT_RX_RF || s.failed ||
    (s.portMode p == 2 && (s.portLanes p).any (fun n => s.fget .LANE_PATTERN n fLANE_PATTERN_GEN != 0))

/-- PORT_FEC_STAT.LOCKED, without which no codeword is decoded (R205). DESIGN CHOICE (log 89): every FEC lane is taken
to have codeword lock while every PCS lane has marker lock, since the spec ties neither to anything else. -/
def State.followFec (s : State) (p : Nat) : State :=
  let new := s.portUsed p && s.portFec p && s.markerLock p
  let old := s.fbit .PORT_FEC_STAT p fPORT_FEC_STAT_LOCKED
  if new == old then s
  else
    let s := s.fsetB .PORT_FEC_STAT p fPORT_FEC_STAT_LOCKED new
    if old then s.flag .PORT_FEC_EVT p fPORT_FEC_EVT_LOCK_LOSS else s

/-- R39: a pair's course reports that its port is being sprayed. -/
def State.followSpray (s : State) (p : Nat) : State :=
  if p % 8 = 0 then s.follow .COURSE_SPRAY_STAT (pairCourse p) fCOURSE_SPRAY_STAT_ACTIVE (s.sprayed p && s.portUp p) else s

/-- R247: once the preemptable frame in progress has ended, a write of EN = 0 stops preemption. -/
def State.finish (s : State) (p : Nat) : State :=
  if (s.mac p).finishing && !s.preInProgress p then s.modMac p (fun m => { m with finishing := false }) else s

/-- What port p reports, given its link state, and the verify and respond packets it sends at once (R242, R243). -/
def State.showPort (s : State) (p : Nat) : State :=
  let s := s.follow .PORT_MAC_STAT p fPORT_MAC_STAT_HELD (s.heldRule p)
  let s := s.follow .PORT_MAC_STAT p fPORT_MAC_STAT_TX_LF (s.failed && s.allData p)
  let s := s.follow .PORT_MAC_STAT p fPORT_MAC_STAT_TX_RF
    (!s.failed && s.allData p && s.fbit .PORT_MAC_STAT p fPORT_MAC_STAT_RX_LF)
  let s := s.finish p
  let s := (s.follow .PORT_PREEMPT_STAT p fPORT_PREEMPT_STAT_ACTIVE (s.preemptActive p)).mSend p
  (s.followFec p).followSpray p

/-- What follows from any command: the link states first, then what the ports report. -/
def State.settle (s : State) : State :=
  ((s.forEach (List.range 16) State.followLink).forEach (List.range 16) State.showPort).rclkFollowAll

end Sys2Proof.Machine
end

