-- ==== Sys2Proof/Machine/Power.lean ====
section
/-! DEFINITION. The power controller: operating points and the regulator (R693 to R696), the surge governor (R697 to
R701), DOZE (R684), SLEEP and the wake from it (R702 to R707), fences (R690, R691), the eaves hold (R708 to R710), the
watch lanes (R711 to R713) and the ligger port (R714 to R717). -/

namespace Sys2Proof.Machine

-- Register fields kept or returned to Reset as a whole

/-- The register of a key of `State.regs`. -/
def regOf (key : Nat) : Option RegId := regIds[key % 512]?

/-- A register value with every field that `keep` does not name at its Reset value. -/
def keepFields (keep : FieldDesc → Bool) (id : RegId) (i : Nat) (v : Word) : Word :=
  id.desc.fields.foldl
    (fun a f => if keep f then Field.put ⟨f.lo, f.w⟩ a (Field.get ⟨f.lo, f.w⟩ v) else a) (id.resetAt i)

/-- Returns to Reset, in every register that `which` names, the fields that `keep` does not name. -/
def State.keepRegs (s : State) (which : RegId → Nat → Bool) (keep : RegId → Nat → FieldDesc → Bool) : State :=
  s.forEach s.regs fun s e =>
    match regOf e.1 with
    | none => s
    | some id =>
      if which id (e.1 / 512) then s.rset id (e.1 / 512) (keepFields (keep id (e.1 / 512)) id (e.1 / 512) e.2) else s

/-- The domain of a register (R57). -/
def domOf (id : RegId) (i : Nat) : Nat := regDomain (addrOf id i)

def State.modPower (s : State) (f : PowerUnit → PowerUnit) : State := { s with power := f s.power }

-- Operating points

/-- POWER_STAT.OPP: 0 SURGE, 1 NOMINAL, 2 ECO, 3 LOW. -/
def State.opp (s : State) : Nat := s.fget .POWER_STAT 0 fPOWER_STAT_OPP

/-- R693: `volt_req_o` of an operating point. -/
def oppVolt (o : Nat) : Nat := if o = 0 then 8 else if o = 1 then 4 else if o = 2 then 2 else 1

/-- R49: the CCLK divisor of an operating point. -/
def oppDiv (o : Nat) : Nat := if o = 0 then 3 else if o = 1 then 4 else if o = 2 then 5 else 8

def State.lockLow (s : State) : Bool := s.fbit .POWER_THERM_STAT 0 fPOWER_THERM_STAT_LOCK_LOW
def State.surgePermit (s : State) : Bool := s.fbit .POWER_THERM_STAT 0 fPOWER_THERM_STAT_PERMIT

/-- R682, R699, R700: an operating point that may not be taken. -/
def State.oppDenied (s : State) (o : Nat) : Bool := (o == 0 && !s.surgePermit) || (s.lockLow && decide (o < 3))

/-- R694: a change of operating point starts. -/
def State.oppStart (s : State) (o : Nat) (cmd : Bool) : State :=
  let up := decide (o < s.opp)
  let ch : OppChange := { target := o, former := s.power.voltReq, raising := up, step := if up then .ack else .divisor,
                          start := s.now, cmd := cmd }
  (s.modPower fun p => { p with change := some ch, voltReq := if up then oppVolt o else p.voltReq }).flag
    .POWER_STAT 0 fPOWER_STAT_CHANGING

-- The POWER_STATE command in progress

/-- R684: the mask of the domains in DOZE. -/
def State.dozeMask (s : State) : Nat := ((List.range 15).filter (fun d => s.dom d == 1)).foldl (fun a d => a + 2 ^ d) 0

/-- The POWER_STATE command in progress (R562). -/
def State.powerCmd (s : State) : Option AdminCur :=
  match s.adminCur with
  | some c => if cb c.bytes 0 1 == 0x40 && c.phase != 0 then some c else none
  | none => none

/-- The entry into DOZE is over. -/
def State.endDoze (s : State) : State :=
  (s.modPower fun p => { p with doze := none }).fset .POWER_STAT 0 fPOWER_STAT_ENTERING 0

/-- R682, R684: the operating point is reached: the command completes once the requested state is. -/
def State.powerReached (s : State) (c : AdminCur) : State :=
  match cb c.bytes 8 1 with
  | 0 => if (List.range 15).any (fun d => s.dom d == 1) || s.power.waking != [] then s else s.finishCur aOK 0 0 0
  | 1 =>
    match s.power.doze with
    | some d => if d.left == [] || d.closed then s.endDoze.finishCur aOK 0 s.dozeMask s.opp else s
    | none => s
  | _ => s

/-- R682, R701: the command in progress goes on: phase 1 waits for its operating point, phase 2 has it. -/
def State.powerGo (s : State) : State :=
  match s.powerCmd with
  | none => s
  | some c =>
    if c.phase == 1 then
      if s.power.change.isSome then s
      else if s.opp == cb c.bytes 9 1 then
        let s : State := { s with adminCur := some { c with phase := 2 } }
        s.powerReached c
      else if s.oppDenied (cb c.bytes 9 1) then s.endDoze.finishCur aWrongState 0 0 0
      else s.oppStart (cb c.bytes 9 1) true
    else if c.phase == 2 then s.powerReached c
    else s

/-- R699, R700: the governor lowers the operating point to `o`. -/
def State.govLower (s : State) (o : Nat) : State :=
  let s := if s.opp == 0 then s.flag .POWER_THERM_EVT 0 fPOWER_THERM_EVT_GOV_STEP else s
  s.oppStart o false

/-- R693: `volt_req_o` takes the level v again, with the divisor unchanged: the handshake of that change follows. -/
def State.voltReturn (s : State) (v : Nat) : State :=
  if s.power.voltReq == v then s
  else
    let ch : OppChange :=
      { target := s.opp, former := s.power.voltReq, raising := false, step := .ack, cmd := false, start := s.now }
    (s.modPower fun p => { p with voltReq := v, change := some ch }).flag .POWER_STAT 0 fPOWER_STAT_CHANGING

/-- R701: the governor's ceiling is applied when nothing changes. -/
def State.ceilingGo (s : State) : State :=
  match s.power.ceiling with
  | none => s
  | some o =>
    if s.power.change.isSome then s
    else
      let s := s.modPower fun p => { p with ceiling := none }
      if s.opp < o then s.govLower o else s

/-- R694, R695: a change ends; `ok` says that its handshake completed. A raise whose handshake is late returns
`volt_req_o` to its former value. -/
def State.oppEnd (s : State) (ch : OppChange) (ok : Bool) : State :=
  let s := (s.modPower fun p => { p with change := none }).fset .POWER_STAT 0 fPOWER_STAT_CHANGING 0
  let s := if ch.cmd && !ok && s.powerCmd.isSome then s.endDoze.finishCur aFailed 1 0 0 else s
  let s := if ch.raising && !ok then s.voltReturn ch.former else s
  s.ceilingGo.powerGo

/-- R702: SLEEP is reached: the handshake of step 5 has completed, and the watch lanes are armed. -/
def State.sleepReached (s : State) (e : SleepEntry) : State :=
  let s := s.modPower fun p => { p with sleep := some { e with step := .asleep, since := s.now } }
  (s.fset .POWER_STAT 0 fPOWER_STAT_STATE 2).fset .POWER_STAT 0 fPOWER_STAT_ENTERING 0

/-- R693, R694, R702, R706: `volt_ack_i` has been sampled 0 and then 1. -/
def State.voltAck (s : State) : State :=
  match s.power.change with
  | some ch =>
    if ch.step = .ack then
      if ch.raising then s.modPower fun p => { p with change := some { ch with step := .divisor } }
      else s.oppEnd ch true
    else s
  | none =>
    match s.power.sleep with
    | some e =>
      if e.step = .waking then s.modPower fun p => { p with sleep := some { e with step := .locking } }
      else if e.step = .settling then s.sleepReached e
      else s
    | none => s

/-- R695: the handshake of a change does not complete in time. -/
def State.vregTimeout (s : State) : State :=
  match s.power.change with
  | none => s
  | some ch =>
    if ch.step = .ack then
      let s := s.elapseTo (ch.start + s.fget .POWER_CFG 0 fPOWER_CFG_VREG_TIMEOUT * usCycles)
      (s.flag .POWER_EVT 0 fPOWER_EVT_VREG_TIMEOUT).oppEnd ch false
    else s

/-- R698: ridge clock cycles at SURGE in the current bucket. -/
def State.surgeNow (s : State) : Nat :=
  if s.power.cclk = 3 then s.power.surgeCur + (s.now - s.power.surgeAt) else s.power.surgeCur

/-- R698: the surge time U, in ridge clock cycles. -/
def State.surgeUsed (s : State) : Nat := s.surgeNow + s.power.surge.sum

/-- R698: U of 1.0 s. -/
def surgeLimit : Nat := 5000000000

/-- R698: the divisor takes a new value, from divisor edge to divisor edge. -/
def State.setDivisor (s : State) (d : Nat) : State :=
  s.modPower fun p => { p with surgeCur := s.surgeNow, surgeAt := s.now, cclk := d, cclkAt := s.now }

-- Frames whose spans a divisor change concerns

/-- R287: a frame whose carrying symbol has not been written into the gearbox. -/
def TxCur.inSpan (c : TxCur) (now : Nat) : Bool := decide (c.launch < now) && decide (now < c.gear)

/-- A change to every frame between its launch and its end: at the MACs and at the seal port. -/
def State.modLaunched (s : State) (f : TxCur → TxCur) : State :=
  let s := s.forEach (List.range 16) (fun s p => s.modMac p (fun m => { m with cur := m.cur.map f, held := m.held.map f }))
  s.setSealTx (s.sealU.tx.map (fun o => { o with tx := o.tx.map f }))

/-- Every frame between its launch and its end. -/
def State.launched (s : State) : List TxCur :=
  (List.range 16).flatMap (fun p => (s.mac p).cur.toList ++ (s.mac p).held.toList) ++ s.sealU.tx.filterMap (·.tx)

/-- R287: the cycle from which no one-step frame lies between its launch point and the gearbox write of its carrying
symbol. -/
def State.spansEnd (s : State) : Nat := ((s.launched.filter (·.one)).map (·.gear)).foldl max 0

/-- R50, R287, R694, R819: the divisor changes once no one-step frame lies between its launch point and the gearbox
write of its carrying symbol; the spans of other frames contain the change. -/
def State.divisorChange (s : State) : State :=
  match s.power.change with
  | none => s
  | some ch =>
    if ch.step = .divisor then
      let s := s.elapseTo s.spansEnd
      let s := s.modLaunched (fun c => if !c.one && c.inSpan s.now then { c with crossed := true } else c)
      let s := (s.setDivisor (oppDiv ch.target)).fset .POWER_STAT 0 fPOWER_STAT_OPP ch.target
      let s := s.fset .TIME_STAT 0 fTIME_STAT_CCLK_HOLD 0
      if ch.raising then s.oppEnd ch true
      else
        s.modPower fun p => { p with voltReq := oppVolt ch.target, change := some { ch with step := .ack, start := s.now } }
    else s

-- The surge governor

/-- R698: CCLK stops. -/
def State.cclkStop (s : State) : State := s.modPower fun p => { p with surgeCur := s.surgeNow, surgeAt := s.now, cclk := 0 }

/-- The block is in SLEEP, or its domains are powering down or up. -/
def State.resting (s : State) : Bool :=
  match s.power.sleep with
  | some e => e.step != .draining && e.step != .committed && e.step != .answered
  | none => false

/-- R701: a ceiling that is applied once what is under way has finished. -/
def State.ceilLater (s : State) (o : Nat) : State := s.modPower fun p => { p with ceiling := some (max o (p.ceiling.getD 0)) }

/-- R699 to R701: the governor's decision: no operating point above `o`. In SLEEP the wake reads LOCK_LOW and PERMIT; once
the wake has begun, the ceiling is applied when the domains have power again. -/
def State.ceilTo (s : State) (o : Nat) : State :=
  if s.resting then
    match s.power.sleep with
    | some e => if (e.step == .waking || e.step == .locking) && decide (e.opp < o) then s.ceilLater o else s
    | none => s
  else
    match s.power.change with
    | none => if s.opp < o then s.govLower o else s
    | some ch =>
      if ch.raising && decide (ch.target < o) then
        let s := (s.modPower fun p => { p with change := none }).fset .POWER_STAT 0 fPOWER_STAT_CHANGING 0
        let s := s.fset .TIME_STAT 0 fTIME_STAT_CCLK_HOLD 0
        let s := if ch.cmd then s.endDoze.finishCur aWrongState 0 0 0 else s
        if s.opp < o then s.oppStart o false else s.voltReturn (oppVolt o)
      else if ch.target < o then s.ceilLater o
      else s

/-- A temperature in units of 0.25 °C. -/
def State.temp (s : State) : Int := toSigned 16 (s.fget .POWER_THERM_STAT 0 fPOWER_THERM_STAT_TEMP)

/-- R699: PERMIT follows TEMP and U. -/
def State.permit (s : State) : State :=
  let new := decide (s.temp < 380) && decide (s.surgeUsed < surgeLimit)
  let s := if new && !s.surgePermit then s.flag .POWER_THERM_EVT 0 fPOWER_THERM_EVT_PERMIT else s
  s.fsetB .POWER_THERM_STAT 0 fPOWER_THERM_STAT_PERMIT new

/-- R697, R699, R700: a sample of the junction temperature, in units of 0.25 °C as 16 bits. -/
def State.thermSample (s : State) (t : Nat) : State :=
  let was := s.temp
  let s := (s.fset .POWER_THERM_STAT 0 fPOWER_THERM_STAT_TEMP t).permit
  if 448 ≤ s.temp then
    let s := if was < 448 then s.flag .POWER_THERM_EVT 0 fPOWER_THERM_EVT_CRIT else s
    (s.flag .POWER_THERM_STAT 0 fPOWER_THERM_STAT_LOCK_LOW).ceilTo 3
  else if 400 ≤ s.temp then s.ceilTo 1
  else s

/-- R807: what a sensor site contributes, in units of 0.25 °C; none: its conversion fails. -/
def siteValue : Option Int → Int
  | some t => if -220 ≤ t ∧ t ≤ 600 then t else 500
  | none => 500

/-- R806: the trim of site i, in units of 0.25 °C. -/
def State.siteTrim (s : State) (i : Nat) : Int := toSigned 8 (s.bootU.trim.toNat >>> (8 * i))

/-- R697, R806: TEMP takes the highest of the sites' readings, each with its trim. -/
def State.thermSites (s : State) (sites : List (Option Int)) : State :=
  match sites.zipIdx.map (fun x => siteValue (x.1.map (· + s.siteTrim x.2))) with
  | [] => s
  | a :: t => s.thermSample (ofSigned 16 (t.foldl max a))

/-- R698: the bucket length, 100 ms. -/
def bucketCycles : Nat := 100 * msCycles

/-- R699: U reaches 1.0 s within the current bucket. -/
def State.surgeLimitHit (s : State) : State :=
  let d := s.now + (surgeLimit - s.surgeUsed)
  if s.power.cclk = 3 && decide (d ≤ s.power.bucketAt + bucketCycles) then ((s.elapseTo d).permit).ceilTo 1 else s

/-- R698: a bucket ends. -/
def State.bucketEnd (s : State) : State :=
  let s := s.elapseTo (s.power.bucketAt + bucketCycles)
  (s.modPower fun p =>
    { p with surge := (s.surgeNow :: p.surge).take 99, surgeCur := 0, surgeAt := s.now, bucketAt := s.now }).permit

/-- R700: a write of UNLOCK. -/
def State.thermUnlock (s : State) : State :=
  if s.temp < 400 then s.fset .POWER_THERM_STAT 0 fPOWER_THERM_STAT_LOCK_LOW 0
  else s.flag .POWER_THERM_EVT 0 fPOWER_THERM_EVT_UNLOCK_REFUSED

-- Re-thatch requests, which a domain that becomes ready may let through

/-- R617, R742 to R744: a re-thatch is taken, and every general channel stops; from SAFE, and from a boot that fail-stop
stopped, it selects under R732. -/
def State.rethatchTake (s : State) : State :=
  let s := s.forEach (List.range 64) State.chanStop
  let re := s.fbit .BOOT_CFG 0 fBOOT_CFG_RESELECT || s.fget .BOOT_STAT 0 fBOOT_STAT_CHOSEN == 0 || s.boot != bRUNNING
  let s : State := { s with
    adminCur := none
    bootU := { s.bootU with warm := true, reselect := re, load := none, releasing := false, rethatchWait := false } }
  s.fset .BOOT_STAT 0 fBOOT_STAT_STATE bQUIESCE

/-- R703, R743: a request of a re-thatch with the right KEY. In the abort window of a SLEEP entry it abandons the entry;
once the entry has committed, it is latched and taken after the wake. -/
def State.rethatchRequest (s : State) : State :=
  if !(s.boot == bRUNNING || s.boot == bSAFE || (s.failed && s.boot != bQUIESCE)) then
    s.flag .BOOT_EVT 0 fBOOT_EVT_RETHATCH_REFUSED
  else if s.dom dHOSTIF != 0 || s.power.waking.contains dHOSTIF || s.bootU.xspiBusy then
    { s.access dHOSTIF with bootU := { (s.access dHOSTIF).bootU with rethatchWait := true } }
  else
    match s.power.sleep with
    | some _ =>
      if s.abortWindow then (s.fireWake { code := 1 }).rethatchTake
      else
        let s := s.fireWake { code := 1 }
        { s with bootU := { s.bootU with rethatchWait := true } }
    | none => s.rethatchTake

/-- R743: a waiting request is taken once HOSTIF is ready and the flash window is idle. -/
def State.rethatchGo (s : State) : State :=
  if s.bootU.rethatchWait && s.dom dHOSTIF == 0 && !s.power.waking.contains dHOSTIF && s.power.sleep.isNone &&
      !s.bootU.xspiBusy then s.rethatchTake
  else s

-- DOZE

/-- R702: no frame is in transit in any course. -/
def State.drained (s : State) : Bool :=
  s.frames.all (fun f => f.2.host || f.2.stage = .queued) &&
    (List.range 16).all (fun p => let m := s.mac p; m.txBuf == [] && m.cur.isNone && m.held.isNone) &&
    s.sealU.tx == [] && s.sealU.rx == []

/-- R684: HOSTIF is idle: its movers, engines and ports have nothing in progress, and R673 does not keep it in RUN. -/
def State.hostIdle (s : State) : Bool :=
  !s.intcBusy && s.rafterQ == [] && s.outst == [] && s.adminDue == [] && !s.bootU.xspiBusy &&
    (List.range 64).all (fun k => s.chanState k == cOFF) &&
    s.txrs.all (fun e =>
      e.2.entries == [] && e.2.complOut == 0 && !e.2.shadowOut && !e.2.shadowDue && (s.txSlotReq e.1).isNone) &&
    s.rxrs.all (fun e =>
      e.2.dq == [] && e.2.active == [] && e.2.complOut == 0 && !e.2.shadowOut && !e.2.shadowDue &&
        (s.rxEntryReq e.1).isNone) &&
    s.cqs.all (fun e => e.2.due.isEmpty)

/-- R684: a domain is idle: it has no operation in progress and none requested of it. -/
def State.domIdle (s : State) (d : Nat) : Bool :=
  if 2 ≤ d && d ≤ 5 then (List.range 4).all (fun i => !s.laneEn (4 * (d - 2) + i))
  else if 6 ≤ d && d ≤ 9 then
    let c := s.course (d - 6)
    c.fifo == [] && c.recirc == [] && c.dec == [] && s.sealU.tx.all (fun o => o.port / 4 != d - 6) &&
      s.sealU.rx.all (fun o => o.port / 4 != d - 6) &&
      s.frames.all (fun e => e.2.host || e.2.stage = .queued || e.2.course != d - 6) &&
      (List.range 4).all (fun i => let m := s.mac (4 * (d - 6) + i); m.txBuf == [] && m.cur.isNone && m.held.isNone)
  else if d = 10 then s.transit == 0 && s.drained
  else if d = 11 then !s.fbit .TABLE_WIN_CMD 0 fTABLE_WIN_CMD_BUSY && s.genState == gSTEADY && s.drained
  else if d = 12 then
    !s.fbit .SCHED_WIN_CMD 0 fSCHED_WIN_CMD_BUSY && !s.fbit .METER_WIN_CMD 0 fMETER_WIN_CMD_BUSY &&
      !s.fbit .QW_CFG 0 fQW_CFG_EN && s.leaves.all (fun e => !s.eligibleNode 0 e.1) &&
      s.clients.all (fun e => !s.eligibleNode 1 e.1) && s.groups.all (fun e => !s.eligibleNode 2 e.1)
  else if d = 13 then s.hostIdle
  else false

/-- R688: an access has reached domain d in this MCLK cycle. -/
def State.touchedNow (s : State) (d : Nat) : Bool := s.ctLast.any (fun x => regDomain x.1 == d && x.2 == s.mclk)

/-- R684, R688: a domain named by the command enters DOZE in a cycle in which it is idle; one that an access reaches in
that cycle stays in RUN. -/
def State.dozeEntry (s : State) (d : Nat) : State :=
  match s.power.doze with
  | none => s
  | some z =>
    if z.left.contains d && !z.closed && s.dom d == 0 && s.domIdle d then
      let s := s.modPower fun p => { p with doze := some { z with left := z.left.filter (· != d) } }
      if s.touchedNow d then s.powerGo
      else
        let s := s.modPower fun p => { p with dozed := p.dozed.filter (·.1 != d) ++ [(d, s.mclk)] }
        (s.setDom d 1).powerGo
    else s

/-- R684: 10 µs have passed since the command was taken. -/
def State.dozeWindow (s : State) : State :=
  match s.power.doze with
  | none => s
  | some z =>
    let s := s.elapseTo (z.since + 10 * usCycles)
    (s.modPower fun p => { p with doze := some { z with closed := true } }).powerGo

/-- R689: the enabled LEVEL and RISE sources with S = 1 arrive once when HOSTIF is ready after SLEEP. -/
def State.wakeArrivals (s : State) : State :=
  s.forEach (List.range 256) fun s e =>
    let q := eventSrc e
    let sig := s.srcSignal q
    let s := s.fsetB .INTC_SRC q fINTC_SRC_LEVEL sig
    if sig && s.fbit .INTC_SRC q fINTC_SRC_EN && decide (s.fget .INTC_SRC q fINTC_SRC_SENSE ≤ 1) then s.arrive q 1 else s

/-- The three record words of a SCHED_NODE or METER item (R729), and of the admin commands (R562), from byte `o`. -/
def recWords (b : List Byte) (o : Nat) : Word × Word × Word :=
  (BitVec.ofNat 64 (cb b o 8), BitVec.ofNat 64 (cb b (o + 8) 8), BitVec.ofNat 64 (cb b (o + 16) 8))

/-- R729: a SCHED_NODE item. -/
def State.applyNode (s : State) (b : List Byte) : Nat × State :=
  let w := recWords b 8
  s.nodeCreate (cb b 0 1) (cb b 4 4) w.1 w.2.1 w.2.2

/-- R729: a METER item. -/
def State.applyMeter (s : State) (b : List Byte) : Bool × State :=
  let w := recWords b 8
  s.meterWrite (cb b 4 4) w.1 w.2.1 w.2.2 (bitOf (cb b 0 1) 0)

/-- R706: the records of the image are applied while RESTORE is 1 and an image is CHOSEN. -/
def State.restore (s : State) (items : List (Bool × List Byte)) : State :=
  if s.fbit .POWER_CFG 0 fPOWER_CFG_RESTORE && s.fget .BOOT_STAT 0 fBOOT_STAT_CHOSEN != 0 then
    s.forEach items (fun s i => if i.1 then (s.applyMeter i.2).2 else (s.applyNode i.2).2)
  else s

/-- R706: every domain of a wake from SLEEP is ready. -/
def State.wakeEnd (s : State) : State :=
  if s.fbit .POWER_STAT 0 fPOWER_STAT_WAKING && s.power.sleep.isNone && s.power.waking == [] then
    ((s.fset .POWER_STAT 0 fPOWER_STAT_WAKING 0).flag .POWER_EVT 0 fPOWER_EVT_WOKE).flag .POWER_EVT 0 fPOWER_EVT_NOTICE
  else s

/-- What a domain that has come back does at once: the scheduler's restored records, lanes with EN 1, and in HOSTIF the
arrivals and requests that waited. -/
def State.domBack (s : State) (d : Nat) (slept : Bool) (items : List (Bool × List Byte)) : State :=
  if d = dSCHED && slept then s.restore items
  else if 2 ≤ d && d ≤ 5 && slept then
    s.forEach (List.range 4) (fun s i => if s.boot == bRUNNING then s.laneStart (4 * (d - 2) + i) else s)
  else if d = dHOSTIF then
    let qs := s.deferred
    let s : State := { s with deferred := [] }
    let s := s.forEach qs (fun s q => s.arrive q 1)
    let s := if slept then s.wakeArrivals else s
    s.rethatchGo
  else s

/-- R687, R706, R817: a waking domain, or in INIT a domain whose memories are initialised, becomes ready. -/
def State.domReady (s : State) (d : Nat) (items : List (Bool × List Byte)) : State :=
  if s.power.waking.contains d then
    let slept := s.power.slept.contains d
    let s := (s.modPower fun p =>
      { p with waking := p.waking.filter (· != d), slept := p.slept.filter (· != d) }).setDom d 0
    ((s.domBack d slept items).wakeEnd).powerGo
  else if s.boot == bINIT && s.dom d == 0 && !s.ready d && !s.bootU.asserted then s.setReady d true
  else s

-- SLEEP

/-- The levels of `irq_n_o` and `fiq_n_o` (asserted: 1) and `wake_o`, as numbers. -/
def lineMask (n : Nat) (f : Nat → Bool) : Nat := ((List.range n).filter f).foldl (fun a m => a + 2 ^ m) 0

/-- R702 steps 2 and 3, R708: no frame is in transit: every pad group is held, the outputs of a group not held before
being latched, and the commit completion is issued. -/
def State.padsHeld (s : State) : State :=
  match s.power.sleep with
  | some e =>
    if e.step = .draining && s.drained then
      let s := s.modPower fun p =>
        { p with irqHeld := lineMask 16 s.irqLine, fiqHeld := lineMask 4 s.fiqLine,
                 wakeHeld := if s.padHeld 1 then p.wakeHeld else BitVec.ofNat 64 (lineMask 64 s.wakeLine),
                 sleep := some { e with step := .committed, pads := s.fget .POWER_PAD 0 fPOWER_PAD_HELD } }
      ((s.fset .POWER_PAD 0 fPOWER_PAD_HELD 127).ppsLow).finishCur aOK 2 0 0
    else s
  | none => s

/-- R702 step 4: the write response of the commit completion has returned. -/
def State.sleepAnswered (s : State) : State :=
  match s.power.sleep with
  | some e =>
    if e.step = .committed then s.modPower fun p => { p with sleep := some { e with step := .answered } } else s
  | none => s

/-- R702 step 4: every leaf, client and group is destroyed, and every meter returns to its Reset record. -/
def State.destroyNodes (s : State) : State :=
  let s := s.forEach s.leaves (fun s e => (s.nodeDestroy 0 e.1).2)
  let s := s.forEach s.clients (fun s e => (s.nodeDestroy 1 e.1).2)
  let s := s.forEach s.groups (fun s e => (s.nodeDestroy 2 e.1).2)
  { s with meters := [] }

/-- R711: the watch lane of port p is armed in SLEEP. -/
def State.armed (s : State) (p : Nat) : Bool :=
  s.portUsed p && s.dom (dQUAD (p / 4)) != 3 && !s.fbit .POWER_FENCE 0 fPOWER_FENCE_WATCH &&
    (s.fbit .POWER_WATCH_CFG p fPOWER_WATCH_CFG_MAGIC_EN || s.fbit .POWER_WATCH_CFG p fPOWER_WATCH_CFG_SIGDET_EN ||
      s.fget .POWER_WATCH_CFG p fPOWER_WATCH_CFG_PAT_EN != 0)

/-- R679, R301: a field that SLEEP does not return to its Reset value: RW fields, the generation state, what the time
unit carries, and what AON holds of the boot engine (R743). -/
def sleepKeeps (id : RegId) : Bool :=
  match id with
  | .TIME_STAT | .TIME_LOAD_CTRL | .TIME_SLEW_REM | .TABLE_GEN_STAT | .TABLE_GEN_DRAIN | .TABLE_EM_OCC
  | .TABLE_EM_SEED_OLD | .BOOT_STAT => true
  | _ => false

/-- R679: what is lost when every domain but AON, WATCH and the table memory powers down. -/
def State.loseContents (s : State) : State :=
  let s := s.keepRegs (fun id i => let d := domOf id i; d != dAON && d != dWATCH && !sleepKeeps id) (fun _ _ f => f.ty = .rw)
  { s with
      rafterQ := [], rftPins := [], rrLast := [], chans := [], txrs := [], rxrs := [], cqs := [], frames := [], bankUse := []
      moverBank := [], freed := 0, lastDec := 0, fcThen := none, rising := [], leaves := [], clients := [], groups := []
      active := [], meters := []
      qwNext := 0, qwOut := 0, qwLen := 0, qwRound := 0, qwFail := false, editQ := [], courses := [], macs := [], lanes := []
      sealU := {}, vecTimers := [], deferred := [] }

/-- R131: the lanes leave DATA with their power, and a far-end loopback ends. -/
def State.endFarLoops (s : State) : State :=
  s.forEach (List.range 16) fun s n => if s.loopMode n == 3 then s.fset .LANE_LOOP n fLANE_LOOP_MODE 0 else s

/-- R673, R702 steps 4 and 5: the scheduler is cleared and the domains power down, once no vector keeps HOSTIF in RUN;
the handshake of the retention level follows (R693). -/
def State.powerDown (s : State) : State :=
  match s.power.sleep with
  | some e =>
    if e.step = .answered && s.outst == [] && s.power.change.isNone && !s.intcBusy then
      let s := s.destroyNodes.endFarLoops.loseContents.ppsLow
      let s := s.forEach (List.range 15) fun s d =>
        if d = dAON || d = dWATCH || s.dom d == 3 then s else s.setDom d 2
      s.ridgeStop.cclkStop.modPower fun p =>
        { p with voltReq := 0, waking := [], slept := [], sleep := some { e with step := .settling } }
    else s
  | none => s

/-- R680, R691: a domain has power again: it is in RUN, and not yet ready. -/
def State.domPower (s : State) (d : Nat) : State := (s.fset .POWER_DOM_STAT 0 (fPOWER_DOM_STAT_STATE d) 0).setReady d false

/-- R706: the operating point taken on wake. -/
def State.wakeOpp (s : State) (o : Nat) : Nat :=
  if s.lockLow then 3 else if o = 0 && !s.surgePermit then 1 else o

/-- R704, R706 step 1: a latched wake source brings the block out of SLEEP. -/
def State.sleepWake (s : State) : State :=
  match s.power.sleep with
  | some e =>
    match e.step, e.latched with
    | .asleep, some w =>
      let s := (s.wakeCause w false).flag .POWER_STAT 0 fPOWER_STAT_WAKING
      s.modPower fun p =>
        { p with voltReq := oppVolt (s.wakeOpp e.opp), sleep := some { e with step := .waking, opp := s.wakeOpp e.opp } }
    | _, _ => s
  | none => s

/-- R680, R706 step 3: the ridge PLL has locked; every domain in SLEEP powers up: it is in RUN and not yet ready. A
ceiling of the governor that has fallen since the wake began is then applied (R700, R701). -/
def State.powerUp (s : State) : State :=
  match s.power.sleep with
  | some e =>
    if e.step = .locking then
      let s := (s.setDivisor (oppDiv e.opp)).fset .POWER_STAT 0 fPOWER_STAT_OPP e.opp
      let ds := (List.range 15).filter (fun d => s.dom d == 2)
      let s := s.modPower fun p => { p with sleep := none, waking := ds, slept := ds }
      let s := s.forEach ds State.domPower
      let s := if s.dom dWATCH == 0 then s.setDom dWATCH 3 else s
      (s.fset .POWER_STAT 0 fPOWER_STAT_STATE 0).ceilingGo
    else s
  | none => s

/-- R54, R256, R302, R706: the ridge PLL locks. -/
def State.ridgeLocks (s : State) : State :=
  match s.power.sleep with
  | some e =>
      if e.step = .locking then s.ridgeLock.powerUp
      else if e.step = .draining || e.step = .committed || e.step = .answered then s.ridgeLock
      else s
  | none => if s.bootU.asserted then s else s.ridgeLock

/-- R55, R303: the ridge PLL loses lock. -/
def State.ridgeLost (s : State) : State :=
  if !s.time.locked then s
  else
    let runs := (List.range 15).any (fun d => 2 ≤ d && s.dom d ≤ 1)
    let time := s.dom dTIME == 0
    let s := s.ridgeStop
    let s := if time then (s.flag .TIME_EVT 0 fTIME_EVT_HOLDOVER).flag .TIME_STAT 0 fTIME_STAT_SUSPECT else s
    if runs then s.failStop .ridgePll 0 0 else s

/-- The block is in SLEEP: step 5 has ended and no wake has begun. -/
def State.asleep (s : State) : Bool :=
  match s.power.sleep with
  | some e => e.step = .asleep
  | none => false

/-- R680, R711: from the end of step 5 until the domains have power again. -/
def State.watchTime (s : State) : Bool :=
  match s.power.sleep with
  | some e => e.step = .asleep || e.step = .waking || e.step = .locking
  | none => false

/-- R678, R711: in SLEEP, WATCH runs while a watch lane is armed. -/
def State.followWatch (s : State) : State :=
  let on := (List.range 16).any s.armed
  if s.watchTime && on != (s.dom dWATCH == 0) then s.setDom dWATCH (if on then 0 else 3) else s

/-- R686: work handed to a domain is an access to it, which wakes it from DOZE. -/
def State.followWork (s : State) : State :=
  s.forEach (List.range 15) (fun s d => if s.domIdle d then s else s.wake d)

/-- R705: the wake timer expires. -/
def State.wakeTimer (s : State) : State :=
  match s.power.sleep with
  | some e =>
    if e.step = .asleep && s.fbit .POWER_WAKE_EN 0 fPOWER_WAKE_EN_TIMER then
      (s.elapseTo (e.since + s.fget .POWER_WAKE_AFTER 0 fPOWER_WAKE_AFTER_MS * msCycles)).fireWake { code := 5 }
    else s
  | none => s

-- Watch lanes

/-- R711: a frame on a watch lane is examined if its FCS is good. `b` holds it from its DA to its FCS (R10). -/
def State.watchExamines (s : State) (p : Nat) (good : Bool) : Bool := s.asleep && s.dom dWATCH == 0 && s.armed p && good

/-- R712: six bytes of 0xFF followed by sixteen copies of an address, ending at or before byte 255. -/
def magicAt (mac b : List Byte) (o : Nat) : Bool :=
  (b.drop o).take 102 == List.replicate 6 0xff ++ (List.replicate 16 mac).flatten

/-- R712: a magic frame. -/
def isMagic (mac b : List Byte) : Bool := (List.range 155).any (magicAt mac b)

/-- R712: a watch lane receives a frame: a magic frame wakes. -/
def State.watchMagic (s : State) (p : Nat) (b : List Byte) (good : Bool) : State :=
  if s.watchExamines p good && s.fbit .POWER_WATCH_CFG p fPOWER_WATCH_CFG_MAGIC_EN &&
      isMagic (leBytes 6 (s.fget .POWER_WATCH_MAC p fPOWER_WATCH_MAC_MAC)) b then
    s.fireWake { code := 6, port := p }
  else s

/-- R713: the byte indices that pattern k compares, with the bytes they are compared with. -/
def State.patternBytes (s : State) (k : Nat) : List (Nat × Byte) :=
  ((List.range 256).filter (fun j => (s.rget .POWER_PAT_MASK (4 * k + j / 64)).toNat.testBit (j % 64))).map fun j =>
    (j, BitVec.ofNat 8 ((s.rget .POWER_PAT_VAL (32 * k + j / 8)).toNat / 256 ^ (j % 8)))

/-- R713: pattern k matches a frame. -/
def State.patternHit (s : State) (k : Nat) (b : List Byte) : Bool :=
  let l := s.patternBytes k
  l != [] && l.all (fun x => b[x.1]? == some x.2)

/-- R713: a watch lane receives a frame: the lowest enabled pattern that matches wakes. -/
def State.watchPattern (s : State) (p : Nat) (b : List Byte) (good : Bool) : State :=
  if s.watchExamines p good then
    let on := s.fget .POWER_WATCH_CFG p fPOWER_WATCH_CFG_PAT_EN
    match (List.range 32).find? (fun k => bitOf on k && s.patternHit k b) with
    | some k => s.fireWake { code := 7, port := p, pattern := k }
    | none => s
  else s

/-- R705: energy appears at a watch lane's receiver. -/
def State.watchSignal (s : State) (p : Nat) : State :=
  if s.asleep && s.dom dWATCH == 0 && s.armed p && s.fbit .POWER_WATCH_CFG p fPOWER_WATCH_CFG_SIGDET_EN then
    s.fireWake { code := 8, port := p }
  else s

-- Fences

/-- R690: a port of a pair takes quad q. -/
def State.pairTakes (s : State) (q : Nat) : Bool := s.fbit .COURSE_PORT_MAP (q / 2 * 2) fCOURSE_PORT_MAP_PAIR

/-- R690: quad q may not be fenced. -/
def State.fenceBlocked (s : State) (q : Nat) : Bool :=
  (List.range 4).any (fun i => s.laneEn (4 * q + i)) || s.rget .COURSE_PORT_MAP q != 0 || s.pairTakes q

/-- R691: a domain is fenced: it is OFF, and its contents are lost. -/
def State.fenceDom (s : State) (d : Nat) : State :=
  let s := (s.modPower fun p =>
    { p with waking := p.waking.filter (· != d), slept := p.slept.filter (· != d) }).setDom d 3
  s.keepRegs (fun id i => domOf id i == d) (fun _ _ _ => false)

/-- R690, R691, R708: quad q and course q are fenced. -/
def State.fenceQuad (s : State) (q : Nat) : State :=
  let s := (s.fenceDom (dQUAD q)).fenceDom (dCOURSE q)
  let s := s.forEach (List.range 4) (fun s i => (s.setLane (4 * q + i) {}).setMac (4 * q + i) {})
  (s.setCourse q {}).fset .POWER_PAD 0 fPOWER_PAD_HELD (s.fget .POWER_PAD 0 fPOWER_PAD_HELD ||| 2 ^ (3 + q))

/-- R680, R691: a fence is cleared: the domain powers up with every register at its Reset value; while the block is in
SLEEP it is in SLEEP with the others, and powers up with them. -/
def State.unfenceQuad (s : State) (q : Nat) : State :=
  let ds := [dQUAD q, dCOURSE q]
  if s.resting then s.forEach ds (fun s d => s.setDom d 2)
  else (s.forEach ds State.domPower).modPower fun p => { p with waking := p.waking ++ ds }

/-- R690: a write of POWER_FENCE with equal QUAD and COURSE bits. -/
def State.fenceWrite (s : State) (v : Word) : State :=
  let old := s.fget .POWER_FENCE 0 fPOWER_FENCE_QUAD
  let new := fPOWER_FENCE_QUAD.get v
  let strap := s.fget .POWER_FENCE 0 fPOWER_FENCE_STRAP
  let qs := List.range 4
  if qs.any (fun q => (bitOf strap q && !bitOf new q) || (bitOf new q && !bitOf old q && s.fenceBlocked q)) then
    s.flag .POWER_EVT 0 fPOWER_EVT_FENCE_REFUSED
  else
    let s := (s.fset .POWER_FENCE 0 fPOWER_FENCE_WATCH (fPOWER_FENCE_WATCH.get v)).fset .POWER_FENCE 0 fPOWER_FENCE_QUAD new
    let s := s.fset .POWER_FENCE 0 fPOWER_FENCE_COURSE new
    s.forEach qs fun s q =>
      if bitOf new q && !bitOf old q then s.fenceQuad q
      else if !bitOf new q && bitOf old q then s.unfenceQuad q
      else s

-- The eaves hold

/-- R708, R748: the xSPI chip select is asserted: a transaction of the window or of the boot engine runs, and the pads are
not held. -/
def State.xspiSelected (s : State) : Bool :=
  !s.padHeld 2 &&
    (s.bootU.xspiBusy || (s.boot == bLOAD && s.bootU.load.any (fun ld => !ld.full && decide (ld.got < ld.len - 16))))

/-- R708: the domain of a pad group. -/
def padDom (g : Nat) : Nat := if g = 0 then dTIME else if g ≤ 2 then dHOSTIF else dQUAD (g - 3)

/-- R707, R708, R710: a RELEASE of one group. -/
def State.padRelease (s : State) (g : Nat) : State :=
  if s.ready (padDom g) then
    let s := s.fset .POWER_PAD 0 fPOWER_PAD_HELD (s.fget .POWER_PAD 0 fPOWER_PAD_HELD &&& (127 - 2 ^ g))
    if 3 ≤ g then s.forEach (List.range 4) (fun s i => s.pllGo (4 * (g - 3) + i)) else s
  else s.flag .POWER_EVT 0 fPOWER_EVT_PAD_REFUSED

/-- R710: a write of POWER_PAD.RELEASE. -/
def State.padWrite (s : State) (mask : Nat) : State := s.forEach ((List.range 7).filter (bitOf mask)) State.padRelease

-- The ligger port

/-- R715: a slot: its marker, then a byte, least significant bit first. -/
def ligSlot (b : Nat) : List Bool := false :: (List.range 8).map b.testBit

/-- R715: what the controller drives for a frame: a gap, then the slots. -/
def ligWire (l : List Nat) : List Bool := List.replicate 12 true ++ l.flatMap ligSlot

/-- R715: the slots of a frame from its first marker on; a bit sampled as 1 where a marker is due ends it. -/
def ligSlots : List Bool → List Nat
  | false :: b0 :: b1 :: b2 :: b3 :: b4 :: b5 :: b6 :: b7 :: t =>
    ofBits ([b0, b1, b2, b3, b4, b5, b6, b7].map Bool.toNat) :: ligSlots t
  | _ => []

/-- R715: a frame begins with the first bit sampled as 0 after a gap, a run of at least 12 bits sampled as 1. -/
def ligFrame (run : Nat) : List Bool → List Nat
  | [] => []
  | true :: t => ligFrame (run + 1) t
  | false :: t => if 12 ≤ run then ligSlots (false :: t) else ligFrame 0 t

/-- R716: a header's address matches, which is the LIGGER wake source. -/
def State.ligMatch (s : State) (addr : Nat) : Bool :=
  s.fbit .POWER_LIG_CFG 0 fPOWER_LIG_CFG_EN && s.fget .POWER_LIG_CFG 0 fPOWER_LIG_CFG_ADDR == addr

/-- R705, R716: what a match does. -/
def State.ligMatched (s : State) : State :=
  let s := s.flag .POWER_LIG_EVT 0 fPOWER_LIG_EVT_MATCH
  if s.fbit .POWER_WAKE_EN 0 fPOWER_WAKE_EN_LIGGER then s.fireWake { code := 4 } else s

/-- R716: the STATUS response. -/
def State.ligStatus (s : State) : List Byte :=
  let flags := s.faultLine.toNat + (s.fget .POWER_EVT 0 fPOWER_EVT_NOTICE) * 2 + s.lockLow.toNat * 4 +
    (s.fget .POWER_THERM_EVT 0 fPOWER_THERM_EVT_CRIT) * 8
  leBytes 1 (s.fget .POWER_STAT 0 fPOWER_STAT_STATE) ++ leBytes 1 s.opp ++
    leBytes 2 (s.fget .POWER_THERM_STAT 0 fPOWER_THERM_STAT_TEMP) ++
    leBytes 1 (s.fget .POWER_WAKE_CAUSE 0 fPOWER_WAKE_CAUSE_SOURCE) ++ leBytes 1 flags ++ [1, 0]

/-- R715, R716: what the block drives in its last ligger slots, after the turn bit with the line released, and the stored
response. -/
def State.ligReply (s : State) (reply resp : List Byte) : State :=
  s.modPower fun p =>
    { p with ligOut := reply, ligResp := resp, ligLine := true :: reply.flatMap (fun b => ligSlot b.toNat) }

/-- R716: a COMMAND frame: header, command and check bytes. -/
def State.ligCommand (s : State) (addr command check : Nat) : State :=
  if s.ligMatch addr then
    let s := s.ligMatched
    let ok := check == (addr * 4 + 1) ^^^ command ^^^ 0xC3
    if ok && command == 0x50 then s.ligReply [0x0F] []
    else if ok && command == 0x53 then s.ligReply [0x0F] s.ligStatus
    else if ok && command == 0x57 then
      ((s.flag .POWER_EVT 0 fPOWER_EVT_NOTICE).flag .POWER_LIG_EVT 0 fPOWER_LIG_EVT_HOST_WAKE).ligReply [0x0F] []
    else (s.flag .POWER_LIG_EVT 0 fPOWER_LIG_EVT_BAD_CMD).ligReply [0x3C] []
  else s

/-- R716: a matched READ frame returns the stored response and leaves it stored. -/
def State.ligRead (s : State) (addr : Nat) : State :=
  if s.ligMatch addr then s.ligMatched.ligReply s.power.ligResp s.power.ligResp else s

/-- R715, R716: the bits of a frame as the block samples them. KIND 0b00 and 0b11 are ignored; a COMMAND frame that ends
before its check slot has only matched. -/
def State.ligReceive (s : State) (bits : List Bool) : State :=
  match ligFrame 0 bits with
  | [] => s
  | h :: rest =>
    if h % 4 = 1 then
      match rest with
      | c :: k :: _ => s.ligCommand (h / 4) c k
      | _ => if s.ligMatch (h / 4) then s.ligMatched else s
    else if h % 4 = 2 then s.ligRead (h / 4)
    else s

end Sys2Proof.Machine
end

