-- ==== Sys2Proof/Machine/Stats.lean ====
section
/-! DEFINITION. The STATS records (R773, R774): the record of an object, its clearing, the window, and the places of
records in a dump (R776). -/

namespace Sys2Proof.Machine

/-- R774: the INDEX range of a group. -/
def statCount (g : Nat) : Nat :=
  match g with
  | 0 => 16 | 1 => 16 | 2 => 4 | 3 => 16384 | 4 => 16384 | 5 => 262144 | 6 => 262144 | _ => 0

/-- R774: the bytes of a group's record. -/
def statSize (g : Nat) : Nat := if g = 0 then 512 else if g = 1 then 32 else 16

/-- R774: a ring's or a leaf's record. -/
def ringWords (bytes frames drops : Nat) : List Nat := [bytes, frames + drops * 2 ^ 32]

/-- R773, R774: the record of an object as words; none where the object does not exist. -/
def State.statRecord (s : State) (g i : Nat) : Option (List Nat) :=
  match g with
  | 0 => some ((List.range 64).map (fun k => s.fget .STATS_PORT (i * 64 + k) fSTATS_PORT_COUNT))
  | 1 => some [(s.rget .LANE_TRAIN_CNT i).toNat + (s.rget .LANE_PATTERN_ERR i).toNat * 2 ^ 32,
      (s.rget .LANE_CAL_CNT i).toNat, s.fget .LANE_PF i fLANE_PF_LOW_CNT, 0]
  | 2 => some [(s.rget .TABLE_EM_CNT i).toNat, (s.rget .TABLE_EM_ERR i).toNat]
  | 3 => (s.txr? i).map (fun x => ringWords x.bytes x.frames x.drops)
  | 4 => (s.rxr? i).map (fun x => ringWords x.bytes x.frames x.drops)
  | 5 => (s.leaf? i).map (fun x => ringWords x.bytes x.frames x.drops)
  | 6 => let m := s.meter i
    some [m.green + m.yellow * 2 ^ 32, m.red]
  | _ => none

/-- R773, R774: the clear-on-read counters of a record are cleared. -/
def State.statClear (s : State) (g i : Nat) : State :=
  match g with
  | 1 => (((s.rreset .LANE_TRAIN_CNT i).rreset .LANE_PATTERN_ERR i).rreset .LANE_CAL_CNT i).fset .LANE_PF i fLANE_PF_LOW_CNT 0
  | 2 => (s.rreset .TABLE_EM_CNT i).rreset .TABLE_EM_ERR i
  | 3 => s.modTxr i (fun x => { x with bytes := 0, frames := 0, drops := 0 })
  | 4 => s.modRxr i (fun x => { x with bytes := 0, frames := 0, drops := 0 })
  | 5 =>
    match s.leaf? i with
    | some x => s.setLeaf i { x with bytes := 0, frames := 0, drops := 0 }
    | none => s
  | 6 => s.meterClear i
  | _ => s

/-- R59, R677: the domain of a group's counters. -/
def statDom (g i : Nat) : Nat :=
  match g with
  | 1 => dQUAD (i / 4)
  | 2 => dTABLE
  | 5 => dSCHED
  | 6 => dSCHED
  | _ => dHOSTIF

/-- R59: a domain of counters that is neither in RUN nor off. -/
def State.rests (s : State) (d : Nat) : Bool := s.dom d == 1 || s.dom d == 2

/-- R773: the window's operation: OP 0 READ, 1 PEEK. It waits for the domain of its counters (R59). -/
def State.statsWin (s : State) (op : Nat) : State :=
  if s.fbit .STATS_WIN_CMD 0 fSTATS_WIN_CMD_BUSY && s.fget .STATS_WIN_CMD 0 fSTATS_WIN_CMD_OP == op then
    let g := s.fget .STATS_WIN_ADDR 0 fSTATS_WIN_ADDR_GROUP
    let i := s.fget .STATS_WIN_ADDR 0 fSTATS_WIN_ADDR_INDEX
    let done (s : State) (r : Nat) (ws : List Nat) : State :=
      let s := s.forEach (List.range 4) (fun s k => s.rset .STATS_WIN_DATA k (BitVec.ofNat 64 (ws.getD k 0)))
      (s.fset .STATS_WIN_STAT 0 fSTATS_WIN_STAT_RESULT r).fset .STATS_WIN_CMD 0 fSTATS_WIN_CMD_BUSY 0
    if g = 0 || statCount g ≤ i then done s 1 []
    else if s.rests (statDom g i) || s.rests dHOSTIF then (s.access (statDom g i)).access dHOSTIF
    else
      match s.statRecord g i with
      | none => done s 2 []
      | some ws => done (if op = 0 then s.statClear g i else s) 0 ws
  else s

/-- R775: the bytes of a record; an object that does not exist gives zeros (R773). -/
def State.statBytes (s : State) (g i : Nat) : List Byte :=
  match s.statRecord g i with
  | some ws => ws.flatMap (leBytes 8)
  | none => List.replicate (statSize g) 0

/-- R776: the size of a dump and its units of work. -/
def dumpSize : Nat := 8921728
def dumpUnits : Nat := 557092

/-- R776: the group and index of the n-th record of a dump, and its offset. -/
def dumpAt (n : Nat) : Nat × Nat × Nat :=
  if n < 16 then (0, n, 64 + 512 * n)
  else if n < 32 then (1, n - 16, 8256 + 32 * (n - 16))
  else if n < 36 then (2, n - 32, 8768 + 16 * (n - 32))
  else if n < 36 + 16384 then (3, n - 36, 8832 + 16 * (n - 36))
  else if n < 36 + 32768 then (4, n - 16420, 270976 + 16 * (n - 16420))
  else if n < 36 + 32768 + 262144 then (5, n - 32804, 533120 + 16 * (n - 32804))
  else (6, n - 294948, 4727424 + 16 * (n - 294948))

/-- R776: the dump header. -/
def dumpHeader (start stop n : Nat) (clear : Bool) : List Byte :=
  leBytes 8 start ++ leBytes 8 stop ++ leBytes 2 1 ++ leBytes 1 clear.toNat ++ leBytes 1 0 ++ leBytes 4 n ++
    List.replicate 40 0

end Sys2Proof.Machine
end

