-- ==== Sys2Proof/Machine/Admin.lean ====
section
/-! DEFINITION. The admin queue and its slots: configuration and doorbells (R535 to R541), reading commands (R543),
completions (R546 to R551), long operations and their units of work (R553 to R560, R566, R567). -/

namespace Sys2Proof.Machine

-- Set-up and doorbells

def State.adminEn (s : State) : Bool := s.fbit .ADMIN_CFG 0 fADMIN_CFG_EN
def State.asqSize (s : State) : Nat := 2 ^ s.fget .ADMIN_CFG 0 fADMIN_CFG_ASQ_LOG2
def State.acqSize (s : State) : Nat := 2 ^ s.fget .ADMIN_CFG 0 fADMIN_CFG_ACQ_LOG2
def State.asqProd (s : State) : Nat := s.fget .ADMIN_ASQ_PROD 0 fADMIN_ASQ_PROD_PROD
def State.asqCons (s : State) : Nat := s.fget .ADMIN_ASQ_CONS 0 fADMIN_ASQ_CONS_CONS
def State.acqProd (s : State) : Nat := s.fget .ADMIN_ACQ_PROD 0 fADMIN_ACQ_PROD_PROD
def State.acqCons (s : State) : Nat := s.fget .ADMIN_ACQ_CONS 0 fADMIN_ACQ_CONS_CONS

/-- R546: the completion that a write carries, with the operation slot whose final it is. -/
def complFrom (b : List Byte) (slot : Option Nat) : AdminCompl :=
  { tag := cb b 0 2, opcode := cb b 2 1, status := cb b 3 1, accepted := bitOf (cb b 4 1) 0, detail := cb b 5 1
    res0 := cb b 8 8, res1 := cb b 16 8, slot := slot }

/-- R538, R598: a completion that fell due as number p waits again, before those that fell due after it. -/
def requeue (c : AdminCompl) (p : Nat) : List AdminCompl → List AdminCompl
  | [] => [{ c with again := some p }]
  | d :: t => if d.again.any (decide <| · < p) then d :: requeue c p t else { c with again := some p } :: d :: t

/-- R537, R538: the four indices return to 0; what was read of the old queue is dropped, and a completion whose write has
not been presented waits again. -/
def State.adminIndices (s : State) : State :=
  let s := ((s.rreset .ADMIN_ASQ_PROD 0).rreset .ADMIN_ASQ_CONS 0).rreset .ADMIN_ACQ_PROD 0
  let s := s.rreset .ADMIN_ACQ_CONS 0
  let drop (o : Outstanding) : Outstanding :=
    match o.req.purpose with
    | .asqRead _ _ => { o with req := { o.req with purpose := .asqRead 0 0 } }
    | _ => o
  let stale (q : RafterReq) : Bool := match q.purpose with | .asqRead _ _ => true | .acqWrite _ _ => true | _ => false
  let back (l : List AdminCompl) (q : RafterReq) : List AdminCompl :=
    match q.purpose with | .acqWrite slot p => requeue (complFrom q.data slot) p l | _ => l
  { s with adminReadPtr := 0, adminFifo := [], adminStalled := false, outst := s.outst.map drop,
           rafterQ := s.rafterQ.filter (fun q => !stale q),
           adminDue := s.rafterQ.foldl back s.adminDue }

/-- R537: a write of ADMIN_CFG. -/
def State.adminCfgWrite (s : State) (v : Word) : State :=
  let en := fADMIN_CFG_EN.get v
  let old := s.rget .ADMIN_CFG 0
  if s.adminEn then
    let s := if fADMIN_CFG_EN.put v 0 == fADMIN_CFG_EN.put old 0 then s else s.flag .ADMIN_EVT 0 fADMIN_EVT_CFG_REFUSED
    s.fset .ADMIN_CFG 0 fADMIN_CFG_EN en
  else
    let s := s.rset .ADMIN_CFG 0 (fADMIN_CFG_EN.put v 0)
    if en = 0 then s
    else if s.fget .ADMIN_ASQ_BASE 0 fADMIN_ASQ_BASE_ADDR % 64 = 0 &&
        s.fget .ADMIN_ACQ_BASE 0 fADMIN_ACQ_BASE_ADDR % 64 = 0 then
      s.adminIndices.flag .ADMIN_CFG 0 fADMIN_CFG_EN
    else s.flag .ADMIN_EVT 0 fADMIN_EVT_CFG_REFUSED

/-- R537: ADMIN_CFG.EN is written 1 while it reads 0, or 0 while it reads 1. -/
def State.adminEnable (s : State) (v : Word) : State :=
  if !s.adminEn && fADMIN_CFG_EN.get v == 1 then s.adminCfgWrite v else s
def State.adminDisable (s : State) (v : Word) : State :=
  if s.adminEn && fADMIN_CFG_EN.get v == 0 then s.adminCfgWrite v else s

/-- R537: a write of a queue's base. -/
def State.adminBase (s : State) (id : RegId) (v : Word) : State :=
  if s.adminEn then s.flag .ADMIN_EVT 0 fADMIN_EVT_CFG_REFUSED else s.rset id 0 v

/-- R539: an admin doorbell is discarded. -/
def State.adminRefused (s : State) : State :=
  (s.flag .ADMIN_STAT 0 fADMIN_STAT_REFUSED).flag .ADMIN_EVT 0 fADMIN_EVT_DB_REFUSED

/-- R539, R540, R705: a write of ADMIN_ASQ_PROD. -/
def State.asqDoorbell (s : State) (v : Nat) : State :=
  if !s.adminEn || 2 ^ 31 ≤ idxDiff v s.asqProd || s.asqSize < idxDiff v s.asqCons then s.adminRefused
  else
    let s := s.fset .ADMIN_ASQ_PROD 0 fADMIN_ASQ_PROD_PROD v
    (s.access dHOSTIF).fireWake { code := 2 }

/-- R539: a write of ADMIN_ACQ_CONS. -/
def State.acqConsWrite (s : State) (v : Nat) : State :=
  if 2 ^ 31 ≤ idxDiff s.acqProd v then s.adminRefused else s.fset .ADMIN_ACQ_CONS 0 fADMIN_ACQ_CONS_CONS v

-- Requests

/-- R541, R589: a request of the admin engine. -/
def State.adminReq (s : State) (write ctrl : Bool) (addr len : Nat) (data : List Byte) (p : Purpose) : RafterReq :=
  { who := .admin, port := s.fget .ADMIN_CFG 0 fADMIN_CFG_RAFTER, level := s.fget .ADMIN_CFG 0 fADMIN_CFG_DMA_PRI,
    write := write, addr := addr, len := len, data := data, msg := false, ctrl := ctrl, purpose := p }

/-- The boot engine and the power controller let the admin engine take commands (R702, R739). -/
def State.adminOpen (s : State) : Bool :=
  s.adminEn && !s.failed && (s.boot == bRUNNING || s.boot == bSAFE) && s.power.sleep.isNone

/-- R543: the read that the engine would issue next: at most four commands, within the queue's end and one 256 B
block, while it holds fewer than four. -/
def State.asqRequest (s : State) : Option RafterReq :=
  let size := s.asqSize
  let at_ := s.adminReadPtr % size
  let addr := s.fget .ADMIN_ASQ_BASE 0 fADMIN_ASQ_BASE_ADDR + 64 * at_
  let n := min (min 4 (idxDiff s.asqProd s.adminReadPtr)) (min (size - at_) ((256 - addr % 256) / 64))
  let busy := s.outst.any (fun o => match o.req.purpose with | .asqRead _ k => k != 0 | _ => false)
  if s.adminOpen && n != 0 && !busy && decide (s.adminFifo.length < 4) then
    some (s.adminReq false true addr (64 * n) [] (.asqRead s.adminReadPtr n))
  else none

/-- A read of commands is issued. -/
def State.asqIssued (s : State) (n : Nat) : State := { s with adminReadPtr := idxAdd s.adminReadPtr n }

/-- R580: the requests that read or write operand or result memory. -/
def State.operandReqs (s : State) (slot : Option Nat) (write : Bool) (addr : Nat) (data : List Byte) (len : Nat) :
    List RafterReq :=
  (cuts addr len).map fun c =>
    s.adminReq write false (addr + c.1) c.2 ((data.drop c.1).take c.2)
      (if write then .operandWrite slot else .operandRead slot c.1)

-- Completions

/-- R549: space in the ACQ. -/
def State.acqRoom (s : State) : Nat := s.acqSize - idxDiff s.acqProd s.acqCons

/-- R549: a completion waits for space. -/
def State.acqFull (s : State) : Bool := s.adminDue != [] && s.acqRoom == 0

/-- R551: a completion falls due. A command that ends with HOST_ERROR shows in ADMIN_EVT. -/
def State.adminPost (s : State) (c : AdminCompl) : State :=
  let s : State := { s with adminDue := s.adminDue ++ [c] }
  if c.status == aHostError then s.flag .ADMIN_EVT 0 fADMIN_EVT_HOST_ERR else s

/-- The number in due order of a completion whose write is not answered. -/
def RafterReq.dueNo (q : RafterReq) : Option Nat := match q.purpose with | .acqWrite _ p => some p | _ => none

/-- R538, R551: the place in due order of a completion: it keeps the one it has, and one that is written for the first time
comes after all that are not done with. -/
def State.dueNumber (s : State) (c : AdminCompl) : Nat :=
  let l := s.rafterQ.filterMap RafterReq.dueNo ++ s.outst.filterMap (fun o => o.req.dueNo) ++ s.adminDue.filterMap (·.again)
  c.again.getD (l.foldl max 0 + 1)

/-- R548: writes of operation `n` to host memory have not been answered. -/
def State.lopWriting (s : State) (n : Nat) : Bool :=
  let mine (q : RafterReq) : Bool := q.purpose = .operandWrite (some n)
  s.rafterQ.any mine || s.outst.any (fun o => mine o.req)

/-- A command's completion, by its header. -/
def complOf (c : List Byte) (status detail res0 res1 : Nat) : AdminCompl :=
  { tag := cb c 2 2, opcode := cb c 0 1, status := status, accepted := false, detail := detail, res0 := res0, res1 := res1 }

/-- R546: the 32 bytes of a completion at ACQ index p. -/
def AdminCompl.bytes (c : AdminCompl) (p size : Nat) : List Byte :=
  leBytes 2 c.tag ++ leBytes 1 c.opcode ++ leBytes 1 c.status ++ leBytes 1 c.accepted.toNat ++ leBytes 1 c.detail ++
    leBytes 2 0 ++ leBytes 8 c.res0 ++ leBytes 8 c.res1 ++ leBytes 7 0 ++
    leBytes 1 (if p / size % 2 = 0 then 128 else 0)

/-- R548, R549: the write of the completion that fell due first is issued, once what its operation wrote is answered. -/
def State.adminComplete (s : State) : State :=
  match s.adminDue with
  | [] => s
  | c :: rest =>
    if s.adminEn && !s.failed && s.boot != bQUIESCE && s.acqRoom != 0 && !c.slot.any s.lopWriting then
      let p := s.acqProd
      let addr := s.fget .ADMIN_ACQ_BASE 0 fADMIN_ACQ_BASE_ADDR + 32 * (p % s.acqSize)
      let q := s.adminReq true true addr 32 (c.bytes p s.acqSize) (.acqWrite c.slot (s.dueNumber c))
      (({ s with adminDue := rest } : State).fset .ADMIN_ACQ_PROD 0 fADMIN_ACQ_PROD_PROD (idxAdd p 1)).enqueue [q]
    else s

-- Slots

def State.lopState (s : State) (k : Nat) : Nat := s.fget .ADMIN_LOP_STAT k fADMIN_LOP_STAT_STATE
def State.setLop (s : State) (k : Nat) (x : Lop) : State := { s with lops := s.lops.put k x }
def State.setLopState (s : State) (k st : Nat) : State := s.fset .ADMIN_LOP_STAT k fADMIN_LOP_STAT_STATE st
def State.lopDone (s : State) (k : Nat) : Nat := s.fget .ADMIN_LOP_PROG k fADMIN_LOP_PROG_DONE
def State.lopTotal (s : State) (k : Nat) : Nat := s.fget .ADMIN_LOP_PROG k fADMIN_LOP_PROG_TOTAL

/-- R553: the states of a slot. -/
def kFREE : Nat := 0
def kRUNNING : Nat := 1
def kSUSPENDING : Nat := 2
def kSUSPENDED : Nat := 3
def kCANCELLING : Nat := 4
def kDONE : Nat := 5

/-- R553: the lowest-numbered FREE slot. -/
def State.freeSlot (s : State) : Option Nat := (List.range 16).find? (fun k => s.lopState k == kFREE)

/-- R558: a slot returns to FREE. -/
def State.lopFree (s : State) (k : Nat) : State :=
  let s := ((s.rreset .ADMIN_LOP_STAT k).rreset .ADMIN_LOP_PROG k).rreset .ADMIN_LOP_RES k
  let s := (s.rreset .ADMIN_LOP_RES0 k).rreset .ADMIN_LOP_RES1 k
  { s with lops := s.lops.del k }

/-- Slots that some operation of an opcode occupies, with their operations. -/
def State.lopsOf (s : State) (op : Nat) : Store Lop := s.lops.filter (fun e => cb e.2.bytes 0 1 == op)

def oBULK : Nat := 0x12
def oREHASH : Nat := 0x13
def oDUMP : Nat := 0x51
def oEYE : Nat := 0x60
def oSCRUB : Nat := 0x61

/-- R182, R183: the phases and the thresholds that a scan visits. -/
def eyePhases (c : List Byte) : Nat := (toSigned 8 (cb c 11 1) - toSigned 8 (cb c 10 1)).toNat / cb c 12 1 + 1
def eyeThresholds (c : List Byte) : Nat := (toSigned 8 (cb c 14 1) - toSigned 8 (cb c 13 1)).toNat / cb c 15 1 + 1

/-- R404, R554: 64-bit words of cell data. -/
def cellWords : Nat := 262144 * 32

/-- R554: the words of the link memory, which the manual does not number apart from the free lists (R810). -/
def linkWords : Nat := Config.freeValue 7 0

/-- R554: TOTAL of an operation. -/
def State.lopUnits (s : State) (c : List Byte) : Nat :=
  match cb c 0 1 with
  | 0x12 => cb c 24 4
  | 0x13 => s.fget .TABLE_EM_OCC (cb c 9 1) fTABLE_EM_OCC_USED
  | 0x51 => dumpUnits
  | 0x60 => eyeThresholds c * eyePhases c
  | _ => cellWords + linkWords

/-- R392, R554: no unit of an operation is to come. -/
def State.lopOver (s : State) (k : Nat) (x : Lop) : Bool :=
  if cb x.bytes 0 1 == oREHASH then (s.rehashNext (cb x.bytes 9 1) x.cursor).isNone
  else decide (s.lopTotal k ≤ s.lopDone k)

/-- The number of the operation in slot k, by which what it reads and writes is known. -/
def Lop.tag (x : Lop) (k : Nat) : Nat := 16 * x.seq + k

/-- R389: the read of the record that a bulk load applies next. -/
def State.lopRead (s : State) (k : Nat) : State :=
  match s.lops.find? k with
  | none => s
  | some x =>
    if cb x.bytes 0 1 == oBULK && s.lopState k == kRUNNING && !x.reading && x.got == [] && x.stop.isNone then
      (s.setLop k { x with reading := true }).enqueue
        (s.operandReqs (some (x.tag k)) false (cb x.bytes 16 8 + 64 * x.cursor) [] 64)
    else s

/-- R553, R558, R567: the operation in slot k ends: the slot enters DONE with its results, and its final falls due. -/
def State.lopFinal (s : State) (k : Nat) (x : Lop) (st : Nat) : State :=
  let s := (s.setLopState k kDONE).flag .ADMIN_LOP_RES k fADMIN_LOP_RES_READY
  let s := (s.fset .ADMIN_LOP_RES k fADMIN_LOP_RES_STATUS st).fset .ADMIN_LOP_RES k fADMIN_LOP_RES_DETAIL x.detail
  let s := (s.rset .ADMIN_LOP_RES0 k (BitVec.ofNat 64 x.a)).rset .ADMIN_LOP_RES1 k (BitVec.ofNat 64 x.b)
  s.adminPost { complOf x.bytes st x.detail x.a x.b with slot := some (x.tag k) }

/-- R548, R553, R567: an operation that has stopped ends: at once after a cancel, and else once its reads and writes have
been answered. A dump writes its header first (R776). -/
def State.lopFinish (s : State) (k : Nat) : State :=
  match s.lops.find? k with
  | none => s
  | some x =>
    match x.stop with
    | none => s
    | some st =>
      let waits := st != aCancelled && (x.left != 0 || x.reading)
      if waits || s.lopState k == kDONE || s.lopState k == kSUSPENDED then s
      else if cb x.bytes 0 1 == oDUMP && !x.header && !x.failed then
        let h := dumpHeader x.start s.blockTime.stamp (s.lopDone k) (bitOf (cb x.bytes 9 1) 0)
        let x := { x with header := true, left := x.left + 1, a := x.a + 64 }
        let s := (s.setLop k x).enqueue (s.operandReqs (some (x.tag k)) true (cb x.bytes 16 8) h 64)
        if st == aCancelled then s.lopFinal k x st else s
      else s.lopFinal k x (if x.failed && st != aCancelled then aHostError else st)

/-- R390, R393, R567: no further unit runs: the operation stops with a status. -/
def State.lopEnd (s : State) (k st : Nat) : State :=
  match s.lops.find? k with
  | none => s
  | some x =>
    let s := if cb x.bytes 0 1 == oBULK then s.fset .TABLE_GEN_STAT 0 fTABLE_GEN_STAT_BULK 0 else s
    let s := if cb x.bytes 0 1 == oREHASH then s.rehashEnd (cb x.bytes 9 1) else s
    let a := if cb x.bytes 0 1 == oREHASH then s.fget .TABLE_EM_OCC (cb x.bytes 9 1) fTABLE_EM_OCC_RESIDUE else x.a
    (s.setLop k { x with stop := some st, a := a }).lopFinish k

/-- R550, R553, R572: a long operation is accepted into a slot and starts. -/
def State.lopAccept (s : State) (k : Nat) (c : List Byte) : State :=
  let total := s.lopUnits c
  let s := (s.rreset .ADMIN_LOP_RES k).fset .ADMIN_LOP_STAT k fADMIN_LOP_STAT_OPCODE (cb c 0 1)
  let s := (s.fset .ADMIN_LOP_STAT k fADMIN_LOP_STAT_TAG (cb c 2 2)).setLopState k kRUNNING
  let s := (s.fset .ADMIN_LOP_PROG k fADMIN_LOP_PROG_DONE 0).fset .ADMIN_LOP_PROG k fADMIN_LOP_PROG_TOTAL total
  let s := s.adminPost { complOf c aOK k 0 0 with accepted := true }
  let x : Lop := { bytes := c, start := s.blockTime.stamp, since := s.now, seq := s.lopSeq }
  let s : State := { (s.setLop k x) with lopSeq := s.lopSeq + 1 }
  let s := if cb c 0 1 == oBULK then s.flag .TABLE_GEN_STAT 0 fTABLE_GEN_STAT_BULK else s
  let s := if cb c 0 1 == oREHASH then s.rehashStart (cb c 9 1) (BitVec.ofNat 64 (cb c 16 8)) else s
  if s.lopOver k x then s.lopEnd k aOK else s.lopRead k

/-- R554 to R556, R567: a unit of work has ended: the operation goes on, or a suspend, a cancel or its end takes
effect. -/
def State.lopBoundary (s : State) (k : Nat) : State :=
  match s.lops.find? k with
  | none => s
  | some x =>
    let s := s.setLop k { x with ended := some s.cclkStart }
    let s := s.fset .ADMIN_LOP_PROG k fADMIN_LOP_PROG_DONE (s.lopDone k + 1)
    if s.lopState k == kCANCELLING then s.lopEnd k aCancelled
    else if x.failed then s.lopEnd k aHostError
    else if s.lopState k == kSUSPENDING then s.setLopState k kSUSPENDED
    else if s.lopOver k x then s.lopEnd k aOK
    else s.lopRead k

/-- R389, R390: a bulk load applies one record. -/
def State.unitBulk (s : State) (k : Nat) (x : Lop) : State :=
  if x.got == [] then s
  else
    let op := cb x.got 12 1 / 16
    let (o, s) := s.serveTableWin.edit (if op ≤ 2 then op + 1 else 1) (cb x.got 15 1 % 4) false 0 x.got (bulk := true)
    if o.result == eOK then (s.setLop k { x with got := [], cursor := x.cursor + 1, a := x.a + 1 }).lopBoundary k
    else
      let st := if s.lopState k == kCANCELLING then aCancelled else aFailed
      (s.setLop k { x with got := [], detail := o.result }).lopEnd k st

/-- R392: a rehash visits one entry. -/
def State.unitRehash (s : State) (k : Nat) (x : Lop) : State :=
  let t := cb x.bytes 9 1
  match s.rehashNext t x.cursor with
  | none => s
  | some loc =>
    let before := s.fget .TABLE_EM_OCC t fTABLE_EM_OCC_RESIDUE
    let s := s.rehashVisit t loc
    let moved := if s.fget .TABLE_EM_OCC t fTABLE_EM_OCC_RESIDUE < before then 1 else 0
    (s.setLop k { x with cursor := loc + 1, b := x.b + moved }).lopBoundary k

/-- R776: a dump writes one record. -/
def State.unitDump (s : State) (k : Nat) (x : Lop) : State :=
  let (g, i, off) := dumpAt x.cursor
  if s.rests (statDom g i) then s.access (statDom g i)
  else
    let b := s.statBytes g i
    let s := if bitOf (cb x.bytes 9 1) 0 then s.statClear g i else s
    let qs := s.operandReqs (some (x.tag k)) true (cb x.bytes 16 8 + off) b b.length
    ((s.setLop k { x with cursor := x.cursor + 1, left := x.left + qs.length, a := x.a + b.length }).enqueue qs).lopBoundary k

/-- R182 to R184: a scan ends one point with its count, at most one for each of the 2^DWELL symbols that the point
observes. -/
def State.unitEye (s : State) (k : Nat) (x : Lop) (count : Nat) : State :=
  let dwell := 2 ^ cb x.bytes 16 1
  let s := s.elapseTo (x.since + symCycles (s.laneRate (cb x.bytes 8 1)) dwell)
  let qs := s.operandReqs (some (x.tag k)) true (cb x.bytes 24 8 + 4 * x.cursor)
    (leBytes 4 (min (2 ^ 32 - 1) (min dwell count))) 4
  let x := { x with cursor := x.cursor + 1, left := x.left + qs.length, a := x.a + 1, since := s.now }
  ((s.setLop k x).enqueue qs).lopBoundary k

/-- R436, R567: a scrub visits one word: a word of cell data, of frame `fid` if one holds it, or of the link
memory. -/
def State.unitScrub (s : State) (k : Nat) (x : Lop) (e : Ecc) (fid : Nat) : State :=
  let cell := decide (x.cursor < cellWords)
  let s := if cell then s.cellRead fid e
    else match e with
      | .clean => s
      | .corrected => s.corrected fGEN_INTEG_CORR_LINK
      | .uncorrectable _ => s.failStop .loftCtrlEcc 0 (x.cursor - cellWords)
      | .bus => s
  let a := x.a + (match e with | .corrected => 1 | _ => 0)
  let b := x.b + (match e with | .uncorrectable _ => if cell then 1 else 0 | _ => 0)
  (s.setLop k { x with cursor := x.cursor + 1, a := a, b := b }).lopBoundary k

/-- R554: the unit of work in progress in slot k ends. `count`: the count of a scan's point; `e`: what a scrub reads,
in a cell of frame `fid`. -/
def State.lopUnit (s : State) (k count : Nat) (e : Ecc) (fid : Nat) : State :=
  match s.lops.find? k with
  | none => s
  | some x =>
    let st := s.lopState k
    if x.stop.isSome || s.lopOver k x || !(st == kRUNNING || st == kSUSPENDING || st == kCANCELLING) then s
    else
      match cb x.bytes 0 1 with
      | 0x12 => s.unitBulk k x
      | 0x13 => s.unitRehash k x
      | 0x51 => s.unitDump k x
      | 0x60 => s.unitEye k x count
      | _ => s.unitScrub k x e fid

/-- R555: the operation in slot k is at a unit boundary: its last unit has ended, or one has ended in this CCLK cycle. -/
def State.atBoundary (s : State) (k : Nat) (x : Lop) : Bool :=
  s.lopOver k x || x.stop.isSome || x.ended == some s.cclkStart

/-- R555: the unit that would have begun in this cycle does not: the read of its record is not made. -/
def State.lopHold (s : State) (k : Nat) : State :=
  match s.lops.find? k with
  | none => s
  | some x =>
    let mine (q : RafterReq) : Bool := match q.purpose with | .operandRead (some n) _ => n == x.tag k | _ => false
    { s with rafterQ := s.rafterQ.filter (fun q => !mine q) }.setLop k
      { x with reading := x.reading && !s.rafterQ.any mine }

/-- R553, R555, R556: whether a request finds the operation stopped or going (RESULT1), and the slot's new state; none where
the table refuses it. -/
def State.lopAsk (s : State) (k what : Nat) : Option (Bool × State) :=
  match s.lops.find? k with
  | none => none
  | some x =>
    let st := s.lopState k
    let idle := s.atBoundary k x
    match what with
    | 0 =>
      if st == kRUNNING then
        some (idle, if idle then (s.lopHold k).setLopState k kSUSPENDED else s.setLopState k kSUSPENDING)
      else none
    | 1 =>
      if st == kSUSPENDED then some (true, (s.setLop k { x with since := s.now }).setLopState k kRUNNING)
      else if st == kSUSPENDING then some (true, s.setLopState k kRUNNING) else none
    | _ =>
      if st == kRUNNING || st == kSUSPENDING || st == kSUSPENDED then
        let now := idle || st == kSUSPENDED || cb x.bytes 0 1 == oEYE
        some (now, (if now then s.lopHold k else s).setLopState k kCANCELLING)
      else none

/-- R556, R567: what follows a request once its own completion is due: a resumed operation goes on or ends, and a
cancelled one that has stopped ends. -/
def State.lopFollow (s : State) (k what : Nat) (now : Bool) : State :=
  match s.lops.find? k with
  | none => s
  | some x =>
    if what = 1 then (if x.failed then s.lopEnd k aHostError else if s.lopOver k x then s.lopEnd k aOK else s.lopRead k)
    else if what = 2 && now then s.lopEnd k aCancelled
    else s

def State.lopRefused (s : State) : State := s.flag .ADMIN_EVT 0 fADMIN_EVT_LOP_REFUSED

/-- R560: SUSPEND (0), RESUME (1) or CANCEL (2) through the slot's register. -/
def State.lopReg (s : State) (k what : Nat) : State :=
  if s.lopState k == kFREE || s.lopState k == kDONE then s.lopRefused
  else
    match s.lopAsk k what with
    | none => s.lopRefused
    | some (now, s) => s.lopFollow k what now

/-- R558: RELEASE. -/
def State.lopRelease (s : State) (k : Nat) : State := if s.lopState k == kDONE then s.lopFree k else s.lopRefused

/-- R186: scans whose lane has left DATA before they ended end at once as a cancel ends them. -/
def State.eyeCheck (s : State) : State :=
  s.forEach (s.lopsOf oEYE) fun s e =>
    if s.lopState e.1 != kDONE && s.laneState (cb e.2.bytes 8 1) != lDATA then
      (s.setLopState e.1 kCANCELLING).lopEnd e.1 aCancelled
    else s

-- Responses

/-- R598: a failed read of commands or write of a completion clears EN. -/
def State.adminHostErr (s : State) : State :=
  (s.fset .ADMIN_CFG 0 fADMIN_CFG_EN 0).flag .ADMIN_EVT 0 fADMIN_EVT_HOST_ERR

/-- R543, R598: the response to a read of n commands from index `first`. -/
def State.asqRead (s : State) (n code : Nat) (b : List Byte) : State :=
  if n = 0 then s
  else if code != 0 then s.adminHostErr
  else
    let cs := (List.range n).map (fun i => (b.drop (64 * i)).take 64)
    ({ s with adminFifo := s.adminFifo ++ cs } : State).fset .ADMIN_ASQ_CONS 0 fADMIN_ASQ_CONS_CONS (idxAdd s.asqCons n)

/-- R548, R558, R598, R702: the response to a completion's write. -/
def State.acqWritten (s : State) (slot : Option Nat) (p : Nat) (q : RafterReq) (code : Nat) : State :=
  if code != 0 then
    let s := s.adminHostErr
    { s with adminDue := requeue (complFrom q.data slot) p s.adminDue }
  else
    let s := s.flag .ADMIN_EVT 0 fADMIN_EVT_COMPLETION
    let s := match slot with
      | some n =>
        let k := n % 16
        let mine := match s.lops.find? k with | some x => x.seq == n / 16 | none => false
        if mine && s.lopState k == kDONE && s.fbit .ADMIN_CFG 0 fADMIN_CFG_AUTO_RELEASE then s.lopFree k else s
      | none => s
    if (complFrom q.data slot).commits then s.sleepAnswered else s

/-- The operation numbered n, if its slot still holds it. -/
def State.lop? (s : State) (n : Nat) : Option Lop :=
  (s.lops.find? (n % 16)).bind (fun x => if x.tag (n % 16) = n then some x else none)

/-- R389: the record of operation n has been read. -/
def State.lopGot (s : State) (n code : Nat) (b : List Byte) : State :=
  let k := n % 16
  match s.lop? n with
  | none => s
  | some x =>
    if code == 0 then (s.setLop k { x with reading := false, got := b }).lopFinish k
    else
      let s := s.setLop k { x with reading := false, failed := true }
      if s.lopState k == kSUSPENDED || s.lopState k == kDONE then s
      else s.lopEnd k (if s.lopState k == kCANCELLING then aCancelled else aHostError)

/-- R548, R567: a write of operation n is answered. -/
def State.lopWritten (s : State) (n code : Nat) : State :=
  let k := n % 16
  match s.lop? n with
  | none => s
  | some x => (s.setLop k { x with left := x.left - 1, failed := x.failed || code != 0 }).lopFinish k

end Sys2Proof.Machine
end

