-- ==== Sys2Proof/Machine/Offers.lean ====
section
/-! DEFINITION. What the requesters of the rafter ports offer, and which request each port takes (R587, R599, R600). -/

namespace Sys2Proof.Machine

/-- A request that a requester could present, and whether it waits in `State.rafterQ` or is made when it is taken. -/
structure Offer where
  req : RafterReq
  queued : Bool
  deriving DecidableEq, Repr

/-- The first request of each requester of those that are ready. -/
def firstOfEach : List RafterReq → List RafterReq
  | [] => []
  | q :: t => q :: (firstOfEach t).filter (fun x => x.who != q.who)

/-- R599, R604: what general channel k offers: a read or a write, and where it has both, the direction asked for. -/
def State.chanOffer (s : State) (k : Nat) (preferWrite : Bool) : Option RafterReq :=
  match s.chanRead k, s.chanWrite k with
  | some r, some w => some (if preferWrite then w else r)
  | some r, none => some r
  | none, w => w

/-- R587: the bytes of two requests overlap. -/
def RafterReq.meets (q r : RafterReq) : Bool := decide (q.addr < r.addr + r.len) && decide (r.addr < q.addr + q.len)

/-- R587: a read of bytes that its own requester writes under an outstanding tag waits. General channels follow their
barriers. -/
def State.heldBack (s : State) (q : RafterReq) : Bool :=
  match q.who with
  | .chan _ => false
  | _ => !q.write && s.outst.any (fun o => o.req.who == q.who && o.req.write && q.meets o.req)

/-- R587, R599: the requests of the ready requesters, one for each: of a requester's own requests, those already made come
first, in order. -/
def State.offers (s : State) (preferWrite : Bool) : List Offer :=
  let made := firstOfEach s.rafterQ
  let fresh := s.asqRequest.toList ++ s.chans.filterMap (fun e => s.chanOffer e.1 preferWrite) ++
    s.txrs.filterMap (fun e => s.txSlotReq e.1) ++ s.rxrs.filterMap (fun e => s.rxEntryReq e.1)
  let all : List Offer :=
    made.map (fun q => ⟨q, true⟩) ++ (fresh.filter (fun q => !made.any (fun m => m.who == q.who))).map (fun q => ⟨q, false⟩)
  all.filter (fun o => !s.heldBack o.req)

/-- R600: requesters of a level. -/
def requesters : Nat := 66 + 4096 + 2 * 16384

/-- R600: how far a requester comes after the one that port p took last at a level. -/
def State.turnOf (s : State) (p level : Nat) (who : Requester) : Nat :=
  match s.rrLast.find? (4 * p + level) with
  | some l => (who.order + requesters - l - 1) % requesters
  | none => who.order

/-- The offer of the least value of f. -/
def leastOffer (f : Offer → Nat) : List Offer → Option Offer
  | [] => none
  | a :: t =>
    match leastOffer f t with
    | none => some a
    | some b => if f b < f a then some b else some a

/-- R599, R600: the request that port p takes. -/
def State.chosenOffer (s : State) (p : Nat) (preferWrite : Bool) : Option Offer :=
  let l := (s.offers preferWrite).filter (fun o => o.req.port == p)
  let top := l.foldl (fun a o => max a o.req.level) 0
  leastOffer (fun o => s.turnOf p top o.req.who) (l.filter (fun o => o.req.level == top))

/-- R577, R599: port p presents a request: one that is ready, with a tag free for it. -/
def State.presents (s : State) (p : Nat) : Bool :=
  s.mayIssue && decide (s.tagsOut p < s.fget .RAFTER_CFG p fRAFTER_CFG_TAGS) &&
    ((s.chosenOffer p false).isSome || (p == 0 && s.nextMessage.isSome))

/-- R619: RAFTER_STAT_p.OUTSTANDING, and QUIET while no tag is outstanding and nothing is presented. -/
def State.rafterStat (s : State) (p : Nat) : Nat :=
  let n := s.tagsOut p
  n + (if n == 0 && !s.presents p then 2048 else 0)

end Sys2Proof.Machine
end

