-- ==== Sys2Proof/Machine/Encodings.lean ====
section
/-! DEFINITION. Reserved encodings (R17): which fields of a write hold one, register by register, as each register's
table and chapter give them. Such a field keeps its value; the other fields of the write take effect. -/

namespace Sys2Proof.Machine

/-- The fields of `l` whose predicate holds. -/
def badFields (l : List (Field × Bool)) : List Field := (l.filter (·.2)).map (·.1)

/-- A value outside lo to hi. -/
def outside (lo hi : Nat) (f : Field) (v : Word) : Field × Bool := (f, decide (f.get v < lo) || decide (hi < f.get v))

/-- A field that must be at least lo. -/
def atLeast (lo : Nat) (f : Field) (v : Word) : Field × Bool := (f, decide (f.get v < lo))

/-- R324: two valid slots of a key select entry name one table. -/
def kselBad (v : Word) : Bool :=
  (List.range 4).any fun i => (List.range i).any fun j =>
    (fCOURSE_KSEL_VALID i).get v == 1 && (fCOURSE_KSEL_VALID j).get v == 1 &&
      (fCOURSE_KSEL_TABLE i).get v == (fCOURSE_KSEL_TABLE j).get v

/-- R345: the ports that COURSE_UDP_PORTS names differ from each other and from 319 and 320. -/
def udpPortsBad (v : Word) : Bool :=
  let l := ([fCOURSE_UDP_PORTS_VXLAN_PORT, fCOURSE_UDP_PORTS_GENEVE_PORT, fCOURSE_UDP_PORTS_GTPU_PORT,
    fCOURSE_UDP_PORTS_ECPRI_PORT].map (·.get v)).filter (· != 0)
  l.any (fun x => x == 319 || x == 320) || decide (l.length ≠ l.dedup.length)

/-- The whole of a register. -/
def wholeReg : Field := ⟨0, 64⟩

/-- R17: the fields of a write of v to instance i of a register that hold reserved encodings. DESIGN CHOICE (log 80): the
address and data registers of the SCHED, METER and STATS windows take any value, and an operation on a reserved LEVEL,
GROUP or record field ends with BAD_VALUE. -/
def State.encBad (s : State) (id : RegId) (i : Nat) (v : Word) : List Field :=
  let old := s.rget id i
  match id with
  | .RAFTER_CFG => badFields [outside 1 1024 fRAFTER_CFG_TAGS v]
  | .ADMIN_CFG => badFields [outside 6 12 fADMIN_CFG_ASQ_LOG2 v, outside 6 12 fADMIN_CFG_ACQ_LOG2 v]
  | .INTC_SRC => badFields [(fINTC_SRC_VECTOR, fINTC_SRC_FAST.get v == 1 && decide (64 ≤ fINTC_SRC_VECTOR.get v))]
  | .INTC_MSG_ADDR => badFields [(fINTC_MSG_ADDR_ADDR, v.toNat % 4 != 0)]
  | .INTC_FMSG_ADDR => badFields [(fINTC_FMSG_ADDR_ADDR, v.toNat % 4 != 0)]
  | .INTC_VEC => badFields [atLeast 1 fINTC_VEC_MOD_COUNT v,
      (fINTC_VEC_CORE, fINTC_VEC_STATE.get old == 3)]
  | .INTC_FVEC => badFields
      [(fINTC_FVEC_CORE, fINTC_FVEC_STATE.get old == 3 && fINTC_FVEC_CORE.get v != fINTC_FVEC_CORE.get old)]
  | .TIME_ADDEND => badFields [outside 56266847844460 56323142839802 fTIME_ADDEND_ADDEND v]
  | .TIME_SLEW => badFields [atLeast 1 fTIME_SLEW_STEP v]
  | .TIME_LOAD_NS => badFields [outside 0 999999999 fTIME_LOAD_NS_NS v]
  | .TIME_LOAD_CTRL => badFields [outside 0 2 fTIME_LOAD_CTRL_MODE v]
  | .TIME_PPS_OUT_CFG => badFields [outside 1 999999 fTIME_PPS_OUT_CFG_WIDTH v]
  | .TIME_RCLK_CFG => badFields [atLeast 1 fTIME_RCLK_CFG_DIV v]
  | .LANE_CTRL => badFields [outside 0 4 fLANE_CTRL_RATE v]
  | .LANE_TRAIN_CFG => badFields [outside 1 4 fLANE_TRAIN_CFG_INIT_PRESET v, atLeast 1 fLANE_TRAIN_CFG_TIMEOUT v]
  | .LANE_PATTERN => badFields [outside 0 2 fLANE_PATTERN_GEN v, outside 0 2 fLANE_PATTERN_CHK v]
  | .LANE_CAL_CFG => badFields [atLeast 1 fLANE_CAL_CFG_LIVE_PERIOD v]
  | .LANE_QUAD_CFG => badFields [(fLANE_QUAD_CFG_REF_SEL, decide (i < 2) && fLANE_QUAD_CFG_REF_SEL.get v == 1)]
  | .PORT_MAC_CFG => badFields [atLeast 12 fPORT_MAC_CFG_IPG v]
  | .PORT_MAXFRAME => badFields [outside 64 16000 fPORT_MAXFRAME_MAX_FRAME v]
  | .PORT_MAC_ADDR => badFields [(fPORT_MAC_ADDR_ADDR, v.toNat % 2 == 1)]
  | .PORT_LPM_SA => badFields [(fPORT_LPM_SA_SA, v.toNat % 2 == 1)]
  | .PORT_FC_CFG => badFields [outside 0 2 fPORT_FC_CFG_RX_MODE v, outside 0 2 fPORT_FC_CFG_TX_MODE v,
      atLeast 2 fPORT_FC_CFG_TX_QUANTA v]
  | .PORT_PREEMPT_CFG => badFields [outside 1 128 fPORT_PREEMPT_CFG_VERIFY_TIME v]
  | .PORT_FEC_CFG => badFields [(fPORT_FEC_CFG_BYPASS_CORR,
      fPORT_FEC_CFG_BYPASS_CORR.get v == 1 && s.fget .PORT_MODE i fPORT_MODE_MODE != 2)]
  | .PORT_ADM_PRI => badFields [outside 0 11 fPORT_ADM_PRI_ALPHA v]
  | .LOFT_CFG => badFields [outside 0 11 fLOFT_CFG_RING_ALPHA v, outside 0 11 fLOFT_CFG_HOST_ALPHA v]
  | .PORT_FC_THR =>
      let bad := decide (fPORT_FC_THR_XOFF.get v ≤ fPORT_FC_THR_XON.get v)
      badFields [(fPORT_FC_THR_XOFF, bad), (fPORT_FC_THR_XON, bad)]
  | .COURSE_UDP_PORTS => badFields [(wholeReg, udpPortsBad v)]
  | .COURSE_KSEL => badFields [(wholeReg, kselBad v)]
  | .COURSE_KPROF => badFields [outside 0 9 fCOURSE_KPROF_ANCHOR v, outside 0 383 fCOURSE_KPROF_OFFSET v]
  | .TABLE_EM_CFG => badFields [outside 0 32 fTABLE_EM_CFG_SIZE v, outside 1 6 fTABLE_EM_CFG_MAX_DEPTH v]
  | .TABLE_WIN_CMD => badFields [outside 0 4 fTABLE_WIN_CMD_OP v]
  | .TABLE_DEFAULT => badFields [(fTABLE_DEFAULT_ACTION, actionBad v.toNat)]
  | .TABLE_MIRROR =>
      let t := fTABLE_MIRROR_TRUNC.get v
      badFields [(fTABLE_MIRROR_TRUNC, t != 0 && (decide (t < 64) || decide (16000 < t)))]
  | .SCHED_WIN_CMD => badFields [outside 0 1 fSCHED_WIN_CMD_OP v]
  | .QW_CFG => badFields [outside 1 1000 fQW_CFG_PERIOD v, outside 12 30 fQW_CFG_LOG2 v]
  | .QW_CONS => badFields [(fQW_CONS_CONS,
      decide (2 ^ s.fget .QW_CFG 0 fQW_CFG_LOG2 < idxDiff (s.fget .QW_PROD 0 fQW_PROD_PROD) (fQW_CONS_CONS.get v)))]
  | .SCHED_PORT_CFG => badFields [outside 0 16000 fSCHED_PORT_CFG_EXP_ROOM v]
  | .DMA_CHAN_CFG => badFields [outside 12 30 fDMA_CHAN_CFG_SRC_LOG2 v, outside 12 30 fDMA_CHAN_CFG_DST_LOG2 v]
  | .SEAL_CFG => badFields [outside 8 96 fSEAL_CFG_TX_DELAY v, atLeast 64 fSEAL_CFG_RX_MAX v]
  | .SEAL_PORT_CFG => badFields [outside 0 4 fSEAL_PORT_CFG_TX_HDR v, outside 0 32 fSEAL_PORT_CFG_TX_TRL v,
      atLeast 12 fSEAL_PORT_CFG_AN_OFF v]
  | .STATS_WIN_CMD => badFields [outside 0 1 fSTATS_WIN_CMD_OP v]
  | .BOOT_XSPI_CFG => badFields [outside 0 2 fBOOT_XSPI_CFG_PROTO v, atLeast 1 fBOOT_XSPI_CFG_CLK_DIV v]
  | .POWER_CFG => badFields [atLeast 1 fPOWER_CFG_VREG_TIMEOUT v]
  | .POWER_FENCE =>
      let bad := fPOWER_FENCE_QUAD.get v != fPOWER_FENCE_COURSE.get v
      badFields [(fPOWER_FENCE_QUAD, bad), (fPOWER_FENCE_COURSE, bad)]
  | .POWER_WAKE_AFTER => badFields [atLeast 1 fPOWER_WAKE_AFTER_MS v]
  | _ => []

/-- R17: a write with its reserved encodings set aside: those fields carry their present values. A write of LANE_PATTERN
outside TEST mode keeps them, so that R137 ignores it, and so does a write of TIME_LOAD_CTRL while GO reads 1, whose MODE
R260 discards. -/
def State.setAside (s : State) (id : RegId) (i : Nat) (v : Word) : Word :=
  let w := (s.encBad id i v).foldl (fun v f => f.put v (f.get (s.rget id i))) v
  match id with
  | .LANE_PATTERN => if s.laneTest i then w else v
  | .TIME_LOAD_CTRL => if s.fbit .TIME_LOAD_CTRL 0 fTIME_LOAD_CTRL_GO then v else w
  | _ => w

end Sys2Proof.Machine
end

