-- ==== Sys2Proof/Machine/Control.lean ====
section
/-! DEFINITION. The control space: reads and writes by field type (R12 to R30), what a write of each register does
besides, the order and the stalls of the control port (R57 to R62), and the writes it discards before RUNNING (R739). -/

namespace Sys2Proof.Machine

-- Field types

/-- The bits of a register's fields of one type. -/
def typeMask (ty : FieldType) (fs : List FieldDesc) : Word :=
  BitVec.ofNat 64 (fs.foldl (fun a f => if f.ty = ty then a + (2 ^ f.w - 1) * 2 ^ f.lo else a) 0)

/-- R16, R18, R19: the value of a register after a write of v, by its fields' types. -/
def writeTypes (fs : List FieldDesc) (old v : Word) : Word :=
  let rw := typeMask .rw fs
  let set := typeMask .w1s fs ||| typeMask .rwsc fs
  (((old &&& ~~~ rw) ||| (v &&& rw)) &&& ~~~ (v &&& typeMask .w1c fs)) ||| (v &&& set)

/-- R18: a write by the field types alone. DESIGN CHOICE (log 80): a write of a window's GO register while BUSY reads 1
changes its other RW fields, and the operation is served with them as they then stand; R27 discards only writes of the
address and data registers. -/
def State.plainWrite (s : State) (id : RegId) (i : Nat) (v : Word) : State :=
  s.rset id i (writeTypes id.desc.fields (s.rget id i) v)

-- Reads

/-- The value of a field placed in a word. -/
def Field.at (f : Field) (n : Nat) : Word := f.put 0 n

def bitsOf (n : Nat) (f : Nat → Bool) : Nat := ((List.range n).filter f).foldl (fun a k => a + 2 ^ k) 0

/-- ADMIN_STAT: BUSY, ACQ_FULL, IDLE and SLOTS follow the engine (R549, R553, R574). -/
def State.adminStat (s : State) : Word :=
  let busy := s.adminCur.isSome || s.adminStalled
  let idle := !s.adminEn && s.adminCur.isNone && s.adminDue == []
  let v := fADMIN_STAT_BUSY.put (s.rget .ADMIN_STAT 0) busy.toNat
  let v := fADMIN_STAT_IDLE.put (fADMIN_STAT_ACQ_FULL.put v s.acqFull.toNat) idle.toNat
  fADMIN_STAT_SLOTS.put v ((List.range 16).filter (fun k => s.lopState k != kFREE)).length

/-- SCHED_PORT_STAT_p (R445, R451, R452). -/
def State.schedPortStat (s : State) (p : Nat) : Word :=
  let held (k : Nat) := s.groups.any (fun e => e.2.parent == 8 * p + k && s.backlog 2 e.1)
  let v := fSCHED_PORT_STAT_IN_FLIGHT.at (s.mac p).inFlight
  let v := fSCHED_PORT_STAT_BACKLOG.put v (bitsOf 8 held)
  let v := fSCHED_PORT_STAT_ELIGIBLE.put v (bitsOf 8 (s.eligibleClass p))
  fSCHED_PORT_STAT_PACE.put v (ofSigned 32 (wholeBytes (s.paceNow p)))

/-- INTC_CORE_STAT_n (R659, R662, R668, R669). -/
def State.coreStat (s : State) (n : Nat) : Word :=
  let act := s.vecsOf n 3
  let v := fINTC_CORE_STAT_ACTIVE_CNT.put (s.rget .INTC_CORE_STAT n) act.length
  let v := fINTC_CORE_STAT_RUN_PRIO.put v (act.foldl (fun a e => max a (fINTC_VEC_PRIO.get e.2)) 0)
  let v := fINTC_CORE_STAT_WAKE.put v (s.wakeLine n).toNat
  let v := fINTC_CORE_STAT_HOST_SLEEP.put v (s.power.sleepIn.getLsbD n).toNat
  fINTC_CORE_STAT_OUT.put v (!s.fbit .INTC_CORE_CFG n fINTC_CORE_CFG_MASK && (s.bestVec n).isSome).toNat

/-- INTC_FSTAT_n (R664 to R666). -/
def State.fastStat (s : State) (n : Nat) : Word :=
  let v := fINTC_FSTAT_ACTIVE_CNT.put (s.rget .INTC_FSTAT n) (s.fvecsOf n 3).length
  fINTC_FSTAT_OUT.put v (!s.fbit .INTC_FCORE_CFG n fINTC_FCORE_CFG_FMASK && (s.bestFast n).isSome).toNat

/-- R197, R534: the value that a read of a register returns, where hardware gives it from its working state. -/
def State.view (s : State) (id : RegId) (i : Nat) : Word :=
  let v := s.rget id i
  match id with
  | .ADMIN_STAT => s.adminStat
  | .RAFTER_STAT => BitVec.ofNat 64 (s.rafterStat i)
  | .INTC_CORE_STAT => s.coreStat i
  | .INTC_FSTAT => s.fastStat i
  | .INTC_PEND => BitVec.ofNat 64 (bitsOf 64 (fun j => s.fget .INTC_VEC (64 * i + j) fINTC_VEC_STATE == 2))
  | .INTC_FPEND => BitVec.ofNat 64 (bitsOf 64 (fun j => s.fget .INTC_FVEC j fINTC_FVEC_STATE == 2))
  | .TIME_LANE_FIX =>
      if s.laneEn i then (fTIME_LANE_FIX_RX_FIX.at (s.laneFix true i)) ||| fTIME_LANE_FIX_TX_FIX.at (s.laneFix false i)
      else v
  | .LANE_STAT => if s.fixedMode i then fLANE_STAT_PARTNER_READY.put v 0 else v
  | .COURSE_SPRAY_STAT | .COURSE_SPRAY_CNT => if i % 2 == 0 && s.sprayed (4 * i) then v else 0
  | .TABLE_GEN_DRAIN =>
      fTABLE_GEN_DRAIN_FRAMES.at (if s.genState == gDRAINING then s.carrying s.genOther else 0)
  | .LOFT_SHARED => fLOFT_SHARED_SIZE.at s.sharedSize.toNat ||| fLOFT_SHARED_FREE.at s.freeShared
  | .SCHED_PORT_STAT => s.schedPortStat i
  | .TXR_STAT =>
      match s.txr? i with
      | some x => fTXR_STAT_CQ_WAIT.put (fTXR_STAT_EXISTS.put v 1) (s.cqWait true i x.cq).toNat
      | none => v
  | .RXR_STAT =>
      match s.rxr? i with
      | some x =>
        fRXR_STAT_STARVED.put (fRXR_STAT_CQ_WAIT.put (fRXR_STAT_EXISTS.put v 1) (s.cqWait false i x.cq).toNat)
          x.starved.toNat
      | none => v
  | .CQ_STAT =>
      if (s.cq? i).isSome then fCQ_STAT_FULL.put (fCQ_STAT_EXISTS.put v 1) (s.cqFull i).toNat else v
  | .POWER_THERM_STAT => fPOWER_THERM_STAT_SURGE_USED.put v (min 1023 (s.surgeUsed / msCycles))
  | _ => v

/-- R18, R20, R21, R23: a read clears the register's RC fields. -/
def State.clearRc (s : State) (id : RegId) (i : Nat) : State :=
  let m := typeMask .rc id.desc.fields
  if m == 0 then s else s.rset id i (s.rget id i &&& ~~~ m)

/-- R306: one direction of TIME_LANE_LAT: its fix and its D_rx or D_tx, with what is measured of the path when it is read
(free value `k`), in units of 2^-16 ns. -/
def State.laneLat (s : State) (rx : Bool) (n k : Nat) : Nat × State :=
  let d := toSigned 32 (if rx then s.fget .LANE_GD n fLANE_GD_RX_GD else s.fget .LANE_GD n fLANE_GD_TX_GD)
  let m := s.draw k
  (ofSigned 32 (toSigned 32 (s.laneFix rx n) + d + (m.1 : Nat)), m.2)

/-- A read of a whole register: its value, and the state after the read. -/
def State.readReg (s : State) (id : RegId) (i : Nat) : Word × State :=
  match id with
  | .TIME_NOW_L => (s.timeCapture.rget .TIME_NOW_L 0, s.timeCapture)
  | .TIME_PPS_IN_CAP_L => (s.rget .TIME_PPS_IN_CAP_L 0, s.ppsLatch)
  | .TIME_LANE_LAT =>
      if s.laneEn i then
        let (rx, s) := s.laneLat true i 8
        let (tx, s) := s.laneLat false i 9
        (fTIME_LANE_LAT_RX_LANE.at rx ||| fTIME_LANE_LAT_TX_LANE.at tx, s)
      else (s.rget id i, s)
  | .COURSE_SPRAY_CNT =>
      let s := if i % 2 == 0 then s.holdCycles i else s
      (s.view id i, s.clearRc id i)
  | .INTC_CLAIM => s.claim i
  | .INTC_FCLAIM => s.fclaim i
  | _ => (s.view id i, s.clearRc id i)

-- Writes

/-- R27: an indirect window: its command register and BUSY, its own ERR, and its address and data registers. -/
def windowOf (id : RegId) : Option (RegId × Field × RegId × Field) :=
  match id with
  | .TABLE_WIN_ADDR | .TABLE_WIN_DATA => some (.TABLE_WIN_CMD, fTABLE_WIN_CMD_BUSY, .TABLE_WIN_STAT, fTABLE_WIN_STAT_ERR)
  | .SCHED_WIN_ADDR | .SCHED_WIN_DATA_0 | .SCHED_WIN_DATA_1 | .SCHED_WIN_DATA_2 | .SCHED_WIN_DATA_3 =>
      some (.SCHED_WIN_CMD, fSCHED_WIN_CMD_BUSY, .SCHED_WIN_STAT, fSCHED_WIN_STAT_ERR)
  | .METER_WIN_ADDR | .METER_WIN_DATA_0 | .METER_WIN_DATA_1 | .METER_WIN_DATA_2 | .METER_WIN_DATA_3 | .METER_WIN_DATA_4
  | .METER_WIN_DATA_5 => some (.METER_WIN_CMD, fMETER_WIN_CMD_BUSY, .METER_WIN_STAT, fMETER_WIN_STAT_ERR)
  | .STATS_WIN_ADDR | .STATS_WIN_DATA => some (.STATS_WIN_CMD, fSTATS_WIN_CMD_BUSY, .STATS_WIN_CMD, fSTATS_WIN_CMD_ERR)
  | .SEAL_BIND_ADDR | .SEAL_BIND_DATA => some (.SEAL_BIND_CMD, fSEAL_BIND_CMD_BUSY, .SEAL_BIND_CMD, fSEAL_BIND_CMD_ERR)
  | .BOOT_XSPI_ADDR | .BOOT_XSPI_DATA => some (.BOOT_XSPI_CMD, fBOOT_XSPI_CMD_BUSY, .BOOT_XSPI_CMD, fBOOT_XSPI_CMD_ERR)
  | _ => none

/-- R257 to R261: a write of TIME_LOAD_CTRL. R260 discards a MODE written while GO reads 1, a reserved one (R17) too. -/
def State.loadCtrlWrite (s : State) (v : Word) : State :=
  let mode := fTIME_LOAD_CTRL_MODE.get v
  let go := s.fbit .TIME_LOAD_CTRL 0 fTIME_LOAD_CTRL_GO
  let slew := s.fbit .TIME_LOAD_CTRL 0 fTIME_LOAD_CTRL_SLEW_GO
  let s :=
    if go then
      let s := if mode == s.fget .TIME_LOAD_CTRL 0 fTIME_LOAD_CTRL_MODE then s else s.flag .TIME_EVT 0 fTIME_EVT_CFG_REFUSED
      if fTIME_LOAD_CTRL_CANCEL.get v == 1 then s.loadCancel else s
    else if fTIME_LOAD_CTRL_GO.get v == 1 then s.loadGo mode
    else s.fset .TIME_LOAD_CTRL 0 fTIME_LOAD_CTRL_MODE mode
  if slew then (if fTIME_LOAD_CTRL_SLEW_CANCEL.get v == 1 then s.slewCancel else s)
  else if fTIME_LOAD_CTRL_SLEW_GO.get v == 1 then s.slewStart else s

/-- R260, R261: a write that a running operation discards. -/
def State.timeGuard (s : State) (busy : Field) (id : RegId) (v : Word) : State :=
  if s.fbit .TIME_LOAD_CTRL 0 busy then s.flag .TIME_EVT 0 fTIME_EVT_CFG_REFUSED else s.plainWrite id 0 v

/-- R242, R247: a write of PORT_PREEMPT_CFG_p; EN = 0 lets a preemptable frame in progress finish in fragments. -/
def State.preemptCfg (s : State) (p : Nat) (v : Word) : State :=
  let old := s.rget .PORT_PREEMPT_CFG p
  let ends := s.preemptActive p && s.preInProgress p && fPORT_PREEMPT_CFG_EN.get v == 0
  let s := (s.modMac p (fun m => { m with finishing := ends })).plainWrite .PORT_PREEMPT_CFG p v
  let changed (f : Field) := f.get old != f.get v
  if changed fPORT_PREEMPT_CFG_EN || changed fPORT_PREEMPT_CFG_VERIFY_DIS then s.verifyStart p else s

/-- R343: a write of a parse register: a pair's even course writes both, and its odd course none. -/
def State.parseWrite (s : State) (id : RegId) (i n : Nat) (v : Word) : State :=
  let c := i / n
  if s.paired c then
    if c % 2 = 1 then s.flag .COURSE_PARSE_EVT c fCOURSE_PARSE_EVT_CFG_REFUSED
    else (s.plainWrite id i v).plainWrite id (i + n) v
  else s.plainWrite id i v

/-- R373, R374, R378, R381: a write of TABLE_GEN_CTRL. A COMMIT or ABORT of a state other than OPEN is refused, also
while its bit still reads 1. -/
def State.genCtrlWrite (s : State) (v : Word) : State :=
  let s := if fTABLE_GEN_CTRL_OPEN.get v == 1 then s.genOpen else s
  let s := if fTABLE_GEN_CTRL_COMMIT.get v == 1 then s.genCommit else s
  if fTABLE_GEN_CTRL_ABORT.get v == 1 then s.genAbort else s

/-- R631, R645: a write of SEAL_CFG. -/
def State.sealCfgWrite (s : State) (v : Word) : State :=
  let old := s.rget .SEAL_CFG 0
  let same (f : Field) := f.get v == f.get old
  let en (s : State) : State := s.sealEnWrite (fSEAL_CFG_EN.get v == 1)
  if same fSEAL_CFG_TX_DELAY && same fSEAL_CFG_RX_MAX then en s
  else if s.sealEn then s.flag .SEAL_EVT 0 fSEAL_EVT_CFG_REFUSED
  else en ((s.fset .SEAL_CFG 0 fSEAL_CFG_TX_DELAY (fSEAL_CFG_TX_DELAY.get v)).fset .SEAL_CFG 0 fSEAL_CFG_RX_MAX
    (fSEAL_CFG_RX_MAX.get v))

/-- R524, R527, R532: a write of RXR_CTRL. -/
def State.rxCtrlWrite (s : State) (r : Nat) (v : Word) : State :=
  if (s.rxr? r).isNone then s.flag .RXR_STAT r fRXR_STAT_REFUSED
  else if fRXR_CTRL_RESET.get v == 1 && !s.rxResetting r then s.rxReset r
  else if fRXR_CTRL_EN.get v == 1 then s.rxEnable r
  else s.fset .RXR_CTRL r fRXR_CTRL_EN 0

/-- R614: a write of DMA_CHAN_CTRL. -/
def State.chanCtrlWrite (s : State) (k : Nat) (v : Word) : State :=
  let start := fDMA_CHAN_CTRL_START.get v == 1
  let stop := fDMA_CHAN_CTRL_STOP.get v == 1
  if start && stop then s.rsvdEnc else if start then s.chanStart k else if stop then s.chanStop k else s

/-- R560, R558: a write of ADMIN_LOP_CTRL_k, its bits in rising order. -/
def State.lopCtrlWrite (s : State) (k : Nat) (v : Word) : State :=
  let s := if fADMIN_LOP_CTRL_SUSPEND.get v == 1 then s.lopReg k 0 else s
  let s := if fADMIN_LOP_CTRL_RESUME.get v == 1 then s.lopReg k 1 else s
  let s := if fADMIN_LOP_CTRL_CANCEL.get v == 1 then s.lopReg k 2 else s
  if fADMIN_LOP_CTRL_RELEASE.get v == 1 then s.lopRelease k else s

/-- R743: a write of GEN_RESET. -/
def State.resetWrite (s : State) (v : Word) : State :=
  if fGEN_RESET_RETHATCH.get v == 1 then
    if fGEN_RESET_KEY.get v == 0xD7 then s.rethatchRequest else s.rsvdEnc
  else s

/-- R29, R619: a write of RAFTER_EVT_p; the error record is freed once every event bit is clear. -/
def State.rafterEvtWrite (s : State) (p : Nat) (v : Word) : State :=
  let s := s.plainWrite .RAFTER_EVT p v
  if s.rget .RAFTER_EVT p == 0 then s.fset .RAFTER_ERR_INFO p fRAFTER_ERR_INFO_VALID 0 else s

/-- R740, R742: boot release, steps 2 to 4. -/
def State.bootRelease (s : State) (chosen : Nat) : State :=
  let s := s.fset .BOOT_STAT 0 fBOOT_STAT_STATE bRUNNING
  let s := (s.fset .BOOT_STAT 0 fBOOT_STAT_CHOSEN chosen).flag .BOOT_EVT 0 fBOOT_EVT_DONE
  (s.count .BOOT_CNT 0 fBOOT_CNT_BOOTS).forEach (List.range 16) State.laneStart

/-- R742: BOOT_CTRL.HOST_START leaves SAFE; other states ignore it. -/
def State.bootHostStart (s : State) : State := if s.boot == bSAFE then s.bootRelease 0 else s

/-- R721, R748: the bytes of a window transaction as driven: the opcode, its inverse in 8D-8D-8D, the address and for a
write the data. -/
def State.xspiBytes (s : State) : List Byte :=
  let c := s.rget .BOOT_XSPI_CMD 0
  let op := fBOOT_XSPI_CMD_OPCODE.get c
  let two := if s.fget .BOOT_XSPI_CFG 0 fBOOT_XSPI_CFG_PROTO == 2 then leBytes 1 (255 - op) else []
  let addr := if fBOOT_XSPI_CMD_ADDR_EN.get c == 1 then beBytes 4 (s.fget .BOOT_XSPI_ADDR 0 fBOOT_XSPI_ADDR_ADDR) else []
  let data := (List.range 32).flatMap (fun i => leBytes 8 (s.rget .BOOT_XSPI_DATA i).toNat)
  let out := if fBOOT_XSPI_CMD_DATA_EN.get c == 1 && fBOOT_XSPI_CMD_DIR.get c == 1 then
      data.take (fBOOT_XSPI_CMD_LEN.get c + 1) else []
  leBytes 1 op ++ two ++ addr ++ out

/-- R748: a write of BOOT_XSPI_CMD. -/
def State.xspiCmdWrite (s : State) (v : Word) : State :=
  let go := fBOOT_XSPI_CMD_BUSY.get v == 1 && !s.fbit .BOOT_XSPI_CMD 0 fBOOT_XSPI_CMD_BUSY
  let s := if fBOOT_XSPI_CMD_BUSY.get v == 1 && !go then s.plainWrite .BOOT_XSPI_CMD 0 v
    else s.plainWrite .BOOT_XSPI_CMD 0 (fBOOT_XSPI_CMD_BUSY.put v 0)
  if !go then s
  else if s.boot == bRUNNING || s.boot == bSAFE then
    let s := s.flag .BOOT_XSPI_CMD 0 fBOOT_XSPI_CMD_BUSY
    { s with bootU := { s.bootU with xspiBusy := true, xspiOut := s.xspiBytes } }
  else s.flag .BOOT_XSPI_CMD 0 fBOOT_XSPI_CMD_ERR

/-- What a write of v to a register does, its reserved encodings set aside. -/
def State.actWrite (s : State) (id : RegId) (i : Nat) (v : Word) : State :=
  let old := s.rget id i
  let merged := writeTypes id.desc.fields old v
  match id with
  | .GEN_RESET => s.resetWrite v
  | .GEN_FAULT_STAT => s.plainWrite id i (if s.failed then fGEN_FAULT_STAT_VALID.put v 0 else v)
  | .ADMIN_CFG => s.adminCfgWrite merged
  | .ADMIN_ASQ_BASE | .ADMIN_ACQ_BASE => s.adminBase id v
  | .ADMIN_ASQ_PROD => s.asqDoorbell (fADMIN_ASQ_PROD_PROD.get v)
  | .ADMIN_ACQ_CONS => s.acqConsWrite (fADMIN_ACQ_CONS_CONS.get v)
  | .ADMIN_LOP_CTRL => s.lopCtrlWrite i v
  | .RAFTER_EVT => s.rafterEvtWrite i v
  | .INTC_SRC => (s.plainWrite id i v).srcWritten i old
  | .INTC_VEC => (s.plainWrite id i v).vecWritten i
  | .INTC_EOI => s.eoi i (fINTC_EOI_VECTOR.get v)
  | .INTC_FEOI => s.feoi i (fINTC_FEOI_VECTOR.get v)
  | .TIME_ADDEND => if fTIME_ADDEND_ADDEND.get v == fTIME_ADDEND_ADDEND.get old then s
      else s.addendWrite (fTIME_ADDEND_ADDEND.get v)
  | .TIME_SLEW => s.timeGuard fTIME_LOAD_CTRL_SLEW_GO id v
  | .TIME_STEP | .TIME_LOAD_SEC | .TIME_LOAD_NS => s.timeGuard fTIME_LOAD_CTRL_GO id v
  | .TIME_LOAD_CTRL => s.loadCtrlWrite v
  | .TIME_PPS_OUT_CFG =>
      let s := s.plainWrite id i v
      if fTIME_PPS_OUT_CFG_EN.get v == 0 then s.ppsLow else s
  | .TIME_RCLK_CFG => (s.plainWrite id i v).rclkWrite i old
  | .LANE_CTRL => s.laneCtrlWrite i v
  | .LANE_TX_FIXED => s.txFixedWrite i v
  | .LANE_LOOP => s.loopWrite i v
  | .LANE_PATTERN => s.patternWrite i v
  | .LANE_RX_EQ => s.ctleWrite i v
  | .LANE_CAL_TX_SET => s.calTxWrite i v
  | .LANE_QUAD_CFG => s.quadCfgWrite i v
  | .PORT_MODE => s.portModeWrite i v
  | .PORT_FC_CFG => (s.plainWrite id i v).fcUpdate i
  | .PORT_FC_THR => (s.plainWrite id i v).fcUpdate (i / 8)
  | .PORT_PFC_MAP => (s.plainWrite id i v).showPause i
  | .PORT_PREEMPT_CFG => s.preemptCfg i v
  | .PORT_FEC_CFG => (s.plainWrite id i v).fset .PORT_FEC_STAT i fPORT_FEC_STAT_BYPASSING (fPORT_FEC_CFG_BYPASS_CORR.get v)
  | .PORT_ADM_PRI | .LOFT_POOL => s.poolWrite id i merged
  | .COURSE_PORT_MAP => s.portMapWrite i v
  | .COURSE_PARSE_CFG | .COURSE_UDP_PORTS | .COURSE_SLOW_CFG => s.parseWrite id i 1 v
  | .COURSE_KSEL => s.parseWrite id i 64 v
  | .COURSE_KPROF => s.parseWrite id i 1536 v
  | .TABLE_EM_CFG => s.tableCfg i merged
  | .TABLE_EM_SEED => s.tableSeed i merged
  | .TABLE_GEN_CTRL => s.genCtrlWrite v
  | .QW_CFG => s.qwCfg merged
  | .QW_BUF_BASE => if s.fbit .QW_CFG 0 fQW_CFG_EN then s.flag .SCHED_EVT 0 fSCHED_EVT_CFG_REFUSED else s.plainWrite id i v
  | .TXR_PROD => s.txDoorbell i (fTXR_PROD_PROD.get v)
  | .TXR_CTRL => if fTXR_CTRL_EN.get v == 1 then s.txEnable i else s.txDisable i
  | .RXR_PROD => s.rxDoorbell i (fRXR_PROD_PROD.get v)
  | .RXR_CTRL => s.rxCtrlWrite i v
  | .CQ_CONS => s.cqDoorbell i (fCQ_CONS_CONS.get v)
  | .DMA_CHAN_CFG =>
      if s.chanState i == cOFF then (s.charge i false 0).plainWrite id i v
      else s.flag .DMA_CHAN_EVT i fDMA_CHAN_EVT_CFG_REFUSED
  | .DMA_CHAN_HEAD | .DMA_CHAN_DONE_ADDR =>
      if s.chanState i == cOFF then s.plainWrite id i v else s.flag .DMA_CHAN_EVT i fDMA_CHAN_EVT_CFG_REFUSED
  | .DMA_CHAN_CTRL => s.chanCtrlWrite i v
  | .DMA_CHAN_APPEND => if fDMA_CHAN_APPEND_RING.get v == 1 then s.chanRing i else s
  | .SEAL_CFG => s.sealCfgWrite v
  | .BOOT_CTRL => if fBOOT_CTRL_HOST_START.get v == 1 then s.bootHostStart else s
  | .BOOT_XSPI_CMD => s.xspiCmdWrite v
  | .POWER_FENCE => s.fenceWrite v
  | .POWER_PAD => s.padWrite (fPOWER_PAD_RELEASE.get v)
  | .POWER_THERM_CTRL => if fPOWER_THERM_CTRL_UNLOCK.get v == 1 then s.thermUnlock else s
  | _ =>
    match windowOf id with
    | some (cmd, busy, st, err) => if s.fbit cmd 0 busy then s.flag st 0 err else s.plainWrite id i v
    | none => s.plainWrite id i v

/-- R415: a write that the pools refuse. -/
def State.poolRefuses (s : State) (id : RegId) (i : Nat) (v : Word) : Bool :=
  match id with
  | .PORT_ADM_PRI | .LOFT_POOL => decide ((s.rset id i (writeTypes id.desc.fields (s.rget id i) v)).sharedSize < 16384)
  | _ => false

/-- R17, R415: a write of v to a register. -/
def State.writeReg (s : State) (id : RegId) (i : Nat) (v : Word) : State :=
  if s.encBad id i v == [] then s.actWrite id i v
  else
    let w := s.setAside id i v
    let t := s.actWrite id i w
    if s.poolRefuses id i w then t else t.rsvdEnc

-- Halves (R14, R22 to R24)

/-- The register at an offset, and whether the offset is its upper half's (R57, R58). -/
def locate (off : Nat) : Option (RegId × Nat × Bool) :=
  match regAt off with
  | some (id, i) => some (id, i, false)
  | none =>
    if off % 8 = 4 then
      match regAt (off - 4) with
      | some (id, i) => if id.desc.width = 64 then some (id, i, true) else none
      | none => none
    else none

/-- R22: the read latch of a register; until the first lower-half read it holds the upper half's Reset value. -/
def State.readLatch (s : State) (id : RegId) (i : Nat) : Word :=
  Store.get (id.resetAt i >>> 32) s.latch (rkey id i)

def low32 (v : Word) : Word := v &&& 0xFFFFFFFF

/-- R22: a read latches the upper half of a register's value. -/
def State.latchUpper (s : State) (id : RegId) (i : Nat) (v : Word) : State :=
  { s with latch := Store.set (id.resetAt i >>> 32) s.latch (rkey id i) (v >>> 32) }

/-- R18, R22, R23, R265: a read of a register or of one half of it. A read that covers the lower half of TIME_NOW_L, of
64 bits too, latches the upper halves of its capture. -/
def State.readAt (s : State) (id : RegId) (i : Nat) (upper : Bool) (size : Nat) : Word × State :=
  if upper then (s.readLatch id i, s)
  else
    let (v, s) := s.readReg id i
    let s := if id.desc.width = 64 && (size = 4 || id = .TIME_NOW_L) then s.latchUpper id i v else s
    let s := if id = .TIME_NOW_L then s.latchUpper .TIME_NOW_H 0 (s.rget .TIME_NOW_H 0) else s
    (if id.desc.width = 64 && size = 4 then low32 v else v, s)

/-- R24: what an upper-half write carries in its lower half while the staging latch is empty. -/
def State.neutral (s : State) (id : RegId) (i : Nat) : Word := low32 (s.rget id i &&& typeMask .rw id.desc.fields)

/-- R24: the staged lower half, if the staging latch holds one. -/
def State.stagedLow (s : State) (id : RegId) (i : Nat) : Option Word := s.staged.find? (rkey id i)

/-- R24: a write of a register or of one half of it. -/
def State.writeAt (s : State) (id : RegId) (i : Nat) (upper : Bool) (size : Nat) (v : Word) : State :=
  if id.desc.width = 64 && size = 4 && !upper then { s with staged := s.staged.put (rkey id i) (low32 v) }
  else
    let low := (s.stagedLow id i).getD (s.neutral id i)
    let s : State := { s with staged := s.staged.del (rkey id i) }
    s.writeReg id i (if upper then (low32 v <<< 32) ||| low else if id.desc.width = 64 then v else low32 v)

-- Accesses

/-- R57: the domain of a region; none outside every region (R58). -/
def regionDom (off : Nat) : Option Nat :=
  if off < 0x1000000 && !((0x021000 ≤ off && off < 0x030000) || (0x640000 ≤ off && off < 0x800000) ||
      (0x804000 ≤ off && off < 0x900000) || 0xD00000 ≤ off) then some (regDomain off) else none

/-- R739: from a cold reset or a re-thatch until RUNNING or SAFE, a control-port write to another region than GEN and
POWER, or than the registers at 0x40 and 0x44 of BOOT, is discarded. -/
def State.writeHeld (s : State) (off : Nat) : Bool :=
  s.boot != bRUNNING && s.boot != bSAFE &&
    !(decide (off < 0x010000) || decide (0xC00000 ≤ off) || off == 0xB00040 || off == 0xB00044)

/-- R739, R748: a control-port write that is discarded; a write of BOOT_XSPI_CMD.BUSY also sets ERR. -/
def State.heldWrite (s : State) (target : Option (RegId × Nat × Bool)) (v : Word) : State :=
  let s := s.flag .BOOT_EVT 0 fBOOT_EVT_WR_REFUSED
  match target with
  | some (.BOOT_XSPI_CMD, _, false) =>
    if fBOOT_XSPI_CMD_BUSY.get v == 1 then s.flag .BOOT_XSPI_CMD 0 fBOOT_XSPI_CMD_ERR else s
  | _ => s

/-- R14 to R17, R60, R739: one access of 4 or 8 bytes at an offset, where `target` lies: a register and whether its upper
half is meant, or none for a reserved offset. It gives whether it gets an error response, the data read, and the state
after it. `port`: it comes from the control port. -/
def State.accessAt (s : State) (port write : Bool) (size off : Nat) (target : Option (RegId × Nat × Bool)) (v : Word) :
    Bool × Word × State :=
  match regionDom off with
  | none => (false, 0, s.tracked off (s.flag .GEN_ACC_ERR 0 fGEN_ACC_ERR_RSVD_OFF))
  | some d =>
    let held := write && port && s.writeHeld off
    let s1 := if held then s.heldWrite target v else s
    if s.dom d == 3 then (true, 0, s1.tracked off (s1.flag .GEN_ACC_ERR 0 fGEN_ACC_ERR_FENCED))
    else
      match target with
      | none => (false, 0, s1.tracked off (s1.flag .GEN_ACC_ERR 0 fGEN_ACC_ERR_RSVD_OFF))
      | some (id, i, upper) =>
        if held then (false, 0, s1)
        else if write then (false, 0, s1.tracked off (s1.writeAt id i upper size v))
        else let r := s1.readAt id i upper size
             (false, r.1, r.2)

/-- R58: an access at an offset, to whatever lies there. -/
def State.accessOne (s : State) (port write : Bool) (size off : Nat) (v : Word) : Bool × Word × State :=
  s.accessAt port write size off (locate off) v

/-- R14: whether a 32-bit register lies at an offset, so that an 8-byte access there is split. -/
def narrowAt (off : Nat) : Bool :=
  match regAt off with
  | some (id, _) => id.desc.width == 32
  | none => false

/-- R13, R14: an access of any size at any offset. -/
def State.accessAny (s : State) (port write : Bool) (size off : Nat) (v : Word) : Bool × Word × State :=
  if !(size == 4 || size == 8) || off % size != 0 then
    (true, 0, s.tracked off (s.flag .GEN_ACC_ERR 0 fGEN_ACC_ERR_SHAPE))
  else if size == 8 && narrowAt off then
    let a := s.accessOne port write 4 off (low32 v)
    let b := a.2.2.accessOne port write 4 (off + 4) (v >>> 32)
    if a.1 || b.1 then (true, 0, b.2.2) else (false, a.2.1 ||| (b.2.1 <<< 32), b.2.2)
  else s.accessOne port write size off v

-- The control port

/-- R784, R786: `ctl_rsp_rdata_o` of a response to an access at an offset: byte X in lane X mod 8, every other lane zero. -/
def CtResp.rdata (r : CtResp) (off : Nat) : Word := r.data <<< (8 * (off % 8))

/-- R784, R789: `ctl_rsp_par_o` of that response: odd parity of each read data byte, then of `ctl_rsp_err_o`. -/
def CtResp.par (r : CtResp) (off : Nat) : Nat :=
  ofBits ((List.range 8).map (fun n => oddParity 8 ((r.rdata off).toNat / 2 ^ (8 * n))) ++ [oddParity 1 r.err.toNat])

/-- R788: `ctl_req_ready_o`. -/
def State.ctReady (s : State) : Bool := !s.bootU.asserted && decide (s.ctQueue.length < 4)

/-- R60, R687, R817: the access stalls: the domain of its region rests or is not ready. -/
def State.stalls (s : State) (off : Nat) : Bool :=
  match regionDom off with
  | none => false
  | some d => s.dom d != 3 && !s.ready d

/-- R61, R62, R789: one access arrives with no other before it: `act` carries it out, or it stalls. -/
def State.ctServeBy (s : State) (a : Access) (act : State → Bool × Word × State) : State :=
  if !a.parityOk then
    { s.failStop .busParity 0 0 with ctResp := some { err := true, data := 0 }, ctOut := [{ err := true, data := 0 }] }
  else if !(a.size == 4 || a.size == 8) || a.offset % a.size != 0 || !s.stalls a.offset then
    let r := act s
    { r.2.2 with
        ctResp := some { err := r.1, data := r.2.1 }
        ctOut := [{ err := r.1, data := r.2.1 }]
        ctLast := some (a.offset % 2 ^ 24, s.mclk) }
  else
    match regionDom a.offset with
    | some d => { s.access d with ctStall := some a, ctOut := [] }
    | none => s

/-- R13, R57: an access is served at its offset. -/
def State.ctServe (s : State) (a : Access) : State :=
  s.ctServeBy a (fun s => s.accessAny true a.write a.size (a.offset % 2 ^ 24) a.data)

/-- R61, R788, R790: an access arrives at the control port. Behind an access that stalls the request FIFO holds four,
and takes no more while it is full. -/
def State.ctAccessBy (s : State) (a : Access) (act : State → Bool × Word × State) : State :=
  if s.bootU.asserted then s
  else if s.ctStall.isSome then
    if s.ctReady then { s with ctQueue := s.ctQueue ++ [a], ctOut := [] } else s
  else s.ctServeBy a act

/-- R13, R57: an access arrives at its offset. -/
def State.ctAccess (s : State) (a : Access) : State :=
  s.ctAccessBy a (fun s => s.accessAny true a.write a.size (a.offset % 2 ^ 24) a.data)

/-- R61, R787: the accesses held back are served in order, until one of them stalls; each gets its response. -/
def State.ctDrain (s : State) : Nat → State
  | 0 => s
  | n + 1 =>
    match s.ctStall, s.ctQueue with
    | none, a :: rest =>
      let t := ({ s with ctQueue := rest } : State).ctServe a
      ({ t with ctOut := s.ctOut ++ t.ctOut } : State).ctDrain n
    | _, _ => s

/-- R60, R61: the access that stalled is served once its domain is ready, then those behind it. -/
def State.stallServed (s : State) : State :=
  match s.ctStall with
  | none => s
  | some a =>
    if s.stalls a.offset then s
    else
      let s := ({ s with ctStall := none } : State).ctServe a
      s.ctDrain s.ctQueue.length

/-- R12: a write of a whole register at the control port, at the offset where it lies (R57). -/
def State.ctWrite (s : State) (id : RegId) (i : Nat) (v : Word) : State :=
  s.ctAccessBy { write := true, size := id.desc.width / 8, offset := addrOf id i, data := v }
    (fun s => s.accessAt true true (id.desc.width / 8) (addrOf id i) (some (id, i, false)) v)

/-- R12: a read of a whole register at the control port, at the offset where it lies (R57). -/
def State.ctRead (s : State) (id : RegId) (i : Nat) : State :=
  s.ctAccessBy { write := false, size := id.desc.width / 8, offset := addrOf id i, data := 0 }
    (fun s => s.accessAt true false (id.desc.width / 8) (addrOf id i) (some (id, i, false)) 0)

end Sys2Proof.Machine
end

