-- ==== Sys2Proof/Machine/Command.lean ====
section
/-! DEFINITION. The admin command set (R542 to R545, R561 to R572): taking a command from the queue, its checks in the
order of R544, and what each command does. Rings and queues are created and destroyed here (R493 to R495, R528,
R534), for the commands and for the records of a thatch image. -/

namespace Sys2Proof.Machine

-- Creating and destroying rings

/-- Parts of a context record of R493: its 32 bytes. -/
def ctxLog2 (c : List Byte) : Nat := cb c 16 4 % 32
def ctxShadowEn (c : List Byte) : Bool := bitOf (cb c 16 4) 5
def ctxRafter (c : List Byte) : Nat := cb c 16 4 / 2 ^ 6 % 4
def ctxPri (c : List Byte) : Nat := cb c 16 4 / 2 ^ 8 % 4
def ctxCq (c : List Byte) : Nat := cb c 16 4 / 2 ^ 10 % 2 ^ 12

/-- R490, R493, R494: a context record that a create refuses. -/
def ctxBad (c : List Byte) (cq : Bool) : Bool :=
  cb c 0 8 % 64 != 0 || decide (ctxLog2 c < 6) || decide (20 < ctxLog2 c) || decide (2 ^ 22 ≤ cb c 16 4) || cb c 20 12 != 0 ||
    (if cq then cb c 8 8 != 0 || ctxShadowEn c || ctxCq c != 0 else ctxShadowEn c && cb c 8 8 % 8 != 0)

/-- R534: the pages of rings and queues return to their Reset values, except REFUSED. -/
def State.txPage (s : State) (r : Nat) : State :=
  let s := (s.rreset .TXR_PROD r).rreset .TXR_CONS r
  let s := (s.rreset .TXR_FETCH r).rreset .TXR_CTRL r
  s.rset .TXR_STAT r (fTXR_STAT_REFUSED.at (s.fget .TXR_STAT r fTXR_STAT_REFUSED))
def State.rxPage (s : State) (r : Nat) : State :=
  let s := ((s.rreset .RXR_PROD r).rreset .RXR_CONS r).rreset .RXR_CTRL r
  s.rset .RXR_STAT r (fRXR_STAT_REFUSED.at (s.fget .RXR_STAT r fRXR_STAT_REFUSED))
def State.cqPage (s : State) (q : Nat) : State :=
  let s := (s.rreset .CQ_PROD q).rreset .CQ_CONS q
  s.rset .CQ_STAT q (fCQ_STAT_REFUSED.at (s.fget .CQ_STAT q fCQ_STAT_REFUSED))

/-- The transmit ring, receive buffer ring or completion queue that a context record describes. -/
def txOf (c : List Byte) : TxRing :=
  { base := cb c 0 8, shadow := cb c 8 8, log2 := ctxLog2 c, shadowEn := ctxShadowEn c, rafter := ctxRafter c,
    pri := ctxPri c, cq := ctxCq c }
def rxOf (c : List Byte) : RxRing :=
  { base := cb c 0 8, shadow := cb c 8 8, log2 := ctxLog2 c, shadowEn := ctxShadowEn c, rafter := ctxRafter c,
    pri := ctxPri c, cq := ctxCq c }
def cqOf (c : List Byte) : CqCtx := { base := cb c 0 8, log2 := ctxLog2 c, rafter := ctxRafter c, pri := ctxPri c }

/-- R544, R563: the status with which a create of a ring ends, its operands being good. -/
def State.ringStatus (s : State) (rx : Bool) (r : Nat) (c : List Byte) : Nat :=
  if (s.cq? (ctxCq c)).isNone then aNoObject
  else if (if rx then (s.rxr? r).isSome else (s.txr? r).isSome) then aExists else aOK
def State.cqStatus (s : State) (q : Nat) : Nat := if (s.cq? q).isSome then aExists else aOK

/-- R495, R534: a ring or queue is created. -/
def State.txMake (s : State) (r : Nat) (c : List Byte) : State :=
  ((s.txPage r).setTxr r (txOf c)).flag .TXR_CTRL r fTXR_CTRL_EN
def State.rxMake (s : State) (r : Nat) (c : List Byte) : State :=
  ((s.rxPage r).setRxr r (rxOf c)).flag .RXR_CTRL r fRXR_CTRL_EN
def State.cqMake (s : State) (q : Nat) (c : List Byte) : State := (s.cqPage q).setCq q (cqOf c)

/-- R528: the status with which a destroy ends. -/
def State.txGone (s : State) (r : Nat) : Nat :=
  if (s.txr? r).isNone then aNoObject else if s.txIdle r then aOK else aBusy
def State.rxGone (s : State) (r : Nat) : Nat :=
  if (s.rxr? r).isNone then aNoObject else if s.rxOn r || s.rxResetting r then aBusy else aOK
def State.cqGone (s : State) (q : Nat) : Nat :=
  if (s.cq? q).isNone then aNoObject
  else if s.txrs.any (fun e => e.2.cq == q) || s.rxrs.any (fun e => e.2.cq == q) then aBusy else aOK

/-- R534: a destroyed object's page; what a destroyed receive buffer ring still held of the loft is freed. -/
def State.txDrop (s : State) (r : Nat) : State := { s.txPage r with txrs := (s.txPage r).txrs.del r }
def State.rxDrop (s : State) (r : Nat) : State :=
  let held := match s.rxr? r with
    | some x => x.dq ++ (x.active.filter (fun d => d.left != 0)).map (·.pkt)
    | none => []
  let s := (s.forEach held State.releasePkt).rxPage r
  { s with rxrs := s.rxrs.del r }
def State.cqDrop (s : State) (q : Nat) : State := { s.cqPage q with cqs := (s.cqPage q).cqs.del q }

-- Taking commands

/-- R562: the opcodes of the command set. -/
def opcodes : List Nat :=
  [0x00, 0x01, 0x02, 0x03, 0x04, 0x05, 0x06, 0x10, 0x11, 0x12, 0x13, 0x20, 0x21, 0x22, 0x23, 0x30, 0x40, 0x41, 0x50, 0x51,
   0x60, 0x61, 0x70, 0x71, 0x72]

/-- R542: every byte outside the header and the named parts is zero. -/
def onlyNamed (c : List Byte) (named : List (Nat × Nat)) : Bool :=
  decide (cb c 1 1 < 2) &&
    (List.range 64).all (fun i =>
      decide (i < 4) || named.any (fun p => decide (p.1 ≤ i) && decide (i < p.1 + p.2)) || cb c i 1 == 0)

/-- R550: a long operation accepted earlier has not had its final completion issued. -/
def State.lopsOpen (s : State) : Bool :=
  (List.range 16).any (fun k => s.lopState k != kFREE && s.lopState k != kDONE) || s.adminDue.any (fun c => c.slot.isSome)

/-- R550: the fence of a command holds it back. -/
def State.fenced (s : State) (c : List Byte) : Bool := bitOf (cb c 1 1) 0 && s.lopsOpen

def State.fenceWait (s : State) : Bool := s.fbit .ADMIN_STAT 0 fADMIN_STAT_FENCE_WAIT

/-- R549, R550: the engine can start a command. -/
def State.adminReady (s : State) : Bool :=
  s.adminOpen && s.adminCur.isNone && decide (s.adminDue.length ≤ s.acqRoom) && !s.fenceWait

/-- The command at the front of the queue, if it can start now. -/
def State.frontCmd (s : State) : Option (List Byte) :=
  match s.adminFifo with
  | [] => none
  | c :: _ => if s.adminReady && !s.fenced c then some c else none

/-- The front command leaves the queue. -/
def State.popCmd (s : State) : State := { s with adminFifo := s.adminFifo.tail, adminStalled := false }

/-- R545: the front command wakes the domains of its object, and stalls until they are ready. -/
def State.stallCmd (s : State) (ds : List Nat) : State := { s.forEach ds State.access with adminStalled := true }

/-- R551: a short command ends. -/
def State.shortDone (s : State) (c : List Byte) (status detail res0 res1 : Nat) : State :=
  s.adminPost (complOf c status detail res0 res1)

/-- R551: the short command in progress ends. -/
def State.curDone (s : State) (status detail res0 res1 : Nat) : State :=
  match s.adminCur with
  | some x => ({ s with adminCur := none } : State).shortDone x.bytes status detail res0 res1
  | none => s

/-- R544: TAG_IN_USE. -/
def State.tagInUse (s : State) (c : List Byte) : Bool := s.lops.any (fun e => cb e.2.bytes 2 2 == cb c 2 2)

/-- What a command gives R544 and R545: whether its operands are bad, whether it is a long operation, the domains of
its object, and the status of the later checks. -/
structure CmdSpec where
  bad : Bool
  long : Bool
  doms : List Nat
  later : Nat

/-- R544, R545: the command at the front, if it has this opcode, is checked and carried out; a refused one has no
effect and one completion. -/
def State.adminRun (s : State) (op : Nat) (spec : List Byte → CmdSpec) (act : State → List Byte → State) : State :=
  match s.frontCmd with
  | none => s
  | some c =>
    let x := spec c
    let early :=
      if x.bad then aBadOperand
      else if x.long && s.tagInUse c then aTagInUse
      else if x.long && s.freeSlot.isNone then aLimit
      else if x.doms.any (fun d => s.dom d == 3) then aFenced
      else aOK
    if cb c 0 1 != op then s
    else if early != aOK then s.popCmd.shortDone c early 0 0 0
    else if x.doms.any (fun d => !s.ready d) then s.stallCmd x.doms
    else if x.later != aOK then s.popCmd.shortDone c x.later 0 0 0
    else act s.popCmd c

/-- R562, R572. -/
def State.cmdNop (s : State) : State :=
  s.adminRun 0x00 (fun c => ⟨!onlyNamed c [], false, [], aOK⟩) (fun s c => s.shortDone c aOK 0 0 0)

def ctxAt (c : List Byte) : List Byte := (c.drop 16).take 32

/-- R563: TXR_CREATE (`rx` false) and RXR_CREATE. -/
def State.cmdRingCreate (s : State) (rx : Bool) : State :=
  s.adminRun (if rx then 0x03 else 0x01)
    (fun c => ⟨!onlyNamed c [(8, 2), (16, 32)] || decide (2 ^ 14 ≤ cb c 8 2) || ctxBad (ctxAt c) false, false, [dHOSTIF],
      s.ringStatus rx (cb c 8 2) (ctxAt c)⟩)
    (fun s c => (if rx then s.rxMake (cb c 8 2) (ctxAt c) else s.txMake (cb c 8 2) (ctxAt c)).shortDone c aOK 0 0 0)

/-- R528, R563: TXR_DESTROY (`rx` false) and RXR_DESTROY. -/
def State.cmdRingDestroy (s : State) (rx : Bool) : State :=
  s.adminRun (if rx then 0x04 else 0x02)
    (fun c => ⟨!onlyNamed c [(8, 2)] || decide (2 ^ 14 ≤ cb c 8 2), false, [dHOSTIF],
      if rx then s.rxGone (cb c 8 2) else s.txGone (cb c 8 2)⟩)
    (fun s c => (if rx then s.rxDrop (cb c 8 2) else s.txDrop (cb c 8 2)).shortDone c aOK 0 0 0)

/-- R563: CQ_CREATE. -/
def State.cmdCqCreate (s : State) : State :=
  s.adminRun 0x05
    (fun c => ⟨!onlyNamed c [(8, 2), (16, 32)] || decide (2 ^ 12 ≤ cb c 8 2) || ctxBad (ctxAt c) true, false, [dHOSTIF],
      s.cqStatus (cb c 8 2)⟩)
    (fun s c => (s.cqMake (cb c 8 2) (ctxAt c)).shortDone c aOK 0 0 0)

/-- R528, R563: CQ_DESTROY. -/
def State.cmdCqDestroy (s : State) : State :=
  s.adminRun 0x06
    (fun c => ⟨!onlyNamed c [(8, 2)] || decide (2 ^ 12 ≤ cb c 8 2), false, [dHOSTIF], s.cqGone (cb c 8 2)⟩)
    (fun s c => (s.cqDrop (cb c 8 2)).shortDone c aOK 0 0 0)

-- Tables

/-- R564: a location in the layout of TABLE_WIN_ADDR. -/
def locWord (t loc : Nat) : Nat := t + loc / 4 * 4 + loc % 4 * 2 ^ 19

/-- The location that TABLE_EDIT names. -/
def editLoc (c : List Byte) : Nat := cb c 12 4 % 2 ^ 17 * 4 + cb c 12 4 / 2 ^ 17

/-- R564: TABLE_EDIT: its record is read from RECORD_ADDR. -/
def State.cmdTableEdit (s : State) : State :=
  s.adminRun 0x10
    (fun c => ⟨!onlyNamed c [(8, 1), (9, 1), (12, 4), (16, 8)] || decide (32 ≤ cb c 8 1) || decide (4 < cb c 8 1 % 16) ||
      decide (4 ≤ cb c 9 1) || decide (2 ^ 19 ≤ cb c 12 4) || cb c 16 8 % 64 != 0, false, [dTABLE], aOK⟩)
    (fun s c =>
      let x : AdminCur := { bytes := c, phase := 4, left := 1 }
      ({ s with adminCur := some x } : State).enqueue (s.operandReqs none false (cb c 16 8) [] 64))

/-- R383, R564: the record has been read: the edit is made, and SEARCH and READ write the record found. -/
def State.editGo (s : State) (c rec : List Byte) : State :=
  let op := cb c 8 1 % 16
  let t := cb c 9 1
  let (o, s) := s.serveTableWin.edit op t (bitOf (cb c 8 1) 4) (editLoc c) rec
  let loc := match o.loc with | some l => l | none => editLoc c
  let st := if o.result == eOK then aOK else aFailed
  if (op == 0 || op == 4) && o.result == eOK then
    let x : AdminCur := { bytes := c, phase := 5, left := 1, detail := o.result, res0 := locWord t loc, res1 := o.moves % 8 }
    ({ s with adminCur := some x } : State).enqueue (s.operandReqs none true (cb c 16 8) o.bytes 64)
  else s.curDone st o.result (locWord t loc) (o.moves % 8)

/-- RESULT0 of TABLE_GEN (R565). -/
def State.genPair (s : State) : Nat := s.genCurrent + s.genOther * 2 ^ 16

/-- R565: TABLE_GEN: OPEN ends at once; COMMIT and ABORT end at their edge. -/
def State.cmdTableGen (s : State) : State :=
  s.adminRun 0x11 (fun c => ⟨!onlyNamed c [(8, 1)] || decide (2 < cb c 8 1), false, [dTABLE], aOK⟩)
    (fun s c =>
      match cb c 8 1 with
      | 0 =>
        let ok := s.serveTableWin.genState == gSTEADY || s.serveTableWin.genState == gOPEN
        let s := s.genOpen
        s.shortDone c (if ok then aOK else aBusy) 0 s.genPair 0
      | n =>
        let s := s.serveTableWin
        let s' := if n = 1 then s.genCommit else s.genAbort
        if s'.genState == s.genState then s'.shortDone c aBusy 0 s.genPair 0
        else { s' with adminCur := some { bytes := c, phase := 6 } })

/-- R565: a COMMIT or ABORT of TABLE_GEN has reached its edge. -/
def State.genDone (s : State) : State :=
  match s.adminCur with
  | some x =>
    if cb x.bytes 0 1 == 0x11 && s.genState != gCOMMITTING && s.genState != gABORTING then s.curDone aOK 0 s.genPair 0 else s
  | none => s

/-- R566: TABLE_BULK_LOAD. -/
def State.cmdBulkLoad (s : State) : State :=
  s.adminRun 0x12
    (fun c => ⟨!onlyNamed c [(16, 8), (24, 4)] || cb c 16 8 % 64 != 0 || cb c 24 4 == 0 || decide (16777216 < cb c 24 4),
      true, [dTABLE], if s.lopsOf oBULK != [] || decide (1 < s.genState) then aBusy else aOK⟩)
    (fun s c => s.lopAccept (s.freeSlot.getD 0) c)

/-- R381, R391, R566: TABLE_REHASH. -/
def State.cmdRehash (s : State) : State :=
  s.adminRun 0x13
    (fun c => ⟨!onlyNamed c [(9, 1), (16, 8)] || decide (4 ≤ cb c 9 1), true, [dTABLE],
      aOK⟩)
    (fun s c =>
      if s.lopsOf oREHASH != [] || s.rehashBad (cb c 9 1) (BitVec.ofNat 64 (cb c 16 8)) then
        (if s.genState == gSTEADY then s else s.genRefused).shortDone c aBusy 0 0 0
      else s.lopAccept (s.freeSlot.getD 0) c)

-- Nodes and meters

/-- R563: the LEVEL or INDEX operand is out of range. -/
def nodeBad (c : List Byte) : Bool :=
  decide (2 < cb c 8 1 % 4) || decide (levelSize (cb c 8 1 % 4) ≤ cb c 12 4)

/-- R563: a unit's result as the completion carries it. -/
def State.unitDone (s : State) (c : List Byte) (r : Nat) : State :=
  s.shortDone c (if r == 0 then aOK else aFailed) r 0 0

/-- The record words of a command, at bytes 16 to 39. -/
def cmdWords (c : List Byte) : Word × Word × Word := recWords c 16

/-- R483, R563: SCHED_NODE_CREATE. -/
def State.cmdNodeCreate (s : State) : State :=
  s.adminRun 0x20
    (fun c => ⟨!onlyNamed c [(8, 1), (12, 4), (16, 24)] || decide (4 ≤ cb c 8 1) || nodeBad c, false, [dSCHED], aOK⟩)
    (fun s c =>
      let (a, b, d) := cmdWords c
      let (r, s) := s.nodeCreate (cb c 8 1) (cb c 12 4) a b d
      s.unitDone c r)

/-- R484, R563: SCHED_NODE_DESTROY. -/
def State.cmdNodeDestroy (s : State) : State :=
  s.adminRun 0x21 (fun c => ⟨!onlyNamed c [(8, 1), (12, 4)] || decide (4 ≤ cb c 8 1) || nodeBad c, false, [dSCHED], aOK⟩)
    (fun s c =>
      let (r, s) := s.nodeDestroy (cb c 8 1) (cb c 12 4)
      s.unitDone c r)

/-- R481, R563: SCHED_NODE_WRITE. -/
def State.cmdNodeWrite (s : State) : State :=
  s.adminRun 0x22
    (fun c => ⟨!onlyNamed c [(8, 1), (12, 4), (16, 24)] || decide (8 ≤ cb c 8 1) || nodeBad c, false, [dSCHED], aOK⟩)
    (fun s c =>
      let (a, b, d) := cmdWords c
      let (r, s) := s.nodeWrite (cb c 8 1 % 4) (cb c 12 4) a b d (bitOf (cb c 8 1) 2)
      s.unitDone c r)

/-- R481, R563: METER_WRITE; BAD_VALUE is result 5. -/
def State.cmdMeterWrite (s : State) : State :=
  s.adminRun 0x23 (fun c => ⟨!onlyNamed c [(8, 1), (12, 4), (16, 24)] || decide (2 ≤ cb c 8 1) || decide (2 ^ 18 ≤ cb c 12 4),
      false, [dSCHED], aOK⟩)
    (fun s c =>
      let (a, b, d) := cmdWords c
      let (ok, s) := s.meterWrite (cb c 12 4) a b d (bitOf (cb c 8 1) 0)
      s.unitDone c (if ok then 0 else nBAD_VALUE))

-- Register writes

/-- The i-th write of REG_WRITE: offset, size in bytes and value. -/
def regWriteAt (c : List Byte) (i : Nat) : Nat × Nat × Word :=
  (cb c (16 + 16 * i) 4, if cb c (20 + 16 * i) 1 == 0 then 4 else 8, BitVec.ofNat 64 (cb c (24 + 16 * i) 8))

/-- R568: a write that refuses the whole command. -/
def regWriteBad (w : Nat × Nat × Word) : Bool :=
  decide (2 ^ 24 ≤ w.1) || w.1 % w.2.1 != 0 || (decide (0x1000 ≤ w.1) && decide (w.1 ≤ 0x14FF)) ||
    (decide (0x400000 ≤ w.1) && decide (w.1 ≤ 0x63FFFF)) || (w.2.1 == 4 && decide (2 ^ 32 ≤ w.2.2.toNat))

def regWrites (c : List Byte) : List (Nat × Nat × Word) := (List.range (cb c 8 1)).map (regWriteAt c)

/-- A re-thatch has been taken or waits. -/
def State.rethatching (s : State) : Bool := s.boot == bQUIESCE || s.bootU.rethatchWait

/-- R742: whether a re-thatch request waits. -/
def State.setRethatchWait (s : State) (b : Bool) : State := { s with bootU := { s.bootU with rethatchWait := b } }

/-- R60, R568, R747: the writes in order; `n` have been applied. A write to a domain that is not ready stalls the command
there (phase 7), and a write that requests a re-thatch ends it without a completion. -/
def State.regWriteGo (s : State) (c : List Byte) (n : Nat) : List (Nat × Nat × Word) → State
  | [] => s.shortDone c aOK n 0 0
  | w :: rest =>
    let down := (regionDom w.1).toList.filter (fun d => s.dom d != 3 && !s.ready d)
    if down != [] then { s.forEach down State.access with adminCur := some { bytes := c, phase := 7, left := n } }
    else
      let r := (s.setRethatchWait false).accessAny false true w.2.1 w.1 w.2.2
      let asked := r.2.2.rethatching
      let t := r.2.2.setRethatchWait (r.2.2.bootU.rethatchWait || s.bootU.rethatchWait)
      if r.1 then t.shortDone c aFenced n 0 0
      else if asked then t
      else t.regWriteGo c (n + 1) rest

/-- R60, R568: a REG_WRITE that stalls goes on with the write at which it stands. -/
def State.regWriteOn (s : State) (x : AdminCur) : State :=
  ({ s with adminCur := none } : State).regWriteGo x.bytes x.left ((regWrites x.bytes).drop x.left)

/-- R568: REG_WRITE. -/
def State.cmdRegWrite (s : State) : State :=
  match s.adminCur with
  | some x => if x.phase == 7 then s.regWriteOn x else s
  | none =>
  s.adminRun 0x30
    (fun c =>
      let n := cb c 8 1
      let named := (8, 1) :: (List.range n).flatMap (fun i => [(16 + 16 * i, 5), (24 + 16 * i, 8)])
      let flags := (List.range n).any (fun i => decide (2 ≤ cb c (20 + 16 * i) 1))
      let ds := ((regWrites c).filterMap (fun w => regionDom w.1)).filter (fun d => s.dom d != 3)
      ⟨n == 0 || decide (3 < n) || !onlyNamed c named || flags || (regWrites c).any regWriteBad, false, ds, aOK⟩)
    (fun s c => s.regWriteGo c 0 (regWrites c))

-- Power, lanes, statistics

/-- R561, R682: the checks of POWER_STATE after BAD_OPERAND and DOMAIN_FENCED. -/
def State.powerLater (s : State) (c : List Byte) : Nat :=
  let st := cb c 8 1
  let busy := (List.range 16).any (fun k => s.lopState k != kFREE && s.lopState k != kDONE)
  let quads := (List.range 16).any (fun n => bitOf (cb c 12 4) (2 + n / 4) && s.laneEn n)
  let sleepy := s.txrs != [] || s.rxrs != [] || s.cqs != [] ||
    (List.range 64).any (fun k => s.chanState k != cOFF) || s.genState != gSTEADY
  if st != 0 && busy then aBusy
  else if s.oppDenied (cb c 9 1) || (st == 1 && quads) || (st == 2 && sleepy) then aWrongState
  else aOK

/-- R569, R684, R702: POWER_STATE is taken. -/
def State.powerTake (s : State) (c : List Byte) : State :=
  let mask := cb c 12 4
  match cb c 8 1 with
  | 0 =>
    let s : State := { s with adminCur := some { bytes := c, phase := 1 } }
    (s.forEach ((List.range 15).filter (fun d => s.dom d == 1)) State.wake).powerGo
  | 1 =>
    let left := (List.range 15).filter (fun d => bitOf mask d && s.dom d != 1)
    -- R688 looks at entries of this command
    let s := s.modPower fun p => { p with dozed := [] }
    let s : State := { s with adminCur := some { bytes := c, phase := 1 } }
    let s := s.modPower fun p => { p with doze := some { left := left, since := s.now } }
    (s.flag .POWER_STAT 0 fPOWER_STAT_ENTERING).powerGo
  | _ =>
    let s : State := { s with adminCur := some { bytes := c, phase := 3 } }
    let s := s.modPower fun p => { p with sleep := some { step := .draining, opp := cb c 9 1 } }
    s.flag .POWER_STAT 0 fPOWER_STAT_ENTERING

/-- R682: POWER_STATE. -/
def State.cmdPowerState (s : State) : State :=
  s.adminRun 0x40
    (fun c =>
      let st := cb c 8 1
      let mask := cb c 12 4
      let named := (List.range 15).filter (bitOf mask)
      ⟨!onlyNamed c [(8, 1), (9, 1), (12, 4)] || decide (2 < st) || decide (3 < cb c 9 1) || bitOf mask 0 || bitOf mask 1 ||
        decide (2 ^ 14 ≤ mask) || (if st == 1 then mask == 0 else mask != 0), false,
        named.filter (fun d => s.dom d == 3), s.powerLater c⟩)
    State.powerTake

/-- R570: LANE_RETRAIN. -/
def State.cmdLaneRetrain (s : State) : State :=
  s.adminRun 0x41
    (fun c =>
      let ns := (List.range 16).filter (bitOf (cb c 12 2))
      ⟨!onlyNamed c [(12, 2)] || cb c 12 2 == 0, false, ns.map (fun n => dQUAD (n / 4)),
        if ns.any (fun n => (s.laneOwner n).isNone) then aNoObject
        else if ns.any (fun n => s.laneState n == lOFF || s.laneState n == lPLL) then aWrongState else aOK⟩)
    (fun s c => (s.forEach ((List.range 16).filter (bitOf (cb c 12 2))) State.laneRestart).shortDone c aOK 0 0 0)

/-- R571, R775: the objects that a snapshot covers. -/
def snapObjs (c : List Byte) : List Nat := (List.range (cb c 10 2)).map (cb c 12 4 + ·)

/-- R571, R775: STATS_SNAPSHOT: its records are taken and written. -/
def State.cmdSnapshot (s : State) : State :=
  s.adminRun 0x50
    (fun c =>
      let g := cb c 8 1
      let n := cb c 10 2
      ⟨!onlyNamed c [(8, 1), (9, 1), (10, 2), (12, 4), (16, 8)] || decide (6 < g) || decide (1 < cb c 9 1) || n == 0 ||
        decide (4096 < n) || decide (statCount g < cb c 12 4 + n) || cb c 16 8 % 64 != 0, false,
        ((snapObjs c).map (statDom g)).dedup, aOK⟩)
    (fun s c =>
      let g := cb c 8 1
      let b := (snapObjs c).flatMap (s.statBytes g)
      let s := if cb c 9 1 == 1 then s.forEach (snapObjs c) (fun s i => s.statClear g i) else s
      let qs := s.operandReqs none true (cb c 16 8) b b.length
      let x : AdminCur := { bytes := c, phase := 5, left := qs.length, res0 := b.length }
      ({ s with adminCur := some x } : State).enqueue qs)

/-- R548, R564, R598: operand or result memory of the short command in progress answers. -/
def State.operandDone (s : State) (read : Bool) (code : Nat) (b : List Byte) : State :=
  match s.adminCur with
  | none => s
  | some x =>
    if x.phase == 4 && read then
      if code != 0 then s.curDone aHostError 0 0 0 else s.editGo x.bytes b
    else if x.phase == 5 && !read then
      let y := { x with left := x.left - 1, failed := x.failed || code != 0 }
      let s : State := { s with adminCur := some y }
      if y.left != 0 then s
      else if y.failed then s.curDone aHostError 0 0 0
      else s.curDone aOK y.detail y.res0 y.res1
    else s

/-- R566, R776: STATS_DUMP. -/
def State.cmdDump (s : State) : State :=
  s.adminRun 0x51
    (fun c => ⟨!onlyNamed c [(9, 1), (16, 8), (24, 8)] || decide (1 < cb c 9 1) || cb c 16 8 % 4096 != 0 ||
      decide (cb c 24 8 < dumpSize), true, [], if s.lopsOf oDUMP != [] then aBusy else aOK⟩)
    (fun s c => s.lopAccept (s.freeSlot.getD 0) c)

/-- R182: the operands of EYE_SCAN that are out of range. -/
def State.eyeBad (s : State) (c : List Byte) : Bool :=
  let sg (o : Nat) : Int := toSigned 8 (cb c o 1)
  let phase (v : Int) : Bool := decide (-32 ≤ v) && decide (v ≤ 31)
  let thr (v : Int) : Bool := decide (-127 ≤ v)
  decide (15 < cb c 8 1) || decide (2 < cb c 9 1) || (decide (3 ≤ s.laneRate (cb c 8 1)) && cb c 9 1 != 0) ||
    !(phase (sg 10) && phase (sg 11) && decide (sg 10 ≤ sg 11)) || cb c 12 1 == 0 || decide (63 < cb c 12 1) ||
    !(thr (sg 13) && thr (sg 14) && decide (sg 13 ≤ sg 14)) || cb c 15 1 == 0 || decide (254 < cb c 15 1) ||
    decide (cb c 16 1 < 12) || decide (34 < cb c 16 1) || cb c 24 8 % 64 != 0

/-- R182, R185, R566: EYE_SCAN. -/
def State.cmdEyeScan (s : State) : State :=
  s.adminRun 0x60
    (fun c => ⟨!onlyNamed c [(8, 9), (24, 8)] || s.eyeBad c, true, [dQUAD (cb c 8 1 / 4)],
      if (s.lopsOf oEYE).any (fun e => cb e.2.bytes 8 1 == cb c 8 1) then aBusy
      else if s.laneState (cb c 8 1) != lDATA then aWrongState else aOK⟩)
    (fun s c => s.lopAccept (s.freeSlot.getD 0) c)

/-- R436, R566: LOFT_SCRUB. -/
def State.cmdScrub (s : State) : State :=
  s.adminRun 0x61 (fun c => ⟨!onlyNamed c [], true, [dLOFT], if s.lopsOf oSCRUB != [] then aBusy else aOK⟩)
    (fun s c => s.lopAccept (s.freeSlot.getD 0) c)

/-- R557: the occupied slot, not in DONE, whose TAG a command names. -/
def State.lopNamed (s : State) (c : List Byte) : Option Nat :=
  (List.find? (fun e => cb e.2.bytes 2 2 == cb c 8 2 && s.lopState e.1 != kDONE) s.lops).map (·.1)

/-- R556, R557: OP_SUSPEND (0), OP_RESUME (1) and OP_CANCEL (2). -/
def State.cmdOp (s : State) (what : Nat) : State :=
  s.adminRun (0x70 + what)
    (fun c => ⟨!onlyNamed c [(8, 2)], false, [],
      match s.lopNamed c with
      | none => aNoSuchTag
      | some k => if (s.lopAsk k what).isNone then aWrongState else aOK⟩)
    (fun s c =>
      match s.lopNamed c with
      | none => s
      | some k =>
        match s.lopAsk k what with
        | none => s
        | some (now, s) => (s.shortDone c aOK 0 (s.lopDone k) now.toNat).lopFollow k what now)

-- What follows by itself

/-- R544: commands at the front whose opcode is not in the command set are refused. -/
def State.badOpcodes (s : State) : Nat → State
  | 0 => s
  | n + 1 =>
    match s.frontCmd with
    | some c => if opcodes.contains (cb c 0 1) then s else (s.popCmd.shortDone c aBadOpcode 0 0 0).badOpcodes n
    | none => s

/-- R550: a fenced command waits. -/
def State.fenceCheck (s : State) : State :=
  match s.adminFifo with
  | c :: _ => if s.adminReady && s.fenced c then s.flag .ADMIN_STAT 0 fADMIN_STAT_FENCE_WAIT else s
  | [] => if s.fenceWait then s.fset .ADMIN_STAT 0 fADMIN_STAT_FENCE_WAIT 0 else s

/-- R550: every earlier long operation has its final: the fenced command may start. -/
def State.fenceRelease (s : State) : State :=
  if s.fenceWait && !s.lopsOpen then s.fset .ADMIN_STAT 0 fADMIN_STAT_FENCE_WAIT 0 else s

/-- What the admin engine does of itself after any command of the block. -/
def State.adminSettle (s : State) : State := (s.genDone.badOpcodes s.adminFifo.length).fenceCheck

end Sys2Proof.Machine
end

