-- ==== Sys2Proof/Machine/Boot.lean ====
section
/-! DEFINITION. The boot engine: the cold reset and its release, INIT and the memory self-test (R736, R799, R815), SELECT
(R725 to R727, R732), LOAD and the records of a thatch image (R728 to R731, R733, R735), CLEAR (R734), boot release and
SAFE (R740, R741), what a re-thatch clears (R744 to R746), and the end of a flash window transaction (R748). -/

namespace Sys2Proof.Machine

def State.modBoot (s : State) (f : BootUnit → BootUnit) : State := { s with bootU := f s.bootU }

def State.setBoot (s : State) (st : Nat) : State := s.fset .BOOT_STAT 0 fBOOT_STAT_STATE st

-- Cold reset

/-- R25, R799: the cold reset is asserted: every register takes its Reset value and all work is lost. `host_sleep_i` stays
as the host drives it. -/
def State.coldReset (s : State) : State :=
  { State.reset with
    pending := s.pending, free := s.free, bootU := { asserted := true }, power := { sleepIn := s.power.sleepIn } }

/-- R690, R691, R708: quad q and course q are fenced by their strap. -/
def State.strapFence (s : State) (q : Nat) : State :=
  let s := (s.setDom (dQUAD q) 3).setDom (dCOURSE q) 3
  s.fset .POWER_PAD 0 fPOWER_PAD_HELD (s.fget .POWER_PAD 0 fPOWER_PAD_HELD ||| 2 ^ (3 + q))

/-- R690, R720, R736, R783, R815, R817: the cold reset is released: the straps `quad_fence_i`, `xspi_mode_i` and
`ts_trim_i` are sampled, INIT begins and a self-test that runs stops. -/
def State.coldRelease (s : State) (fence mode : Nat) (trim : BitVec 40) : State :=
  if s.bootU.asserted then
    let s := s.modBoot fun u => { u with asserted := false, mode := mode, trim := trim, xspiAt := s.now, mbist := false }
    let s := ((s.fset .POWER_FENCE 0 fPOWER_FENCE_QUAD fence).fset .POWER_FENCE 0 fPOWER_FENCE_COURSE fence).fset
      .POWER_FENCE 0 fPOWER_FENCE_STRAP fence
    let s := (s.setBoot bINIT).fset .BOOT_XSPI_CFG 0 fBOOT_XSPI_CFG_PROTO mode
    s.forEach ((List.range 4).filter (bitOf fence)) State.strapFence
  else s

/-- R723: `xspi_rst_n_o` rises 50 µs after the release. -/
def State.xspiResetEnd (s : State) : State :=
  if s.bootU.asserted || s.bootU.xspiRst then s
  else (s.elapseTo (s.bootU.xspiAt + 50 * usCycles)).modBoot fun u => { u with xspiRst := true }

/-- R815: memory self-test starts while the cold reset is asserted. -/
def State.mbistStart (s : State) : State :=
  if s.bootU.asserted then s.modBoot fun u => { u with mbist := true, mbistDone := false, mbistFail := false } else s

/-- R815: memory self-test finishes. -/
def State.mbistEnd (s : State) (bad : Bool) : State :=
  if s.bootU.asserted && s.bootU.mbist then
    s.modBoot fun u => { u with mbist := false, mbistDone := true, mbistFail := bad }
  else s

-- SAFE and SELECT

/-- R84, R741: a lane goes to OFF; its EN is kept. -/
def State.laneToOff (s : State) (n : Nat) : State :=
  let en := s.fget .LANE_CTRL n fLANE_CTRL_EN
  (s.laneDisable n).fset .LANE_CTRL n fLANE_CTRL_EN en

/-- R741: the block enters SAFE. -/
def State.enterSafe (s : State) : State :=
  let s := (s.setBoot bSAFE).flag .BOOT_EVT 0 fBOOT_EVT_SAFE
  let s := s.modBoot fun u => { u with load := none, warm := false, wasRun := [] }
  s.forEach (List.range 16) State.laneToOff

/-- The boot engine works: not in the cold reset, and not stopped by fail-stop. -/
def State.bootWorks (s : State) : Bool := !s.failed && !s.bootU.asserted

/-- R721, R722: a read transaction of the boot engine from a flash address: the opcode of its protocol, with its inverse in
8D-8D-8D, and the 4-byte address. -/
def State.flashRead (s : State) (addr dummy len div : Nat) : State :=
  let op := if s.bootU.mode = 0 then [0x0C] else if s.bootU.mode = 1 then [0xEC] else [0xEE, 0x11]
  s.modBoot fun u => { u with flash := u.flash ++ [{ sent := op ++ beBytes 4 addr, dummy := dummy, len := len, div := div }] }

/-- R721: the dummy cycles of a protocol at reset. -/
def modeDummy (mode : Nat) : Nat := if mode = 0 then 8 else if mode = 1 then 10 else 20

/-- R724: the flash address at which copy A (1) or B (2) starts. -/
def copyBase (copy : Nat) : Nat := if copy = 2 then 0x01000000 else 0

/-- R721, R736, R749: INIT ends once every powered domain is ready and the ridge PLL has locked: SELECT begins. -/
def State.initEnd (s : State) : State :=
  if s.bootWorks && s.boot == bINIT && (s.time.locked || s.bootU.warm) &&
      (List.range 15).all (fun d => s.dom d != 0 || s.ready d) then
    if s.bootU.mode == 3 then s.enterSafe
    else (((s.setBoot bSELECT).rreset .BOOT_APPLY_ERR 0).fset .BOOT_CNT 0 fBOOT_CNT_APPLY_ERRS 0).modBoot fun u =>
      { u with flash := [] }
  else s

/-- R725, R732: the checks of an image header. -/
def headerOk (h : List Byte) : Bool :=
  let len := cb h 12 4
  h.length == 64 && cb h 0 4 == 0x7A3E1216 && cb h 4 2 == 1 && cb h 6 2 / 2 == 0 && len % 8 == 0 && decide (80 ≤ len) &&
    decide (len ≤ 16777216) && cb h 20 2 == 0x3216 && cb h 22 1 == 0xA7 && cb h 23 1 == 1 && decide (1 ≤ cb h 24 1) &&
    decide (cb h 24 1 ≤ 15) && decide (1 ≤ cb h 25 1) && decide (cb h 25 1 ≤ 31) && cb h 26 34 == 0 &&
    cb h 60 4 == crc32c 0xFFFFFFFF (h.take 60)

/-- R727: a commit marker matches its header. -/
def markerOk (h m : List Byte) : Bool :=
  cb m 0 4 == 0x85C1EDE9 && cb m 4 4 == cb h 8 4 && cb m 8 4 == cb h 12 4 && cb m 12 4 == cb h 16 4

/-- R732: a copy is a candidate. -/
def candidate (h m : List Byte) : Bool := headerOk h && markerOk h m

/-- R732: SEQ x is newer than SEQ y. -/
def seqNewer (x y : Nat) : Bool := let d := (x + 2 ^ 32 - y) % 2 ^ 32; decide (1 ≤ d) && decide (d < 2 ^ 31)

/-- BOOT_IMG_A (copy 1) and BOOT_IMG_B (copy 2). -/
def imgReg (copy : Nat) : RegId := if copy = 2 then .BOOT_IMG_B else .BOOT_IMG_A

/-- R749: BOOT_IMG after a copy's header has been read. -/
def imgWord (h : List Byte) (cand : Bool) : Word :=
  (fBOOT_IMG_A_SEQ.at (cb h 8 4)) ||| (fBOOT_IMG_A_LENGTH.at (cb h 12 4)) ||| fBOOT_IMG_A_CAND.at cand.toNat

/-- R732: the copies in the order in which they are tried. -/
def tryOrder (hA mA hB mB : List Byte) : List Nat :=
  match candidate hA mA, candidate hB mB with
  | true, true => if seqNewer (cb hB 8 4) (cb hA 8 4) then [2, 1] else [1, 2]
  | true, false => [1]
  | false, true => [2]
  | false, false => []

/-- A register of the GEN or POWER region (R57). -/
def genOrPower (id : RegId) (i : Nat) : Bool := decide (addrOf id i < 0x010000) || decide (0xC00000 ≤ addrOf id i)

/-- R733, R734, R737: LOAD of a copy begins: its header is `h`, and the copies in `next` come after it. The read of its
records starts at offset 64. -/
def State.loadStart (s : State) (copy : Nat) (h : List Byte) (next : List (Nat × List Byte)) : State :=
  let saved := s.regs.filter fun e => match regOf e.1 with | some id => genOrPower id (e.1 / 512) | none => false
  let ld : BootLoad := { copy := copy, div := cb h 24 1, dummy := cb h 25 1, next := next, len := cb h 12 4,
                         crc := cb h 16 4, strict := bitOf (cb h 6 2) 0, saved := saved, fence := s.rget .POWER_FENCE 0 }
  let s := (((s.setBoot bLOAD).flag (imgReg copy) 0 fBOOT_IMG_A_TRIED).rreset .BOOT_PROG 0).modBoot fun u =>
    { u with load := some ld }
  s.flashRead (copyBase copy + 64) ld.dummy 0 ld.div

/-- R722, R724, R732: SELECT's reads, at D = 8: the headers, then the commit marker of each copy whose header passes.
DEDUCED (log 83): the headers come before the markers. -/
def State.selectReads (s : State) (copies : List Nat) (hdr : Nat → List Byte) : State :=
  let dummy := modeDummy s.bootU.mode
  let s := s.forEach copies fun s c => s.flashRead (copyBase c) dummy 64 8
  s.forEach (copies.filter (fun c => headerOk (hdr c))) fun s c => s.flashRead (copyBase c + cb (hdr c) 12 4 - 16) dummy 16 8

/-- R732, R744: SELECT has read the headers, and the commit markers of those that pass. -/
def State.selectEnd (s : State) (hA mA hB mB : List Byte) : State :=
  if s.bootWorks && s.boot == bSELECT then
    let only := s.fget .BOOT_STAT 0 fBOOT_STAT_CHOSEN
    let one := s.bootU.warm && !s.bootU.reselect
    let hdr (c : Nat) := if c = 2 then hB else hA
    let cand (c : Nat) := if c = 2 then candidate hB mB else candidate hA mA
    let read := if one then [only] else [1, 2]
    let s := (s.selectReads read hdr).forEach read fun s c => s.rset (imgReg c) 0 (imgWord (hdr c) (cand c))
    let order := if one then read.filter cand else tryOrder hA mA hB mB
    match order with
    | c :: next => s.loadStart c (hdr c) (next.map (fun c => (c, hdr c)))
    | [] => if one then s.setBoot bCLEAR else s.enterSafe
  else s

-- Records

/-- R729: the item size of a record type; 0 for a reserved type. -/
def itemSize (ty : Nat) : Nat :=
  match ty with
  | 1 => 8 | 2 => 16 | 3 => 40 | 4 => 40 | 5 => 40 | 6 => 32 | 7 => 32 | 8 => 64 | 9 => 8 | 10 => 8 | 11 => 8 | _ => 0

/-- R731: an item that makes its record malformed. -/
def itemMalformed (ty : Nat) (b : List Byte) : Bool :=
  match ty with
  | 1 => cb b 3 1 != 0
  | 2 => cb b 3 5 != 0
  | 3 | 4 | 5 => cb b 2 6 != 0
  | 6 | 7 => cb b 1 3 != 0
  | 10 => cb b 0 4 == 0 || decide (100000 < cb b 0 4) || cb b 4 4 != 0
  | 11 => decide (3 < cb b 0 1) || cb b 1 7 != 0
  | _ => false

/-- R731: a record header that makes its record malformed, with `room` bytes before the commit marker. -/
def recordMalformed (b : List Byte) (room : Nat) : Bool :=
  let ty := cb b 0 2
  let n := cb b 2 2
  itemSize ty == 0 || n == 0 || cb b 4 4 != n * itemSize ty || decide (room < 8 + n * itemSize ty) ||
    ((ty == 10 || ty == 11) && n != 1)

/-- R730: an OFFSET that REG items may not write. -/
def regForbidden (off : Nat) : Bool :=
  (decide (0x1000 ≤ off) && decide (off ≤ 0x14FF)) || off == addrOf .GEN_RESET 0 ||
    (decide (0x400000 ≤ off) && decide (off ≤ 0x63FFFF)) || off == addrOf .TIME_LOAD_CTRL 0 ||
    (decide (0xB00000 ≤ off) && decide (off ≤ 0xBFFFFF))

/-- R735: the REFUSED, CFG_REFUSED, FENCE_REFUSED and ERR bits of registers that REG items may write, with how many
instances each register has. -/
def refusalBits : List (RegId × Nat × Field) :=
  [(.TIME_EVT, 1, fTIME_EVT_CFG_REFUSED), (.LANE_EVENT, 16, fLANE_EVENT_CFG_REFUSED),
   (.LANE_CAL_EVENT, 16, fLANE_CAL_EVENT_OVR_REFUSED), (.LANE_QUAD_STAT, 4, fLANE_QUAD_STAT_SEL_REFUSED),
   (.COURSE_MAP_STAT, 4, fCOURSE_MAP_STAT_REFUSED), (.COURSE_PARSE_EVT, 4, fCOURSE_PARSE_EVT_CFG_REFUSED),
   (.TABLE_GEN_EVT, 1, fTABLE_GEN_EVT_REFUSED), (.TABLE_WIN_STAT, 1, fTABLE_WIN_STAT_ERR),
   (.SCHED_WIN_STAT, 1, fSCHED_WIN_STAT_ERR), (.METER_WIN_STAT, 1, fMETER_WIN_STAT_ERR),
   (.SCHED_EVT, 1, fSCHED_EVT_CFG_REFUSED), (.LOFT_EVT, 1, fLOFT_EVT_CFG_REFUSED),
   (.DMA_CHAN_EVT, 64, fDMA_CHAN_EVT_CFG_REFUSED), (.STATS_WIN_CMD, 1, fSTATS_WIN_CMD_ERR),
   (.SEAL_EVT, 1, fSEAL_EVT_CFG_REFUSED), (.SEAL_EVT, 1, fSEAL_EVT_BIND_REFUSED),
   (.SEAL_BIND_CMD, 1, fSEAL_BIND_CMD_ERR), (.INTC_CORE_STAT, 16, fINTC_CORE_STAT_EOI_ERR),
   (.INTC_FSTAT, 4, fINTC_FSTAT_EOI_ERR), (.POWER_EVT, 1, fPOWER_EVT_PAD_REFUSED),
   (.POWER_EVT, 1, fPOWER_EVT_FENCE_REFUSED), (.POWER_THERM_EVT, 1, fPOWER_THERM_EVT_UNLOCK_REFUSED)]

/-- The state with every refusal bit and the bits [3:0] of GEN_ACC_ERR clear, so that a write shows what it sets. -/
def State.unmarked (s : State) : State :=
  let s := s.rset .GEN_ACC_ERR 0 (s.rget .GEN_ACC_ERR 0 &&& ~~~ 0xF)
  s.forEach refusalBits fun s r => s.forEach (List.range r.2.1) fun s i => s.fset r.1 i r.2.2 0

/-- Whether a refusal bit is set. -/
def State.marked (s : State) : Bool := refusalBits.any fun r => (List.range r.2.1).any fun i => s.fbit r.1 i r.2.2

/-- R735, R749: the STATUS and DETAIL of a REG item that does not hold a forbidden OFFSET; (0, 0) for one not refused. -/
def State.regRefusal (s : State) (size off : Nat) (v : Word) : Nat × Nat :=
  let r := s.unmarked.accessAny false true size off v
  let bits := r.2.2.accBits
  if bitOf bits 3 then (aFenced, bits)
  else if bits != 0 then (aBadOperand, bits)
  else if r.1 then (aFenced, 0)
  else if r.2.2.marked then (aFailed, 0)
  else (aOK, 0)

/-- R230: a RUN that an item writes to a port whose MODE was RUN before the re-thatch reads RECOVERY. -/
def State.recoverRun (s : State) : State :=
  s.forEach (s.bootU.wasRun.filter (fun p => s.fget .PORT_MODE p fPORT_MODE_MODE == 0)) fun s p =>
    s.fset .PORT_MODE p fPORT_MODE_MODE 3

/-- R729: a REG32 (`size` 4) or REG64 item. -/
def State.applyReg (s : State) (size off : Nat) (v : Word) : Nat × Nat × State :=
  if regForbidden off then (aBadOperand, 0, s)
  else
    let (st, detail) := s.regRefusal size off v
    (st, detail, (s.accessAny false true size off v).2.2.recoverRun)

/-- An item applied as an admin command with the given checks. -/
def applyAs (s : State) (bad : Bool) (later : Nat) (act : State) : Nat × Nat × State :=
  if bad then (aBadOperand, 0, s) else if later != aOK then (later, 0, s) else (aOK, 0, act)

/-- A unit's result as a completion carries it (R563, R564). -/
def unitStatus (r : Nat) (s : State) : Nat × Nat × State := if r = 0 then (aOK, 0, s) else (aFailed, r, s)

/-- R382, R729: a TABLE_ENTRY item. -/
def State.applyEntry (s : State) (b : List Byte) : Nat × Nat × State :=
  let t := cb b 15 1 % 4
  -- an operation other than INSERT is reported as the malformed record of R389 is
  let b := if cb b 12 1 / 16 == 0 then b else b.set 12 0xFF
  let (o, s) := s.edit 1 t false 0 b (image := true) (bulk := true)
  unitStatus o.result s

/-- R629, R729: a SEAL_BIND item. -/
def State.applyBind (s : State) (b : List Byte) : Nat × Nat × State :=
  let r := s.bindWrite (cb b 0 4 % 2 ^ 18) (cb b 4 4 % 2 ^ 14)
  (r.1, 0, r.2)

/-- R729: an item is applied: its STATUS and DETAIL, and the state after it. -/
def State.applyItem (s : State) (ty : Nat) (b : List Byte) : Nat × Nat × State :=
  let n := cb b 0 2
  let ctx := (b.drop 8).take 32
  match ty with
  | 1 => s.applyReg 4 (cb b 0 3) (BitVec.ofNat 64 (cb b 4 4))
  | 2 => s.applyReg 8 (cb b 0 3) (BitVec.ofNat 64 (cb b 8 8))
  | 3 => applyAs s (decide (2 ^ 12 ≤ n) || ctxBad ctx true) (s.cqStatus n) (s.cqMake n ctx)
  | 4 => applyAs s (decide (2 ^ 14 ≤ n) || ctxBad ctx false) (s.ringStatus false n ctx) (s.txMake n ctx)
  | 5 => applyAs s (decide (2 ^ 14 ≤ n) || ctxBad ctx false) (s.ringStatus true n ctx) (s.rxMake n ctx)
  | 6 =>
    if decide (2 < cb b 0 1) || decide (levelSize (cb b 0 1) ≤ cb b 4 4) then (aBadOperand, 0, s)
    else unitStatus (s.applyNode b).1 (s.applyNode b).2
  | 7 =>
    if decide (1 < cb b 0 1) || decide (2 ^ 18 ≤ cb b 4 4) then (aBadOperand, 0, s)
    else unitStatus (if (s.applyMeter b).1 then 0 else nBAD_VALUE) (s.applyMeter b).2
  | 8 => s.applyEntry b
  | 9 => s.applyBind b
  | _ => (aOK, 0, s)

/-- R737: the buffer that holds records read ahead of the item being applied, in bytes. -/
def bootBuffer : Nat := 65536

/-- R737: the engine reads up to offset `o`, as far as the buffer lets it: the read ends when the buffer is full, and a new
one starts at the next address once half of it is free. `off`: the offset after the item being applied. -/
def State.readAhead (s : State) (ld : BootLoad) (off o : Nat) : BootLoad × State :=
  let again := ld.full && decide (ld.got + bootBuffer / 2 ≤ off + bootBuffer)
  let s := if again then s.flashRead (copyBase ld.copy + ld.got) ld.dummy 0 ld.div else s
  if ld.full && !again then (ld, s)
  else
    let got := max ld.got (min (min o (off + bootBuffer)) (ld.len - 16))
    let more (l : List FlashRead) : List FlashRead :=
      match l.getLast? with | some r => l.dropLast ++ [{ r with len := r.len + (got - ld.got) }] | none => l
    ({ ld with got := got, full := decide (off + bootBuffer ≤ got) && decide (got < ld.len - 16) },
      s.modBoot fun u => { u with flash := more u.flash })

/-- R737, R749: the engine has read `x`: its bytes, and what lies beyond them in the buffer. -/
def State.bootRead (s : State) (ld : BootLoad) (x : ItemRead) : BootLoad × State :=
  let r := s.readAhead ld (ld.off + x.bytes.length) (ld.off + x.bytes.length + x.ahead)
  (r.1, r.2.fset .BOOT_PROG 0 fBOOT_PROG_BYTES (r.1.got - 64))

/-- R733: the copy fails: CLEAR begins. -/
def State.copyFails (s : State) (ld : BootLoad) : State :=
  ((s.flag (imgReg ld.copy) 0 fBOOT_IMG_A_FAILED).flag .BOOT_EVT 0 fBOOT_EVT_IMG_FAILED).setBoot bCLEAR

/-- R735: an item at image offset `off` is refused. -/
def State.itemRefused (s : State) (ty st detail off : Nat) : State :=
  let s := (s.count .BOOT_CNT 0 fBOOT_CNT_APPLY_ERRS).flag .BOOT_EVT 0 fBOOT_EVT_APPLY_ERR
  if s.fbit .BOOT_APPLY_ERR 0 fBOOT_APPLY_ERR_VALID then s
  else s.rset .BOOT_APPLY_ERR 0
    (fBOOT_APPLY_ERR_TYPE.at ty ||| fBOOT_APPLY_ERR_STATUS.at st ||| fBOOT_APPLY_ERR_DETAIL.at detail |||
      fBOOT_APPLY_ERR_OFFSET.at off ||| fBOOT_APPLY_ERR_VALID.at 1)

/-- One item of type `ty` has been read: it is applied, or its record is malformed. `ld`: LOAD with the item counted. -/
def State.itemGo (s : State) (ld : BootLoad) (ty : Nat) (b : List Byte) : State :=
  if itemMalformed ty b then s.copyFails ld
  else
    let ld := { ld with delay := if ty = 10 then some (s.now + cb b 0 4 * usCycles) else none,
                        opp := if ty = 11 then some (cb b 0 1) else ld.opp }
    let r := s.applyItem ty b
    let s := r.2.2.modBoot fun u => { u with load := some ld }
    let s := s.wrapAdd .BOOT_PROG 0 fBOOT_PROG_ITEMS 1
    if r.1 == aOK then s
    else
      let s := s.itemRefused ty r.1 r.2.1 (ld.off - itemSize ty)
      if ld.strict then s.copyFails ld else s

/-- R728, R731, R733, R737: LOAD reads `x`: one item, with its record's header before it if it is the record's first. -/
def State.bootItem (s : State) (x : ItemRead) : State :=
  let b := x.bytes
  match s.bootU.load with
  | none => s
  | some ld =>
    let room := ld.len - 16 - ld.off
    let read := s.bootRead ld x
    if !s.bootWorks || s.boot != bLOAD || ld.delay.isSome || room == 0 then s
    else if ld.left == 0 && decide (room < 8) then s.copyFails ld
    else if ld.left == 0 && decide (b.length < 8) then s
    else if ld.left == 0 && recordMalformed b room then read.2.copyFails ld
    else
      let head := if ld.left = 0 then 8 else 0
      let ty := if ld.left = 0 then cb b 0 2 else ld.ty
      let left := if ld.left = 0 then cb b 2 2 else ld.left
      if b.length != head + itemSize ty then s
      else
        read.2.itemGo { read.1 with off := ld.off + b.length, run := crcRun polyC ld.run b, ty := ty, left := left - 1 } ty
          (b.drop head)

/-- R729: a DELAY item's pause ends. -/
def State.bootDelay (s : State) : State :=
  match s.bootU.load with
  | none => s
  | some ld =>
    match ld.delay with
    | none => s
    | some t =>
      if s.bootWorks && s.boot == bLOAD then
        (s.elapseTo t).modBoot fun u => { u with load := some { ld with delay := none } }
      else s

/-- R740 step 1: the change that an OPPOINT record names starts, once nothing changes. -/
def State.bootOpp (s : State) (ld : BootLoad) : State :=
  match ld.opp with
  | some o =>
    let s := s.modBoot fun u => { u with load := some { ld with opp := none } }
    if o == s.opp || s.oppDenied o then s
    else (s.oppStart o false).modPower fun p => { p with change := p.change.map (fun c => { c with boot := true }) }
  | none => s

/-- R733, R740: the last record has been read: a copy whose CRC differs fails; otherwise boot release begins, with the
change to the operating point that an OPPOINT record names. -/
def State.loadEnd (s : State) : State :=
  match s.bootU.load with
  | none => s
  | some ld =>
    if !s.bootWorks || s.boot != bLOAD || ld.delay.isSome || ld.off != ld.len - 16 || ld.left != 0 || s.bootU.releasing then s
    else if ld.run ^^^ 0xFFFFFFFF != ld.crc then s.copyFails ld
    else
      let s := s.modBoot fun u => { u with releasing := true }
      if s.power.change.isSome then s else s.bootOpp ld

/-- R740: boot release. It waits for the change to the image's operating point, which waits for any other, and for no
other change. -/
def State.bootGo (s : State) : State :=
  match s.bootU.load with
  | none => s
  | some ld =>
    if s.bootWorks && s.bootU.releasing && !(ld.opp.isSome && s.power.change.isSome) then
      let s := s.bootOpp ld
      if s.power.change.any (·.boot) then s
      else (s.bootRelease ld.copy).modBoot fun u => { u with load := none, releasing := false, warm := false, wasRun := [] }
    else s

-- CLEAR

/-- R26: a sticky field. Every field of the LANE and port registers is kept as well, and none of them is sticky. -/
def sticky (id : RegId) (i : Nat) (f : FieldDesc) : Bool :=
  f.kept && f.ty != .rw && !(decide (0x040000 ≤ addrOf id i) && decide (addrOf id i < 0x0C0000))

/-- R730, R734: a register of a region that REG items may reach, other than TIME, GEN and POWER. -/
def clearReaches (id : RegId) (i : Nat) : Bool :=
  let off := addrOf id i
  !(genOrPower id i) && !(decide (0x030000 ≤ off) && decide (off < 0x040000)) &&
    !(decide (0x400000 ≤ off) && decide (off < 0x640000)) && !(decide (0xB00000 ≤ off) && decide (off < 0xC00000))

/-- R534, R746: every ring and completion queue is gone, with its page at its Reset value but for REFUSED. -/
def State.ringsGone (s : State) : State :=
  let s := (s.forEach s.txrs fun s e => s.txPage e.1).forEach s.rxrs fun s e => s.rxPage e.1
  let s := s.forEach s.cqs fun s e => s.cqPage e.1
  { s with txrs := [], rxrs := [], cqs := [] }

/-- R437, R745: every frame and cell of the loft is freed; what the parsers, the courses and the MACs hold is gone. The
MACs keep what belongs to their links. -/
def State.framesGone (s : State) : State :=
  let s := (s.forEach (List.range 16) State.cutPort).forEach (List.range 16) fun s p =>
    (s.modMac p fun m =>
      { m with txBuf := [], cur := none, held := none, inFlight := 0, inFlightPre := 0, fcDue := [], fcSent := [],
               rxOpen := none, altTx := 0, nextSeq := 0, oldest := 0, released := [] }).paceReset p
  { s with frames := [], bankUse := [], moverBank := [], courses := [] }

/-- R734: a GEN or POWER register with its RW fields as they were saved. -/
def State.restoreReg (s : State) (saved : Store Word) (id : RegId) (i : Nat) : State :=
  let old := Store.get (id.resetAt i) saved (rkey id i)
  let rw := typeMask .rw id.desc.fields
  s.rset id i ((s.rget id i &&& ~~~ rw) ||| (old &&& rw))

/-- R734: the RW fields of the GEN and POWER regions return to what LOAD saved; fences too. -/
def State.restoreSaved (s : State) (ld : BootLoad) : State :=
  let now := s.regs.filter fun e => match regOf e.1 with | some id => genOrPower id (e.1 / 512) | none => false
  let s := s.forEach ((now ++ ld.saved).map (·.1)) fun s k =>
    match regOf k with
    | some id => if id = .POWER_FENCE then s else s.restoreReg ld.saved id (k / 512)
    | none => s
  s.fenceWrite ld.fence

/-- R734: what CLEAR undoes. -/
def State.undoLoad (s : State) : State :=
  let s := (s.forEach (List.range 16) State.laneDisable).ringsGone.framesGone
  let s := (s.keepRegs clearReaches sticky).intcIdle.tablesEmpty.schedClear.dmaClear
  let s : State := { s with
    lanes := [], qwNext := 0, qwRound := 0, sealU := { s.sealU with binds := [], sweep := [], enNext := none } }
  let s := s.forEach (List.range 16) fun s p => s.setMac p { fcRelease := (s.mac p).fcRelease, paceAt := s.tick }
  match s.bootU.load with
  | some ld => s.restoreSaved ld
  | none => s

/-- R733, R734, R744: CLEAR ends: the next copy is tried, or the block enters SAFE. -/
def State.clearEnd (s : State) : State :=
  if s.bootWorks && s.boot == bCLEAR then
    let next := match s.bootU.load with | some ld => ld.next | none => []
    let s := s.undoLoad
    match next with
    | (c, h) :: rest => s.loadStart c h rest
    | [] => s.enterSafe
  else s

-- Re-thatch

/-- R26, R745: a field that keeps its value through re-thatch. R674 names EOI_ERR of INTC_CORE_STAT and INTC_FSTAT among
what a re-thatch clears. -/
def rethatchKeeps (id : RegId) (i : Nat) (f : FieldDesc) : Bool :=
  match id with
  | .GEN_ACC_ERR | .GEN_FAULT_STAT | .GEN_FAULT_INFO | .GEN_FAULT_ADDR | .GEN_FAULT_TIME | .GEN_FAULT_COPY | .GEN_INTEG_CORR
  | .GEN_INTEG_POISON | .RAFTER_EVT | .RAFTER_ERR_ADDR | .RAFTER_ERR_INFO | .INTC_SRC | .DMA_CHAN_BYTES | .STATS_PORT
  | .STATS_HALF | .BOOT_STAT | .BOOT_CNT => true
  | .PORT_ADM_USE | .PORT_FC_TX_STAT | .INTC_CORE_STAT | .INTC_FSTAT => false
  | _ =>
    let off := addrOf id i
    if (decide (0x030000 ≤ off) && decide (off < 0x0C0000)) || decide (0xC00000 ≤ off) then true
    else if (decide (0x100000 ≤ off) && decide (off < 0x3F0000)) || (decide (0x400000 ≤ off) && decide (off < 0x640000)) then
      f.kept && f.ty != .rw
    else if decide (0x3F0000 ≤ off) && decide (off < 0x400000) then f.kept || f.ty = .rc
    else f.kept

/-- R437: what the releasing flow-control frame of port p names: the states that a re-thatch clears. -/
def State.fcCleared (s : State) (p : Nat) : List Nat :=
  if s.fcTxMode p == 1 then (if s.fbit .PORT_FC_TX_STAT p fPORT_FC_TX_STAT_PAUSE then [8] else [])
  else if s.fcTxMode p == 2 then (List.range 8).filter (s.asserted p)
  else []

/-- R718: dozing domains return to RUN. -/
def State.undoze (s : State) : State :=
  let s := s.modPower fun p => { p with doze := none, waking := p.waking.filter (fun d => s.dom d != 1) }
  let s := s.forEach ((List.range 15).filter (fun d => s.dom d == 1)) fun s d => s.setDom d 0
  s.fset .POWER_STAT 0 fPOWER_STAT_ENTERING 0

/-- R26, R745, R746: INIT of a re-thatch clears the block's frame-handling state. PROTO of BOOT_XSPI_CFG resets to the
strap. -/
def State.rethatchClear (s : State) : State :=
  let wasRun := (List.range 16).filter fun p => s.fget .PORT_MODE p fPORT_MODE_MODE == 0
  let freed := (List.range 16).map fun p => (p, s.fcCleared p)
  let s := s.ringsGone.framesGone.undoze
  let s := ((s.keepRegs (fun _ _ => true) rethatchKeeps).intcIdle.tablesEmpty.schedClear).dmaClear
  let s : State := { s with
    latch := [], staged := [], rafterQ := [], adminFifo := [], adminReadPtr := 0, adminCur := none, adminDue := []
    adminStalled := false, lastDec := 0, fcThen := none, lops := [], qwNext := 0, qwRound := 0
    sealU := { s.sealU with tx := [], rx := [], fids := [], sweep := [], binds := [] } }
  let s := s.fset .BOOT_XSPI_CFG 0 fBOOT_XSPI_CFG_PROTO s.bootU.mode
  let s := s.forEach freed fun s x =>
      s.modMac x.1 fun m => { m with fcRelease := m.fcRelease ++ x.2.filter (!m.fcRelease.contains ·) }
  (s.forEach wasRun fun s p => s.fset .PORT_MODE p fPORT_MODE_MODE 3).modBoot fun u => { u with wasRun := wasRun }

/-- R596, R644, R744: QUIESCE ends once nothing is outstanding: fail-stop ends, and INIT of the re-thatch begins. -/
def State.quiesceEnd (s : State) : State :=
  if s.boot == bQUIESCE && !s.bootU.asserted && s.outst == [] && s.sealU.tx.all (·.ended) && s.sealU.rx.all (·.ended) then
    let s := s.fset .GEN_FAULT_STAT 0 fGEN_FAULT_STAT_ACTIVE 0
    ((s.rethatchClear).setBoot bINIT).flag .BOOT_STAT 0 fBOOT_STAT_WARM
  else s

-- The flash window

/-- R748: a window transaction ends; a read returns its data bytes. -/
def State.xspiDone (s : State) (b : List Byte) : State :=
  if !s.bootU.xspiBusy then s
  else
    let c := s.rget .BOOT_XSPI_CMD 0
    let n := fBOOT_XSPI_CMD_LEN.get c + 1
    let s :=
      if fBOOT_XSPI_CMD_DATA_EN.get c == 1 && fBOOT_XSPI_CMD_DIR.get c == 0 then
        s.forEach (List.range ((n + 7) / 8)) fun s i =>
          let old := leBytes 8 (s.rget .BOOT_XSPI_DATA i).toNat
          let got := ((b.take n).drop (8 * i)).take 8
          s.rset .BOOT_XSPI_DATA i (BitVec.ofNat 64 (leNat (got ++ old.drop got.length)))
      else s
    ((s.fset .BOOT_XSPI_CMD 0 fBOOT_XSPI_CMD_BUSY 0).modBoot fun u => { u with xspiBusy := false }).rethatchGo

end Sys2Proof.Machine
end

