-- ==== Sys2Proof/Machine/Arbiter.lean ====
section
/-! DEFINITION. The rafter ports' arbiters (R599, R600), the interrupt message writer (R662, R672), and what each
response brings about, by what its request was for. -/

namespace Sys2Proof.Machine

-- Requests

/-- What the transfer of a request changes in its requester. -/
def State.offerTaken (s : State) (o : Offer) : State :=
  if o.queued then { s with rafterQ := s.rafterQ.erase o.req }
  else
    match o.req.purpose with
    | .txSlots r _ n => s.txSlotIssued r n
    | .rxEntries r _ n => s.rxEntryIssued r n
    | .asqRead _ n => s.asqIssued n
    | _ =>
      match o.req.who with
      | .chan k => s.chanIssued k o.req
      | _ => s

/-- R599: the first cycle of `rclk_i`, at least `wait` cycles on, in which port p can present a request: each port presents
at most one in a cycle. -/
def State.rftCycle (s : State) (p wait : Nat) : Nat :=
  max (s.rclk + wait) (match s.rftAt.find? p with | some n => n + 1 | none => 0)

/-- R599: after `wait` cycles of `rclk_i`, port p presents a request under tag t, and it transfers. The interrupt message
writer goes before every level on port 0. -/
def State.rafterIssue (s : State) (p t : Nat) (preferWrite : Bool) (wait : Nat) : State :=
  let s : State := { s with rclk := s.rftCycle p wait }
  if !s.mayIssue || !s.tagFree p t || (p == 0 && s.nextMessage.isSome) then s
  else
    match s.chosenOffer p preferWrite with
    | none => s
    | some o =>
      let s := (s.offerTaken o).issue t o.req
      { s with rrLast := s.rrLast.put (4 * p + o.req.level) o.req.who.order }

/-- R672: the message write of a vector to its core. -/
def State.messageReq (s : State) (fast : Bool) (n v : Nat) : RafterReq :=
  let addr := if fast then s.fget .INTC_FMSG_ADDR n fINTC_FMSG_ADDR_ADDR else s.fget .INTC_MSG_ADDR n fINTC_MSG_ADDR_ADDR
  let data := if fast then s.fget .INTC_FMSG_DATA n fINTC_FMSG_DATA_DATA else s.fget .INTC_MSG_DATA n fINTC_MSG_DATA_DATA
  { who := .intc, port := 0, level := 0, write := true, addr := addr, len := 4,
    data := leBytes 4 (data * 2 ^ 13 + fast.toNat * 2 ^ 12 + v), msg := true, ctrl := false, purpose := .intcMsg fast v }

/-- R662, R666, R672: the message writer's request transfers under tag t, and the vector becomes ACTIVE. -/
def State.messageSend (s : State) (t : Nat) : State :=
  match s.nextMessage with
  | none => s
  | some (fast, n, v) =>
    if s.mayIssue && s.tagFree 0 t then
      let s := ({ s with rclk := s.rftCycle 0 0 } : State).issue t (s.messageReq fast n v)
      if fast then s.fset .INTC_FVEC v fINTC_FVEC_STATE 3 else s.activate v
    else s

-- Responses

/-- R675: a message write's response has returned, whatever it says. -/
def State.messageSent (s : State) : State := s.count .INTC_MSG_CNT 0 fINTC_MSG_CNT_SENT

/-- R598, R672, R675: the response of a message write. -/
def State.messageDone (s : State) (r : Resp) : State :=
  s.respondIn r (fun | .intcMsg _ _ => true | _ => false)
    (fun q code s => if code != 0 then s.messageSent.hostAccess q code else s.messageSent) (fun _ _ s => s.messageSent)

/-- R530: slots or part of the fragment table of a transmit entry return. -/
def State.txEntryDone (s : State) (r : Resp) (x : CacheRead) : State :=
  s.respond r (fun | .txSlots .. => true | .txTable .. => true | _ => false)
    (fun q code s => s.txEntryRead q code x r.data)

/-- R754: a descriptor that was read again returns. -/
def State.descRereadDone (s : State) (r : Resp) (parity : Bool) : State :=
  s.respond r (fun | .descReread .. => true | _ => false) (fun q code s => s.rereadDone q code parity r.data)

/-- R753: a fragment's data returns; `bad`: a parity error on the way into the loft. -/
def State.txFragmentDone (s : State) (r : Resp) (bad : Bool) : State :=
  s.respond r (fun | .txData .. => true | _ => false)
    (fun q code s => match q.purpose with | .txData k first off => s.txDataRead k first off q code bad r.data | _ => s)

/-- R512, R530: buffer entries return. -/
def State.rxBufferDone (s : State) (r : Resp) (x : CacheRead) : State :=
  s.respond r (fun | .rxEntries .. => true | _ => false) (fun q code s => s.rxBufferRead q code x r.data)

/-- R67: a write of received frame data is answered. -/
def State.rxDataDone (s : State) (r : Resp) : State :=
  s.respond r (fun | .rxData .. => true | _ => false)
    (fun q code s => match q.purpose with | .rxData k id => s.rxDataWritten k id q code | _ => s)

/-- R519, R650, R674: a completion write is answered. In fail-stop its completions still make their arrivals. -/
def State.complDone (s : State) (r : Resp) : State :=
  s.respondIn r (fun | .cqWrite .. => true | _ => false)
    (fun q code s => match q.purpose with | .cqWrite k rings => s.complWritten k rings q code | _ => s)
    (fun q code s => match q.purpose with | .cqWrite k _ => if code = 0 then s.complShown k q else s | _ => s)

/-- R522: a shadow write is answered. -/
def State.shadowDone (s : State) (r : Resp) : State :=
  s.respond r (fun | .shadow .. => true | _ => false)
    (fun q code s => match q.purpose with | .shadow rx k => s.shadowWritten rx k q code | _ => s)

/-- R478: a write of a queue watch round is answered. -/
def State.qwDone (s : State) (r : Resp) : State :=
  s.respond r (fun | .qwWrite => true | _ => false) (fun _ code s => s.qwWritten code)

/-- R543: a read of admin commands returns. -/
def State.asqDone (s : State) (r : Resp) : State :=
  s.respond r (fun | .asqRead .. => true | _ => false)
    (fun q code s => match q.purpose with | .asqRead _ n => s.asqRead n code r.data | _ => s)

/-- R548, R702: a write of an admin completion is answered. -/
def State.acqDone (s : State) (r : Resp) : State :=
  s.respond r (fun | .acqWrite .. => true | _ => false)
    (fun q code s =>
      match q.purpose with
      | .acqWrite slot p => s.acqWritten slot p q code
      | _ => s)

/-- R548: operand or result memory of an admin command is answered. -/
def State.operandMemDone (s : State) (r : Resp) : State :=
  s.respond r (fun | .operandRead .. => true | .operandWrite .. => true | _ => false)
    (fun q code s =>
      match q.purpose with
      | .operandRead (some k) _ => s.lopGot k code r.data
      | .operandRead none _ => s.operandDone true code r.data
      | .operandWrite (some k) => s.lopWritten k code
      | .operandWrite none => s.operandDone false code []
      | _ => s)

/-- R603, R611: a general channel's descriptor or link word returns. -/
def State.dmaDescDone (s : State) (r : Resp) : State :=
  s.respond r (fun | .dmaDesc .. => true | _ => false)
    (fun q code s => match q.purpose with | .dmaDesc k re => s.chanDesc k re code r.data | _ => s)

/-- R604: a general channel's data read returns. -/
def State.dmaReadDone (s : State) (r : Resp) : State :=
  s.respondIn r (fun | .dmaRead .. => true | _ => false)
    (fun q code s => match q.purpose with | .dmaRead k off => s.chanData k off code r.data | _ => s)
    (fun q _ s => match q.purpose with | .dmaRead k _ => s.chanReadOver k | _ => s)

/-- R607: a general channel's data write is answered. -/
def State.dmaWriteDone (s : State) (r : Resp) : State :=
  s.respondIn r (fun | .dmaWrite .. => true | _ => false)
    (fun q code s => match q.purpose with | .dmaWrite k d => s.chanWritten k q.len code d | _ => s)
    (fun q code s => match q.purpose with | .dmaWrite k _ => s.chanWriteOver k q.len code | _ => s)

/-- R609: a general channel's done write-back is answered. -/
def State.dmaWbDone (s : State) (r : Resp) : State :=
  s.respond r (fun | .dmaWb .. => true | _ => false)
    (fun q code s => match q.purpose with | .dmaWb k d => s.chanWbDone k code d | _ => s)

end Sys2Proof.Machine
end

