-- ==== Sys2Proof/Machine/Finish.lean ====
section
/-! DEFINITION. How every command ends: what follows from it at once in the admin engine, the lanes and the ports. -/

namespace Sys2Proof.Machine

/-- The outcome of a command. -/
abbrev Out := Host.Outcome State Fault Refusal

/-- R703, R707: the command has abandoned a SLEEP entry that held the pads: lanes that waited for their release proceed. -/
def State.padsFreed (s t : State) : State :=
  if s.power.sleep.any (fun e => e.step = .committed) && t.power.sleep.isNone then t.forEach (List.range 16) State.pllGo
  else t

/-- R185, R544, R550 and what `State.settle` collects: what follows from a command, whose own effect turned s into t,
at once. While the cold reset is asserted nothing happens (R799). -/
def State.after (s t : State) : State :=
  if s.bootU.asserted then s
  else { (s.padsFreed t).eyeCheck.adminSettle.settle.followWork.followWatch with pending := s.pending }

/-- A command with the effect t. -/
def State.done (s t : State) : Out := .next (s.after t)

end Sys2Proof.Machine
end

