-- ==== Sys2Proof/Machine/AdminCommands.lean ====
section
/-! DEFINITION. The commands of the admin commands: what each does, one definition for each. -/

namespace Sys2Proof.Machine

/-- R572, R550: the command at the front of the admin queue, if it is this one, is taken. -/
def execNop (s : State) : Out := s.done (s.cmdNop)

/-- R563, R550: the command at the front of the admin queue, if it is this one, is taken. -/
def execTxrCreate (s : State) : Out := s.done (s.cmdRingCreate false)

/-- R563, R550: the command at the front of the admin queue, if it is this one, is taken. -/
def execTxrDestroy (s : State) : Out := s.done (s.cmdRingDestroy false)

/-- R563, R550: the command at the front of the admin queue, if it is this one, is taken. -/
def execRxrCreate (s : State) : Out := s.done (s.cmdRingCreate true)

/-- R563, R550: the command at the front of the admin queue, if it is this one, is taken. -/
def execRxrDestroy (s : State) : Out := s.done (s.cmdRingDestroy true)

/-- R563, R550: the command at the front of the admin queue, if it is this one, is taken. -/
def execCqCreate (s : State) : Out := s.done (s.cmdCqCreate)

/-- R563, R550: the command at the front of the admin queue, if it is this one, is taken. -/
def execCqDestroy (s : State) : Out := s.done (s.cmdCqDestroy)

/-- R564, R550: the command at the front of the admin queue, if it is this one, is taken. -/
def execTableEdit (s : State) : Out := s.done (s.cmdTableEdit)

/-- R565, R550: the command at the front of the admin queue, if it is this one, is taken. -/
def execTableGen (s : State) : Out := s.done (s.cmdTableGen)

/-- R389, R550: the command at the front of the admin queue, if it is this one, is taken. -/
def execTableBulkLoad (s : State) : Out := s.done (s.cmdBulkLoad)

/-- R391, R550: the command at the front of the admin queue, if it is this one, is taken. -/
def execTableRehash (s : State) : Out := s.done (s.cmdRehash)

/-- R483, R550: the command at the front of the admin queue, if it is this one, is taken. -/
def execSchedNodeCreate (s : State) : Out := s.done (s.cmdNodeCreate)

/-- R484, R550: the command at the front of the admin queue, if it is this one, is taken. -/
def execSchedNodeDestroy (s : State) : Out := s.done (s.cmdNodeDestroy)

/-- R481, R550: the command at the front of the admin queue, if it is this one, is taken. -/
def execSchedNodeWrite (s : State) : Out := s.done (s.cmdNodeWrite)

/-- R481, R550: the command at the front of the admin queue, if it is this one, is taken. -/
def execMeterWrite (s : State) : Out := s.done (s.cmdMeterWrite)

/-- R568, R550: the command at the front of the admin queue, if it is this one, is taken. -/
def execRegWrite (s : State) : Out := s.done (s.cmdRegWrite)

/-- R682, R550: the command at the front of the admin queue, if it is this one, is taken. -/
def execPowerState (s : State) : Out := s.done (s.cmdPowerState)

/-- R570, R550: the command at the front of the admin queue, if it is this one, is taken. -/
def execLaneRetrain (s : State) : Out := s.done (s.cmdLaneRetrain)

/-- R775, R550: the command at the front of the admin queue, if it is this one, is taken. -/
def execStatsSnapshot (s : State) : Out := s.done (s.cmdSnapshot)

/-- R776, R550: the command at the front of the admin queue, if it is this one, is taken. -/
def execStatsDump (s : State) : Out := s.done (s.cmdDump)

/-- R182, R550: the command at the front of the admin queue, if it is this one, is taken. -/
def execEyeScan (s : State) : Out := s.done (s.cmdEyeScan)

/-- R436, R550: the command at the front of the admin queue, if it is this one, is taken. -/
def execLoftScrub (s : State) : Out := s.done (s.cmdScrub)

/-- R556, R550: the command at the front of the admin queue, if it is this one, is taken. -/
def execOpSuspend (s : State) : Out := s.done (s.cmdOp 0)

/-- R556, R550: the command at the front of the admin queue, if it is this one, is taken. -/
def execOpResume (s : State) : Out := s.done (s.cmdOp 1)

/-- R556, R550: the command at the front of the admin queue, if it is this one, is taken. -/
def execOpCancel (s : State) : Out := s.done (s.cmdOp 2)

end Sys2Proof.Machine
end

