-- ==== Sys2Proof/Machine/AdminEngine.lean ====
section
/-! DEFINITION. The commands of the admin queue and its long operations: what each does, one definition for each. -/

namespace Sys2Proof.Machine

/-- R537: a write of ADMIN_CFG that sets EN. -/
def execAdminEnable (v : Word) (s : State) : Out :=
  s.done (if !s.adminEn && fADMIN_CFG_EN.get v == 1 then s.ctWrite .ADMIN_CFG 0 v else s)

/-- R538: a write of ADMIN_CFG that clears EN. -/
def execAdminDisable (v : Word) (s : State) : Out :=
  s.done (if s.adminEn && fADMIN_CFG_EN.get v == 0 then s.ctWrite .ADMIN_CFG 0 v else s)

/-- R539: the admin doorbell. -/
def execAdminDoorbell (v : BitVec 32) (s : State) : Out := s.done (s.ctWrite .ADMIN_ASQ_PROD 0 (v.setWidth 64))

/-- R539: a write of ADMIN_ACQ_CONS. -/
def execAdminAcqConsWrite (v : BitVec 32) (s : State) : Out := s.done (s.ctWrite .ADMIN_ACQ_CONS 0 (v.setWidth 64))

/-- R543: commands that were read return. -/
def execAdminCommandReadDone (a : Resp) (s : State) : Out := s.done (s.asqDone a)

/-- R550: the fenced command may start. -/
def execFenceRelease (s : State) : Out := s.done (s.fenceRelease)

/-- R549: the completion that is due first is written. -/
def execAdminCompletionWrite (s : State) : Out := s.done (s.adminComplete)

/-- R548: a completion's write is answered. -/
def execAdminCompletionDone (a : Resp) (s : State) : Out := s.done (s.acqDone a)

/-- R548: operand or result memory is answered. -/
def execOperandMemoryAccessDone (a : Resp) (s : State) : Out := s.done (s.operandMemDone a)

/-- R553: a unit of a long operation ends: its error count, what it finds, and the frame it reads. -/
def execLopUnitEnd (k : Fin 16) (count : Nat) (e : Ecc) (fid : Nat) (s : State) : Out :=
  s.done (s.lopUnit k count e fid)

/-- R560: SUSPEND is written. -/
def execLopSuspendReg (k : Fin 16) (s : State) : Out :=
  s.done (s.ctWrite .ADMIN_LOP_CTRL k (fADMIN_LOP_CTRL_SUSPEND.at 1))

/-- R560: RESUME is written. -/
def execLopResumeReg (k : Fin 16) (s : State) : Out :=
  s.done (s.ctWrite .ADMIN_LOP_CTRL k (fADMIN_LOP_CTRL_RESUME.at 1))

/-- R560: CANCEL is written. -/
def execLopCancelReg (k : Fin 16) (s : State) : Out :=
  s.done (s.ctWrite .ADMIN_LOP_CTRL k (fADMIN_LOP_CTRL_CANCEL.at 1))

/-- R558: RELEASE is written. -/
def execLopRelease (k : Fin 16) (s : State) : Out :=
  s.done (s.ctWrite .ADMIN_LOP_CTRL k (fADMIN_LOP_CTRL_RELEASE.at 1))

end Sys2Proof.Machine
end

