-- ==== Sys2Proof/Machine/BootEngine.lean ====
section
/-! DEFINITION. The commands of cold reset and boot: what each does, one definition for each. -/

namespace Sys2Proof.Machine

/-- R723: `xspi_rst_n_o` rises. -/
def execXspiResetRelease (s : State) : Out := s.done (s.xspiResetEnd)

/-- R736: INIT ends. -/
def execBootInitDone (s : State) : Out := s.done (s.initEnd)

/-- R732: SELECT has read the headers and commit markers of the copies. -/
def execBootSelectDone (hA : List Byte) (mA : List Byte) (hB : List Byte) (mB : List Byte) (s : State) : Out :=
  s.done (s.selectEnd hA mA hB mB)

/-- R729: LOAD reads an item, with its record's header before it if it is the record's first. -/
def execBootItemApply (x : ItemRead) (s : State) : Out := s.done (s.bootItem x)

/-- R729: a DELAY item's pause ends. -/
def execBootDelayExpiry (s : State) : Out := s.done (s.bootDelay)

/-- R733: the last record has been read. -/
def execBootLoadEnd (s : State) : Out := s.done (s.loadEnd)

/-- R734: CLEAR ends. -/
def execBootClearDone (s : State) : Out := s.done (s.clearEnd)

/-- R740: boot release. -/
def execBootRelease (s : State) : Out := s.done (s.bootGo)

/-- R742: HOST_START is written. -/
def execBootHostStart (s : State) : Out := s.done (s.ctWrite .BOOT_CTRL 0 (fBOOT_CTRL_HOST_START.at 1))

/-- R743: RETHATCH is written with its KEY. -/
def execRethatchRequest (s : State) : Out :=
  s.done (s.ctWrite .GEN_RESET 0 (fGEN_RESET_KEY.at 0xD7 ||| fGEN_RESET_RETHATCH.at 1))

/-- R744: QUIESCE ends. -/
def execQuiesceDone (s : State) : Out := s.done (s.quiesceEnd)

/-- R748: BOOT_XSPI_CMD is written with BUSY 1. -/
def execXspiWindowTransaction (v : BitVec 32) (s : State) : Out :=
  s.done (s.ctWrite .BOOT_XSPI_CMD 0 (fBOOT_XSPI_CMD_BUSY.put (v.setWidth 64) 1))

/-- R748: a window transaction ends; `b`: the data bytes of a read. -/
def execXspiWindowDone (b : List Byte) (s : State) : Out := s.done (s.xspiDone b)

/-- R799: the cold reset is asserted. -/
def execColdReset (s : State) : Out := .next (s.coldReset)

/-- R736: the cold reset is released with these straps. -/
def execColdResetRelease (fence : Fin 16) (mode : Fin 4) (trim : BitVec 40) (s : State) : Out :=
  .next (if s.bootU.asserted then (s.coldRelease fence mode trim).settle else s)

/-- R815: memory self-test starts. -/
def execMemorySelfTestStart (s : State) : Out := .next (s.mbistStart)

/-- R815: memory self-test finishes. -/
def execMemorySelfTestDone (bad : Bool) (s : State) : Out := .next (s.mbistEnd bad)

end Sys2Proof.Machine
end

