-- ==== Sys2Proof/Machine/Calibration.lean ====
section
/-! DEFINITION. The commands of live calibration: what each does, one definition for each. -/

namespace Sys2Proof.Machine

/-- R141: a block of 4,096 symbols ends: its sums, an adapted setting and the checker's errors. -/
def execPfBlockDone (n : Fin 16) (sig : Nat) (err : Nat) (x : Option RxSet) (errs : Nat) (s : State) : Out :=
  s.done (s.pfBlock n sig err x errs)

/-- R144: a receive update interval ends. -/
def execRxUpdateInterval (n : Fin 16) (est : RxSet) (s : State) : Out := s.done (s.rxInterval n est)

/-- R152: a transmit update interval ends. -/
def execTxUpdateInterval (n : Fin 16) (s : State) : Out := s.done (s.txInterval n)

/-- R144, R152: a step's apply symbol is reached. -/
def execStepApply (n : Fin 16) (rx : Bool) (s : State) : Out := s.done (s.stepApply n rx)

/-- R162: a live pitch message falls due by its timer. -/
def execLpmDueTimer (p : Fin 16) (s : State) : Out := s.done (s.lpmTimer p)

/-- R163: a due live pitch message is sent. -/
def execLpmSend (p : Fin 16) (s : State) : Out := s.done (s.lpmSend p)

/-- R168: a live pitch message arrives. -/
def execLpmReceive (p : Fin 16) (x : RxFrame) (s : State) : Out := s.done (s.lpmRx p x)

/-- R173: a trial of the live search begins. -/
def execLiveSearchTrial (n : Fin 16) (s : State) : Out := s.done (s.liveTrial n)

/-- R173: a trial's measurement ends. -/
def execLiveSearchMeasure (n : Fin 16) (s : State) : Out := s.done (s.liveMeasure n)

/-- R175: a live request is not acknowledged in time. -/
def execLiveReqTimeout (n : Fin 16) (s : State) : Out := s.done (s.liveTimeout n)

/-- R178: a write of LANE_CAL_TX_SET. -/
def execCalTxSetWrite (n : Fin 16) (v : Word) (s : State) : Out := s.done (s.ctWrite .LANE_CAL_TX_SET n v)

/-- R181: a write of LANE_RX_EQ. -/
def execCtleHoldWrite (n : Fin 16) (v : Word) (s : State) : Out := s.done (s.ctWrite .LANE_RX_EQ n v)

end Sys2Proof.Machine
end

