-- ==== Sys2Proof/Machine/ControlPort.lean ====
section
/-! DEFINITION. The commands of accesses at the control port: what each does, one definition for each. -/

namespace Sys2Proof.Machine

/-- R18: a write at the control port, of any register, size, offset and parity. -/
def execRegisterWrite (a : Access) (s : State) : Out := s.done (s.ctAccess { a with write := true })

/-- R60, R61: the access that stalled for a waking domain is served. -/
def execStalledAccessServed (s : State) : Out := s.done (s.stallServed)

/-- R18, R20: a read at the control port, of any register; RC fields clear. -/
def execRcCounterRead (off : Nat) (size : Nat) (s : State) : Out :=
  s.done (s.ctAccess { write := false, size := size, offset := off, data := 0 })

/-- R22: a 32-bit read; of a lower half it latches the upper half. -/
def execLowerHalfRead (off : Nat) (s : State) : Out :=
  s.done (s.ctAccess { write := false, size := 4, offset := off, data := 0 })

/-- R24: a 32-bit write; of a lower half it is staged. -/
def execLowerHalfWrite (off : Nat) (v : BitVec 32) (s : State) : Out :=
  s.done (s.ctAccess { write := true, size := 4, offset := off, data := v.setWidth 64 })

/-- R24: a 32-bit write; of an upper half it takes effect with the staged lower half. -/
def execUpperHalfWrite (off : Nat) (v : BitVec 32) (s : State) : Out :=
  s.done (s.ctAccess { write := true, size := 4, offset := off, data := v.setWidth 64 })

end Sys2Proof.Machine
end

