-- ==== Sys2Proof/Machine/GeneralDma.lean ====
section
/-! DEFINITION. The commands of the general DMA channels: what each does, one definition for each. -/

namespace Sys2Proof.Machine

/-- R610: START is written. -/
def execDmaChanStart (k : Fin 64) (s : State) : Out := s.done (s.ctWrite .DMA_CHAN_CTRL k (fDMA_CHAN_CTRL_START.at 1))

/-- R614: STOP is written. -/
def execDmaChanStop (k : Fin 64) (s : State) : Out := s.done (s.ctWrite .DMA_CHAN_CTRL k (fDMA_CHAN_CTRL_STOP.at 1))

/-- R611: RING is written. -/
def execDmaChanAppend (k : Fin 64) (s : State) : Out :=
  s.done (s.ctWrite .DMA_CHAN_APPEND k (fDMA_CHAN_APPEND_RING.at 1))

/-- R603: a descriptor or link word returns. -/
def execDmaDescReadDone (a : Resp) (s : State) : Out := s.done (s.dmaDescDone a)

/-- R604: a data read returns. -/
def execDmaDataReadDone (a : Resp) (s : State) : Out := s.done (s.dmaReadDone a)

/-- R607: a data write is answered. -/
def execDmaDataWriteDone (a : Resp) (s : State) : Out := s.done (s.dmaWriteDone a)

/-- R607: the descriptor in progress completes. -/
def execDmaDescComplete (k : Fin 64) (s : State) : Out := s.done (s.chanComplete k)

/-- R609: a done write-back is answered. -/
def execDmaWritebackDone (a : Resp) (s : State) : Out := s.done (s.dmaWbDone a)

/-- R613: a stopped channel enters OFF. -/
def execDmaChanStopped (k : Fin 64) (s : State) : Out := s.done (s.chanStopped k)

end Sys2Proof.Machine
end

