-- ==== Sys2Proof/Machine/Interrupts.lean ====
section
/-! DEFINITION. The commands of the interrupt controller: what each does, one definition for each. -/

namespace Sys2Proof.Machine

/-- R649: the signal of a source may have changed. -/
def execIntcSourceChange (q : Fin 4352) (s : State) : Out := s.done (s.sourceChange q)

/-- R652: a write of INTC_SRC. -/
def execIntcSrcWrite (q : Fin 4352) (v : Word) (s : State) : Out := s.done (s.ctWrite .INTC_SRC q v)

/-- R656: a write of INTC_VEC. -/
def execIntcVecWrite (v : Fin 4096) (w : Word) (s : State) : Out := s.done (s.ctWrite .INTC_VEC v w)

/-- R654: a vector's moderation timer expires. -/
def execIntcModTimerExpiry (v : Fin 4096) (s : State) : Out := s.done (s.timerExpiry v)

/-- R659: a read of INTC_CLAIM. -/
def execIntcClaim (n : Fin 64) (s : State) : Out := s.done (s.ctRead .INTC_CLAIM n)

/-- R661: a write of INTC_EOI. -/
def execIntcEoi (n : Fin 64) (v : BitVec 32) (s : State) : Out := s.done (s.ctWrite .INTC_EOI n (v.setWidth 64))

/-- R665: a read of INTC_FCLAIM. -/
def execIntcFclaim (n : Fin 64) (s : State) : Out := s.done (s.ctRead .INTC_FCLAIM n)

/-- R665: a write of INTC_FEOI. -/
def execIntcFeoi (n : Fin 64) (v : BitVec 32) (s : State) : Out := s.done (s.ctWrite .INTC_FEOI n (v.setWidth 64))

/-- R662: the message writer sends. -/
def execIntcMessageSend (t : Fin 1024) (s : State) : Out := s.done (s.messageSend t)

/-- R670: `host_sleep_i[n]` changes. -/
def execHostSleepChange (n : Fin 64) (sleeps : Bool) (s : State) : Out := s.done (s.hostSleep n sleeps)

/-- R672: a message write is answered. -/
def execIntcMessageWriteDone (a : Resp) (s : State) : Out := s.done (s.messageDone a)

end Sys2Proof.Machine
end

