-- ==== Sys2Proof/Machine/Lanes.lean ====
section
/-! DEFINITION. The commands of lane bring-up: what each does, one definition for each. -/

namespace Sys2Proof.Machine

/-- R84: LANE_CTRL.EN is written 1, the other fields as they are. -/
def execLaneEnable (n : Fin 16) (s : State) : Out :=
  s.done (s.ctWrite .LANE_CTRL n (fLANE_CTRL_EN.put (fLANE_CTRL_RESTART.put (s.rget .LANE_CTRL n) 0) 1))

/-- R85: LANE_CTRL.EN is written 0, the other fields as they are. -/
def execLaneDisable (n : Fin 16) (s : State) : Out :=
  s.done (s.ctWrite .LANE_CTRL n (fLANE_CTRL_EN.put (fLANE_CTRL_RESTART.put (s.rget .LANE_CTRL n) 0) 0))

/-- R86: LANE_CTRL.RESTART is written 1, the other fields as they are. -/
def execLaneRestart (n : Fin 16) (s : State) : Out :=
  s.done (s.ctWrite .LANE_CTRL n (fLANE_CTRL_RESTART.put (s.rget .LANE_CTRL n) 1))

/-- R81: a quad PLL locks. -/
def execQuadPllLock (q : Fin 4) (s : State) : Out := s.done (s.quadLock q)

/-- R83: a quad PLL loses lock. -/
def execQuadPllLockLost (q : Fin 4) (s : State) : Out := s.done (s.quadLost q)

/-- R91: the receiver finds energy, or its CDR locks. -/
def execCdrLock (x : CdrFound) (s : State) : Out := s.done (s.cdrLocks x.lane x.lock)

/-- R140: the CDR loses lock. -/
def execCdrLockLoss (x : CdrLost) (s : State) : Out := s.done (s.cdrLoses x.lane x.energy)

/-- R100: frame lock is gained. -/
def execFrameLock (n : Fin 16) (s : State) : Out := s.done (s.frameLocks n)

/-- R100: frame lock is lost. -/
def execFrameLockLost (n : Fin 16) (s : State) : Out := s.done (s.frameLost n)

/-- R105: the symbols at an expected training frame's position arrive: its marker and fields, then its pattern. -/
def execTrainingFrameRx (n : Fin 16) (head pattern : List (Fin 4)) (s : State) : Out :=
  s.done (s.trainFrameRx n ((head ++ pattern).map Fin.val))

/-- R106: a transmit training frame begins. -/
def execTrainFrameTxStart (n : Fin 16) (s : State) : Out := s.done (s.trainFrameTx n)

/-- R109: a measurement of the search ends. -/
def execTrainSearchMeasure (n : Fin 16) (s : State) : Out := s.done (s.searchMeasure n)

/-- R109: the readiness conditions hold. -/
def execLocalReady (n : Fin 16) (s : State) : Out := s.done (s.laneReady n)

/-- R118: a fixed-mode lane is ready. -/
def execFixedModeReady (n : Fin 16) (s : State) : Out := s.done (s.fixedReady n)

/-- R107: a training request is not acknowledged in time. -/
def execTrainReqTimeout (n : Fin 16) (s : State) : Out := s.done (s.trainReqTimeout n)

/-- R92: the training timeout expires. -/
def execTrainingTimeout (n : Fin 16) (s : State) : Out := s.done (s.trainTimeout n)

/-- R115: the partner's countdown does not come. -/
def execCountdownTimeout (n : Fin 16) (s : State) : Out := s.done (s.countdownTimeout n)

/-- R94: the retry from FAIL. -/
def execFailRetry (n : Fin 16) (s : State) : Out := s.done (s.failRetry n)

/-- R84: signal or CDR lock has been lost for 1 µs. -/
def execSignalLoss (n : Fin 16) (s : State) : Out := s.done (s.signalLoss n)

/-- R119: a write of LANE_TX_FIXED. -/
def execLaneTxFixedWrite (n : Fin 16) (v : Word) (s : State) : Out := s.done (s.ctWrite .LANE_TX_FIXED n v)

/-- R132: a write of LANE_LOOP. -/
def execLaneLoopWrite (n : Fin 16) (v : Word) (s : State) : Out := s.done (s.ctWrite .LANE_LOOP n v)

/-- R137: a write of LANE_PATTERN. -/
def execLanePatternWrite (n : Fin 16) (v : Word) (s : State) : Out := s.done (s.ctWrite .LANE_PATTERN n v)

end Sys2Proof.Machine
end

