-- ==== Sys2Proof/Machine/Ports.lean ====
section
/-! DEFINITION. The commands of ports and the MAC: what each does, one definition for each. -/

namespace Sys2Proof.Machine

/-- R122: marker lock is gained. -/
def execMarkerLock (p : Fin 16) (s : State) : Out := s.done (s.markers p)

/-- R126: marker lock is lost. -/
def execMarkerLockLost (p : Fin 16) (s : State) : Out := s.done (s.markersLost p)

/-- R124: the skew of a port's lanes is measured. -/
def execSkewMeasured (p : Fin 16) (skews : List Nat) (s : State) : Out := s.done (s.skewMeasured p skews)

/-- R195: a write of COURSE_PORT_MAP. -/
def execPortMapWrite (c : Fin 4) (v : Word) (s : State) : Out := s.done (s.ctWrite .COURSE_PORT_MAP c v)

/-- R229: a write of PORT_MODE. -/
def execPortModeWrite (p : Fin 16) (v : Word) (s : State) : Out := s.done (s.ctWrite .PORT_MODE p v)

/-- R205: a codeword is decoded: corrected symbols by lane, or none for one that is uncorrectable. -/
def execFecCodewordDecode (p : Fin 16) (fixed : Option (List Nat)) (s : State) : Out := s.done (s.fecDecode p fixed)

/-- R209: a window of 8,192 codewords ends. -/
def execFecWindowEnd (p : Fin 16) (s : State) : Out := s.done (s.fecWindow p)

/-- R202: received fault ordered sets: 0 none, 1 local, 2 remote. -/
def execFaultOrderedSetRx (p : Fin 16) (kind : Fin 3) (s : State) : Out := s.done (s.faultRx p kind)

/-- R232: a flow-control frame arrives. -/
def execFcFrameRx (p : Fin 16) (x : Arrival RxFrame) (s : State) : Out := s.done (s.fcFrameRx p x.what x.path)

/-- R233: a pause timer expires (8: PAUSE). -/
def execPauseTimerExpiry (p : Fin 16) (k : Fin 9) (s : State) : Out := s.done (s.pauseExpiry p k)

/-- R430: the flow-control frame that is due is sent. -/
def execFcFrameSend (p : Fin 16) (s : State) : Out := s.done (s.fcSend p)

/-- R238: an asserted pause is due again. -/
def execFcResendTimer (p : Fin 16) (k : Fin 9) (s : State) : Out := s.done (s.fcResend p k)

/-- R242: the verify interval expires. -/
def execPreemptVerifyTimer (p : Fin 16) (s : State) : Out := s.done (s.verifyTimer p)

/-- R243: a verify packet arrives. -/
def execVerifyPacketRx (p : Fin 16) (s : State) : Out := s.done (s.verifyRx p)

/-- R242: a respond packet arrives. -/
def execRespondPacketRx (p : Fin 16) (s : State) : Out := s.done (s.respondRx p)

end Sys2Proof.Machine
end

