-- ==== Sys2Proof/Machine/PowerUnit.lean ====
section
/-! DEFINITION. The commands of power: what each does, one definition for each. -/

namespace Sys2Proof.Machine

/-- R684: an idle domain enters DOZE. -/
def execDomainDozeEntry (d : Fin 15) (s : State) : Out := s.done (s.dozeEntry d)

/-- R687: a domain becomes ready; `items`: the SCHED_NODE (false) and METER (true) items that a restore applies. -/
def execDomainReady (d : Fin 15) (items : List (Bool × List Byte)) (s : State) : Out := s.done (s.domReady d items)

/-- R702: the pads are held and the commit completion falls due. -/
def execSleepPadsHeld (s : State) : Out := s.done (s.padsHeld)

/-- R702: the domains power down. -/
def execSleepPowerDown (s : State) : Out := s.done (s.powerDown)

/-- R706: the block leaves SLEEP. -/
def execSleepWake (s : State) : Out := s.done (s.sleepWake)

/-- R705: the wake timer expires. -/
def execWakeTimerExpiry (s : State) : Out := s.done (s.wakeTimer)

/-- R712: a watch lane receives a frame, examined for the magic pattern. -/
def execWatchMagicFrame (p : Fin 16) (b : List Byte) (good : Bool) (s : State) : Out := s.done (s.watchMagic p b good)

/-- R713: a watch lane receives a frame, compared with the patterns. -/
def execWatchPatternMatch (p : Fin 16) (b : List Byte) (good : Bool) (s : State) : Out :=
  s.done (s.watchPattern p b good)

/-- R705: energy appears at a watch lane. -/
def execWatchSignalDetect (p : Fin 16) (s : State) : Out := s.done (s.watchSignal p)

/-- R693: a regulator handshake completes. -/
def execVoltAck (s : State) : Out := s.done (s.voltAck)

/-- R695: a regulator handshake does not complete in time. -/
def execVregTimeout (s : State) : Out := s.done (s.vregTimeout)

/-- R694: the CCLK divisor changes. -/
def execCclkDivisorChange (s : State) : Out := s.done (s.divisorChange)

/-- R697: the governor samples the sensor sites. -/
def execThermSample (sites : List (Option Int)) (s : State) : Out := s.done (s.thermSites sites)

/-- R699: the surge time reaches 1.0 s. -/
def execSurgeTimeLimit (s : State) : Out := s.done (s.surgeLimitHit)

/-- R698: a bucket of 100 ms ends. -/
def execSurgeBucketEnd (s : State) : Out := s.done (s.bucketEnd)

/-- R700: UNLOCK is written. -/
def execThermUnlock (s : State) : Out := s.done (s.ctWrite .POWER_THERM_CTRL 0 (fPOWER_THERM_CTRL_UNLOCK.at 1))

/-- R690: a write of POWER_FENCE. -/
def execPowerFenceWrite (v : Word) (s : State) : Out := s.done (s.ctWrite .POWER_FENCE 0 v)

/-- R710: RELEASE is written. -/
def execPadRelease (mask : Fin 128) (s : State) : Out := s.done (s.ctWrite .POWER_PAD 0 (fPOWER_PAD_RELEASE.at mask))

/-- R716: a ligger PING arrives. -/
def execLiggerPing (addr : Fin 64) (check : Fin 256) (s : State) : Out :=
  s.done (s.ligReceive (ligWire [addr * 4 + 1, 0x50, check]))

/-- R716: a ligger STATUS arrives. -/
def execLiggerStatus (addr : Fin 64) (check : Fin 256) (s : State) : Out :=
  s.done (s.ligReceive (ligWire [addr * 4 + 1, 0x53, check]))

/-- R716: a ligger HOST_WAKE arrives. -/
def execLiggerHostWake (addr : Fin 64) (check : Fin 256) (s : State) : Out :=
  s.done (s.ligReceive (ligWire [addr * 4 + 1, 0x57, check]))

/-- R716: a ligger READ arrives. -/
def execLiggerRead (addr : Fin 64) (s : State) : Out := s.done (s.ligReceive (ligWire [addr * 4 + 2]))

/-- R684: the 10 µs of a DOZE command have passed. -/
def execDozeWindowExpiry (s : State) : Out := s.done (s.dozeWindow)

end Sys2Proof.Machine
end

