-- ==== Sys2Proof/Machine/Rings.lean ====
section
/-! DEFINITION. The commands of rings, completion queues and rafter ports: what each does, one definition for each. -/

namespace Sys2Proof.Machine

/-- R529: a transmit ring's doorbell. -/
def execTxrDoorbell (r : Fin 16384) (v : BitVec 32) (s : State) : Out :=
  s.done (s.ctWrite .TXR_PROD r (v.setWidth 64))

/-- R529: a receive buffer ring's doorbell. -/
def execRxrDoorbell (r : Fin 16384) (v : BitVec 32) (s : State) : Out :=
  s.done (s.ctWrite .RXR_PROD r (v.setWidth 64))

/-- R521: a completion queue's consumer index is written. -/
def execCqDoorbell (q : Fin 4096) (v : BitVec 32) (s : State) : Out := s.done (s.ctWrite .CQ_CONS q (v.setWidth 64))

/-- R523: TXR_CTRL.EN is written 0. -/
def execTxrDisable (r : Fin 16384) (s : State) : Out := s.done (s.ctWrite .TXR_CTRL r 0)

/-- R524: a drain ends. -/
def execTxrDrainEnd (r : Fin 16384) (s : State) : Out := s.done (s.txDrainEnd r)

/-- R524: TXR_CTRL.EN is written 1. -/
def execTxrEnable (r : Fin 16384) (s : State) : Out := s.done (s.ctWrite .TXR_CTRL r (fTXR_CTRL_EN.at 1))

/-- R525: RXR_CTRL.RESET is written 1. -/
def execRxrReset (r : Fin 16384) (s : State) : Out := s.done (s.ctWrite .RXR_CTRL r (fRXR_CTRL_RESET.at 1))

/-- R525: a reset ends with the last response of its completions. -/
def execRxrResetDone (r : Fin 16384) (s : State) : Out := s.done (s.resetCheck r)

/-- R527: RXR_CTRL.EN is written 1. -/
def execRxrEnable (r : Fin 16384) (s : State) : Out := s.done (s.ctWrite .RXR_CTRL r (fRXR_CTRL_EN.at 1))

/-- R599: a port presents its next request, `wait` cycles of `rclk_i` after the last. -/
def execRafterRequestIssue (p : Fin 4) (t : Fin 1024) (preferWrite : Bool) (wait : Nat) (s : State) : Out :=
  s.done (s.rafterIssue p t preferWrite wait)

/-- R593: a response breaks the protocol; v numbers the rule broken. -/
def execRafterStrayResponse (p : Fin 4) (t : Fin 1024) (v : Fin 4) (s : State) : Out := s.done (s.stray p t v)

/-- R530: slots or a fragment table return. -/
def execTxEntryReadDone (a : Resp) (x : CacheRead) (s : State) : Out := s.done (s.txEntryDone a x)

/-- R754: a descriptor that was read again returns. -/
def execDescRereadDone (a : Resp) (parity : Bool) (s : State) : Out := s.done (s.descRereadDone a parity)

/-- R424: a ring's next frame is admitted to the loft or waits. -/
def execHostAdmission (x : AdmitCheck) (s : State) : Out :=
  s.done ((s.hostCycle x.same).hostAdmission x.ring x.alloc)

/-- R68: frame data returns; `bad`: a parity error on the way into the loft. -/
def execTxFragmentReadDone (a : Resp) (bad : Bool) (s : State) : Out := s.done (s.txFragmentDone a bad)

/-- R508: the ring's next entry retires. -/
def execTxEntryRetire (r : Fin 16384) (s : State) : Out := s.done (s.txRetire r)

/-- R530: buffer entries return. -/
def execRxBufferReadDone (a : Resp) (x : CacheRead) (s : State) : Out := s.done (s.rxBufferDone a x)

/-- R513: delivery of the head frame of a ring's queue begins. -/
def execRxDeliveryStart (r : Fin 16384) (e : CellRead) (s : State) : Out := s.done (s.deliver r e)

/-- R67: a write of frame data is answered. -/
def execRxDataWriteDone (a : Resp) (s : State) : Out := s.done (s.rxDataDone a)

/-- R519: due completions of a queue are written. -/
def execCompletionWriteIssue (q : Fin 4096) (x : ComplRun) (s : State) : Out := s.done (s.complRun q x)

/-- R67: a completion write is answered. -/
def execCompletionWriteDone (a : Resp) (s : State) : Out := s.done (s.complDone a)

/-- R522: a ring's consumer index is written to its shadow address. -/
def execShadowWrite (rx : Bool) (r : Fin 16384) (s : State) : Out := s.done (s.shadowWrite rx r)

/-- R522: a shadow write is answered. -/
def execShadowWriteDone (a : Resp) (s : State) : Out := s.done (s.shadowDone a)

end Sys2Proof.Machine
end

