-- ==== Sys2Proof/Machine/SealPort.lean ====
section
/-! DEFINITION. The commands of the seal port: what each does, one definition for each. -/

namespace Sys2Proof.Machine

/-- R631: SEAL_CFG.EN is written, the other fields as they are. -/
def execSealEnWrite (en : Bool) (s : State) : Out :=
  s.done (s.ctWrite .SEAL_CFG 0 (fSEAL_CFG_EN.put (s.rget .SEAL_CFG 0) en.toNat))

/-- R631: a written EN takes effect. -/
def execSealEnApply (s : State) : Out := s.done (s.sealEnApply)

/-- R625: a transmit response segment returns. -/
def execSealTxResponse (ch : Fin 4) (x : SealResp) (s : State) : Out := s.done (s.sealTxResponse ch x)

/-- R630: a response is released to MAC framing. -/
def execSealTxRelease (ch : Fin 4) (s : State) : Out := s.done (s.sealTxRelease ch)

/-- R638: a received frame's plaintext and result return. -/
def execSealRxResponse (ch : Fin 4) (x : SealResp) (s : State) : Out := s.done (s.sealRxResponse ch x)

/-- R627: a received frame does not return within RX_MAX. -/
def execSealRxTimeout (ch : Fin 4) (s : State) : Out := s.done (s.sealRxTimeout ch)

/-- R640: a key-erase alarm. -/
def execSealAlarm (p : Fin 16) (slot : Fin 4096) (par : Bool) (s : State) : Out := s.done (s.sealAlarm p slot par)

/-- R641: the hold sweep ends. -/
def execSealHoldSweepEnd (s : State) : Out := s.done (s.sealSweepEnd)

/-- R629: the SEAL_BIND window's READ. -/
def execSealBindRead (s : State) : Out := s.done (s.sealBindWin 0)

/-- R642: the SEAL_BIND window's WRITE. -/
def execSealBindWrite (s : State) : Out := s.done (s.sealBindWin 1)

end Sys2Proof.Machine
end

