-- ==== Sys2Proof/Machine/Tables.lean ====
section
/-! DEFINITION. The commands of tables and generations: what each does, one definition for each. -/

namespace Sys2Proof.Machine

/-- R349: a write of TABLE_EM_CFG. -/
def execTableCfgWrite (t : Fin 4) (v : Word) (s : State) : Out := s.done (s.ctWrite .TABLE_EM_CFG t v)

/-- R384, R388: the window's SEARCH is served. -/
def execTableSearch (s : State) : Out := s.done (s.tableWinOp 0)

/-- R386, R388: the window's INSERT is served. -/
def execTableInsert (s : State) : Out := s.done (s.tableWinOp 1)

/-- R372, R388: the window's DELETE is served. -/
def execTableDelete (s : State) : Out := s.done (s.tableWinOp 2)

/-- R372, R388: the window's UPDATE is served. -/
def execTableUpdate (s : State) : Out := s.done (s.tableWinOp 3)

/-- R384, R388: the window's READ is served. -/
def execTableRead (s : State) : Out := s.done (s.tableWinOp 4)

/-- R381: OPEN is written. -/
def execTableGenOpen (s : State) : Out := s.done (s.ctWrite .TABLE_GEN_CTRL 0 (fTABLE_GEN_CTRL_OPEN.at 1))

/-- R373: COMMIT is written. -/
def execTableGenCommit (s : State) : Out := s.done (s.ctWrite .TABLE_GEN_CTRL 0 (fTABLE_GEN_CTRL_COMMIT.at 1))

/-- R378: ABORT is written. -/
def execTableGenAbort (s : State) : Out := s.done (s.ctWrite .TABLE_GEN_CTRL 0 (fTABLE_GEN_CTRL_ABORT.at 1))

/-- R373: the commit edge. -/
def execCommitEdge (s : State) : Out := s.done (s.commitEdge)

/-- R376: no frame carries the retiring generation. -/
def execDrainEnd (s : State) : Out := s.done (s.drainEnd)

/-- R376: DRAINING has lasted 100 µs. -/
def execDrainSlowTimer (s : State) : Out := s.done (s.drainSlow)

/-- R377: the settling sweep ends. -/
def execSettleSweepEnd (s : State) : Out := s.done (s.settleEnd)

/-- R378: the abort sweep ends. -/
def execAbortSweepEnd (s : State) : Out := s.done (s.abortEnd)

end Sys2Proof.Machine
end

