-- ==== Sys2Proof/Machine/TimeUnit.lean ====
section
/-! DEFINITION. The commands of the time unit: what each does, one definition for each. -/

namespace Sys2Proof.Machine

/-- R256: the ridge PLL locks. -/
def execRidgePllLock (s : State) : Out := s.done (s.ridgeLocks)

/-- R55: the ridge PLL loses lock. -/
def execRidgePllLockLost (s : State) : Out := s.done (s.ridgeLost)

/-- R257: GO is written with SET_NOW. -/
def execTimeSetNow (s : State) : Out :=
  s.done (s.ctWrite .TIME_LOAD_CTRL 0 (fTIME_LOAD_CTRL_GO.put (fTIME_LOAD_CTRL_MODE.at 0) 1))

/-- R259: GO is written with SET_AT_PPS. -/
def execTimeSetAtPps (s : State) : Out :=
  s.done (s.ctWrite .TIME_LOAD_CTRL 0 (fTIME_LOAD_CTRL_GO.put (fTIME_LOAD_CTRL_MODE.at 1) 1))

/-- R257: GO is written with STEP_NOW. -/
def execTimeStepNow (s : State) : Out :=
  s.done (s.ctWrite .TIME_LOAD_CTRL 0 (fTIME_LOAD_CTRL_GO.put (fTIME_LOAD_CTRL_MODE.at 2) 1))

/-- R258: a scheduled load or step applies. -/
def execTimeLoadApply (s : State) : Out := s.done (s.loadApply)

/-- R259: CANCEL is written, MODE as it is. -/
def execTimeLoadCancel (s : State) : Out :=
  s.done (s.ctWrite .TIME_LOAD_CTRL 0
    (fTIME_LOAD_CTRL_CANCEL.put (fTIME_LOAD_CTRL_MODE.at (s.fget .TIME_LOAD_CTRL 0 fTIME_LOAD_CTRL_MODE)) 1))

/-- R261: SLEW_GO is written, MODE as it is. -/
def execTimeSlewStart (s : State) : Out :=
  s.done (s.ctWrite .TIME_LOAD_CTRL 0
    (fTIME_LOAD_CTRL_SLEW_GO.put (fTIME_LOAD_CTRL_MODE.at (s.fget .TIME_LOAD_CTRL 0 fTIME_LOAD_CTRL_MODE)) 1))

/-- R261: a slew has added its whole offset. -/
def execTimeSlewDone (s : State) : Out := s.done (s.slewDone)

/-- R261: SLEW_CANCEL is written, MODE as it is. -/
def execTimeSlewCancel (s : State) : Out :=
  s.done (s.ctWrite .TIME_LOAD_CTRL 0
    (fTIME_LOAD_CTRL_SLEW_CANCEL.put (fTIME_LOAD_CTRL_MODE.at (s.fget .TIME_LOAD_CTRL 0 fTIME_LOAD_CTRL_MODE)) 1))

/-- R262: a write of TIME_ADDEND. -/
def execTimeAddendWrite (v : Word) (s : State) : Out := s.done (s.ctWrite .TIME_ADDEND 0 v)

/-- R265: a read of TIME_NOW_L. -/
def execTimeNowRead (s : State) : Out := s.done (s.ctRead .TIME_NOW_L 0)

/-- R266: an edge of `pps_i`. -/
def execPpsInEdge (rising : Bool) (s : State) : Out := s.done (s.ppsInEdge rising)

/-- R269: no capture for 1,100 ms. -/
def execPpsInMissTimer (s : State) : Out := s.done (s.ppsMiss)

/-- R271: a second boundary is passed and `pps_o` rises. -/
def execPpsOutEdge (s : State) : Out := s.done (s.ppsRise)

/-- R270: `pps_o` falls. -/
def execPpsOutFall (s : State) : Out := s.done (s.ppsFallNow)

/-- R274: a recovered clock output leaves squelch. -/
def execRclkUnsquelch (k : Fin 2) (s : State) : Out := s.done (s.rclkRelease k)

end Sys2Proof.Machine
end

