-- ==== Sys2Proof/Machine/Traffic.lean ====
section
/-! DEFINITION. The commands of received frames, the courses, the scheduler and egress: what each does, one definition
for each. -/

namespace Sys2Proof.Machine

/-- R64: a frame begins to arrive. -/
def execRxFrame (p : Fin 16) (x : Arrival RxFrame) (s : State) : Out := s.done (s.rxFrame p x.what x.path)

/-- R818: the last beat of the oldest unfinished frame of a port arrives. -/
def execRxFrameLastBeat (p : Fin 16) (s : State) : Out := s.done (s.rxFrameLastBeat p)

/-- R248: a fragment of a preemptable frame arrives. -/
def execRxFragment (p : Fin 16) (x : Arrival Fragment) (s : State) : Out := s.done (s.rxFragment p x.what x.path)

/-- R66: a course takes its next pass. `e`, `m`: what its reads of table memory and of its meter record find. -/
def execParserTake (c : Fin 4) (e m : Ecc) (s : State) : Out := s.done (s.parserTake c e m)

/-- R336: the reorder stage of P0 or P8 releases. -/
def execReorderRelease (hi : Bool) (s : State) : Out := s.done (s.reorderRelease (if hi then 8 else 0))

/-- R422: the admission decision of the frame or copy that is due. -/
def execAdmissionDecision (d : Due) (s : State) : Out := s.done (s.admissionDecision d.course d.same)

/-- R451: a port of course c selects a frame. -/
def execSchedSelect (c : Fin 4) (e : Ecc) (str : Fin 6) (s : State) : Out := s.done (s.schedSelect c e str)

/-- R456: a node's shaper credit refills. -/
def execShaperEligible (lvl : Fin 3) (node : Nat) (s : State) : Out := s.done (s.shaperEligible lvl node)

/-- R452: a port's pacing credit refills. -/
def execPacingEligible (p : Fin 16) (s : State) : Out := s.done (s.pacingEligible p)

/-- R45: the MAC starts a frame on the wire. -/
def execEgressFrameStart (p : Fin 16) (x : Path) (e : CellRead) (s : State) : Out := s.done (s.egressStart p x e)

/-- R244: a preemptable frame's fragment ends at the first point that R244 allows at or after its byte k. -/
def execPreemptFragmentEnd (p : Fin 16) (k : Nat) (s : State) : Out := s.done (s.fragmentEnd p k)

/-- R410: the last byte of a frame leaves. -/
def execEgressFrameEnd (p : Fin 16) (x : EgressDone) (s : State) : Out := s.done (s.egressEnd p x.delta x.links)

end Sys2Proof.Machine
end

