-- ==== Sys2Proof/Machine/Windows.lean ====
section
/-! DEFINITION. The commands of the SCHED, METER and STATS windows and queue watch: what each does, one definition for
each. -/

namespace Sys2Proof.Machine

/-- R480: the SCHED window's READ. -/
def execSchedWinRead (s : State) : Out := s.done (s.schedWin 0)

/-- R480: the SCHED window's WRITE. -/
def execSchedWinWrite (s : State) : Out := s.done (s.schedWin 1)

/-- R480: the METER window's READ. -/
def execMeterWinRead (s : State) : Out := s.done (s.meterWin 0)

/-- R480: the METER window's READ_CLEAR. -/
def execMeterWinReadClear (s : State) : Out := s.done (s.meterWin 1)

/-- R472: the METER window's WRITE. -/
def execMeterWinWrite (s : State) : Out := s.done (s.meterWin 2)

/-- R472: the METER window's WRITE_FILL. -/
def execMeterWinWriteFill (s : State) : Out := s.done (s.meterWin 3)

/-- R479: a write of QW_CFG. -/
def execQwEnable (v : Word) (s : State) : Out := s.done (s.ctWrite .QW_CFG 0 v)

/-- R474: a round of queue watch falls due. -/
def execQwRound (s : State) : Out := s.done (s.qwRoundDue)

/-- R478: a write of a round is answered. -/
def execQwRoundDone (a : Resp) (s : State) : Out := s.done (s.qwDone a)

/-- R773: the STATS window's READ. -/
def execStatsWinRead (s : State) : Out := s.done (s.statsWin 0)

/-- R773: the STATS window's PEEK. -/
def execStatsWinPeek (s : State) : Out := s.done (s.statsWin 1)

end Sys2Proof.Machine
end

