-- ==== Sys2Proof/Machine/Dispatch.lean ====
section
/-! DEFINITION. The dispatch: one arm for each command. -/

namespace Sys2Proof.Machine

/-- The effect of a command on everything but the queue. -/
def exec (i : Instr) (s : State) : Host.Outcome State Fault Refusal :=
  match i with
  | .registerWrite a => Sys2Proof.Machine.execRegisterWrite a s
  | .stalledAccessServed => Sys2Proof.Machine.execStalledAccessServed s
  | .rcCounterRead off size => Sys2Proof.Machine.execRcCounterRead off size s
  | .lowerHalfRead off => Sys2Proof.Machine.execLowerHalfRead off s
  | .lowerHalfWrite off v => Sys2Proof.Machine.execLowerHalfWrite off v s
  | .upperHalfWrite off v => Sys2Proof.Machine.execUpperHalfWrite off v s
  | .coldReset => Sys2Proof.Machine.execColdReset s
  | .coldResetRelease fence mode trim => Sys2Proof.Machine.execColdResetRelease fence mode trim s
  | .ridgePllLock => Sys2Proof.Machine.execRidgePllLock s
  | .ridgePllLockLost => Sys2Proof.Machine.execRidgePllLockLost s
  | .rxFrame p x => Sys2Proof.Machine.execRxFrame p x s
  | .rxFrameLastBeat p => Sys2Proof.Machine.execRxFrameLastBeat p s
  | .rxFragment p x => Sys2Proof.Machine.execRxFragment p x s
  | .parserTake c e m => Sys2Proof.Machine.execParserTake c e m s
  | .reorderRelease hi => Sys2Proof.Machine.execReorderRelease hi s
  | .admissionDecision d => Sys2Proof.Machine.execAdmissionDecision d s
  | .txrDoorbell r v => Sys2Proof.Machine.execTxrDoorbell r v s
  | .rxrDoorbell r v => Sys2Proof.Machine.execRxrDoorbell r v s
  | .cqDoorbell q v => Sys2Proof.Machine.execCqDoorbell q v s
  | .txrDisable r => Sys2Proof.Machine.execTxrDisable r s
  | .txrDrainEnd r => Sys2Proof.Machine.execTxrDrainEnd r s
  | .txrEnable r => Sys2Proof.Machine.execTxrEnable r s
  | .rxrReset r => Sys2Proof.Machine.execRxrReset r s
  | .rxrResetDone r => Sys2Proof.Machine.execRxrResetDone r s
  | .rxrEnable r => Sys2Proof.Machine.execRxrEnable r s
  | .rafterRequestIssue p t preferWrite wait => Sys2Proof.Machine.execRafterRequestIssue p t preferWrite wait s
  | .rafterStrayResponse p t v => Sys2Proof.Machine.execRafterStrayResponse p t v s
  | .txEntryReadDone a x => Sys2Proof.Machine.execTxEntryReadDone a x s
  | .descRereadDone a parity => Sys2Proof.Machine.execDescRereadDone a parity s
  | .hostAdmission x => Sys2Proof.Machine.execHostAdmission x s
  | .txFragmentReadDone a bad => Sys2Proof.Machine.execTxFragmentReadDone a bad s
  | .schedSelect c e str => Sys2Proof.Machine.execSchedSelect c e str s
  | .shaperEligible lvl node => Sys2Proof.Machine.execShaperEligible lvl node s
  | .pacingEligible p => Sys2Proof.Machine.execPacingEligible p s
  | .egressFrameStart p x e => Sys2Proof.Machine.execEgressFrameStart p x e s
  | .preemptFragmentEnd p k => Sys2Proof.Machine.execPreemptFragmentEnd p k s
  | .txEntryRetire r => Sys2Proof.Machine.execTxEntryRetire r s
  | .rxBufferReadDone a x => Sys2Proof.Machine.execRxBufferReadDone a x s
  | .rxDeliveryStart r e => Sys2Proof.Machine.execRxDeliveryStart r e s
  | .rxDataWriteDone a => Sys2Proof.Machine.execRxDataWriteDone a s
  | .completionWriteIssue q x => Sys2Proof.Machine.execCompletionWriteIssue q x s
  | .completionWriteDone a => Sys2Proof.Machine.execCompletionWriteDone a s
  | .shadowWrite rx r => Sys2Proof.Machine.execShadowWrite rx r s
  | .laneEnable n => Sys2Proof.Machine.execLaneEnable n s
  | .laneDisable n => Sys2Proof.Machine.execLaneDisable n s
  | .laneRestart n => Sys2Proof.Machine.execLaneRestart n s
  | .quadPllLock q => Sys2Proof.Machine.execQuadPllLock q s
  | .quadPllLockLost q => Sys2Proof.Machine.execQuadPllLockLost q s
  | .cdrLock x => Sys2Proof.Machine.execCdrLock x s
  | .frameLock n => Sys2Proof.Machine.execFrameLock n s
  | .frameLockLost n => Sys2Proof.Machine.execFrameLockLost n s
  | .trainingFrameRx n head pattern => Sys2Proof.Machine.execTrainingFrameRx n head pattern s
  | .trainFrameTxStart n => Sys2Proof.Machine.execTrainFrameTxStart n s
  | .trainSearchMeasure n => Sys2Proof.Machine.execTrainSearchMeasure n s
  | .localReady n => Sys2Proof.Machine.execLocalReady n s
  | .fixedModeReady n => Sys2Proof.Machine.execFixedModeReady n s
  | .trainReqTimeout n => Sys2Proof.Machine.execTrainReqTimeout n s
  | .trainingTimeout n => Sys2Proof.Machine.execTrainingTimeout n s
  | .countdownTimeout n => Sys2Proof.Machine.execCountdownTimeout n s
  | .failRetry n => Sys2Proof.Machine.execFailRetry n s
  | .signalLoss n => Sys2Proof.Machine.execSignalLoss n s
  | .laneTxFixedWrite n v => Sys2Proof.Machine.execLaneTxFixedWrite n v s
  | .laneLoopWrite n v => Sys2Proof.Machine.execLaneLoopWrite n v s
  | .lanePatternWrite n v => Sys2Proof.Machine.execLanePatternWrite n v s
  | .markerLock p => Sys2Proof.Machine.execMarkerLock p s
  | .markerLockLost p => Sys2Proof.Machine.execMarkerLockLost p s
  | .skewMeasured p skews => Sys2Proof.Machine.execSkewMeasured p skews s
  | .pfBlockDone n sig err x errs => Sys2Proof.Machine.execPfBlockDone n sig err x errs s
  | .rxUpdateInterval n est => Sys2Proof.Machine.execRxUpdateInterval n est s
  | .txUpdateInterval n => Sys2Proof.Machine.execTxUpdateInterval n s
  | .stepApply n rx => Sys2Proof.Machine.execStepApply n rx s
  | .lpmDueTimer p => Sys2Proof.Machine.execLpmDueTimer p s
  | .lpmSend p => Sys2Proof.Machine.execLpmSend p s
  | .lpmReceive p x => Sys2Proof.Machine.execLpmReceive p x s
  | .liveSearchTrial n => Sys2Proof.Machine.execLiveSearchTrial n s
  | .liveSearchMeasure n => Sys2Proof.Machine.execLiveSearchMeasure n s
  | .liveReqTimeout n => Sys2Proof.Machine.execLiveReqTimeout n s
  | .calTxSetWrite n v => Sys2Proof.Machine.execCalTxSetWrite n v s
  | .ctleHoldWrite n v => Sys2Proof.Machine.execCtleHoldWrite n v s
  | .portMapWrite c v => Sys2Proof.Machine.execPortMapWrite c v s
  | .portModeWrite p v => Sys2Proof.Machine.execPortModeWrite p v s
  | .fecCodewordDecode p fixed => Sys2Proof.Machine.execFecCodewordDecode p fixed s
  | .fecWindowEnd p => Sys2Proof.Machine.execFecWindowEnd p s
  | .faultOrderedSetRx p kind => Sys2Proof.Machine.execFaultOrderedSetRx p kind s
  | .fcFrameRx p x => Sys2Proof.Machine.execFcFrameRx p x s
  | .pauseTimerExpiry p k => Sys2Proof.Machine.execPauseTimerExpiry p k s
  | .fcFrameSend p => Sys2Proof.Machine.execFcFrameSend p s
  | .fcResendTimer p k => Sys2Proof.Machine.execFcResendTimer p k s
  | .preemptVerifyTimer p => Sys2Proof.Machine.execPreemptVerifyTimer p s
  | .verifyPacketRx p => Sys2Proof.Machine.execVerifyPacketRx p s
  | .respondPacketRx p => Sys2Proof.Machine.execRespondPacketRx p s
  | .timeSetNow => Sys2Proof.Machine.execTimeSetNow s
  | .timeSetAtPps => Sys2Proof.Machine.execTimeSetAtPps s
  | .timeStepNow => Sys2Proof.Machine.execTimeStepNow s
  | .timeLoadApply => Sys2Proof.Machine.execTimeLoadApply s
  | .timeLoadCancel => Sys2Proof.Machine.execTimeLoadCancel s
  | .timeSlewStart => Sys2Proof.Machine.execTimeSlewStart s
  | .timeSlewDone => Sys2Proof.Machine.execTimeSlewDone s
  | .timeSlewCancel => Sys2Proof.Machine.execTimeSlewCancel s
  | .timeAddendWrite v => Sys2Proof.Machine.execTimeAddendWrite v s
  | .timeNowRead => Sys2Proof.Machine.execTimeNowRead s
  | .ppsInEdge rising => Sys2Proof.Machine.execPpsInEdge rising s
  | .ppsInMissTimer => Sys2Proof.Machine.execPpsInMissTimer s
  | .ppsOutEdge => Sys2Proof.Machine.execPpsOutEdge s
  | .ppsOutFall => Sys2Proof.Machine.execPpsOutFall s
  | .rclkUnsquelch k => Sys2Proof.Machine.execRclkUnsquelch k s
  | .tableCfgWrite t v => Sys2Proof.Machine.execTableCfgWrite t v s
  | .tableSearch => Sys2Proof.Machine.execTableSearch s
  | .tableInsert => Sys2Proof.Machine.execTableInsert s
  | .tableDelete => Sys2Proof.Machine.execTableDelete s
  | .tableUpdate => Sys2Proof.Machine.execTableUpdate s
  | .tableRead => Sys2Proof.Machine.execTableRead s
  | .tableGenOpen => Sys2Proof.Machine.execTableGenOpen s
  | .tableGenCommit => Sys2Proof.Machine.execTableGenCommit s
  | .tableGenAbort => Sys2Proof.Machine.execTableGenAbort s
  | .commitEdge => Sys2Proof.Machine.execCommitEdge s
  | .drainEnd => Sys2Proof.Machine.execDrainEnd s
  | .drainSlowTimer => Sys2Proof.Machine.execDrainSlowTimer s
  | .settleSweepEnd => Sys2Proof.Machine.execSettleSweepEnd s
  | .abortSweepEnd => Sys2Proof.Machine.execAbortSweepEnd s
  | .schedWinRead => Sys2Proof.Machine.execSchedWinRead s
  | .schedWinWrite => Sys2Proof.Machine.execSchedWinWrite s
  | .meterWinRead => Sys2Proof.Machine.execMeterWinRead s
  | .meterWinReadClear => Sys2Proof.Machine.execMeterWinReadClear s
  | .meterWinWrite => Sys2Proof.Machine.execMeterWinWrite s
  | .meterWinWriteFill => Sys2Proof.Machine.execMeterWinWriteFill s
  | .qwEnable v => Sys2Proof.Machine.execQwEnable v s
  | .qwRound => Sys2Proof.Machine.execQwRound s
  | .qwRoundDone a => Sys2Proof.Machine.execQwRoundDone a s
  | .adminEnable v => Sys2Proof.Machine.execAdminEnable v s
  | .adminDisable v => Sys2Proof.Machine.execAdminDisable v s
  | .adminDoorbell v => Sys2Proof.Machine.execAdminDoorbell v s
  | .adminAcqConsWrite v => Sys2Proof.Machine.execAdminAcqConsWrite v s
  | .adminCommandReadDone a => Sys2Proof.Machine.execAdminCommandReadDone a s
  | .fenceRelease => Sys2Proof.Machine.execFenceRelease s
  | .adminCompletionWrite => Sys2Proof.Machine.execAdminCompletionWrite s
  | .adminCompletionDone a => Sys2Proof.Machine.execAdminCompletionDone a s
  | .nop => Sys2Proof.Machine.execNop s
  | .txrCreate => Sys2Proof.Machine.execTxrCreate s
  | .txrDestroy => Sys2Proof.Machine.execTxrDestroy s
  | .rxrCreate => Sys2Proof.Machine.execRxrCreate s
  | .rxrDestroy => Sys2Proof.Machine.execRxrDestroy s
  | .cqCreate => Sys2Proof.Machine.execCqCreate s
  | .cqDestroy => Sys2Proof.Machine.execCqDestroy s
  | .tableEdit => Sys2Proof.Machine.execTableEdit s
  | .tableGen => Sys2Proof.Machine.execTableGen s
  | .tableBulkLoad => Sys2Proof.Machine.execTableBulkLoad s
  | .tableRehash => Sys2Proof.Machine.execTableRehash s
  | .schedNodeCreate => Sys2Proof.Machine.execSchedNodeCreate s
  | .schedNodeDestroy => Sys2Proof.Machine.execSchedNodeDestroy s
  | .schedNodeWrite => Sys2Proof.Machine.execSchedNodeWrite s
  | .meterWrite => Sys2Proof.Machine.execMeterWrite s
  | .regWrite => Sys2Proof.Machine.execRegWrite s
  | .powerState => Sys2Proof.Machine.execPowerState s
  | .laneRetrain => Sys2Proof.Machine.execLaneRetrain s
  | .statsSnapshot => Sys2Proof.Machine.execStatsSnapshot s
  | .statsDump => Sys2Proof.Machine.execStatsDump s
  | .eyeScan => Sys2Proof.Machine.execEyeScan s
  | .loftScrub => Sys2Proof.Machine.execLoftScrub s
  | .opSuspend => Sys2Proof.Machine.execOpSuspend s
  | .opResume => Sys2Proof.Machine.execOpResume s
  | .opCancel => Sys2Proof.Machine.execOpCancel s
  | .lopUnitEnd k count e fid => Sys2Proof.Machine.execLopUnitEnd k count e fid s
  | .lopSuspendReg k => Sys2Proof.Machine.execLopSuspendReg k s
  | .lopResumeReg k => Sys2Proof.Machine.execLopResumeReg k s
  | .lopCancelReg k => Sys2Proof.Machine.execLopCancelReg k s
  | .lopRelease k => Sys2Proof.Machine.execLopRelease k s
  | .dmaChanStart k => Sys2Proof.Machine.execDmaChanStart k s
  | .dmaChanStop k => Sys2Proof.Machine.execDmaChanStop k s
  | .dmaChanAppend k => Sys2Proof.Machine.execDmaChanAppend k s
  | .dmaDescReadDone a => Sys2Proof.Machine.execDmaDescReadDone a s
  | .dmaDataReadDone a => Sys2Proof.Machine.execDmaDataReadDone a s
  | .dmaDataWriteDone a => Sys2Proof.Machine.execDmaDataWriteDone a s
  | .dmaDescComplete k => Sys2Proof.Machine.execDmaDescComplete k s
  | .dmaWritebackDone a => Sys2Proof.Machine.execDmaWritebackDone a s
  | .dmaChanStopped k => Sys2Proof.Machine.execDmaChanStopped k s
  | .sealEnWrite en => Sys2Proof.Machine.execSealEnWrite en s
  | .sealEnApply => Sys2Proof.Machine.execSealEnApply s
  | .sealTxResponse ch x => Sys2Proof.Machine.execSealTxResponse ch x s
  | .sealTxRelease ch => Sys2Proof.Machine.execSealTxRelease ch s
  | .sealRxResponse ch x => Sys2Proof.Machine.execSealRxResponse ch x s
  | .sealRxTimeout ch => Sys2Proof.Machine.execSealRxTimeout ch s
  | .sealAlarm p slot par => Sys2Proof.Machine.execSealAlarm p slot par s
  | .sealHoldSweepEnd => Sys2Proof.Machine.execSealHoldSweepEnd s
  | .sealBindRead => Sys2Proof.Machine.execSealBindRead s
  | .sealBindWrite => Sys2Proof.Machine.execSealBindWrite s
  | .intcSourceChange q => Sys2Proof.Machine.execIntcSourceChange q s
  | .intcSrcWrite q v => Sys2Proof.Machine.execIntcSrcWrite q v s
  | .intcVecWrite v w => Sys2Proof.Machine.execIntcVecWrite v w s
  | .intcModTimerExpiry v => Sys2Proof.Machine.execIntcModTimerExpiry v s
  | .intcClaim n => Sys2Proof.Machine.execIntcClaim n s
  | .intcEoi n v => Sys2Proof.Machine.execIntcEoi n v s
  | .intcFclaim n => Sys2Proof.Machine.execIntcFclaim n s
  | .intcFeoi n v => Sys2Proof.Machine.execIntcFeoi n v s
  | .intcMessageSend t => Sys2Proof.Machine.execIntcMessageSend t s
  | .hostSleepChange n sleeps => Sys2Proof.Machine.execHostSleepChange n sleeps s
  | .domainDozeEntry d => Sys2Proof.Machine.execDomainDozeEntry d s
  | .domainReady d items => Sys2Proof.Machine.execDomainReady d items s
  | .sleepPadsHeld => Sys2Proof.Machine.execSleepPadsHeld s
  | .sleepPowerDown => Sys2Proof.Machine.execSleepPowerDown s
  | .sleepWake => Sys2Proof.Machine.execSleepWake s
  | .wakeTimerExpiry => Sys2Proof.Machine.execWakeTimerExpiry s
  | .watchMagicFrame p b good => Sys2Proof.Machine.execWatchMagicFrame p b good s
  | .watchPatternMatch p b good => Sys2Proof.Machine.execWatchPatternMatch p b good s
  | .watchSignalDetect p => Sys2Proof.Machine.execWatchSignalDetect p s
  | .voltAck => Sys2Proof.Machine.execVoltAck s
  | .vregTimeout => Sys2Proof.Machine.execVregTimeout s
  | .cclkDivisorChange => Sys2Proof.Machine.execCclkDivisorChange s
  | .thermSample sites => Sys2Proof.Machine.execThermSample sites s
  | .surgeTimeLimit => Sys2Proof.Machine.execSurgeTimeLimit s
  | .surgeBucketEnd => Sys2Proof.Machine.execSurgeBucketEnd s
  | .thermUnlock => Sys2Proof.Machine.execThermUnlock s
  | .powerFenceWrite v => Sys2Proof.Machine.execPowerFenceWrite v s
  | .padRelease mask => Sys2Proof.Machine.execPadRelease mask s
  | .liggerPing addr check => Sys2Proof.Machine.execLiggerPing addr check s
  | .liggerStatus addr check => Sys2Proof.Machine.execLiggerStatus addr check s
  | .liggerHostWake addr check => Sys2Proof.Machine.execLiggerHostWake addr check s
  | .liggerRead addr => Sys2Proof.Machine.execLiggerRead addr s
  | .xspiResetRelease => Sys2Proof.Machine.execXspiResetRelease s
  | .bootInitDone => Sys2Proof.Machine.execBootInitDone s
  | .bootSelectDone hA mA hB mB => Sys2Proof.Machine.execBootSelectDone hA mA hB mB s
  | .bootItemApply x => Sys2Proof.Machine.execBootItemApply x s
  | .bootDelayExpiry => Sys2Proof.Machine.execBootDelayExpiry s
  | .bootLoadEnd => Sys2Proof.Machine.execBootLoadEnd s
  | .bootClearDone => Sys2Proof.Machine.execBootClearDone s
  | .bootRelease => Sys2Proof.Machine.execBootRelease s
  | .bootHostStart => Sys2Proof.Machine.execBootHostStart s
  | .rethatchRequest => Sys2Proof.Machine.execRethatchRequest s
  | .quiesceDone => Sys2Proof.Machine.execQuiesceDone s
  | .xspiWindowTransaction v => Sys2Proof.Machine.execXspiWindowTransaction v s
  | .xspiWindowDone b => Sys2Proof.Machine.execXspiWindowDone b s
  | .statsWinRead => Sys2Proof.Machine.execStatsWinRead s
  | .statsWinPeek => Sys2Proof.Machine.execStatsWinPeek s
  | .egressFrameEnd p x => Sys2Proof.Machine.execEgressFrameEnd p x s
  | .shadowWriteDone a => Sys2Proof.Machine.execShadowWriteDone a s
  | .intcMessageWriteDone a => Sys2Proof.Machine.execIntcMessageWriteDone a s
  | .operandMemoryAccessDone a => Sys2Proof.Machine.execOperandMemoryAccessDone a s
  | .cdrLockLoss x => Sys2Proof.Machine.execCdrLockLoss x s
  | .dozeWindowExpiry => Sys2Proof.Machine.execDozeWindowExpiry s
  | .memorySelfTestStart => Sys2Proof.Machine.execMemorySelfTestStart s
  | .memorySelfTestDone bad => Sys2Proof.Machine.execMemorySelfTestDone bad s

end Sys2Proof.Machine
end

