-- ==== Sys2Proof/Safety.lean ====
section
/-! DEFINITION. What claims say of a run: that a command answers a next state, what its own effect leaves alone, when the
control port serves an access at once, and what every port reports after every command. -/

namespace Sys2Proof.Machine

/-- The command c, run in s, answers a next state t with P t. -/
def Answers (c : Instr) (s : State) (P : State → Prop) : Prop :=
  ∃ t, exec c s = .next t ∧ P t

/-- The command c, run in s, answers a next state: its own effect u, with P u, and what follows from u at once
(`State.after`). -/
def Effect (c : Instr) (s : State) (P : State → Prop) : Prop :=
  ∃ u, exec c s = .next (s.after u) ∧ P u

/-- How many instances a register has. -/
def RegId.count (id : RegId) : Nat := id.desc.dims.foldl (fun a d => a * d.2) 1

/-- Every register instance but those of `w` reads in u as in s. -/
def RegsKept (w : RegId → Nat → Bool) (s u : State) : Prop :=
  ∀ id i, w id i = false → u.rget id i = s.rget id i

/-- The unit (a lane, port, course, ring, ...) that instance `i` of a register belongs to: its outermost index. -/
def RegId.unit (id : RegId) (i : Nat) : Nat := i / (id.desc.dims.drop 1).foldl (fun a d => a * d.2) 1

/-- The registers of `own` in unit n, and every instance of those of `any`. -/
def within (n : Nat) (own any : List RegId) (id : RegId) (i : Nat) : Bool :=
  (own.contains id && id.unit i == n) || any.contains id

/-- What entering fail-stop writes (R763, R768): the fault record, and the counts of the frames it cuts short. -/
def failRegs : List RegId :=
  [.GEN_FAULT_STAT, .GEN_FAULT_INFO, .GEN_FAULT_ADDR, .GEN_FAULT_COPY, .GEN_FAULT_TIME, .GEN_INTEG_EVT, .STATS_PORT,
    .STATS_HALF]

/-- What a wake source that fires writes, the pads of an abandoned SLEEP entry among them (R703, R705, R706). -/
def wakeRegs : List RegId := [.POWER_EVT, .POWER_PAD, .POWER_STAT, .POWER_WAKE_CAUSE]

/-- What a failed request of the rafter ports writes (R592). -/
def rafterRegs : List RegId := [.RAFTER_EVT, .RAFTER_ERR, .RAFTER_ERR_ADDR, .RAFTER_ERR_INFO]

/-- Every instance of the registers of `l`. -/
def only (l : List RegId) (id : RegId) (_ : Nat) : Bool := l.contains id

/-- What a receiver's settings show (R141, R149, R152). -/
def rxRegs : List RegId :=
  [.LANE_GD, .LANE_GD_CTLE, .LANE_RX_EQ, .LANE_RX_FFE0, .LANE_RX_FFE1, .LANE_RX_FFE2, .LANE_RX_FFE3, .LANE_RX_RC]

/-- What lane bring-up writes beside those (R84 to R119). -/
def trainRegs : List RegId :=
  [.LANE_CAL_STAT, .LANE_CTRL, .LANE_EVENT, .LANE_LOOP, .LANE_STAT, .LANE_TX_TAPS]

/-- What a long operation reports in (R553 to R555). -/
def lopRegs : List RegId :=
  [.ADMIN_LOP_PROG, .ADMIN_LOP_RES, .ADMIN_LOP_RES0, .ADMIN_LOP_RES1, .ADMIN_LOP_STAT]

/-- What the tables and their window report in (R370 to R382). -/
def tableRegs : List RegId :=
  [.TABLE_EM_ERR, .TABLE_EM_OCC, .TABLE_GEN_EVT, .TABLE_GEN_STAT, .TABLE_WIN_ADDR, .TABLE_WIN_CMD, .TABLE_WIN_DATA,
    .TABLE_WIN_STAT]

/-- The pages of the rings (R491, R516). -/
def ringRegs : List RegId :=
  [.RXR_CONS, .RXR_CTRL, .RXR_PROD, .RXR_STAT, .TXR_CONS, .TXR_CTRL, .TXR_FETCH, .TXR_PROD, .TXR_STAT]

/-- The accounts of the loft (R410, R417, R428). -/
def loftRegs : List RegId :=
  [.LOFT_USE, .PORT_ADM_USE, .PORT_FC_TX_STAT]

/-- Counters that a statistics record clears (R488). -/
def statRegs : List RegId :=
  [.LANE_CAL_CNT, .LANE_PATTERN_ERR, .LANE_PF, .LANE_TRAIN_CNT, .TABLE_EM_CNT, .TABLE_EM_ERR]

/-- The registers that may change by what follows from a command (`State.after`): reports of the links and of the MAC
(R121, R126, R202, R204, R242), of FEC and spraying, the accounts and counters of a frame cut with its link (R126, R410),
squelch (R274), the admin engine's own (R185, R544, R550), and the Watch domain's state (R711). -/
def afterRegs : List RegId :=
  [.PORT_LINK_STAT, .PORT_LINK_EVT, .PORT_MAC_STAT, .PORT_PREEMPT_STAT, .PORT_FEC_STAT, .PORT_FEC_EVT, .LANE_SKEW,
    .COURSE_SPRAY_STAT, .PORT_ADM_USE, .PORT_FC_TX_STAT, .LOFT_USE, .STATS_PORT, .STATS_HALF, .TIME_STAT, .TIME_EVT,
    .ADMIN_STAT, .ADMIN_EVT, .ADMIN_LOP_STAT, .ADMIN_LOP_RES, .ADMIN_LOP_RES0, .ADMIN_LOP_RES1, .TABLE_GEN_STAT,
    .TABLE_EM_OCC, .POWER_DOM_STAT, .POWER_READY]

/-- The part of a state that what follows from a command never changes, with the rest blanked out. -/
def State.unfollowed (s : State) : State :=
  { s with
    pending := [], regs := [], rafterQ := [], txrs := [], adminFifo := [], adminStalled := false, adminCur := none
    adminDue := [], lops := [],
    frames := [], bankUse := [], freed := 0, leaves := [], macs := [], lanes := [],
    time := { s.time with rclkClear := [] }, power := { s.power with waking := [] } }

/-- R60, R61, R691, R739: the control port serves an access of a register at once, and takes a write of it. -/
def State.serves (s : State) (id : RegId) (i : Nat) : Bool :=
  !s.bootU.asserted && s.ctStall.isNone && (s.boot == bRUNNING || s.boot == bSAFE) &&
    match regionDom (addrOf id i) with
    | some d => s.dom d != 3 && s.ready d
    | none => false

/-- The request that a response of the host answers (R585). -/
def State.asked (s : State) (a : Resp) : Option RafterReq :=
  (s.outst.find? (fun o => o.port == a.port.val && o.tag == a.tag.val)).map (·.req)

/-- R583, R591: outside the cold reset and fail-stop, a response without error answers the request made for p, and for a
read carries all its bytes. -/
def State.goodResp (s : State) (a : Resp) (p : Purpose) : Bool :=
  !s.bootU.asserted && !s.failed && a.code == 0 && !a.parity &&
    (s.asked a).any (fun q => q.purpose == p && (q.write || a.data.length == q.len))

/-- R591, R598: outside the cold reset and fail-stop, an error response to the request made for p. -/
def State.badResp (s : State) (a : Resp) (p : Purpose) : Bool :=
  !s.bootU.asserted && !s.failed && a.code != 0 &&
    (s.asked a).any (fun q => q.purpose == p && (q.write || a.data.length == q.len))

/-- R585: the requests that stay outstanding when a response has completed its tag. -/
def State.completed (s : State) (a : Resp) : List Outstanding :=
  s.outst.filter (fun o => !(o.port == a.port.val && o.tag == a.tag.val))

/-- R550: the admin engine may start command c, which is at the front of the queue. -/
def State.takes (s : State) (c : List Byte) : Bool := !s.bootU.asserted && s.frontCmd == some c

/-- R546, R551: the command c at the front has left the queue, and its completion has fallen due. -/
def State.posted (s u : State) (c : List Byte) (status detail res0 res1 : Nat) : Prop :=
  u.adminFifo = s.adminFifo.tail ∧ u.adminDue = s.adminDue ++ [complOf c status detail res0 res1]

/-- R551, R553: the long operation of command c has left the queue into slot k, and its ACCEPTED completion has fallen
due. -/
def State.started (s u : State) (k : Nat) (c : List Byte) : Prop :=
  u.adminFifo = s.adminFifo.tail ∧
    u.adminDue.take (s.adminDue.length + 1) = s.adminDue ++ [{ complOf c aOK k 0 0 with accepted := true }] ∧
    (u.lops.find? k).map (·.bytes) = some c ∧ u.fget .ADMIN_LOP_STAT k fADMIN_LOP_STAT_OPCODE = cb c 0 1 ∧
    u.fget .ADMIN_LOP_STAT k fADMIN_LOP_STAT_TAG = cb c 2 2

/-- R562: the admin commands by opcode. -/
def adminSet : List (Instr × Nat) :=
  [(.nop, 0x00), (.txrCreate, 0x01), (.txrDestroy, 0x02), (.rxrCreate, 0x03), (.rxrDestroy, 0x04), (.cqCreate, 0x05),
    (.cqDestroy, 0x06), (.tableEdit, 0x10), (.tableGen, 0x11), (.tableBulkLoad, 0x12), (.tableRehash, 0x13),
    (.schedNodeCreate, 0x20), (.schedNodeDestroy, 0x21), (.schedNodeWrite, 0x22), (.meterWrite, 0x23),
    (.regWrite, 0x30), (.powerState, 0x40), (.laneRetrain, 0x41), (.statsSnapshot, 0x50), (.statsDump, 0x51),
    (.eyeScan, 0x60), (.loftScrub, 0x61), (.opSuspend, 0x70), (.opResume, 0x71), (.opCancel, 0x72)]

/-- R203, R219, R220, R221: a frame that port p receives without fault: the port is UP with no lane in near-end loopback,
received frames are not being discarded, the start byte and the FCS are good, nothing marks the frame as errored, and its
length is in bounds. -/
def State.cleanRx (s : State) (p : Nat) (x : RxFrame) : Bool :=
  s.portUp p && !s.rxHalted && !s.portNear p && x.start == 0xD5 && decide (64 ≤ x.bytes.length) &&
    decide (x.bytes.length ≤ s.maxFrame p) && fcsGood x.bytes && !x.err && !(x.fec && s.fecMarks p)

/-- What port p reports agrees with its lanes, its faults and its configuration: R121 and R123 (a port that is UP is in
use, every lane of it is enabled and in DATA, and it has marker lock), R204 (HELD), R202 and R203 (the ordered sets
sent). -/
def State.reports (s : State) (p : Nat) : Prop :=
  (s.portUp p = true → s.portUsed p = true ∧ s.allData p = true ∧ s.markerLock p = true) ∧
  s.fbit .PORT_MAC_STAT p fPORT_MAC_STAT_HELD = s.heldRule p ∧
  s.fbit .PORT_MAC_STAT p fPORT_MAC_STAT_TX_LF = (s.failed && s.allData p) ∧
  s.fbit .PORT_MAC_STAT p fPORT_MAC_STAT_TX_RF =
    (!s.failed && s.allData p && s.fbit .PORT_MAC_STAT p fPORT_MAC_STAT_RX_LF)

/-- Every port reports its condition. -/
def State.PortsReport (s : State) : Prop := ∀ p, p < 16 → s.reports p

end Sys2Proof.Machine
end

