-- ==== Sys2Proof/Certificates/Slice0/Obligations.lean ====
section
/-! DEFINITION. The statements for the provers, each from the numbered rules its docstring names. `Answers c s P`: the
command c, run in s, answers a next state t with P t. `Effect c s P`: it answers a next state made of its own effect u, with
P u, and what follows from u at once. -/

open Sys2Proof Sys2Proof.Machine

/-- A step takes the command at the front of the queue and runs it on the state with the queue's rest; the next state's
queue is that rest. -/
def Obligations.StepRunsFrontCommand : Prop :=
  ∀ (c : Instr) (rest : List Instr) (s : State), s.pending = c :: rest →
    step s = exec c { s with pending := rest } ∧
    ∀ t, exec c { s with pending := rest } = .next t → t.pending = rest

/-- Every command completes in every state: it answers a next state, never a fault or a refusal, and leaves the queue. -/
def Obligations.EveryCommandCompletes : Prop :=
  ∀ (c : Instr) (s : State), Answers c s fun t => t.pending = s.pending

/-- R25: after a cold reset every field of every register reads the value of its Reset column, and so it does in the state
after reset. INTC_SRC_s.VECTOR, whose column depends on s, reads s below 4,096. -/
def Obligations.ResetLeavesResetValues : Prop :=
  (∀ (s : State) (id : RegId) (i : Nat), i < id.count → id ≠ .INTC_SRC → ∀ f ∈ id.desc.fields,
    Answers .coldReset s (fun t => t.fget id i ⟨f.lo, f.w⟩ = f.reset) ∧ State.reset.fget id i ⟨f.lo, f.w⟩ = f.reset) ∧
  ∀ (s : State) (i : Nat), i < RegId.count .INTC_SRC →
    Answers .coldReset s fun t =>
      t.fget .INTC_SRC i fINTC_SRC_VECTOR = (if i < 4096 then i else 0) ∧ t.fget .INTC_SRC i fINTC_SRC_EN = 0

/-- R736: after reset the boot engine is in INIT, no command waits, and every port reports its condition. Log entry 1, the
model's choice: on an empty queue a step lets one ridge clock cycle pass, which changes nothing but the time it counts
and the slew still to come. -/
def Obligations.ResetAndIdle : Prop :=
  State.reset.boot = bINIT ∧ State.reset.pending = [] ∧ State.reset.PortsReport ∧
  ∀ s : State, s.pending = [] →
    ∃ t, step s = .next t ∧ t.now = s.now + 1 ∧ RegsKept (fun id _ => id == .TIME_SLEW_REM) s t ∧
      { t with regs := s.regs, now := s.now, time := s.time } = s

/-- R799: while the cold reset is asserted, no command changes anything but the cold reset itself, its release and the
memory self-test. -/
def Obligations.NothingRunsInColdReset : Prop :=
  ∀ (c : Instr) (s : State), s.bootU.asserted = true → c ≠ .coldReset → c ≠ .memorySelfTestStart →
    (∀ b, c ≠ .memorySelfTestDone b) → (∀ f m v, c ≠ .coldResetRelease f m v) → exec c s = .next s

/-- R121, R123, R202 to R204: every step keeps what each port reports in agreement with its lanes, its faults and its
configuration. -/
def Obligations.PortsAlwaysReport : Prop :=
  ∀ s t : State, s.PortsReport → step s = .next t → t.PortsReport

/-- R57, R58: every instance of every register lies at an offset of its own inside the control space, aligned to its
width, and is found there. R12, R57: a write of a whole register at its offset is the write of that register. -/
def Obligations.RegisterMapAndWrites : Prop :=
  (∀ (id : RegId) (i : Nat), i < id.count →
     regAt (addrOf id i) = some (id, i) ∧ addrOf id i + id.desc.width / 8 ≤ 2 ^ 24 ∧
       addrOf id i % (id.desc.width / 8) = 0) ∧
  (∀ (id : RegId) (i : Nat) (v : Word) (s : State), i < id.count → s.serves id i = true →
     Answers (.registerWrite { write := true, size := id.desc.width / 8, offset := addrOf id i, data := v }) s fun t =>
       t = s.after (s.ctWrite id i v))

/-- R18: "A write of 1 clears the bit": a served write of an event register clears the bits it carries, and leaves every
other register. -/
def Obligations.EventBitsClearByOne : Prop :=
  ∀ (id : RegId) (i : Nat) (v : Word) (s : State), i < id.count → s.serves id i = true →
    id ∈ [.LANE_EVENT, .LANE_CAL_EVENT, .PORT_MAC_EVT, .COURSE_PARSE_EVT, .TABLE_GEN_EVT, .SCHED_EVT, .LOFT_EVT,
      .SEAL_EVT, .DMA_CHAN_EVT, .GEN_INTEG_EVT, .POWER_EVT, .POWER_THERM_EVT, .POWER_LIG_EVT, .BOOT_EVT] →
    Answers (.registerWrite { write := true, size := id.desc.width / 8, offset := addrOf id i, data := v }) s fun t =>
      t.rget id i = s.rget id i &&& ~~~(v &&& typeMask .w1c id.desc.fields) ∧
      t.ctResp = some { err := false, data := 0 } ∧
      RegsKept (fun a j => afterRegs.contains a || (a == id && j == i)) s t

/-- R18, R20: a read of a register that counts returns its value and clears it. R20, R338, R344: a read of a spray
register returns its value while the pair sprays its port, HOLD_CYC with the cycles of a stall that have passed, and
otherwise zero; it clears what it counts. R22 to R24: a read of a lower half latches the upper half, which a read of
the upper half returns; a write of a lower half is staged, and a write of the upper half writes both. -/
def Obligations.CountersClearAndHalvesLatch : Prop :=
  (∀ (id : RegId) (i : Nat) (s : State), i < id.count → s.serves id i = true →
     typeMask .rc id.desc.fields ≠ 0 → id ≠ .INTC_CLAIM → id ≠ .INTC_FCLAIM → id ≠ .COURSE_SPRAY_STAT →
     id ≠ .COURSE_SPRAY_CNT →
     Answers (.rcCounterRead (addrOf id i) (id.desc.width / 8)) s fun t =>
       t.ctResp = some { err := false, data := s.rget id i } ∧
       t.rget id i = s.rget id i &&& ~~~(typeMask .rc id.desc.fields) ∧
       RegsKept (fun a j => afterRegs.contains a || (a == id && j == i)) s t) ∧
  (∀ (id : RegId) (c : Fin 4) (s : State), s.serves id c = true → id = .COURSE_SPRAY_STAT ∨ id = .COURSE_SPRAY_CNT →
     Answers (.rcCounterRead (addrOf id c) (id.desc.width / 8)) s fun t =>
       t.ctResp = some { err := false, data :=
         if c.val % 2 = 0 ∧ s.sprayed (4 * c) = true then
           (if id = .COURSE_SPRAY_CNT then (s.holdCycles c).rget id c else s.rget id c)
         else 0 } ∧
       t.rget id c &&& typeMask .rc id.desc.fields = 0) ∧
  (∀ (id : RegId) (i : Nat) (v w : BitVec 32) (s : State), i < id.count → s.serves id i = true → id.desc.width = 64 →
     Answers (.lowerHalfRead (addrOf id i)) s (fun t =>
       t.ctResp = some { err := false, data := low32 (s.readReg id i).1 } ∧
       t.readLatch id i = (s.readReg id i).1 >>> 32) ∧
     Answers (.lowerHalfRead (addrOf id i + 4)) s (fun t =>
       t.ctResp = some { err := false, data := s.readLatch id i } ∧ t.staged = s.staged ∧
       RegsKept (fun a _ => afterRegs.contains a) s t) ∧
     Answers (.lowerHalfWrite (addrOf id i) v) s (fun t =>
       t.stagedLow id i = some (v.setWidth 64) ∧ t.ctResp = some { err := false, data := 0 } ∧
       RegsKept (fun a _ => afterRegs.contains a) s t) ∧
     (s.stagedLow id i = some (v.setWidth 64) →
       Effect (.upperHalfWrite (addrOf id i + 4) w) s fun u =>
         u.stagedLow id i = none ∧ u.ctResp = some { err := false, data := 0 } ∧
         RegsKept (fun a _ => a == .GEN_ACC_ERR) (s.ctWrite id i (w ++ v)) u))

/-- R13, R14, R16, R58, R60, R61, R686, R691, R739, R817: an access of a wrong shape, or of a fenced domain, gets an error
response, and a reserved offset reads 0, each with its bit of GEN_ACC_ERR; a write outside RUNNING and SAFE that R739
discards sets WR_REFUSED; an access of a resting domain stalls, wakes the domain and is served once it is ready. -/
def Obligations.AccessesStallOrFail : Prop :=
  ∀ (a : Access) (d : Fin 15) (s : State), s.bootU.asserted = false → a.parityOk = true →
    (s.ctStall = none → a.offset < 2 ^ 24 →
      (((a.size ≠ 4 ∧ a.size ≠ 8) ∨ a.offset % a.size ≠ 0) →
        Answers (.registerWrite a) s fun t =>
          t.ctResp = some { err := true, data := 0 } ∧ t.fbit .GEN_ACC_ERR 0 fGEN_ACC_ERR_SHAPE = true ∧
          RegsKept (fun id _ => afterRegs.contains id || id == .GEN_ACC_ERR) s t) ∧
      (a.size = 4 → a.offset % 4 = 0 → regionDom a.offset = some d → s.dom d = 3 →
        Answers (.registerWrite a) s fun t =>
          t.ctResp = some { err := true, data := 0 } ∧ t.fbit .GEN_ACC_ERR 0 fGEN_ACC_ERR_FENCED = true ∧
          RegsKept (fun id _ => [.GEN_ACC_ERR, .BOOT_EVT, .BOOT_XSPI_CMD].contains id || afterRegs.contains id) s t) ∧
      (a.size = 4 → a.offset % 4 = 0 → regionDom a.offset = some d → s.dom d ≠ 3 → s.stalls a.offset = false →
        s.writeHeld a.offset = true →
        Answers (.registerWrite a) s fun t =>
          t.ctResp = some { err := false, data := 0 } ∧ t.fbit .BOOT_EVT 0 fBOOT_EVT_WR_REFUSED = true ∧
          RegsKept (fun id _ => [.GEN_ACC_ERR, .BOOT_EVT, .BOOT_XSPI_CMD].contains id || afterRegs.contains id) s t) ∧
      (a.size = 4 → a.offset % 4 = 0 → regionDom a.offset = none →
        Answers (.rcCounterRead a.offset 4) s fun t =>
          t.ctResp = some { err := false, data := 0 } ∧ t.fbit .GEN_ACC_ERR 0 fGEN_ACC_ERR_RSVD_OFF = true ∧
          RegsKept (fun id _ => afterRegs.contains id || id == .GEN_ACC_ERR) s t) ∧
      (a.size = 4 → a.offset % 4 = 0 → regionDom a.offset = some d → s.dom d = 1 → s.ready d = false →
        s.power.dozed.contains (d.val, s.mclk) = false →
        Answers (.registerWrite a) s fun t =>
          t.ctStall = some { a with write := true } ∧ t.power.waking.contains d.val = true ∧ t.ctResp = s.ctResp ∧
          RegsKept (fun id _ => afterRegs.contains id) s t)) ∧
    (s.ctStall.isSome = true → s.ctQueue.length < 4 →
      Answers (.registerWrite a) s fun t =>
        t.ctQueue = s.ctQueue ++ [{ a with write := true }] ∧ t.ctStall = s.ctStall ∧ t.ctResp = s.ctResp) ∧
    (s.ctStall = some a → s.ctQueue = [] → s.stalls a.offset = false →
      Effect .stalledAccessServed s fun u =>
        u.ctStall = none ∧ u.ctResp.isSome = true ∧ u = ({ s with ctStall := none } : State).ctAccess a)

/-- R79, R84 to R86: writes of LANE_CTRL that the control port serves take a lane through EN and RESTART. R119, R120,
R128, R130, R137: what served writes of LANE_TX_FIXED, LANE_LOOP and LANE_PATTERN store, and where they are refused. -/
def Obligations.LaneControlAndSettings : Prop :=
  (∀ (n : Fin 16) (s : State), s.serves .LANE_CTRL n = true → s.laneRate n ≤ 4 →
     (s.laneEn n = false → s.boot = bRUNNING → s.laneState n = lOFF →
       (s.laneOwner n).any (fun p => s.portLaneRate p == some (s.laneRate n)) = true →
       s.fbit .LANE_QUAD_STAT (n / 4) fLANE_QUAD_STAT_PLL_LOCK = false →
       Answers (.laneEnable n) s fun t => t.laneEn n = true ∧ t.laneState n = lPLL) ∧
     (s.laneState n ≠ lOFF →
       Answers (.laneDisable n) s fun t => t.laneEn n = false ∧ t.laneState n = lOFF ∧ t.cdrLock n = false) ∧
     (s.laneEn n = true → lBLIND ≤ s.laneState n →
       Answers (.laneRestart n) s fun t =>
         t.laneState n = lBLIND ∧ t.fbit .LANE_CTRL n fLANE_CTRL_RESTART = false ∧ t.laneEn n = true)) ∧
  (∀ (n : Fin 16) (v : Word) (s : State),
     (s.serves .LANE_TX_FIXED n = true →
       Answers (.laneTxFixedWrite n v) s fun t =>
         if (tapsOf v).ok then
           t.rget .LANE_TX_FIXED n = (tapsOf v).word ∧
           (s.fixedMode n = true → s.laneState n = lBLIND → t.rget .LANE_TX_TAPS n = (tapsOf v).word)
         else t.rget .LANE_TX_FIXED n = s.rget .LANE_TX_FIXED n ∧ t.fbit .GEN_ACC_ERR 0 fGEN_ACC_ERR_RSVD_ENC = true) ∧
     (s.serves .LANE_LOOP n = true → fLANE_LOOP_MODE.get v ≠ s.loopMode n →
       Answers (.laneLoopWrite n v) s fun t =>
         if fLANE_LOOP_MODE.get v = 3 ∧ s.laneState n ≠ lDATA then
           t.loopMode n = s.loopMode n ∧ t.laneState n = s.laneState n ∧
             t.fbit .LANE_EVENT n fLANE_EVENT_CFG_REFUSED = true
         else
           t.loopMode n = fLANE_LOOP_MODE.get v ∧
             t.laneState n =
               if s.laneState n = lOFF ∨ s.laneState n = lPLL ∨ fLANE_LOOP_MODE.get v = 3 then s.laneState n
               else if fLANE_LOOP_MODE.get v = 2 then lDATA else lBLIND) ∧
     (s.serves .LANE_PATTERN n = true → fLANE_PATTERN_GEN.get v ≤ 2 → fLANE_PATTERN_CHK.get v ≤ 2 →
       Answers (.lanePatternWrite n v) s fun t =>
         if (fLANE_PATTERN_GEN.get v = 0 ∧ fLANE_PATTERN_CHK.get v = 0) ∨ s.laneTest n = true then
           t.rget .LANE_PATTERN n = v &&& 0xF
         else t.rget .LANE_PATTERN n = s.rget .LANE_PATTERN n ∧ t.fbit .LANE_EVENT n fLANE_EVENT_CFG_REFUSED = true))

/-- R79, R81, R83, R91, R140: what gain and loss of a quad PLL's lock and of CDR lock do to the lanes. R84, R92 to R94,
R107, R115: the timers of bring-up, and the loss of signal in DATA. -/
def Obligations.LaneLocksAndTimers : Prop :=
  (∀ (q i : Fin 4) (n : Fin 16) (s : State), s.bootU.asserted = false → n.val = 4 * q.val + i.val →
     (s.laneState n ≠ lOFF →
       Answers (.quadPllLock q) s fun t =>
         t.fbit .LANE_QUAD_STAT q fLANE_QUAD_STAT_PLL_LOCK = true ∧ t.fbit .LANE_STAT n fLANE_STAT_PLL_LOCK = true ∧
         t.laneState n =
           if s.laneState n = lPLL ∧ bitOf (s.fget .POWER_PAD 0 fPOWER_PAD_HELD) (3 + q) = false then
             (if s.loopMode n = 2 then lDATA else lBLIND)
           else s.laneState n) ∧
     (s.fbit .LANE_QUAD_STAT q fLANE_QUAD_STAT_PLL_LOCK = true →
       Answers (.quadPllLockLost q) s fun t =>
         t.fbit .LANE_QUAD_STAT q fLANE_QUAD_STAT_PLL_LOCK = false ∧
         t.fbit .LANE_QUAD_STAT q fLANE_QUAD_STAT_LOCK_LOST = true ∧
         t.fbit .LANE_STAT n fLANE_STAT_PLL_LOCK = false ∧
         t.laneState n = if s.laneState n = lOFF then lOFF else lPLL) ∧
     (lBLIND ≤ s.laneState n → s.laneState n ≤ lDATA →
       ∀ lock : Bool, Answers (.cdrLock ⟨n, lock⟩) s fun t =>
         t.fbit .LANE_STAT n fLANE_STAT_SIG_DET = true ∧ t.cdrLock n = (lock || s.cdrLock n) ∧
         t.laneState n = s.laneState n) ∧
     (s.cdrLock n = true →
       ∀ energy : Bool, Answers (.cdrLockLoss ⟨n, energy⟩) s fun t =>
         t.fbit .LANE_STAT n fLANE_STAT_SIG_DET = (energy && s.fbit .LANE_STAT n fLANE_STAT_SIG_DET) ∧
         t.cdrLock n = false ∧ t.laneState n = s.laneState n)) ∧
  (∀ (n : Fin 16) (s : State), s.bootU.asserted = false →
     ((s.lane n).reqOut = true → s.laneState n = lTRAIN ∨ s.laneState n = lENDING →
       Answers (.trainReqTimeout n) s fun t =>
         t.fbit .LANE_EVENT n fLANE_EVENT_REQ_TIMEOUT = true ∧ t.laneState n = s.laneState n) ∧
     (s.laneState n = lBLIND ∨ s.laneState n = lTRAIN → s.readyHolds n = false →
       s.fixedMode n = false ∨ (s.lane n).readyRun < 1024 →
       Answers (.trainingTimeout n) s fun t =>
         t.laneState n = lFAIL ∧ t.fbit .LANE_EVENT n fLANE_EVENT_TRAIN_FAIL = true ∧
         t.now = max s.now ((s.lane n).startAt + s.fget .LANE_TRAIN_CFG n fLANE_TRAIN_CFG_TIMEOUT * 10 * msCycles)) ∧
     (s.laneState n = lTRAIN → s.readyHolds n = true → s.localReady n = false → s.partnerReady n = true →
       Answers (.trainingTimeout n) s fun t => t.laneState n = lENDING) ∧
     (s.laneState n = lBLIND → s.fixedMode n = true → s.cdrLock n = true → 1024 ≤ (s.lane n).readyRun →
       Answers (.trainingTimeout n) s fun t => t.laneState n = lDATA) ∧
     (s.laneState n = lENDING → (s.lane n).sentOne = true → (s.lane n).rcvdOne = false →
       Answers (.countdownTimeout n) s fun t =>
         t.laneState n = lBLIND ∧ t.fbit .LANE_EVENT n fLANE_EVENT_FRAME_LOSS = true) ∧
     (s.laneState n = lFAIL → s.fbit .LANE_TRAIN_CFG n fLANE_TRAIN_CFG_AUTO_RETRY = true →
       Answers (.failRetry n) s fun t =>
         t.laneState n = lBLIND ∧ t.now = max s.now ((s.lane n).failAt + 10 * msCycles)) ∧
     (s.laneState n = lDATA →
       Answers (.signalLoss n) s fun t =>
         t.laneState n = lBLIND ∧ t.fbit .LANE_EVENT n fLANE_EVENT_SIG_LOSS = true))

/-- R99, R100, R105, R109 to R114, R118: the events of pitch training and of fixed mode move a lane through its states.
The fields of a received frame are those that `readFrame` reads in its symbols (log entry 76). -/
def Obligations.TrainingMovesLane : Prop :=
  ∀ (n : Fin 16) (s : State), s.bootU.asserted = false →
    (s.fixedMode n = false → s.cdrLock n = true → 3 ≤ (s.lane n).good → s.laneState n = lBLIND ∨ s.laneState n = lDATA →
      Answers (.frameLock n) s fun t =>
        t.frameLock n = true ∧ t.laneState n = lTRAIN ∧
        (s.laneState n = lDATA → t.fbit .LANE_EVENT n fLANE_EVENT_RETRAIN = true)) ∧
    (s.laneState n = lTRAIN ∨ s.laneState n = lENDING → s.frameLock n = true → (s.lane n).rcvdOne = false →
      4 ≤ (s.lane n).bad →
      Answers (.frameLockLost n) s fun t =>
        t.frameLock n = false ∧ t.laneState n = lBLIND ∧ t.fbit .LANE_EVENT n fLANE_EVENT_FRAME_LOSS = true) ∧
    (∀ (h r : List (Fin 4)) (control status : Nat), readFrame (s.frameIn n ((h ++ r).map Fin.val)) = some (control, status) →
      s.fixedMode n = false → lBLIND ≤ s.laneState n → s.laneState n ≤ lENDING → s.loopMode n ≠ 2 →
      (s.lane n).rcvdOne = false →
      Answers (.trainingFrameRx n h r) s fun t =>
        t.fget .LANE_TRAIN_LAST n fLANE_TRAIN_LAST_CONTROL = control ∧
        t.fget .LANE_TRAIN_LAST n fLANE_TRAIN_LAST_STATUS = status ∧ t.partnerReady n = bitOf status 15 ∧
        (s.laneState n = lTRAIN → s.localReady n = true → bitOf status 15 = true → t.laneState n = lENDING)) ∧
    (∀ h r : List (Fin 4), readFrame (s.frameIn n ((h ++ r).map Fin.val)) = none →
      s.fixedMode n = false → lBLIND ≤ s.laneState n → s.laneState n ≤ lENDING → s.loopMode n ≠ 2 →
      (s.lane n).rcvdOne = false →
      Answers (.trainingFrameRx n h r) s fun t =>
        (t.lane n).good = 0 ∧ (t.lane n).bad = min 4 ((s.lane n).bad + 1) ∧ t.laneState n = s.laneState n) ∧
    (s.fixedMode n = false → lBLIND ≤ s.laneState n → s.laneState n ≤ lENDING → (s.lane n).sentOne = false →
      Answers (.trainFrameTxStart n) s fun t =>
        t.now = max s.now ((s.lane n).frameAt + symCycles (s.laneRate n) 4096) ∧
        (s.laneState n = lENDING → s.localReady n = true → s.partnerReady n = true → (s.lane n).fell = false →
          s.endCount n ≠ 1 →
          t.laneState n = lENDING ∧ t.endCount n = if s.endCount n = 0 then 15 else s.endCount n - 1)) ∧
    (s.laneState n = lTRAIN → (s.lane n).search.phase = .presetMeas → 256 ≤ (s.lane n).search.count →
      Answers (.trainSearchMeasure n) s fun u =>
        (u.lane n).search.phase = .tapReq ∧ (u.lane n).search.best = (s.lane n).search.sum) ∧
    (s.laneState n = lTRAIN → s.localReady n = false → s.readyHolds n = true →
      Answers (.localReady n) s fun t =>
        t.localReady n = true ∧ t.laneState n = if s.partnerReady n = true then lENDING else lTRAIN) ∧
    (s.fixedMode n = true → s.laneState n = lBLIND → s.cdrLock n = true → 1024 ≤ (s.lane n).readyRun →
      Answers (.fixedModeReady n) s fun t =>
        t.localReady n = true ∧ t.laneState n = lDATA ∧ t.fbit .LANE_EVENT n fLANE_EVENT_TRAIN_DONE = true)

/-- R140 to R145, R152, R153: a block's figure is reported, an update interval reports a step, and a step applies or is
deferred. R176, R178, R179, R181: what served writes of LANE_CAL_TX_SET and LANE_RX_EQ do. -/
def Obligations.CalibrationStepsAndWrites : Prop :=
  (∀ (n : Fin 16) (s : State), s.bootU.asserted = false →
     (∀ (sig err : Nat) (x : Option RxSet) (errs : Nat), s.cdrLock n = true → 0 < err →
       Answers (.pfBlockDone n sig err x errs) s fun t =>
         t.fget .LANE_STAT n fLANE_STAT_PITCH_FIGURE = pitchFigure sig err ∧
         (s.laneState n = lDATA → pitchFigure sig err < s.fget .LANE_CAL_CFG n fLANE_CAL_CFG_ALARM_PF →
           t.fget .LANE_PF n fLANE_PF_LOW_CNT = min 65535 (s.fget .LANE_PF n fLANE_PF_LOW_CNT + 1))) ∧
     (∀ est : RxSet, s.laneState n = lDATA → (s.lane n).rxStep = none →
       s.fbit .LANE_CAL_CTRL n fLANE_CAL_CTRL_RX_QUIET = false →
       towards (s.rxSet n) est (s.nextCtle n est.ctle) ≠ s.rxSet n →
       Answers (.rxUpdateInterval n est) s fun u =>
         let k := s.intervalNow n (s.lane n).rxIv
         (u.lane n).rxStep =
           some { stepOf (towards (s.rxSet n) est (s.nextCtle n est.ctle)) ((k + 1) * 65536)
                    ((s.elapseSym n (k * 65536)).timeAcks n ((k + 1) * 65536)) with
                  hold := s.fbit .LANE_RX_EQ n fLANE_RX_EQ_CTLE_HOLD && (s.lane n).ctleDue } ∧
         (u.lane n).rxIv = k + 1 ∧ u.fbit .LANE_CAL_STAT n fLANE_CAL_STAT_RX_PEND = true) ∧
     (s.laneState n = lDATA → (s.lane n).txStep = none →
       s.fbit .LANE_CAL_CTRL n fLANE_CAL_CTRL_TX_QUIET = false → (s.lane n).txDriver.isSome = true →
       (s.lane n).txDriver ≠ some (s.txTaps n) →
       Answers (.txUpdateInterval n) s fun u =>
         let k := s.intervalNow n (s.lane n).txIv
         (u.lane n).txStep.map (·.taps) = (s.lane n).txDriver ∧ (u.lane n).txDriver = none ∧
         (u.lane n).txStep.map (·.apply) = some ((k + 1) * 65536) ∧
         (u.lane n).txIv = k + 1 ∧ u.fbit .LANE_CAL_STAT n fLANE_CAL_STAT_TX_PEND = true) ∧
     ((s.lane n).rxStep.isSome = true →
       Answers (.stepApply n true) s fun t =>
         t.fbit .LANE_CAL_STAT n fLANE_CAL_STAT_RX_PEND = false ∧
         if (s.lane n).rxStep.all (·.acked) = true then
           some (t.rget .LANE_RX_RC n) = (s.lane n).rxStep.map (·.rc) ∧
             t.fget .LANE_CAL_CNT n fLANE_CAL_CNT_RX_STEPS =
               min 65535 (s.fget .LANE_CAL_CNT n fLANE_CAL_CNT_RX_STEPS + 1)
         else
           t.rget .LANE_RX_RC n = s.rget .LANE_RX_RC n ∧
             t.fget .LANE_CAL_CNT n fLANE_CAL_CNT_DEFERRED =
               min 65535 (s.fget .LANE_CAL_CNT n fLANE_CAL_CNT_DEFERRED + 1)) ∧
     ((s.lane n).txStep.any (·.change) = true →
       Answers (.stepApply n false) s fun t =>
         if (s.lane n).txStep.all (·.acked) = true then
           some (t.rget .LANE_TX_TAPS n) = (s.lane n).txStep.map (·.taps.word)
         else t.rget .LANE_TX_TAPS n = s.rget .LANE_TX_TAPS n)) ∧
  (∀ (n : Fin 16) (v : Word) (s : State),
     (s.serves .LANE_CAL_TX_SET n = true → (tapsOf v).ok = true →
       Answers (.calTxSetWrite n v) s fun t =>
         t.rget .LANE_CAL_TX_SET n = (tapsOf v).word ∧
         if s.fixedMode n = false ∧ s.laneState n = lDATA ∧ (s.lane n).quietTx = false then
           t.fbit .LANE_CAL_STAT n fLANE_CAL_STAT_TX_PEND = true ∧ (t.lane n).txDriver = some (tapsOf v)
         else t.fbit .LANE_CAL_EVENT n fLANE_CAL_EVENT_OVR_REFUSED = true) ∧
     (s.serves .LANE_CAL_TX_SET n = true → (tapsOf v).ok = false →
       Answers (.calTxSetWrite n v) s fun t =>
         t.rget .LANE_CAL_TX_SET n = s.rget .LANE_CAL_TX_SET n ∧ t.fbit .GEN_ACC_ERR 0 fGEN_ACC_ERR_RSVD_ENC = true) ∧
     (s.serves .LANE_RX_EQ n = true →
       Answers (.ctleHoldWrite n v) s fun t =>
         t.fget .LANE_RX_EQ n fLANE_RX_EQ_CTLE_HOLD = fLANE_RX_EQ_CTLE_HOLD.get v ∧
         t.fget .LANE_RX_EQ n fLANE_RX_EQ_CTLE_SET = fLANE_RX_EQ_CTLE_SET.get v ∧
         t.fget .LANE_RX_EQ n fLANE_RX_EQ_CTLE = s.fget .LANE_RX_EQ n fLANE_RX_EQ_CTLE ∧
         t.fget .LANE_RX_EQ n fLANE_RX_EQ_DFE = s.fget .LANE_RX_EQ n fLANE_RX_EQ_DFE))

/-- R141: the pitch figure is the largest whole number k up to 255 for which the ratio of the sums is at least 10 to the
power k/40, and 0 where none is. The figure of a block without decision error is 255. R144, R145: the settings of a
receive step move towards their estimates by at most one unit each and stay in range. -/
def Obligations.FiguresAndUnits : Prop :=
  (∀ sig err k : Nat, 1 ≤ k → k ≤ 255 →
     (0 < err → (k ≤ pitchFigure sig err ↔ 10 ^ k * err ^ 40 ≤ sig ^ 40)) ∧
     (0 < sig → pitchFigure sig 0 = 255) ∧
     (0 < err → pitchFigure sig err ≤ 255)) ∧
  (∀ lo hi old est : Int, lo ≤ old → old ≤ hi →
     lo ≤ stepTo lo hi old est ∧ stepTo lo hi old est ≤ hi ∧ (stepTo lo hi old est - old).natAbs ≤ 1 ∧
       (lo ≤ est → est ≤ hi → (stepTo lo hi old est = old ↔ est = old)))

/-- R162 to R164, R173 to R175, R178, R179, R181: live pitch messages fall due and are sent, the live search asks and
keeps or undoes, and the override writes are taken or refused. R160, R167 to R169, R172: a live pitch message that
arrives without fault is acted on: it counts, and the record of each lane gives the partner's pitch figure and
quieting. -/
def Obligations.LiveCalibrationTalks : Prop :=
  (∀ (p n : Fin 16) (s : State), s.bootU.asserted = false →
     (s.lpmEn p = true → s.portUp p = true → s.failed = false → (s.lpmDeadline p).isSome = true →
       Effect (.lpmDueTimer p) s fun u =>
         (u.mac p).lpmDue = true ∧ some u.now = (s.lpmDeadline p).map (fun d => max s.now d)) ∧
     (s.lpmMay p = true → (s.mac p).lpmDue = true → (s.mac p).cur = none →
       Effect (.lpmSend p) s fun u =>
         (u.mac p).lpmDue = false ∧ (u.mac p).lpmLast = some u.now ∧ (u.mac p).lpmSeq = ((s.mac p).lpmSeq + 1) % 256 ∧
         u.fget .PORT_LPM_CNT p fPORT_LPM_CNT_SENT = min 65535 (s.fget .PORT_LPM_CNT p fPORT_LPM_CNT_SENT + 1)) ∧
     (s.laneState n = lDATA → s.fbit .LANE_CAL_CTRL n fLANE_CAL_CTRL_LIVE_SEARCH_EN = true →
       (s.lane n).quietRx = false → s.fixedMode n = false → (s.lane n).trial = 0 →
       (s.lane n).liveOut = false →
       Answers (.liveSearchTrial n) s fun u =>
         (u.lane n).trial = 1 ∧ (u.lane n).liveOut = true ∧
         ((u.lane n).liveSel, (u.lane n).liveReq) = liveCand (s.lane n).cand ∧
         (u.lane n).liveSeq = ((s.lane n).partnerLiveAck + 1) % 16 ∧
         u.fbit .LANE_CAL_STAT n fLANE_CAL_STAT_REQ_OUT = true) ∧
     (s.laneState n = lDATA → (s.lane n).trial = 2 → 1024 ≤ (s.lane n).meas.1 → (s.lane n).quietRx = false →
       Answers (.liveSearchMeasure n) s fun u =>
         if ((s.lane n).base.1 + (s.lane n).base.2) * (s.lane n).meas.2.2 ≤ (s.lane n).meas.2.1 * (s.lane n).base.2 then
           (u.lane n).trial = 0
         else (u.lane n).trial = 3 ∧ (u.lane n).liveOut = true ∧ (u.lane n).liveReq = 3 - (s.lane n).liveReq) ∧
     ((s.lane n).liveOut = true → (s.lane n).liveFirst.isSome = true →
       Answers (.liveReqTimeout n) s fun t => t.fbit .LANE_CAL_EVENT n fLANE_CAL_EVENT_REQ_TIMEOUT = true)) ∧
  (∀ (p : Fin 16) (x : RxFrame) (s : State), s.bootU.asserted = false →
     s.cleanRx p x = true → isLpm x.bytes = true → s.lpmEn p = true → byteAt x.bytes 15 = 1 →
     byteAt x.bytes 16 = (s.lpmLanes p).length →
     Answers (.lpmReceive p x) s fun t =>
       t.fget .PORT_LPM_CNT p fPORT_LPM_CNT_ACTED = min 65535 (s.fget .PORT_LPM_CNT p fPORT_LPM_CNT_ACTED + 1) ∧
       (s.lpmLanes p).zipIdx.all (fun e =>
         t.fget .LANE_CAL_STAT e.1 fLANE_CAL_STAT_PARTNER_PF == byteAt x.bytes (21 + 4 * e.2) &&
         t.fbit .LANE_CAL_STAT e.1 fLANE_CAL_STAT_PARTNER_TX_QUIET == bitOf (byteAt x.bytes (20 + 4 * e.2)) 4 &&
         (t.lane e.1).partnerLiveAck == byteAt x.bytes (19 + 4 * e.2) / 8 % 16) = true)

/-- R195 to R198, R225, R229, R208: a served write of COURSE_PORT_MAP stores the map or, where a check of R196 fails,
leaves it and shows the first that fails; a served write of PORT_MODE stores the mode, and leaving TEST stops bypass
and patterns. R122 to R124, R126: marker lock is gained and lost, and the skew of a port's lanes is measured against
its limit. -/
def Obligations.PortMapAndAlignment : Prop :=
  (∀ (v : Word) (s : State),
     (∀ c : Fin 4, s.serves .COURSE_PORT_MAP c = true →
       Answers (.portMapWrite c v) s fun t =>
         if s.mapCause c (v &&& 0x1FFFFFFF) = 0 then t.portMap c = v &&& 0x1FFFFFFF
         else t.portMap c = s.portMap c ∧ t.fbit .COURSE_MAP_STAT c fCOURSE_MAP_STAT_REFUSED = true ∧
           t.fget .COURSE_MAP_STAT c fCOURSE_MAP_STAT_CAUSE = s.mapCause c (v &&& 0x1FFFFFFF)) ∧
     (∀ p : Fin 16, s.serves .PORT_MODE p = true →
       Answers (.portModeWrite p v) s fun t =>
         t.rget .PORT_MODE p = v &&& 0xF ∧
         (s.portMode p = 2 → fPORT_MODE_MODE.get v ≠ 2 →
           t.fbit .PORT_FEC_CFG p fPORT_FEC_CFG_BYPASS_CORR = false ∧
           (s.portLanes p).all (fun n => t.fget .LANE_PATTERN n fLANE_PATTERN_GEN == 0 &&
             t.fget .LANE_PATTERN n fLANE_PATTERN_CHK == 0) = true))) ∧
  (∀ (p : Fin 16) (s : State), s.bootU.asserted = false →
     (s.allData p = true → Effect (.markerLock p) s fun u => u.markerLock p = true) ∧
     Effect (.markerLockLost p) s (fun u =>
       u.markerLock p = false ∧
         (s.portLanes p).all (fun n => !u.fbit .LANE_SKEW n fLANE_SKEW_VALID) = true) ∧
     (∀ skews : List Nat, s.allData p = true → s.markerLock p = true → 2 ≤ (s.portLanes p).length →
       skews.length = (s.portLanes p).length →
       Effect (.skewMeasured p skews) s fun u =>
         ((s.portLanes p).zip skews).all (fun e => u.fbit .LANE_SKEW e.1 fLANE_SKEW_VALID &&
           u.fget .LANE_SKEW e.1 fLANE_SKEW_SKEW_SYM == min 65535 e.2) = true ∧
         u.fbit .PORT_LINK_STAT p fPORT_LINK_STAT_SKEW_OVER =
           skews.any (fun k => decide (skewLimit (s.laneRate ((s.portLanes p).headD 0)) < k))))

/-- R128, R202, R205, R209, R210: received ordered sets, in a near-end loopback the port's own, show in RX_LF and RX_RF,
codewords count, and a window of 8,192 codewords sets or clears DEGRADED. -/
def Obligations.FaultsAndFecCount : Prop :=
  ∀ (p : Fin 16) (s : State), s.bootU.asserted = false →
    (∀ kind : Fin 3,
      Effect (.faultOrderedSetRx p kind) s fun u =>
        if s.portNear p = true ∧ s.portLooped p = false then u.rget .PORT_MAC_STAT p = s.rget .PORT_MAC_STAT p
        else
          u.fbit .PORT_MAC_STAT p fPORT_MAC_STAT_RX_LF = (s.faultKind p kind == 1) ∧
          u.fbit .PORT_MAC_STAT p fPORT_MAC_STAT_RX_RF = (s.faultKind p kind == 2) ∧
          (s.faultKind p kind = 1 → s.fbit .PORT_MAC_STAT p fPORT_MAC_STAT_RX_LF = false →
            u.fbit .PORT_MAC_EVT p fPORT_MAC_EVT_RX_LF = true)) ∧
    (∀ kind : Fin 3, s.faultKind p kind =
      if s.portLooped p = false then kind.val
      else if s.fbit .PORT_MAC_STAT p fPORT_MAC_STAT_TX_LF = true then 1
      else if s.fbit .PORT_MAC_STAT p fPORT_MAC_STAT_TX_RF = true then 2 else 0) ∧
    (s.portFec p = true → s.portUsed p = true → s.fbit .PORT_FEC_STAT p fPORT_FEC_STAT_LOCKED = true →
      Answers (.fecCodewordDecode p none) s (fun t =>
        t.fget .PORT_FEC_CNT p fPORT_FEC_CNT_UNCORR_CW =
          min (2 ^ 32 - 1) (s.fget .PORT_FEC_CNT p fPORT_FEC_CNT_UNCORR_CW + 1) ∧
        t.fget .PORT_FEC_CNT p fPORT_FEC_CNT_CORR_CW = s.fget .PORT_FEC_CNT p fPORT_FEC_CNT_CORR_CW) ∧
      ∀ l : List Nat, l.length ≤ (s.portLanes p).length → 0 < l.sum → l.sum ≤ 15 →
        Answers (.fecCodewordDecode p (some l)) s fun t =>
          t.fget .PORT_FEC_CNT p fPORT_FEC_CNT_CORR_CW =
            min (2 ^ 32 - 1) (s.fget .PORT_FEC_CNT p fPORT_FEC_CNT_CORR_CW + 1) ∧
          t.fget .PORT_FEC_SYM p fPORT_FEC_SYM_CORR_SYM =
            min (2 ^ 48 - 1) (s.fget .PORT_FEC_SYM p fPORT_FEC_SYM_CORR_SYM + l.sum) ∧
          t.fget .PORT_FEC_CNT p fPORT_FEC_CNT_UNCORR_CW = s.fget .PORT_FEC_CNT p fPORT_FEC_CNT_UNCORR_CW) ∧
    (8192 ≤ (s.mac p).fecCw → s.portFec p = true →
      Effect (.fecWindowEnd p) s fun u =>
        (u.mac p).fecCw = 0 ∧ (u.mac p).fecSym = 0 ∧
        u.fbit .PORT_FEC_STAT p fPORT_FEC_STAT_DEGRADED =
          (s.fget .PORT_FEC_CFG p fPORT_FEC_CFG_DEGRADE_THR != 0 &&
            decide (s.fget .PORT_FEC_CFG p fPORT_FEC_CFG_DEGRADE_THR < (s.mac p).fecSym)))

/-- R231 to R235, R237, R238, R430: a PAUSE frame loads the pause timer, whose expiry ends the pause; the flow-control
frame that is due is sent, and falls due again while its pause stays asserted. R242, R243: verification of preemption:
its interval ends in another try or in failure, a verify packet is to be answered, a respond packet ends it, and at a
frame boundary the packets that wait are sent. -/
def Obligations.FlowControlAndVerify : Prop :=
  (∀ (p : Fin 16) (s : State), s.bootU.asserted = false →
     (∀ (x : RxFrame) (y : Path), s.cleanRx p x = true → isCtl x.bytes = true → be2 x.bytes 14 = 1 →
       x.bytes.take 6 = [0x01, 0x80, 0xC2, 0x00, 0x00, 0x01] → s.fget .PORT_FC_CFG p fPORT_FC_CFG_RX_MODE = 1 →
       Effect (.fcFrameRx p ⟨x, y⟩) s fun u =>
         (u.mac p).pauseEnd =
           (if be2 x.bytes 16 = 0 then none else some (10 * s.now + s.quanta p (be2 x.bytes 16))) ∧
         u.fbit .PORT_FC_STAT p fPORT_FC_STAT_PAUSE_ON = (be2 x.bytes 16 != 0) ∧
         u.fbit .PORT_MAC_EVT p fPORT_MAC_EVT_FC_RX = true) ∧
     ((s.mac p).pauseEnd.isSome = true →
       Effect (.pauseTimerExpiry p 8) s fun u =>
         (u.mac p).pauseEnd = none ∧ u.fbit .PORT_FC_STAT p fPORT_FC_STAT_PAUSE_ON = false ∧
         some u.now = (s.mac p).pauseEnd.map (fun e => max s.now (s.cclkEdge e))) ∧
     (∀ k : Fin 8, ((s.mac p).pfcEnd.find? k).isSome = true →
       Effect (.pauseTimerExpiry p ⟨k, by omega⟩) s fun u => (u.mac p).pfcEnd.find? k = none) ∧
     ((s.mac p).fcRelease = [] → s.macMay p = true → (s.mac p).cur.isNone = true → s.fcTxMode p = 1 →
       (s.mac p).fcDue.any (·.1 == 8) = true →
       Effect (.fcFrameSend p) s fun u =>
         (u.mac p).fcDue = (s.mac p).fcDue.filter (fun e => e.1 != 8) ∧
         (u.mac p).lastCtl = s.fcBytes p ((s.mac p).fcDue.filter (fun e => e.1 == 8)) ++
           fcsOf (s.fcBytes p ((s.mac p).fcDue.filter (fun e => e.1 == 8)))) ∧
     (s.fcTxMode p = 1 → s.fbit .PORT_FC_TX_STAT p fPORT_FC_TX_STAT_PAUSE = true →
       ((s.mac p).fcSent.find? 8).isSome = true →
       Effect (.fcResendTimer p 8) s fun u => (8, true) ∈ (u.mac p).fcDue)) ∧
  (∀ (p : Fin 16) (s : State), s.bootU.asserted = false →
     ((s.mac p).verifyEnd.isSome = true →
       Effect (.preemptVerifyTimer p) s fun u =>
         if (s.mac p).verifyTries < 3 then
           u.verifyState p = 2 ∧ (u.mac p).verifyDue = true ∧ (u.mac p).verifyTries = (s.mac p).verifyTries
         else u.verifyState p = 4 ∧ (u.mac p).verifyEnd = none ∧ u.fbit .PORT_MAC_EVT p fPORT_MAC_EVT_VERIFY_FAIL = true) ∧
     (s.portUp p = true → s.preemptEn p = true → s.portLooped p = false →
       Effect (.verifyPacketRx p) s fun u => (u.mac p).respondDue = true ∧ u.verifyState p = s.verifyState p) ∧
     (s.portUp p = true → s.preemptEn p = true → s.portLooped p = false → s.verifyState p = 2 →
       Effect (.respondPacketRx p) s fun u =>
         u.verifyState p = 3 ∧ (u.mac p).verifyEnd = none ∧ (u.mac p).verifyDue = false ∧
           u.fbit .PORT_MAC_EVT p fPORT_MAC_EVT_VERIFY_OK = true) ∧
     (s.portUp p = true → s.preemptEn p = false → s.portLooped p = false →
       Effect (.verifyPacketRx p) s fun u => (u.mac p).respondDue = (s.mac p).respondDue) ∧
     (s.macMay p = true → (s.mac p).cur = none →
       ((s.mac p).respondDue = true → (s.mac p).verifyDue = false →
         ((s.mSend p).mac p).respondDue = false ∧ ((s.mSend p).mac p).lastCtl = mPacket ∧
           (s.portFar p = false → ((s.mSend p).mac p).wire = preamble smdR ++ mPacket)) ∧
       ((s.mac p).verifyDue = true →
         ((s.mSend p).mac p).verifyDue = false ∧ ((s.mSend p).mac p).lastCtl = mPacket ∧
           ((s.mSend p).mac p).verifyTries = (s.mac p).verifyTries + 1 ∧
           ((s.mSend p).mac p).verifyEnd =
             some (s.now + s.fget .PORT_PREEMPT_CFG p fPORT_PREEMPT_CFG_VERIFY_TIME * msCycles) ∧
           (s.portFar p = false → ((s.mSend p).mac p).wire = preamble smdV ++ mPacket))))

/-- R253, R262: while the counter counts with no slew and no addend write outstanding, n ridge clock cycles add n times
TIME_ADDEND.ADDEND to it, SEC wrapping modulo 2^48, and the sub-second part stays below one second. -/
def Obligations.CounterAddsAddend : Prop :=
  ∀ (s : State) (n : Nat), s.timeCounts = true → s.time.slew = none → s.time.addends = [] →
    s.time.addend = s.fget .TIME_ADDEND 0 fTIME_ADDEND_ADDEND →
    (s.elapse n).time.t.total % (2 ^ 48 * secUnits) =
      (s.time.t.total + n * s.fget .TIME_ADDEND 0 fTIME_ADDEND_ADDEND) % (2 ^ 48 * secUnits) ∧
    (s.elapse n).time.t.sub < secUnits ∧ (s.elapse n).time.t.sec < 2 ^ 48

/-- R253, R261, R262, R300: time that passes in two parts is time that passes whole, for the counter, the coarse counter,
the slew and the addend writes that are on their way. R257 to R260, R263: GO schedules SET_NOW and STEP_NOW 32 cycles
on and arms SET_AT_PPS; a load sets the counter, SET and LOADED and ends a slew, a step adds its offset, and CANCEL
disarms. -/
def Obligations.TimePassesAndLoads : Prop :=
  (∀ (s : State) (a b : Nat),
     ((s.elapse a).elapse b).time.t = (s.elapse (a + b)).time.t ∧
     ((s.elapse a).elapse b).time.coarse = (s.elapse (a + b)).time.coarse ∧
     ((s.elapse a).elapse b).time.slew = (s.elapse (a + b)).time.slew ∧
     ((s.elapse a).elapse b).time.addend = (s.elapse (a + b)).time.addend ∧
     ((s.elapse a).elapse b).time.addends = (s.elapse (a + b)).time.addends ∧
     ((s.elapse a).elapse b).now = (s.elapse (a + b)).now) ∧
  (∀ s : State,
     (s.serves .TIME_LOAD_CTRL 0 = true → s.fbit .TIME_LOAD_CTRL 0 fTIME_LOAD_CTRL_GO = false →
       Answers .timeSetNow s (fun t =>
         t.time.load = some (s.now + 32) ∧ t.fbit .TIME_LOAD_CTRL 0 fTIME_LOAD_CTRL_GO = true ∧
         t.fget .TIME_LOAD_CTRL 0 fTIME_LOAD_CTRL_MODE = 0) ∧
       Answers .timeStepNow s (fun t =>
         t.time.load = some (s.now + 32) ∧ t.fbit .TIME_LOAD_CTRL 0 fTIME_LOAD_CTRL_GO = true ∧
         t.fget .TIME_LOAD_CTRL 0 fTIME_LOAD_CTRL_MODE = 2) ∧
       Effect .timeSetAtPps s fun u =>
         u.time.load = s.time.load ∧ u.fbit .TIME_LOAD_CTRL 0 fTIME_LOAD_CTRL_GO = true ∧
         u.fget .TIME_LOAD_CTRL 0 fTIME_LOAD_CTRL_MODE = 1 ∧ u.fbit .TIME_STAT 0 fTIME_STAT_LOAD_ARMED = true) ∧
     (s.serves .TIME_LOAD_CTRL 0 = true → s.fbit .TIME_LOAD_CTRL 0 fTIME_LOAD_CTRL_GO = true →
       s.fbit .TIME_STAT 0 fTIME_STAT_LOAD_ARMED = true → s.fget .TIME_LOAD_CTRL 0 fTIME_LOAD_CTRL_MODE < 3 →
       Effect .timeLoadCancel s fun u =>
         u.fbit .TIME_STAT 0 fTIME_STAT_LOAD_ARMED = false ∧ u.fbit .TIME_LOAD_CTRL 0 fTIME_LOAD_CTRL_GO = false ∧
         u.time.t = s.time.t) ∧
     (s.bootU.asserted = false → s.time.load.isSome = true → s.fget .TIME_LOAD_CTRL 0 fTIME_LOAD_CTRL_MODE = 0 →
       Effect .timeLoadApply s fun u =>
         u.time.t = s.loadValue ∧ u.time.load = none ∧ u.time.slew = none ∧
         some u.now = s.time.load.map (fun d => max s.now d) ∧
         u.fbit .TIME_EVT 0 fTIME_EVT_LOADED = true ∧ u.fbit .TIME_STAT 0 fTIME_STAT_SET = true ∧
         u.fbit .TIME_STAT 0 fTIME_STAT_SLEWING = false ∧
         u.fbit .TIME_LOAD_CTRL 0 fTIME_LOAD_CTRL_GO = false) ∧
     (s.bootU.asserted = false → s.time.load.isSome = true → s.fget .TIME_LOAD_CTRL 0 fTIME_LOAD_CTRL_MODE = 2 →
       Effect .timeLoadApply s fun u =>
         u.time.t = (s.elapse (u.now - s.now)).time.t.add (toSigned 48 (s.fget .TIME_STEP 0 fTIME_STEP_OFFSET) * 2 ^ 32) ∧
         u.time.load = none ∧ some u.now = s.time.load.map (fun d => max s.now d) ∧
         u.fbit .TIME_EVT 0 fTIME_EVT_LOADED = true ∧ u.fbit .TIME_LOAD_CTRL 0 fTIME_LOAD_CTRL_GO = false ∧
         u.fbit .TIME_STAT 0 fTIME_STAT_SET = s.fbit .TIME_STAT 0 fTIME_STAT_SET))

/-- R254, R261, R262, R265: a slew starts 32 cycles on, ends when its whole offset has been added or is ended where it
stands; an addend write is on its way for 32 cycles; a read of TIME_NOW_L captures block time 32 cycles on. -/
def Obligations.SlewAddendAndCapture : Prop :=
  ∀ (v : Word) (s : State),
    (s.serves .TIME_LOAD_CTRL 0 = true → s.fget .TIME_LOAD_CTRL 0 fTIME_LOAD_CTRL_MODE < 3 →
      (s.fbit .TIME_LOAD_CTRL 0 fTIME_LOAD_CTRL_SLEW_GO = false →
        Effect .timeSlewStart s fun u =>
          u.time.slew = some (s.now + 32, toSigned 48 (s.fget .TIME_SLEW 0 fTIME_SLEW_OFFSET) * 65536) ∧
          u.fbit .TIME_LOAD_CTRL 0 fTIME_LOAD_CTRL_SLEW_GO = true ∧ u.fbit .TIME_STAT 0 fTIME_STAT_SLEWING = true ∧
          u.fget .TIME_SLEW_REM 0 fTIME_SLEW_REM_REMAIN = s.fget .TIME_SLEW 0 fTIME_SLEW_OFFSET) ∧
      (s.fbit .TIME_LOAD_CTRL 0 fTIME_LOAD_CTRL_SLEW_GO = true → s.time.slew.isSome = true →
        Effect .timeSlewCancel s fun u =>
          u.time.slew = none ∧ u.time.t = s.time.t ∧ u.fbit .TIME_LOAD_CTRL 0 fTIME_LOAD_CTRL_SLEW_GO = false ∧
          u.fbit .TIME_EVT 0 fTIME_EVT_SLEW_DONE = s.fbit .TIME_EVT 0 fTIME_EVT_SLEW_DONE)) ∧
    (s.bootU.asserted = false → s.timeRuns = true → 0 < s.fget .TIME_SLEW 0 fTIME_SLEW_STEP →
      s.time.slew.isSome = true →
      Effect .timeSlewDone s fun u =>
        u.time.slew = none ∧ u.fbit .TIME_EVT 0 fTIME_EVT_SLEW_DONE = true ∧
        u.fbit .TIME_LOAD_CTRL 0 fTIME_LOAD_CTRL_SLEW_GO = false ∧
        some u.time.t = s.time.slew.map fun e => s.time.t.add
          ((addendUnits s.time.addend s.now (u.now - s.now) s.time.addends : Nat) + e.2 * 65536)) ∧
    (s.serves .TIME_ADDEND 0 = true → 56266847844460 ≤ fTIME_ADDEND_ADDEND.get v →
      fTIME_ADDEND_ADDEND.get v ≤ 56323142839802 → fTIME_ADDEND_ADDEND.get v ≠ s.fget .TIME_ADDEND 0 fTIME_ADDEND_ADDEND →
      Answers (.timeAddendWrite v) s fun t =>
        t.fget .TIME_ADDEND 0 fTIME_ADDEND_ADDEND = fTIME_ADDEND_ADDEND.get v ∧
        t.time.addends = s.time.addends ++ [(s.now + 32, fTIME_ADDEND_ADDEND.get v)] ∧ t.time.addend = s.time.addend) ∧
    (s.serves .TIME_NOW_L 0 = true →
      Answers .timeNowRead s fun t =>
        t.now = s.now + 32 ∧ t.fget .TIME_NOW_L 0 fTIME_NOW_L_NS = t.blockTime.ns % 2 ^ 32 ∧
        t.fget .TIME_NOW_L 0 fTIME_NOW_L_FRAC = t.blockTime.frac ∧
        t.fget .TIME_NOW_H 0 fTIME_NOW_H_SEC = t.blockTime.sec % 2 ^ 48)

/-- R266 to R272, R274: an active edge of pps_i is captured and applies an armed load, a missing one is reported, pps_o
rises as a second boundary is counted past and falls WIDTH microseconds later, and a recovered clock leaves squelch. A
second boundary takes fewer than 2^33 cycles at every ADDEND that R262 admits. -/
def Obligations.PulsesAndClocks : Prop :=
  ∀ (rising : Bool) (k : Fin 2) (s : State), s.bootU.asserted = false →
    (s.fbit .TIME_PPS_IN_CFG 0 fTIME_PPS_IN_CFG_EN = true →
      rising = !s.fbit .TIME_PPS_IN_CFG 0 fTIME_PPS_IN_CFG_EDGE →
      s.time.ppsIn.all (fun d => decide (d + 100 * msCycles ≤ s.now)) = true → s.timeRuns = true →
      Effect (.ppsInEdge rising) s fun u =>
        u.time.ppsIn = some s.now ∧ u.fbit .TIME_EVT 0 fTIME_EVT_PPS_IN = true ∧
        u.fget .TIME_PPS_IN_CAP_L 0 fTIME_PPS_IN_CAP_L_NS = ((u.time.t.add (-s.ppsInLess)).add (2 ^ 31)).ns % 2 ^ 32 ∧
        if s.fbit .TIME_STAT 0 fTIME_STAT_LOAD_ARMED = true then
          u.time.t = s.loadValue.add s.ppsInLess ∧ u.fbit .TIME_STAT 0 fTIME_STAT_LOAD_ARMED = false ∧
            u.fbit .TIME_EVT 0 fTIME_EVT_LOADED = true ∧ u.fbit .TIME_STAT 0 fTIME_STAT_SET = true
        else u.time.t = s.time.t) ∧
    (s.fbit .TIME_PPS_IN_CFG 0 fTIME_PPS_IN_CFG_EN = true → s.time.ppsIn.isSome = true → s.time.ppsMissed = false →
      s.timeRuns = true →
      Effect .ppsInMissTimer s fun u =>
        u.fbit .TIME_EVT 0 fTIME_EVT_PPS_IN_MISS = true ∧ u.time.ppsMissed = true ∧
        some u.now = s.time.ppsIn.map (fun d => max s.now (d + 1100 * msCycles))) ∧
    (s.ppsOn = true → s.time.ppsDue = 0 → s.time.slew = none → s.time.addends = [] → 56266847844460 ≤ s.time.addend →
      Effect .ppsOutEdge s fun u =>
        u.time.ppsOut = true ∧ u.fbit .TIME_EVT 0 fTIME_EVT_PPS_OUT = true ∧ s.now < u.now ∧
        ((u.time.t.sub : Int) - s.ppsOffset) % (secUnits : Int) < (s.time.addend : Int) ∧
        u.time.ppsFall = some (u.now + s.fget .TIME_PPS_OUT_CFG 0 fTIME_PPS_OUT_CFG_WIDTH * usCycles)) ∧
    (s.ppsOn = true → 0 < s.time.ppsDue →
      Effect .ppsOutEdge s fun u =>
        u.time.ppsOut = true ∧ u.fbit .TIME_EVT 0 fTIME_EVT_PPS_OUT = true ∧ u.now = s.now ∧
        u.time.ppsDue = s.time.ppsDue - 1 ∧
        u.time.ppsFall = some (u.now + s.fget .TIME_PPS_OUT_CFG 0 fTIME_PPS_OUT_CFG_WIDTH * usCycles)) ∧
    (s.time.ppsFall.isSome = true →
      Answers .ppsOutFall s fun t =>
        t.time.ppsOut = false ∧ t.time.ppsFall = none ∧ some t.now = s.time.ppsFall.map (fun d => max s.now d)) ∧
    ((s.time.rclkClear.find? k).isSome = true →
      Effect (.rclkUnsquelch k) s fun u =>
        u.fbit .TIME_STAT 0 (fRclkSq k) = false ∧ u.time.rclkClear.find? k = none ∧
        some u.now = (s.time.rclkClear.find? k).map (fun d => max s.now (d + msCycles)))

/-- R49, R693 to R695, R287: a regulator handshake lets the divisor of a rising change go or ends a falling one; a
handshake that is late ends its change and, in a rising one, restores the former request, whose handshake follows; the
divisor changes to the point's. R697 to R701, R806, R807: a sample shows the hottest site; at 112 °C the block goes
down to LOW and locks there; the surge time fills its buckets of 100 ms, and at 1.0 s SURGE ends; UNLOCK below 100 °C
frees the lock. -/
def Obligations.OperatingPointsAndSurge : Prop :=
  (∀ s : State, s.bootU.asserted = false → s.power.sleep = none → s.powerCmd = none → s.power.ceiling = none →
     (s.power.change.any (fun c => c.step == .ack && c.raising) = true →
       Answers .voltAck s fun t =>
         t.power.change = s.power.change.map (fun c => { c with step := .divisor }) ∧ t.opp = s.opp ∧
           t.power.voltReq = s.power.voltReq) ∧
     (s.power.change.any (fun c => c.step == .ack && !c.raising) = true →
       Answers .voltAck s fun t =>
         t.power.change = none ∧ t.fbit .POWER_STAT 0 fPOWER_STAT_CHANGING = false ∧ t.opp = s.opp) ∧
     (s.power.change.any (fun c => c.step == .ack) = true →
       Answers .vregTimeout s fun t =>
         t.fbit .POWER_EVT 0 fPOWER_EVT_VREG_TIMEOUT = true ∧
         t.power.change = (s.power.change.filter (fun c => c.raising && s.power.voltReq != c.former)).map (fun _ =>
           { target := s.opp, former := s.power.voltReq, raising := false, step := .ack, cmd := false, start := t.now }) ∧
         t.fbit .POWER_STAT 0 fPOWER_STAT_CHANGING = t.power.change.isSome ∧
         some t.now = s.power.change.map (fun c =>
           max s.now (c.start + s.fget .POWER_CFG 0 fPOWER_CFG_VREG_TIMEOUT * usCycles)) ∧
         some t.power.voltReq = s.power.change.map (fun c => if c.raising then c.former else s.power.voltReq)) ∧
     (s.power.change.any (fun c => c.step == .divisor && decide (c.target < 4)) = true →
       Answers .cclkDivisorChange s fun t =>
         t.now = max s.now s.spansEnd ∧ some t.opp = s.power.change.map (·.target) ∧
         some t.power.cclk = s.power.change.map (fun c => oppDiv c.target) ∧
         if s.power.change.any (·.raising) = true then t.power.change = none
         else some t.power.voltReq = s.power.change.map (fun c => oppVolt c.target) ∧
           t.power.change = s.power.change.map (fun c => { c with step := .ack, start := t.now }))) ∧
  (∀ s : State, s.bootU.asserted = false →
     (∀ sites : List (Option Int), sites ≠ [] →
       Answers (.thermSample sites) s fun t =>
         t.fget .POWER_THERM_STAT 0 fPOWER_THERM_STAT_TEMP =
           ofSigned 16 (((sites.zipIdx.map (fun x => siteValue (x.1.map (· + s.siteTrim x.2)))).max?).getD 0) ∧
         (448 ≤ t.temp → t.lockLow = true ∧ t.surgePermit = false ∧
           (s.power.sleep = none → s.power.change = none → s.opp < 3 →
             t.power.change.map (·.target) = some 3 ∧ t.fbit .POWER_STAT 0 fPOWER_STAT_CHANGING = true)) ∧
         (400 ≤ t.temp → s.temp < 448 → t.temp < 448 → t.lockLow = s.lockLow ∧
           (s.power.sleep = none → s.power.change = none → s.opp = 0 →
             t.power.change.map (·.target) = some 1 ∧ t.fbit .POWER_THERM_EVT 0 fPOWER_THERM_EVT_GOV_STEP = true)) ∧
         (t.surgePermit = true → t.temp < 380 ∧ s.surgeUsed < surgeLimit)) ∧
     (s.power.cclk = 3 → s.surgeUsed < surgeLimit → s.power.surgeAt ≤ s.now →
       s.now + (surgeLimit - s.surgeUsed) ≤ s.power.bucketAt + bucketCycles → s.power.sleep = none →
       Answers .surgeTimeLimit s fun t =>
         t.now = s.now + (surgeLimit - s.surgeUsed) ∧ t.surgePermit = false ∧
         (s.power.change = none → s.opp = 0 →
           t.power.surge = s.power.surge ∧ t.power.change.map (·.target) = some 1 ∧
             t.fbit .POWER_THERM_EVT 0 fPOWER_THERM_EVT_GOV_STEP = true)) ∧
     Answers .surgeBucketEnd s (fun t =>
       t.now = max s.now (s.power.bucketAt + bucketCycles) ∧ t.power.bucketAt = t.now ∧ t.power.surgeCur = 0 ∧
       t.power.surge.length = min 99 (s.power.surge.length + 1) ∧ t.power.surge.tail = s.power.surge.take 98) ∧
     (s.serves .POWER_THERM_CTRL 0 = true →
       Answers .thermUnlock s fun t =>
         if s.temp < 400 then t.lockLow = false
         else t.lockLow = s.lockLow ∧ t.fbit .POWER_THERM_EVT 0 fPOWER_THERM_EVT_UNLOCK_REFUSED = true))

/-- R684 to R688, R817: an idle domain named by a DOZE command enters DOZE, unless an access reaches it in that cycle,
until its 10 µs end; a domain that has woken is in RUN and ready, and the last of a wake from SLEEP ends the wake. -/
def Obligations.DozeAndReady : Prop :=
  ∀ (d : Fin 15) (items : List (Bool × List Byte)) (s : State), s.bootU.asserted = false →
    (s.power.doze.any (fun z => z.left.contains d.val && !z.closed) = true → s.dom d = 0 → s.domIdle d = true →
      Answers (.domainDozeEntry d) s fun t =>
        if s.touchedNow d = true then t.dom d = 0 else t.dom d = 1 ∧ t.ready d = false) ∧
    (s.power.doze.isSome = true → s.powerCmd = none →
      Answers .dozeWindowExpiry s fun t =>
        t.power.doze = s.power.doze.map (fun z => { z with closed := true }) ∧
        some t.now = s.power.doze.map (fun z => max s.now (z.since + 10 * usCycles))) ∧
    (s.power.waking.contains d.val = true → d ≠ 12 → d ≠ 13 →
      Effect (.domainReady d items) s fun t =>
        t.dom d = 0 ∧ t.ready d = true ∧ t.power.waking = s.power.waking.filter (· != d.val) ∧
        (s.power.waking = [d.val] → s.power.sleep = none → s.fbit .POWER_STAT 0 fPOWER_STAT_WAKING = true →
          t.fbit .POWER_STAT 0 fPOWER_STAT_WAKING = false ∧ t.fbit .POWER_EVT 0 fPOWER_EVT_WOKE = true)) ∧
    (s.power.waking.contains d.val = false → s.boot = bINIT → s.dom d = 0 → s.ready d = false →
      Effect (.domainReady d items) s fun t => t.ready d = true)

/-- R702 to R706: with no frame in transit a SLEEP entry holds the pads and commits, then powers the domains down with no
operating point requested and, with that handshake, sleeps; a latched source wakes the block. R705, R711 to R713: in
SLEEP the wake timer, and on an armed watch lane a magic frame, a frame that matches a pattern and energy, latch a
wake source where none is latched; a lane's does so too before one of the same cycle that comes after it in code and
port. -/
def Obligations.SleepWakeAndSources : Prop :=
  (∀ s : State, s.bootU.asserted = false →
     (s.power.sleep.any (fun e => e.step == .draining) = true → s.drained = true →
       Answers .sleepPadsHeld s fun t =>
         t.power.sleep = s.power.sleep.map (fun e =>
           { e with step := .committed, pads := s.fget .POWER_PAD 0 fPOWER_PAD_HELD }) ∧
         t.fget .POWER_PAD 0 fPOWER_PAD_HELD = 127 ∧ t.time.ppsOut = false ∧
         t.power.irqHeld = lineMask 16 s.irqLine ∧ t.power.fiqHeld = lineMask 4 s.fiqLine) ∧
     (s.power.sleep.any (fun e => e.step == .answered) = true → s.outst = [] → s.power.change = none →
       s.intcBusy = false →
       Answers .sleepPowerDown s fun t =>
         t.power.sleep = s.power.sleep.map (fun e => { e with step := .settling }) ∧
         t.power.voltReq = 0 ∧ t.time.locked = false ∧ t.power.cclk = 0 ∧
         t.clients = [] ∧ t.groups = [] ∧ t.meters = [] ∧ t.courses = [] ∧ t.rxrs = [] ∧ t.cqs = [] ∧ t.chans = [] ∧
         (List.range 15).all (fun d => d == 0 || d == 1 || t.dom d == 2 || t.dom d == 3) = true ∧
         t.dom 0 = s.dom 0 ∧ t.tables = s.tables) ∧
     (s.power.sleep.any (fun e => e.step == .settling) = true → s.power.change = none →
       Answers .voltAck s fun t =>
         t.power.sleep = s.power.sleep.map (fun e => { e with step := .asleep, since := s.now }) ∧
         t.fget .POWER_STAT 0 fPOWER_STAT_STATE = 2 ∧ t.fbit .POWER_STAT 0 fPOWER_STAT_ENTERING = false) ∧
     (s.power.sleep.any (fun e => e.step == .asleep && e.latched.isSome) = true →
       Answers .sleepWake s fun t =>
         t.power.sleep = s.power.sleep.map (fun e => { e with step := .waking, opp := s.wakeOpp e.opp }) ∧
         some t.power.voltReq = s.power.sleep.map (fun e => oppVolt (s.wakeOpp e.opp)) ∧
         t.fbit .POWER_STAT 0 fPOWER_STAT_WAKING = true ∧
         some (t.fget .POWER_WAKE_CAUSE 0 fPOWER_WAKE_CAUSE_SOURCE) =
           s.power.sleep.map (fun e => (e.latched.map (·.code)).getD 0 % 16)) ∧
     (s.power.sleep.any (fun e => e.step == .waking) = true → s.power.change = none →
       Answers .voltAck s fun t => t.power.sleep = s.power.sleep.map (fun e => { e with step := .locking })) ∧
     (s.power.sleep.any (fun e => e.step == .locking) = true →
       s.power.sleep.all (fun e => decide (e.opp < 4)) = true → s.time.locked = false →
       Effect .ridgePllLock s fun t =>
         t.power.sleep = none ∧ some t.opp = s.power.sleep.map (·.opp) ∧
         some t.power.cclk = s.power.sleep.map (fun e => oppDiv e.opp) ∧
         t.fget .POWER_STAT 0 fPOWER_STAT_STATE = 0 ∧
         t.power.waking = (List.range 15).filter (fun d => s.dom d == 2) ∧
         t.power.waking.all (fun d => d == 1 || (t.dom d == 0 && !t.ready d)) = true)) ∧
  (∀ (p : Fin 16) (b : List Byte) (s : State), s.bootU.asserted = false →
     let first (w : WakeSrc) : Bool :=
       s.power.sleep.all (fun e => e.latched.all (fun v => s.power.wakeAt == s.mclk && w.before v))
     s.power.sleep.any (fun e => e.step == .asleep) = true →
     (s.fbit .POWER_WAKE_EN 0 fPOWER_WAKE_EN_TIMER = true → s.power.sleep.all (fun e => e.latched.isNone) = true →
       Answers .wakeTimerExpiry s fun t =>
         t.power.sleep = s.power.sleep.map (fun e => { e with latched := some { code := 5 } }) ∧
         some t.now = s.power.sleep.map (fun e =>
           max s.now (e.since + s.fget .POWER_WAKE_AFTER 0 fPOWER_WAKE_AFTER_MS * msCycles))) ∧
     (s.dom dWATCH = 0 → s.armed p = true →
       Answers (.watchMagicFrame p b true) s (fun t =>
         if s.fbit .POWER_WATCH_CFG p fPOWER_WATCH_CFG_MAGIC_EN &&
           isMagic (leBytes 6 (s.fget .POWER_WATCH_MAC p fPOWER_WATCH_MAC_MAC)) b && first { code := 6, port := p } then
           t.power.sleep = s.power.sleep.map (fun e => { e with latched := some { code := 6, port := p } })
         else t.power.sleep = s.power.sleep) ∧
       (∀ k : Fin 32, bitOf (s.fget .POWER_WATCH_CFG p fPOWER_WATCH_CFG_PAT_EN) k = true → s.patternHit k b = true →
         (List.range k).all (fun j => !(bitOf (s.fget .POWER_WATCH_CFG p fPOWER_WATCH_CFG_PAT_EN) j && s.patternHit j b))
           = true → first { code := 7, port := p, pattern := k } = true →
         Answers (.watchPatternMatch p b true) s fun t =>
           t.power.sleep = s.power.sleep.map (fun e => { e with latched := some { code := 7, port := p, pattern := k } })) ∧
       (s.fbit .POWER_WATCH_CFG p fPOWER_WATCH_CFG_SIGDET_EN = true → first { code := 8, port := p } = true →
         Answers (.watchSignalDetect p) s fun t =>
           t.power.sleep = s.power.sleep.map (fun e => { e with latched := some { code := 8, port := p } }))))

/-- R690, R691, R708, R710: a write of POWER_FENCE that fences a quad still in use, or frees one fenced by its strap, is
refused whole; a quad fenced is OFF with its course; RELEASE frees the pads of ready domains. R714 to R716: a ligger
frame whose header matches is answered: a command by its check bytes, a read by the stored response; a header that
does not match is no frame of the block's. -/
def Obligations.FencesPadsAndLigger : Prop :=
  (∀ (v : Word) (mask : Fin 128) (s : State),
     (s.serves .POWER_FENCE 0 = true → fPOWER_FENCE_QUAD.get v = fPOWER_FENCE_COURSE.get v →
       Answers (.powerFenceWrite v) s fun t =>
         if (List.range 4).any (fun q =>
             (bitOf (s.fget .POWER_FENCE 0 fPOWER_FENCE_STRAP) q && !bitOf (fPOWER_FENCE_QUAD.get v) q) ||
             (bitOf (fPOWER_FENCE_QUAD.get v) q && !bitOf (s.fget .POWER_FENCE 0 fPOWER_FENCE_QUAD) q && s.fenceBlocked q))
           = true then
           t.rget .POWER_FENCE 0 = s.rget .POWER_FENCE 0 ∧ t.fbit .POWER_EVT 0 fPOWER_EVT_FENCE_REFUSED = true
         else t.fget .POWER_FENCE 0 fPOWER_FENCE_QUAD = fPOWER_FENCE_QUAD.get v ∧
           t.fget .POWER_FENCE 0 fPOWER_FENCE_COURSE = fPOWER_FENCE_QUAD.get v ∧
           (List.range 4).all (fun q => !bitOf (fPOWER_FENCE_QUAD.get v) q ||
             bitOf (s.fget .POWER_FENCE 0 fPOWER_FENCE_QUAD) q || (t.dom (dQUAD q) == 3 && t.dom (dCOURSE q) == 3)) = true) ∧
     (s.serves .POWER_PAD 0 = true →
       Answers (.padRelease mask) s fun t =>
         (List.range 7).all (fun g => bitOf (t.fget .POWER_PAD 0 fPOWER_PAD_HELD) g ==
           (bitOf (s.fget .POWER_PAD 0 fPOWER_PAD_HELD) g &&
             !(bitOf mask g && s.ready (padDom g)))) = true)) ∧
  (∀ (addr : Fin 64) (check : Fin 256) (s : State), s.bootU.asserted = false → s.power.sleep = none →
     s.ligMatch addr = true →
     Answers (.liggerPing addr check) s (fun t =>
       t.fbit .POWER_LIG_EVT 0 fPOWER_LIG_EVT_MATCH = true ∧
       if check.val = (addr * 4 + 1) ^^^ 0x50 ^^^ 0xC3 then t.power.ligOut = [0x0F] ∧ t.power.ligResp = []
       else t.power.ligOut = [0x3C] ∧ t.fbit .POWER_LIG_EVT 0 fPOWER_LIG_EVT_BAD_CMD = true) ∧
     Answers (.liggerStatus addr check) s (fun t =>
       if check.val = (addr * 4 + 1) ^^^ 0x53 ^^^ 0xC3 then t.power.ligOut = [0x0F] ∧ t.power.ligResp = s.ligStatus
       else t.power.ligOut = [0x3C] ∧ t.fbit .POWER_LIG_EVT 0 fPOWER_LIG_EVT_BAD_CMD = true) ∧
     Answers (.liggerHostWake addr check) s (fun t =>
       if check.val = (addr * 4 + 1) ^^^ 0x57 ^^^ 0xC3 then
         t.power.ligOut = [0x0F] ∧ t.fbit .POWER_EVT 0 fPOWER_EVT_NOTICE = true ∧
           t.fbit .POWER_LIG_EVT 0 fPOWER_LIG_EVT_HOST_WAKE = true
       else t.power.ligOut = [0x3C] ∧ t.fbit .POWER_LIG_EVT 0 fPOWER_LIG_EVT_BAD_CMD = true) ∧
     Answers (.liggerRead addr) s fun t =>
       t.power.ligOut = s.power.ligResp ∧ t.power.ligResp = s.power.ligResp ∧
         t.power.ligLine = true :: s.power.ligResp.flatMap (fun b => ligSlot b.toNat) ∧
         t.fbit .POWER_LIG_EVT 0 fPOWER_LIG_EVT_MATCH = true)

/-- R25, R690, R708, R720, R736, R783, R799, R815: the cold reset returns everything to reset; its release samples the
straps, fences what they fence and begins INIT; memory self-test runs only while the cold reset is asserted. R721 to
R724, R732, R736, R741, R744, R749: xspi_rst_n_o rises 50 µs after the release; INIT ends, once the powered domains
are ready and the ridge PLL has locked or the block restarts warm, in SELECT or without a flash in SAFE; SELECT, or
after a re-thatch without RESELECT the copy chosen before, gives the copies to load, and the read of the first one's
records starts 64 bytes after its base; with no copy the block enters SAFE, or CLEAR if only one was read. -/
def Obligations.ColdResetAndBootSelect : Prop :=
  (∀ (fence : Fin 16) (mode : Fin 4) (trim : BitVec 40) (bad : Bool) (s : State),
     Answers .coldReset s (fun t =>
       t = { State.reset with
             pending := s.pending, free := s.free, bootU := { asserted := true }, power := { sleepIn := s.power.sleepIn } }) ∧
     (s.bootU.asserted = true →
       Answers (.coldResetRelease fence mode trim) s (fun t =>
         t.bootU.asserted = false ∧ t.bootU.mode = mode ∧ t.bootU.trim = trim ∧ t.boot = bINIT ∧ t.bootU.mbist = false ∧
         t.bootU.xspiAt = s.now ∧ t.fget .BOOT_XSPI_CFG 0 fBOOT_XSPI_CFG_PROTO = mode ∧
         t.fget .POWER_FENCE 0 fPOWER_FENCE_STRAP = fence ∧ t.fget .POWER_FENCE 0 fPOWER_FENCE_QUAD = fence ∧
         t.fget .POWER_FENCE 0 fPOWER_FENCE_COURSE = fence ∧
         (List.range 4).all (fun q => !bitOf fence q || (t.dom (dQUAD q) == 3 && t.dom (dCOURSE q) == 3 &&
           bitOf (t.fget .POWER_PAD 0 fPOWER_PAD_HELD) (3 + q))) = true) ∧
       Answers .memorySelfTestStart s (fun t =>
         t = { s with bootU := { s.bootU with mbist := true, mbistDone := false, mbistFail := false } }) ∧
       (s.bootU.mbist = true →
         Answers (.memorySelfTestDone bad) s fun t =>
           t = { s with bootU := { s.bootU with mbist := false, mbistDone := true, mbistFail := bad } })) ∧
     (s.bootU.asserted = false →
       exec (.coldResetRelease fence mode trim) s = .next s ∧ exec .memorySelfTestStart s = .next s ∧
       exec (.memorySelfTestDone bad) s = .next s)) ∧
  (∀ (hA mA hB mB : List Byte) (l : List Nat) (s : State), s.bootU.asserted = false →
     (s.bootU.xspiRst = false →
       Answers .xspiResetRelease s fun t =>
         t.bootU.xspiRst = true ∧ t.now = max s.now (s.bootU.xspiAt + 50 * usCycles)) ∧
     (s.bootU.xspiRst = true → Effect .xspiResetRelease s fun u => u = s) ∧
     (s.failed = false → s.boot = bINIT →
       ((s.time.locked = true ∨ s.bootU.warm = true) →
         (List.range 15).all (fun d => s.dom d != 0 || s.ready d) = true →
         Answers .bootInitDone s fun t =>
           if s.bootU.mode = 3 then t.boot = bSAFE ∧ t.fbit .BOOT_EVT 0 fBOOT_EVT_SAFE = true
           else t.boot = bSELECT ∧ t.rget .BOOT_APPLY_ERR 0 = 0 ∧ t.fget .BOOT_CNT 0 fBOOT_CNT_APPLY_ERRS = 0) ∧
       ((s.time.locked = false ∧ s.bootU.warm = false) ∨ (List.range 15).any (fun d => s.dom d == 0 && !s.ready d) = true →
         Effect .bootInitDone s fun u => u = s)) ∧
     (s.failed = false → s.boot = bSELECT →
       l = (if s.bootU.warm && !s.bootU.reselect then
              [s.fget .BOOT_STAT 0 fBOOT_STAT_CHOSEN].filter (fun c => if c = 2 then candidate hB mB else candidate hA mA)
            else tryOrder hA mA hB mB) →
       Answers (.bootSelectDone hA mA hB mB) s fun t =>
         if l = [] then
           t.bootU.load = (if s.bootU.warm && !s.bootU.reselect then s.bootU.load else none) ∧
           t.boot = (if s.bootU.warm && !s.bootU.reselect then bCLEAR else bSAFE)
         else t.boot = bLOAD ∧ t.bootU.load.map (·.copy) = l.head? ∧
           t.bootU.load.map (fun x => x.next.map (·.1)) = some l.tail ∧
           t.fbit (imgReg (l.headD 0)) 0 fBOOT_IMG_A_TRIED = true ∧ t.fbit (imgReg (l.headD 0)) 0 fBOOT_IMG_A_CAND = true ∧
           (s.bootU.mode = 0 →
             (t.bootU.flash.getLast?).map (·.sent) = some (0x0C :: beBytes 4 (copyBase (l.headD 0) + 64)))) ∧
     tryOrder hA mA hB mB =
       (if candidate hA mA = true ∧ candidate hB mB = true then
          (if seqNewer (cb hB 8 4) (cb hA 8 4) then [2, 1] else [1, 2])
        else if candidate hA mA = true then [1] else if candidate hB mB = true then [2] else []))

/-- R728 to R731, R733, R735, R749: LOAD applies a whole item and counts it, a REG32 item by the write that it stands for;
a malformed record fails the copy; a DELAY item's pause ends on time; the CRC decides whether the copy is released.
R733, R734, R740 to R742: CLEAR undoes the failed copy and goes on with the next or to SAFE; boot release, and
HOST_START in SAFE, start RUNNING. -/
def Obligations.ImageLoadsAndReleases : Prop :=
  (∀ (b : List Byte) (n : Nat) (s : State), s.bootU.asserted = false → s.failed = false → s.boot = bLOAD →
     (s.bootU.load.any (fun l => l.delay.isNone && l.left == 0 && decide (l.off + 32 ≤ l.len) && !l.strict) = true →
       (b.length = 16 → cb b 0 2 = 1 → cb b 2 2 = 1 → cb b 4 4 = 8 → cb b 11 1 = 0 →
         regForbidden (cb b 8 3) = false →
         Answers (.bootItemApply ⟨b, n⟩) s fun t =>
           t.fget .BOOT_PROG 0 fBOOT_PROG_ITEMS = (s.fget .BOOT_PROG 0 fBOOT_PROG_ITEMS + 1) % 2 ^ 32 ∧
           t.bootU.load.map (·.off) = s.bootU.load.map (·.off + 16) ∧
           t.bootU.load.map (·.run) = s.bootU.load.map (fun l => crcRun polyC l.run b) ∧
           RegsKept (fun id _ => afterRegs.contains id || [.BOOT_PROG, .BOOT_CNT, .BOOT_EVT, .BOOT_APPLY_ERR].contains id)
             (s.accessAny false true 4 (cb b 8 3) (BitVec.ofNat 64 (cb b 12 4))).2.2.recoverRun t) ∧
       (b.length = 16 → cb b 0 2 = 10 → cb b 2 2 = 1 → cb b 4 4 = 8 → 0 < cb b 8 4 → cb b 8 4 ≤ 100000 → cb b 12 4 = 0 →
         Answers (.bootItemApply ⟨b, n⟩) s fun t =>
           t.bootU.load.map (·.delay) = some (some (s.now + cb b 8 4 * usCycles)) ∧ t.boot = bLOAD) ∧
       (8 ≤ b.length → itemSize (cb b 0 2) = 0 →
         Answers (.bootItemApply ⟨b, n⟩) s fun t =>
           t.boot = bCLEAR ∧ t.fbit .BOOT_EVT 0 fBOOT_EVT_IMG_FAILED = true ∧
           t.fbit (imgReg ((s.bootU.load.map (·.copy)).getD 0)) 0 fBOOT_IMG_A_FAILED = true)) ∧
     (s.bootU.load.any (·.delay.isSome) = true →
       Answers .bootDelayExpiry s fun t =>
         t.bootU.load = s.bootU.load.map (fun l => { l with delay := none }) ∧
         some t.now = s.bootU.load.map (fun l => max s.now (l.delay.getD 0))) ∧
     (s.bootU.load.any (fun l => l.delay.isNone && l.left == 0 && l.off == l.len - 16) = true → s.bootU.releasing = false →
       Answers .bootLoadEnd s fun t =>
         if s.bootU.load.all (fun l => l.run ^^^ 0xFFFFFFFF == l.crc) = true then
           t.bootU.releasing = true ∧ t.boot = bLOAD ∧
             (s.power.change = none → s.bootU.load.any (fun l => l.opp.any (fun o => o != s.opp && !s.oppDenied o)) = true →
               some (t.power.change.map (·.target)) = s.bootU.load.map (·.opp))
         else t.boot = bCLEAR ∧ t.bootU.releasing = false)) ∧
  (∀ s : State,
     (s.bootU.asserted = false → s.failed = false → s.boot = bCLEAR →
       Answers .bootClearDone s fun t =>
         t.rxrs = [] ∧ t.cqs = [] ∧ t.clients = [] ∧ t.groups = [] ∧ t.meters = [] ∧ t.tables = [] ∧
         if s.bootU.load.all (·.next.isEmpty) = true then
           t.boot = bSAFE ∧ t.bootU.load = none ∧ t.fbit .BOOT_EVT 0 fBOOT_EVT_SAFE = true
         else t.boot = bLOAD ∧ t.bootU.load.map (·.copy) = (s.bootU.load.bind (·.next.head?)).map (·.1)) ∧
     (s.bootU.asserted = false → s.failed = false → s.bootU.releasing = true → s.bootU.load.isSome = true →
       s.power.change.all (!·.boot) = true →
       s.bootU.load.all (fun l => l.opp.all (fun o => s.power.change.isNone && (o == s.opp || s.oppDenied o))) = true →
       Answers .bootRelease s fun t =>
         t.boot = bRUNNING ∧ t.bootU.load = none ∧ t.bootU.releasing = false ∧
         some (t.fget .BOOT_STAT 0 fBOOT_STAT_CHOSEN) = s.bootU.load.map (·.copy % 4) ∧
         t.fbit .BOOT_EVT 0 fBOOT_EVT_DONE = true ∧
         t.fget .BOOT_CNT 0 fBOOT_CNT_BOOTS = min 65535 (s.fget .BOOT_CNT 0 fBOOT_CNT_BOOTS + 1)) ∧
     (s.bootU.asserted = false → s.failed = false → s.bootU.releasing = true → s.power.change = none →
       s.bootU.load.any (fun l => l.opp.any (fun o => o != s.opp && !s.oppDenied o)) = true →
       Answers .bootRelease s fun t =>
         t.power.change.map (·.target) = s.bootU.load.bind (·.opp) ∧ t.boot = s.boot ∧ t.bootU.releasing = true) ∧
     (s.serves .BOOT_CTRL 0 = true → s.boot = bSAFE →
       Answers .bootHostStart s fun t =>
         t.boot = bRUNNING ∧ t.fget .BOOT_STAT 0 fBOOT_STAT_CHOSEN = 0 ∧ t.fbit .BOOT_EVT 0 fBOOT_EVT_DONE = true ∧
         t.fget .BOOT_CNT 0 fBOOT_CNT_BOOTS = min 65535 (s.fget .BOOT_CNT 0 fBOOT_CNT_BOOTS + 1)))

/-- R596, R743 to R746, R748: a re-thatch with its KEY quiesces the block, and once nothing is outstanding INIT clears
fail-stop and frame handling; a window transaction drives its bytes and ends with the flash's data. -/
def Obligations.RethatchAndFlashWindow : Prop :=
  ∀ (v : BitVec 32) (b : List Byte) (s : State),
    (s.serves .GEN_RESET 0 = true → s.dom dHOSTIF = 0 → s.bootU.xspiBusy = false → s.power.sleep = none →
      Answers .rethatchRequest s fun t => t.boot = bQUIESCE ∧ t.bootU.warm = true ∧ t.failed = s.failed) ∧
    (s.bootU.asserted = false → s.boot = bQUIESCE → s.outst = [] → s.sealU.tx.all (·.ended) = true →
      s.sealU.rx.all (·.ended) = true →
      Answers .quiesceDone s fun t =>
        t.boot = bINIT ∧ t.fbit .BOOT_STAT 0 fBOOT_STAT_WARM = true ∧ t.failed = false ∧ t.rxrs = [] ∧ t.cqs = [] ∧
        t.clients = [] ∧ t.groups = [] ∧ t.tables = [] ∧ t.courses = [] ∧ t.now = s.now ∧
        t.fget .BOOT_XSPI_CFG 0 fBOOT_XSPI_CFG_PROTO = s.bootU.mode % 4 ∧
        (List.range 16).all (fun p => s.fget .PORT_MODE p fPORT_MODE_MODE != 0 || t.fget .PORT_MODE p fPORT_MODE_MODE == 3)
          = true) ∧
    (s.serves .BOOT_XSPI_CMD 0 = true → s.fbit .BOOT_XSPI_CMD 0 fBOOT_XSPI_CMD_BUSY = false →
      Answers (.xspiWindowTransaction v) s fun t =>
        t.fbit .BOOT_XSPI_CMD 0 fBOOT_XSPI_CMD_BUSY = true ∧ t.bootU.xspiBusy = true ∧
        t.fget .BOOT_XSPI_CMD 0 fBOOT_XSPI_CMD_OPCODE = fBOOT_XSPI_CMD_OPCODE.get (v.setWidth 64) ∧
        (s.fget .BOOT_XSPI_CFG 0 fBOOT_XSPI_CFG_PROTO ≠ 2 →
          fBOOT_XSPI_CMD_ADDR_EN.get (v.setWidth 64) = 1 → fBOOT_XSPI_CMD_DATA_EN.get (v.setWidth 64) = 0 →
          t.bootU.xspiOut = leBytes 1 (fBOOT_XSPI_CMD_OPCODE.get (v.setWidth 64)) ++
            beBytes 4 (s.fget .BOOT_XSPI_ADDR 0 fBOOT_XSPI_ADDR_ADDR))) ∧
    (s.bootU.asserted = false → s.bootU.xspiBusy = true → s.bootU.rethatchWait = false → 8 ≤ b.length →
      Answers (.xspiWindowDone b) s fun t =>
        t.bootU.xspiBusy = false ∧ t.fbit .BOOT_XSPI_CMD 0 fBOOT_XSPI_CMD_BUSY = false ∧
        if s.fget .BOOT_XSPI_CMD 0 fBOOT_XSPI_CMD_DATA_EN = 1 ∧ s.fget .BOOT_XSPI_CMD 0 fBOOT_XSPI_CMD_DIR = 0 then
          7 ≤ s.fget .BOOT_XSPI_CMD 0 fBOOT_XSPI_CMD_LEN →
            t.rget .BOOT_XSPI_DATA 0 = BitVec.ofNat 64 (leNat (b.take 8))
        else t.rget .BOOT_XSPI_DATA 0 = s.rget .BOOT_XSPI_DATA 0)

/-- R649, R652 to R655, R670: a changed source shows in LEVEL and, enabled, arrives at its vector; a write that enables an
asserted LEVEL source makes it arrive; an idle vector counts an arrival and moderates or becomes PENDING; HOST_SLEEP
shows the pin, and a core that goes to sleep flushes. R654 to R656: a moderation timer that expires makes a MODERATING
vector PENDING; a write of INTC_VEC takes its fields and leaves the vector's state to moderation. -/
def Obligations.ArrivalsAndModeration : Prop :=
  (∀ (q : Fin 4352) (v : Word) (n : Fin 64) (s : State), s.bootU.asserted = false → s.power.sleep = none →
     (s.dom dHOSTIF = 0 →
       Answers (.intcSourceChange q) s fun t =>
         t.fbit .INTC_SRC q fINTC_SRC_LEVEL = s.srcSignal q ∧
         (4096 ≤ q.val → s.srcSignal q ≠ s.fbit .INTC_SRC q fINTC_SRC_LEVEL → s.fbit .INTC_SRC q fINTC_SRC_EN = true →
           senses (s.fget .INTC_SRC q fINTC_SRC_SENSE) (s.srcSignal q) = true →
           s.fbit .INTC_SRC q fINTC_SRC_FAST = false →
           s.fget .INTC_VEC (s.fget .INTC_SRC q fINTC_SRC_VECTOR) fINTC_VEC_STATE = 0 →
           t.fget .INTC_VEC (s.fget .INTC_SRC q fINTC_SRC_VECTOR) fINTC_VEC_COUNT = 1 ∧
           t.fget .INTC_VEC (s.fget .INTC_SRC q fINTC_SRC_VECTOR) fINTC_VEC_STATE =
             if s.fget .INTC_VEC (s.fget .INTC_SRC q fINTC_SRC_VECTOR) fINTC_VEC_MOD_COUNT ≤ 1 ∨
               s.fget .INTC_VEC (s.fget .INTC_SRC q fINTC_SRC_VECTOR) fINTC_VEC_MOD_TIMER = 0 ∨
               s.flushed (s.fget .INTC_SRC q fINTC_SRC_VECTOR) = true then 2 else 1)) ∧
     (s.serves .INTC_SRC q = true → fINTC_SRC_FAST.get v = 0 →
       Answers (.intcSrcWrite q v) s fun t =>
         t.fget .INTC_SRC q fINTC_SRC_VECTOR = fINTC_SRC_VECTOR.get v ∧
         t.fget .INTC_SRC q fINTC_SRC_EN = fINTC_SRC_EN.get v ∧
         t.fget .INTC_SRC q fINTC_SRC_SENSE = fINTC_SRC_SENSE.get v ∧
         t.fbit .INTC_SRC q fINTC_SRC_LEVEL = s.fbit .INTC_SRC q fINTC_SRC_LEVEL ∧
         (fINTC_SRC_EN.get v = 1 → fINTC_SRC_SENSE.get v = 0 → s.fbit .INTC_SRC q fINTC_SRC_LEVEL = true →
           s.fbit .INTC_SRC q fINTC_SRC_EN = false → s.fget .INTC_VEC (fINTC_SRC_VECTOR.get v) fINTC_VEC_STATE = 0 →
           t.fget .INTC_VEC (fINTC_SRC_VECTOR.get v) fINTC_VEC_COUNT = 1)) ∧
     (∀ w : Bool, Answers (.hostSleepChange n w) s fun t =>
       fINTC_CORE_STAT_HOST_SLEEP.get (t.view .INTC_CORE_STAT n) = (if w then 1 else 0) ∧
       (s.vecsOf n 1).all (fun e =>
         t.fget .INTC_VEC e.1 fINTC_VEC_STATE == if w && fINTC_VEC_SLEEP_FLUSH.get e.2 == 1 then 2 else 1) = true)) ∧
  (∀ (v : Fin 4096) (w : Word) (s : State), s.bootU.asserted = false → s.power.sleep = none →
     ((s.timer v).tick.isSome = true →
       Answers (.intcModTimerExpiry v) s fun t =>
         some t.now = (s.timer v).tick.map (fun k => max s.now (k * 1250)) ∧
         t.fbit .INTC_VEC v fINTC_VEC_TIMING = false ∧
         t.fget .INTC_VEC v fINTC_VEC_STATE =
           if s.fget .INTC_VEC v fINTC_VEC_STATE = 1 then 2 else s.fget .INTC_VEC v fINTC_VEC_STATE) ∧
     (s.serves .INTC_VEC v = true → 1 ≤ fINTC_VEC_MOD_COUNT.get w → s.fget .INTC_VEC v fINTC_VEC_STATE ≠ 3 →
       Answers (.intcVecWrite v w) s fun t =>
         t.fget .INTC_VEC v fINTC_VEC_PRIO = fINTC_VEC_PRIO.get w ∧ t.fget .INTC_VEC v fINTC_VEC_CORE = fINTC_VEC_CORE.get w ∧
         t.fget .INTC_VEC v fINTC_VEC_MOD_COUNT = fINTC_VEC_MOD_COUNT.get w ∧
         t.fget .INTC_VEC v fINTC_VEC_COUNT = s.fget .INTC_VEC v fINTC_VEC_COUNT ∧
         (s.fget .INTC_VEC v fINTC_VEC_STATE ≠ 1 → t.fget .INTC_VEC v fINTC_VEC_STATE = s.fget .INTC_VEC v fINTC_VEC_STATE) ∧
         (s.fget .INTC_VEC v fINTC_VEC_STATE = 1 → fINTC_VEC_MOD_COUNT.get w ≤ s.fget .INTC_VEC v fINTC_VEC_COUNT →
           t.fget .INTC_VEC v fINTC_VEC_STATE = 2)))

/-- R659: a claim takes an eligible pending vector of its core of the greatest PRIO, and of those the lowest number. R659,
R661, R664 to R666, R672: claims answer with a vector and make it ACTIVE, ends of interrupt end it or show EOI_ERR,
and the message writer sends the message due and counts its response. -/
def Obligations.ClaimsAndMessages : Prop :=
  (∀ (s : State) (n : Nat) (e : Nat × Word), s.bestVec n = some e →
     e ∈ s.vecsOf n 2 ∧ s.eligible n e.2 = true ∧
     ∀ x ∈ s.vecsOf n 2, s.eligible n x.2 = true →
       fINTC_VEC_PRIO.get x.2 < fINTC_VEC_PRIO.get e.2 ∨
         (fINTC_VEC_PRIO.get x.2 = fINTC_VEC_PRIO.get e.2 ∧ e.1 ≤ x.1)) ∧
  (∀ (n : Fin 64) (k : Nat) (v : BitVec 32) (tag : Fin 1024) (a : Resp) (s : State),
     (s.serves .INTC_CLAIM n = true →
       Answers (.intcClaim n) s fun t =>
         if (s.bestVec n).isSome = true then
           t.ctResp = (s.bestVec n).map (fun e =>
             { err := false, data := BitVec.ofNat 64 (2 ^ 31 + fINTC_VEC_PRIO.get e.2 * 65536 + e.1) }) ∧
           (s.bestVec n).all (fun e => t.fget .INTC_VEC e.1 fINTC_VEC_STATE == 3 &&
             t.fget .INTC_VEC e.1 fINTC_VEC_COUNT == 0) = true
         else t.ctResp = some { err := false, data := 0 }) ∧
     (s.serves .INTC_EOI n = true → k = fINTC_EOI_VECTOR.get (v.setWidth 64) →
       Answers (.intcEoi n v) s fun t =>
         if s.fget .INTC_VEC k fINTC_VEC_STATE = 3 ∧ s.fget .INTC_VEC k fINTC_VEC_CORE = n then
           s.rearrivals false k = 0 → s.fget .INTC_VEC k fINTC_VEC_COUNT = 0 → t.fget .INTC_VEC k fINTC_VEC_STATE = 0
         else t.fget .INTC_VEC k fINTC_VEC_STATE = s.fget .INTC_VEC k fINTC_VEC_STATE ∧
           t.fbit .INTC_CORE_STAT n fINTC_CORE_STAT_EOI_ERR = true) ∧
     (s.serves .INTC_FCLAIM n = true →
       Answers (.intcFclaim n) s fun t =>
         if (s.bestFast n).isSome = true then
           t.ctResp = (s.bestFast n).map (fun x => { err := false, data := BitVec.ofNat 64 (2 ^ 31 + x) }) ∧
           (s.bestFast n).all (fun x => t.fget .INTC_FVEC x fINTC_FVEC_STATE == 3) = true
         else t.ctResp = some { err := false, data := 0 }) ∧
     (s.serves .INTC_FEOI n = true → k = fINTC_FEOI_VECTOR.get (v.setWidth 64) →
       Answers (.intcFeoi n v) s fun t =>
         if s.fget .INTC_FVEC k fINTC_FVEC_STATE = 3 ∧ s.fget .INTC_FVEC k fINTC_FVEC_CORE = n then
           t.fbit .INTC_FVEC k fINTC_FVEC_REPEND = false ∧
           t.fget .INTC_FVEC k fINTC_FVEC_STATE =
             if s.fbit .INTC_FVEC k fINTC_FVEC_REPEND = true ∨ 0 < s.rearrivals true k then 2 else 0
         else t.fbit .INTC_FSTAT n fINTC_FSTAT_EOI_ERR = true) ∧
     (s.bootU.asserted = false → s.nextMessage.isSome = true → s.mayIssue = true → s.tagFree 0 tag = true →
       Answers (.intcMessageSend tag) s fun t =>
         t.outst = s.outst ++ (s.nextMessage.map (fun m =>
           { port := 0, tag := tag, req := s.messageReq m.1 m.2.1 m.2.2 : Outstanding })).toList ∧
         s.nextMessage.all (fun m =>
           (if m.1 then t.fget .INTC_FVEC m.2.2 fINTC_FVEC_STATE else t.fget .INTC_VEC m.2.2 fINTC_VEC_STATE) == 3) = true) ∧
     (s.bootU.asserted = false →
       (s.answered a (fun | .intcMsg _ _ => true | _ => false)).any (·.write) = true →
       Answers (.intcMessageWriteDone a) s fun t =>
         t.fget .INTC_MSG_CNT 0 fINTC_MSG_CNT_SENT = min (2 ^ 32 - 1) (s.fget .INTC_MSG_CNT 0 fINTC_MSG_CNT_SENT + 1) ∧
         t.outst = s.outst.filter (fun o => !(o.port == a.port.val && o.tag == a.tag.val))))

/-- R631: a written EN waits until no frame is outstanding on a transmit path, and then takes effect. R621, R625 to R627,
R630, R638: responses of the engine are taken in order and counted, a wrong identifier and a received frame that is
late stop the block, and a frame's response is released to its MAC TX_DELAY on. R17, R627, R629, R640 to R642: a
key-erase alarm makes its slot invalid and holds its port, the sweep ends the hold, and the window reads and writes a
leaf's binding. -/
def Obligations.SealPortRules : Prop :=
  (∀ (en : Bool) (s : State),
     (s.serves .SEAL_CFG 0 = true → 8 ≤ s.fget .SEAL_CFG 0 fSEAL_CFG_TX_DELAY → s.fget .SEAL_CFG 0 fSEAL_CFG_TX_DELAY ≤ 96 →
       64 ≤ s.fget .SEAL_CFG 0 fSEAL_CFG_RX_MAX →
       Answers (.sealEnWrite en) s fun t =>
         t.sealU.enNext = (if en = s.sealEn then none else some en) ∧ t.rget .SEAL_CFG 0 = s.rget .SEAL_CFG 0) ∧
     (s.bootU.asserted = false → s.sealU.enNext.isSome = true →
       Answers .sealEnApply s fun t =>
         if s.sealU.tx.all (·.ended) = true then s.sealU.enNext = some t.sealEn ∧ t.sealU.enNext = none
         else t.sealEn = s.sealEn ∧ t.sealU.enNext = s.sealU.enNext)) ∧
  (∀ (ch : Fin 4) (x : SealResp) (o : SealOut) (s : State), s.bootU.asserted = false → s.failed = false →
     o.chan = ch.val →
     (s.sealU.tx = [o] → o.waits = true → o.susp = [] → o.back = 0 →
       (x.fid.val = o.fid → x.sof = true → x.eof = true → x.susp = false → x.resume = false → x.status = 0 →
         x.late = false → x.cpar = false →
         Answers (.sealTxResponse ch x) s fun t =>
           t.sealU.tx = (if o.tx.isSome then [o.take x] else []) ∧
           (o.bypass = false → o.status = 0 → s.portUsed o.port = true →
             t.fget .SEAL_PORT_CNT o.port fSEAL_PORT_CNT_TX_PROT =
               min (2 ^ 32 - 1) (s.fget .SEAL_PORT_CNT o.port fSEAL_PORT_CNT_TX_PROT + 1))) ∧
       (x.fid.val ≠ o.fid →
         Answers (.sealTxResponse ch x) s fun t =>
           t.failed = true ∧ t.fget .GEN_FAULT_STAT 0 fGEN_FAULT_STAT_CAUSE = 4)) ∧
     (s.sealU.tx = [o] → o.susp = [] → o.back = 1 → o.released = 0 → o.paused = false → o.status = 0 →
       o.cut = none → o.ended = true → o.times.length = 1 → o.ends = [o.out.length] → o.tx.isSome = true →
       s.portUp o.port = true →
       (s.mac o.port).cur = none →
       Effect (.sealTxRelease ch) s fun u =>
         u.sealU.tx = [] ∧ u.now = max s.now (o.dueFrom + s.fget .SEAL_CFG 0 fSEAL_CFG_TX_DELAY * s.power.cclk) ∧
         (u.mac o.port).cur = o.tx.map (fun c => { c with pkt := { c.pkt with bytes := o.out } })) ∧
     (s.sealU.rx = [o] → o.ended = false → o.rx.any (fun f => !f.trunc) = true → x.fid.val = o.fid → x.sof = true →
       x.eof = true → x.susp = false → x.resume = false → x.late = false → x.cpar = false → x.status = 0 →
       Answers (.sealRxResponse ch x) s fun t =>
         t.sealU.rx = [] ∧
         o.rx.all (fun f => !s.portUsed f.port || t.fget .SEAL_PORT_CNT f.port fSEAL_PORT_CNT_RX_PROT ==
           min (2 ^ 32 - 1) (s.fget .SEAL_PORT_CNT f.port fSEAL_PORT_CNT_RX_PROT + 1)) = true) ∧
     (s.sealU.rx = [o] → o.ended = false →
       Answers (.sealRxTimeout ch) s fun t =>
         t.failed = true ∧ t.fget .GEN_FAULT_STAT 0 fGEN_FAULT_STAT_CAUSE = 4 ∧
         t.now = max s.now (o.times.headD 0 + (s.fget .SEAL_CFG 0 fSEAL_CFG_RX_MAX + 1) * s.power.cclk))) ∧
  (∀ (p : Fin 16) (slot : Fin 4096) (s : State), s.bootU.asserted = false →
     (s.sealEn = true →
       Answers (.sealAlarm p slot false) s fun t =>
         t.fbit .SEAL_SLOT slot fSEAL_SLOT_VALID = false ∧ t.fget .SEAL_ALARM_LOG 0 fSEAL_ALARM_LOG_PORT = p.val ∧
         t.fget .SEAL_ALARM_LOG 0 fSEAL_ALARM_LOG_SLOT = slot.val ∧ t.fbit .SEAL_EVT 0 fSEAL_EVT_ALARM = true ∧
         t.fbit .SEAL_PORT_STAT p fSEAL_PORT_STAT_HOLD = true ∧ t.sealU.sweep = t.heldPorts ∧
         t.heldPorts = (List.range 16).filter (fun q => q == p.val || s.heldPorts.contains q)) ∧
     (s.sealEn = true → s.failed = false →
       Answers (.sealAlarm p slot true) s fun t =>
         t.failed = true ∧ t.fget .GEN_FAULT_STAT 0 fGEN_FAULT_STAT_CAUSE = 4) ∧
     (s.sealU.sweep ≠ [] → s.sealU.sweep.all (fun q => decide (q < 16)) = true →
       Answers .sealHoldSweepEnd s fun t =>
         t.sealU.sweep = [] ∧ t.fbit .SEAL_EVT 0 fSEAL_EVT_HOLD_DONE = true ∧
         t.now = max s.now (s.sealU.sweepAt + 16384 * s.power.cclk) ∧
         s.sealU.sweep.all (fun q => !t.fbit .SEAL_PORT_STAT q fSEAL_PORT_STAT_HOLD) = true) ∧
     (s.fbit .SEAL_BIND_CMD 0 fSEAL_BIND_CMD_BUSY = true → s.fget .SEAL_BIND_CMD 0 fSEAL_BIND_CMD_OP = 0 →
       Answers .sealBindRead s fun t =>
         t.rget .SEAL_BIND_DATA 0 = BitVec.ofNat 64 (s.bind (s.fget .SEAL_BIND_ADDR 0 fSEAL_BIND_ADDR_LEAF)) ∧
         t.fbit .SEAL_BIND_CMD 0 fSEAL_BIND_CMD_BUSY = false) ∧
     (s.fbit .SEAL_BIND_CMD 0 fSEAL_BIND_CMD_BUSY = true → s.fget .SEAL_BIND_CMD 0 fSEAL_BIND_CMD_OP = 1 →
       Answers .sealBindWrite s fun t =>
         t.fbit .SEAL_BIND_CMD 0 fSEAL_BIND_CMD_BUSY = false ∧
         if s.sealU.sweep = [] then
           if s.fbit .SEAL_BIND_DATA 0 fSEAL_BIND_DATA_HELD = true then
             t.fbit .GEN_ACC_ERR 0 fGEN_ACC_ERR_RSVD_ENC = true ∧
             t.bind (s.fget .SEAL_BIND_ADDR 0 fSEAL_BIND_ADDR_LEAF) =
               (s.rget .SEAL_BIND_DATA 0).toNat % 2 ^ 14 - 2 +
                 2 * (bitOf (s.bind (s.fget .SEAL_BIND_ADDR 0 fSEAL_BIND_ADDR_LEAF)) 1).toNat
           else t.bind (s.fget .SEAL_BIND_ADDR 0 fSEAL_BIND_ADDR_LEAF) = (s.rget .SEAL_BIND_DATA 0).toNat % 2 ^ 14
         else t.fbit .SEAL_EVT 0 fSEAL_EVT_BIND_REFUSED = true ∧ t.sealU.binds = s.sealU.binds))

/-- R610, R611, R613, R614: START of an OFF channel begins its chain where its settings are good and is refused otherwise,
STOP leads to OFF once no tag is outstanding, and RING counts an append. R602 to R604, R607, R609, R612, R613, R615: a
returned descriptor starts or halts its channel, data and write responses advance it, and a descriptor that is
complete counts and goes on to the next or to AT_END. R605: in a circular buffer of a power of two bytes every byte of
a transfer lies inside the buffer that its first byte lies in, and bytes a whole buffer apart coincide. -/
def Obligations.GeneralChannelsRun : Prop :=
  (∀ (k : Fin 64) (s : State),
     (s.serves .DMA_CHAN_CTRL k = true →
       Answers (.dmaChanStart k) s (fun t =>
         if s.chanState k = cOFF ∧ s.fget .DMA_CHAN_HEAD k fDMA_CHAN_HEAD_ADDR % 32 = 0 ∧
             (s.fbit .DMA_CHAN_CFG k fDMA_CHAN_CFG_DONE_WB = true →
               s.fget .DMA_CHAN_DONE_ADDR k fDMA_CHAN_DONE_ADDR_ADDR % 8 = 0) then
           t.chanState k = cRUNNING ∧ (t.chan k).fetch = some false ∧
           (t.chan k).cur = s.fget .DMA_CHAN_HEAD k fDMA_CHAN_HEAD_ADDR ∧
           t.fget .DMA_CHAN_CUR k fDMA_CHAN_CUR_ADDR = s.fget .DMA_CHAN_HEAD k fDMA_CHAN_HEAD_ADDR
         else t.fbit .DMA_CHAN_EVT k fDMA_CHAN_EVT_CFG_REFUSED = true ∧ t.chanState k = s.chanState k) ∧
       Answers (.dmaChanStop k) s (fun t =>
         t.chanState k = if s.chanState k = cRUNNING ∨ s.chanState k = cATEND then cSTOPPING else s.chanState k)) ∧
     (s.serves .DMA_CHAN_APPEND k = true →
       Answers (.dmaChanAppend k) s fun t =>
         t.fget .DMA_CHAN_APPCNT k fDMA_CHAN_APPCNT_COUNT =
           (s.fget .DMA_CHAN_APPCNT k fDMA_CHAN_APPCNT_COUNT + 1) % 2 ^ fDMA_CHAN_APPCNT_COUNT.w ∧
         (s.chanState k = cATEND → (t.chan k).fetch = some true)) ∧
     (s.bootU.asserted = false → s.chanTags k = 0 →
       (s.chanState k = cSTOPPING ∨ (s.chanState k = cHALTED ∧ (s.chan k).stop = true)) →
       Answers (.dmaChanStopped k) s fun t => t.chanState k = cOFF ∧ (t.chan k).active = false)) ∧
  (∀ (k : Fin 64) (off : Nat) (desc : DescRef) (a : Resp) (s : State),
     (s.goodResp a (.dmaDesc k false) = true → s.chanState k = cSTOPPING → s.descBad k a.data = true →
       Answers (.dmaDescReadDone a) s fun t =>
         t.outst = s.completed a ∧ t.chanState k = cHALTED ∧ t.fget .DMA_CHAN_STAT k fDMA_CHAN_STAT_ERR = 2) ∧
     (s.goodResp a (.dmaDesc k false) = true → s.chanState k = cRUNNING →
       Answers (.dmaDescReadDone a) s fun t =>
         t.outst = s.completed a ∧
         if s.descBad k a.data = true then
           t.chanState k = cHALTED ∧ t.fget .DMA_CHAN_STAT k fDMA_CHAN_STAT_ERR = 2 ∧
             t.fbit .DMA_CHAN_EVT k fDMA_CHAN_EVT_HALT = true
         else (t.chan k).active = true ∧ (t.chan k).src = cb a.data 0 8 ∧ (t.chan k).dst = cb a.data 8 8 ∧
           (t.chan k).len = cb a.data 16 4 ∧ (t.chan k).rdOff = 0 ∧ (t.chan k).wrOff = 0) ∧
     (s.goodResp a (.dmaRead k off) = true →
       Answers (.dmaDataReadDone a) s fun t =>
         t.outst = s.completed a ∧ (t.chan k).got = (s.chan k).got ++ [(off, a.data)] ∧
         (t.chan k).reads = (s.chan k).reads - 1) ∧
     (s.goodResp a (.dmaWrite k desc) = true →
       Answers (.dmaDataWriteDone a) s fun t =>
         t.outst = s.completed a ∧ (t.chan k).writes = (s.chan k).writes - 1 ∧
         t.fget .DMA_CHAN_BYTES k fDMA_CHAN_BYTES_BYTES = min (2 ^ 48 - 1)
           (s.fget .DMA_CHAN_BYTES k fDMA_CHAN_BYTES_BYTES + ((s.asked a).map (·.len)).getD 0)) ∧
     (s.goodResp a (.dmaWb k desc) = true →
       Answers (.dmaWritebackDone a) s fun t =>
         t.outst = s.completed a ∧ t.fbit .DMA_CHAN_EVT k fDMA_CHAN_EVT_DESC_DONE = true) ∧
     (s.bootU.asserted = false → s.failed = false → s.chanDone k = true →
       Answers (.dmaDescComplete k) s fun t =>
         t.fget .DMA_CHAN_DONE_CNT k fDMA_CHAN_DONE_CNT_COUNT =
           (s.fget .DMA_CHAN_DONE_CNT k fDMA_CHAN_DONE_CNT_COUNT + 1) % 2 ^ fDMA_CHAN_DONE_CNT_COUNT.w ∧
         (t.chan k).active = false ∧
         if linkEoc (s.chan k).link = false then
           (t.chan k).fetch = some false ∧ (t.chan k).cur = linkNext (s.chan k).link ∧ t.chanState k = cRUNNING
         else if (s.chan k).sample = s.fget .DMA_CHAN_APPCNT k fDMA_CHAN_APPCNT_COUNT then
           t.chanState k = cATEND ∧ t.fbit .DMA_CHAN_EVT k fDMA_CHAN_EVT_AT_END = true
         else (t.chan k).fetch = some true)) ∧
  (∀ log a i : Nat,
     circAddr true log a i / 2 ^ log = a / 2 ^ log ∧ circAddr true log a (i + 2 ^ log) = circAddr true log a i ∧
       circAddr true log a i % 2 ^ log = (a + i) % 2 ^ log)

/-- R350, R351, R356, R371, R372, R383 to R386, R388: the window's edits. With a table that is configured and not being
rehashed, in STEADY or OPEN, and a good record, SEARCH and READ return the record found, INSERT, DELETE and UPDATE
make their edit in the pending generation, and BUSY clears. -/
def Obligations.WindowEdits : Prop :=
  ∀ (tab : Fin 4) (l : Nat) (s : State), s.bootU.asserted = false → s.fbit .TABLE_WIN_CMD 0 fTABLE_WIN_CMD_BUSY = true →
    s.fget .TABLE_WIN_ADDR 0 fTABLE_WIN_ADDR_TABLE = tab → s.tabSize tab ≠ 0 → s.hstate tab ≠ 1 → s.genState < 2 →
    s.keyBad tab s.tableWinRec false = false →
    (s.fget .TABLE_WIN_CMD 0 fTABLE_WIN_CMD_OP = 0 → s.fbit .TABLE_WIN_CMD 0 fTABLE_WIN_CMD_GEN_SEL = false →
      Effect .tableSearch s fun u =>
        u.fbit .TABLE_WIN_CMD 0 fTABLE_WIN_CMD_BUSY = false ∧ u.tables = s.tables ∧
        if s.findKey tab s.genCurrent (entryOf s.tableWinRec).profile (entryOf s.tableWinRec).keyLen
            (entryOf s.tableWinRec).key = some l then
          u.fget .TABLE_WIN_STAT 0 fTABLE_WIN_STAT_RESULT = eOK ∧
          (List.range 8).all (fun i => u.rget .TABLE_WIN_DATA i == wordAt (s.entry tab l).record i) = true
        else s.findKey tab s.genCurrent (entryOf s.tableWinRec).profile (entryOf s.tableWinRec).keyLen
            (entryOf s.tableWinRec).key = none → u.fget .TABLE_WIN_STAT 0 fTABLE_WIN_STAT_RESULT = eNOT_FOUND) ∧
    (s.fget .TABLE_WIN_CMD 0 fTABLE_WIN_CMD_OP = 1 → actionBad (entryOf s.tableWinRec).action = false →
      s.findKey tab s.genOther (entryOf s.tableWinRec).profile (entryOf s.tableWinRec).keyLen
        (entryOf s.tableWinRec).key = none →
      Effect .tableInsert s fun u =>
        u.fbit .TABLE_WIN_CMD 0 fTABLE_WIN_CMD_BUSY = false ∧ u.genState = gOPEN ∧ u.genOther = s.genOther ∧
        if (s.insertPath tab (entryOf s.tableWinRec).profile (entryOf s.tableWinRec).keyLen
            (entryOf s.tableWinRec).key).isSome = true then
          u.fget .TABLE_WIN_STAT 0 fTABLE_WIN_STAT_RESULT = eOK ∧
          (u.findKey tab s.genOther (entryOf s.tableWinRec).profile (entryOf s.tableWinRec).keyLen
            (entryOf s.tableWinRec).key).isSome = true
        else u.fget .TABLE_WIN_STAT 0 fTABLE_WIN_STAT_RESULT = eFULL ∧ u.tables = s.tables ∧
          u.fbit .TABLE_GEN_EVT 0 fTABLE_GEN_EVT_INSERT_FULL = true) ∧
    (s.findKey tab s.genOther (entryOf s.tableWinRec).profile (entryOf s.tableWinRec).keyLen
        (entryOf s.tableWinRec).key = some l →
      (s.fget .TABLE_WIN_CMD 0 fTABLE_WIN_CMD_OP = 1 → actionBad (entryOf s.tableWinRec).action = false →
        Effect .tableInsert s fun u =>
          u.fget .TABLE_WIN_STAT 0 fTABLE_WIN_STAT_RESULT = eEXISTS ∧ u.tables = s.tables) ∧
      (s.fget .TABLE_WIN_CMD 0 fTABLE_WIN_CMD_OP = 2 →
        Effect .tableDelete s fun u =>
          u.fget .TABLE_WIN_STAT 0 fTABLE_WIN_STAT_RESULT = eOK ∧ u.genState = gOPEN ∧
          u.entry tab l = if (s.entry tab l).firstV then { s.entry tab l with valid := false }
            else { s.entry tab l with lastV := true, genLast := s.genCurrent }) ∧
      (s.fget .TABLE_WIN_CMD 0 fTABLE_WIN_CMD_OP = 3 → actionBad (entryOf s.tableWinRec).action = false →
        (s.entry tab l).firstV = true →
        Effect .tableUpdate s fun u =>
          u.fget .TABLE_WIN_STAT 0 fTABLE_WIN_STAT_RESULT = eOK ∧ u.genState = gOPEN ∧
          u.entry tab l = { s.entry tab l with action := (entryOf s.tableWinRec).action })) ∧
    (s.fget .TABLE_WIN_CMD 0 fTABLE_WIN_CMD_OP = 4 →
      l = s.fget .TABLE_WIN_ADDR 0 fTABLE_WIN_ADDR_BUCKET * 4 + s.fget .TABLE_WIN_ADDR 0 fTABLE_WIN_ADDR_WAY →
      Effect .tableRead s fun u =>
        u.tables = s.tables ∧
        if l < s.tabBuckets tab * 4 then
          u.fget .TABLE_WIN_STAT 0 fTABLE_WIN_STAT_RESULT = eOK ∧
          (List.range 8).all (fun i => u.rget .TABLE_WIN_DATA i == wordAt (s.entry tab l).record i) = true
        else u.fget .TABLE_WIN_STAT 0 fTABLE_WIN_STAT_RESULT = eBAD_LOC)

/-- R349, R368, R371, R373 to R378, R381: TABLE_EM_CFG and the commands and edges that lead the generation from STEADY
through OPEN and a commit or an abort back to STEADY; a request in a wrong state is refused. R377, R378: the settling
sweep turns every entry of every table that ended in the retiring generation invalid and makes the others permanent,
and the abort sweep turns every entry of the pending generation invalid. -/
def Obligations.GenerationsAndSweeps : Prop :=
  (∀ (tab : Fin 4) (v : Word) (s : State),
     (s.serves .TABLE_EM_CFG tab = true → fTABLE_EM_CFG_SIZE.get v ≤ 32 → 1 ≤ fTABLE_EM_CFG_MAX_DEPTH.get v →
       fTABLE_EM_CFG_MAX_DEPTH.get v ≤ 6 →
       (s.genState = gSTEADY → s.hstate tab = 0 → s.tabBase 4 / 16384 - s.tabSize tab + fTABLE_EM_CFG_SIZE.get v ≤ 32 →
         (List.range 4).all (fun i => s.fget .TABLE_EM_OCC i fTABLE_EM_OCC_USED == 0) = true →
         Answers (.tableCfgWrite tab v) s fun t =>
           t.tabSize tab = fTABLE_EM_CFG_SIZE.get v ∧ t.tabWide tab = (fTABLE_EM_CFG_WIDE.get v == 1)) ∧
       (s.genState ≠ gSTEADY → fTABLE_EM_CFG_SIZE.get v ≠ s.tabSize tab →
         Answers (.tableCfgWrite tab v) s fun t =>
           t.rget .TABLE_EM_CFG tab = s.rget .TABLE_EM_CFG tab ∧ t.fbit .TABLE_GEN_EVT 0 fTABLE_GEN_EVT_REFUSED = true)) ∧
     (s.serves .TABLE_GEN_CTRL 0 = true → s.fbit .TABLE_WIN_CMD 0 fTABLE_WIN_CMD_BUSY = false →
       Effect .tableGenOpen s (fun u =>
         if s.genState ≤ 1 then u.genState = gOPEN ∧ u.genCurrent = s.genCurrent ∧ u.genOther = s.genOther
         else u.genState = s.genState ∧ u.fbit .TABLE_GEN_EVT 0 fTABLE_GEN_EVT_REFUSED = true) ∧
       Effect .tableGenCommit s (fun u =>
         if s.genState = gOPEN ∧ s.fbit .TABLE_GEN_STAT 0 fTABLE_GEN_STAT_BULK = false then
           u.genState = gCOMMITTING ∧ u.fbit .TABLE_GEN_CTRL 0 fTABLE_GEN_CTRL_COMMIT = true
         else u.genState = s.genState ∧ u.fbit .TABLE_GEN_EVT 0 fTABLE_GEN_EVT_REFUSED = true) ∧
       Effect .tableGenAbort s (fun u =>
         if s.genState = gOPEN ∧ s.fbit .TABLE_GEN_STAT 0 fTABLE_GEN_STAT_BULK = false then
           u.genState = gABORTING ∧ u.genAt = s.now + s.sweepCycles
         else u.genState = s.genState ∧ u.fbit .TABLE_GEN_EVT 0 fTABLE_GEN_EVT_REFUSED = true)) ∧
     (s.bootU.asserted = false →
       (s.genState = gCOMMITTING → s.editQ = [] →
         Effect .commitEdge s fun u =>
           u.genState = gDRAINING ∧ u.genCurrent = s.genOther ∧ u.genOther = s.genCurrent ∧
           u.now = s.now + 4 * s.power.cclk ∧ u.fbit .TABLE_GEN_EVT 0 fTABLE_GEN_EVT_COMMITTED = true ∧
           u.fbit .TABLE_GEN_CTRL 0 fTABLE_GEN_CTRL_COMMIT = false) ∧
       (s.genState = gDRAINING → s.carrying s.genOther = 0 →
         Effect .drainEnd s fun u => u.genState = gSETTLING ∧ u.genAt = s.now + s.sweepCycles) ∧
       (s.genState = gDRAINING → s.genAt ≠ 0 →
         Effect .drainSlowTimer s fun u =>
           u.fbit .TABLE_GEN_EVT 0 fTABLE_GEN_EVT_DRAIN_SLOW = true ∧ u.genState = gDRAINING ∧ u.now = max s.now s.genAt) ∧
       (s.genState = gSETTLING →
         Effect .settleSweepEnd s fun u =>
           u.genState = gSTEADY ∧ u.genCurrent = s.genCurrent ∧ u.genOther = (s.genCurrent + 1) % 65536 ∧
           u.fbit .TABLE_GEN_EVT 0 fTABLE_GEN_EVT_RETIRED = true) ∧
       (s.genState = gABORTING → s.editQ = [] →
         Effect .abortSweepEnd s fun u =>
           u.genState = gSTEADY ∧ u.genCurrent = s.genCurrent ∧ u.genOther = (s.genCurrent + 1) % 65536 ∧
           u.fbit .TABLE_GEN_EVT 0 fTABLE_GEN_EVT_ABORTED = true ∧
           u.fbit .TABLE_GEN_CTRL 0 fTABLE_GEN_CTRL_ABORT = false))) ∧
  (∀ (tab : Fin 4) (l : Nat) (s : State), s.bootU.asserted = false → l < s.tabBuckets tab * 4 →
     (s.genState = gSETTLING →
       Effect .settleSweepEnd s fun u =>
         u.entry tab l =
           { s.entry tab l with valid := (s.entry tab l).valid && !(s.entry tab l).lastV, firstV := false }) ∧
     (s.genState = gABORTING → s.editQ = [] →
       Effect .abortSweepEnd s fun u =>
         u.entry tab l =
           { s.entry tab l with valid := (s.entry tab l).valid && !(s.entry tab l).firstV, lastV := false }))

/-- R27, R460, R472, R480, R482, R485: the SCHED and METER windows' operations: READ returns the record of a node, or a
record without EXISTS, READ_CLEAR that of a meter and clears its counters, and a WRITE of a good record takes its
writable fields; each ends with its result, and BUSY clears. R773, R774: the STATS window returns the record of an
object, and a READ clears its counters; a bad object is told apart from one that does not exist. -/
def Obligations.NodeMeterAndStatsWindows : Prop :=
  (∀ (lvl i : Nat) (n : Node) (s : State), s.bootU.asserted = false →
     (s.fbit .SCHED_WIN_CMD 0 fSCHED_WIN_CMD_BUSY = true → s.fget .SCHED_WIN_ADDR 0 fSCHED_WIN_ADDR_LEVEL = lvl →
       s.fget .SCHED_WIN_ADDR 0 fSCHED_WIN_ADDR_INDEX = i →
       (s.fget .SCHED_WIN_CMD 0 fSCHED_WIN_CMD_OP = 0 →
         Effect .schedWinRead s fun u =>
           u.fbit .SCHED_WIN_CMD 0 fSCHED_WIN_CMD_BUSY = false ∧ u.leaves = s.leaves ∧ u.clients = s.clients ∧
           u.groups = s.groups ∧
           if levelSize lvl ≤ i then u.fget .SCHED_WIN_STAT 0 fSCHED_WIN_STAT_RESULT = nBAD_VALUE
           else u.fget .SCHED_WIN_STAT 0 fSCHED_WIN_STAT_RESULT = nOK ∧
             (s.node? lvl i = some n →
               u.rget .SCHED_WIN_DATA_0 0 = n.d0 ∧ u.rget .SCHED_WIN_DATA_1 0 = n.d1 ∧
               u.rget .SCHED_WIN_DATA_2 0 = n.d2 ∧
               u.fget .SCHED_WIN_DATA_3 0 fSCHED_WIN_DATA_3_CREDIT =
                 (if n.shaped then ofSigned 32 (wholeBytes (n.refill s.tick).credit) else 0) ∧
               (n.depth < 2 ^ 18 →
                 u.fbit .SCHED_WIN_DATA_3 0 fSCHED_WIN_DATA_3_ELIGIBLE = s.eligibleNode lvl i)) ∧
             (s.node? lvl i = none →
               u.fbit .SCHED_WIN_DATA_0 0 fSCHED_WIN_DATA_0_EXISTS = false ∧
               u.rget .SCHED_WIN_DATA_0 0 = BitVec.ofNat 64 (recReset0 lvl) ∧
               u.rget .SCHED_WIN_DATA_1 0 = BitVec.ofNat 64 (recReset1 lvl) ∧
               u.rget .SCHED_WIN_DATA_2 0 = BitVec.ofNat 64 (recReset2 lvl) ∧ u.rget .SCHED_WIN_DATA_3 0 = 0)) ∧
       (s.fget .SCHED_WIN_CMD 0 fSCHED_WIN_CMD_OP = 1 →
         Effect .schedWinWrite s fun u =>
           u.fbit .SCHED_WIN_CMD 0 fSCHED_WIN_CMD_BUSY = false ∧
           if levelSize lvl ≤ i ∨ recBad lvl (s.rget .SCHED_WIN_DATA_0 0) (s.rget .SCHED_WIN_DATA_1 0)
               (s.rget .SCHED_WIN_DATA_2 0) = true then
             u.fget .SCHED_WIN_STAT 0 fSCHED_WIN_STAT_RESULT = nBAD_VALUE ∧ u.leaves = s.leaves ∧
               u.clients = s.clients ∧ u.groups = s.groups
           else if s.node? lvl i = none then
             u.fget .SCHED_WIN_STAT 0 fSCHED_WIN_STAT_RESULT = nNO_NODE ∧ u.leaves = s.leaves ∧
               u.clients = s.clients ∧ u.groups = s.groups
           else s.node? lvl i = some n →
             if s.parentOk lvl (s.rget .SCHED_WIN_DATA_0 0) = false then
               u.fget .SCHED_WIN_STAT 0 fSCHED_WIN_STAT_RESULT = nBAD_PARENT ∧ u.leaves = s.leaves ∧
                 u.clients = s.clients ∧ u.groups = s.groups
             else if fSCHED_WIN_DATA_0_PARENT.get (s.rget .SCHED_WIN_DATA_0 0) ≠ n.parent ∧ s.backlog lvl i = true then
               u.fget .SCHED_WIN_STAT 0 fSCHED_WIN_STAT_RESULT = nBUSY ∧ u.leaves = s.leaves ∧
                 u.clients = s.clients ∧ u.groups = s.groups
             else u.fget .SCHED_WIN_STAT 0 fSCHED_WIN_STAT_RESULT = nOK ∧
               (u.node? lvl i).map (fun m => (m.d0, m.d1, m.d2, m.fifo, m.depth)) =
                 some ((s.rget .SCHED_WIN_DATA_0 0 &&& recMask0 lvl) ||| 0x8000000000000000,
                   s.rget .SCHED_WIN_DATA_1 0 &&& recMask1 lvl, s.rget .SCHED_WIN_DATA_2 0 &&& recMask2 lvl, n.fifo,
                   n.depth))) ∧
     (s.fbit .METER_WIN_CMD 0 fMETER_WIN_CMD_BUSY = true → s.fget .METER_WIN_ADDR 0 fMETER_WIN_ADDR_METER = i →
       (s.fget .METER_WIN_CMD 0 fMETER_WIN_CMD_OP = 0 →
         Effect .meterWinRead s fun u =>
           u.fbit .METER_WIN_CMD 0 fMETER_WIN_CMD_BUSY = false ∧ u.meters = s.meters ∧
           u.rget .METER_WIN_DATA_0 0 = (s.meter i).d0 ∧
           u.rget .METER_WIN_DATA_3 0 = BitVec.ofNat 64 ((wholeBytes ((s.meter i).refill s.tick).tc).toNat +
             (wholeBytes ((s.meter i).refill s.tick).tp).toNat * 2 ^ 32) ∧
           u.rget .METER_WIN_DATA_5 0 = BitVec.ofNat 64 (s.meter i).red) ∧
       (s.fget .METER_WIN_CMD 0 fMETER_WIN_CMD_OP = 1 →
         Effect .meterWinReadClear s fun u =>
           u.fbit .METER_WIN_CMD 0 fMETER_WIN_CMD_BUSY = false ∧
           u.rget .METER_WIN_DATA_4 0 = BitVec.ofNat 64 ((s.meter i).green + (s.meter i).yellow * 2 ^ 32) ∧
           u.rget .METER_WIN_DATA_5 0 = BitVec.ofNat 64 (s.meter i).red ∧
           u.meter i = { s.meter i with green := 0, yellow := 0, red := 0 }) ∧
       (s.fget .METER_WIN_CMD 0 fMETER_WIN_CMD_OP = 2 →
         Effect .meterWinWrite s fun u =>
           u.fbit .METER_WIN_CMD 0 fMETER_WIN_CMD_BUSY = false ∧
           u.fbit .METER_WIN_STAT 0 fMETER_WIN_STAT_BAD_VALUE =
             meterBad (s.rget .METER_WIN_DATA_0 0) (s.rget .METER_WIN_DATA_1 0) (s.rget .METER_WIN_DATA_2 0) ∧
           if meterBad (s.rget .METER_WIN_DATA_0 0) (s.rget .METER_WIN_DATA_1 0) (s.rget .METER_WIN_DATA_2 0) = true then
             u.meters = s.meters
           else (u.meter i).d1 = s.rget .METER_WIN_DATA_1 0 ∧
             (u.meter i).tc = min ((s.meter i).refill s.tick).tc (u.meter i).cbs ∧
             (u.meter i).tp = min ((s.meter i).refill s.tick).tp (u.meter i).pbs) ∧
       (s.fget .METER_WIN_CMD 0 fMETER_WIN_CMD_OP = 3 →
         meterBad (s.rget .METER_WIN_DATA_0 0) (s.rget .METER_WIN_DATA_1 0) (s.rget .METER_WIN_DATA_2 0) = false →
         Effect .meterWinWriteFill s fun u =>
           u.fbit .METER_WIN_STAT 0 fMETER_WIN_STAT_BAD_VALUE = false ∧
           (u.meter i).d2 = s.rget .METER_WIN_DATA_2 0 ∧ (u.meter i).tc = (u.meter i).cbs ∧
           (u.meter i).tp = (u.meter i).pbs))) ∧
  (∀ (g i : Nat) (ws : List Nat) (s : State), s.bootU.asserted = false →
     s.fbit .STATS_WIN_CMD 0 fSTATS_WIN_CMD_BUSY = true → s.fget .STATS_WIN_ADDR 0 fSTATS_WIN_ADDR_GROUP = g →
     s.fget .STATS_WIN_ADDR 0 fSTATS_WIN_ADDR_INDEX = i → s.rests (statDom g i) = false → s.rests dHOSTIF = false →
     (g ≠ 0 → i < statCount g → s.statRecord g i = some ws →
       (s.fget .STATS_WIN_CMD 0 fSTATS_WIN_CMD_OP = 0 →
         Effect .statsWinRead s fun u =>
           u.fbit .STATS_WIN_CMD 0 fSTATS_WIN_CMD_BUSY = false ∧
           u.fget .STATS_WIN_STAT 0 fSTATS_WIN_STAT_RESULT = 0 ∧
           (List.range 4).all (fun k => u.rget .STATS_WIN_DATA k == BitVec.ofNat 64 (ws.getD k 0)) = true ∧
           u.statRecord g i = some (ws.map fun _ => 0)) ∧
       (s.fget .STATS_WIN_CMD 0 fSTATS_WIN_CMD_OP = 1 →
         Effect .statsWinPeek s fun u =>
           u.fbit .STATS_WIN_CMD 0 fSTATS_WIN_CMD_BUSY = false ∧
           u.fget .STATS_WIN_STAT 0 fSTATS_WIN_STAT_RESULT = 0 ∧
           (List.range 4).all (fun k => u.rget .STATS_WIN_DATA k == BitVec.ofNat 64 (ws.getD k 0)) = true ∧
           u.statRecord g i = some ws)) ∧
     (s.fget .STATS_WIN_CMD 0 fSTATS_WIN_CMD_OP = 1 → s.statRecord g i = none →
       Effect .statsWinPeek s fun u =>
         u.fget .STATS_WIN_STAT 0 fSTATS_WIN_STAT_RESULT = (if g = 0 ∨ statCount g ≤ i then 1 else 2) ∧
         (List.range 4).all (fun k => u.rget .STATS_WIN_DATA k == 0) = true))

/-- R473 to R479: EN of queue watch opens the record buffer from its start where it is aligned; a round that falls due is
skipped while writes are outstanding, lost where the buffer has no space, and else written; its last good response
moves QW_PROD past the record and counts the round. -/
def Obligations.QueueWatchRounds : Prop :=
  ∀ (v : Word) (a : Resp) (s : State),
    (s.serves .QW_CFG 0 = true → s.fbit .QW_CFG 0 fQW_CFG_EN = false → fQW_CFG_EN.get v = 1 →
      s.encBad .QW_CFG 0 v = [] →
      Answers (.qwEnable v) s fun t =>
        t.fget .QW_PROD 0 fQW_PROD_PROD = 0 ∧ t.fget .QW_CONS 0 fQW_CONS_CONS = 0 ∧
        if s.fget .QW_BUF_BASE 0 fQW_BUF_BASE_ADDR % 2 ^ fQW_CFG_LOG2.get v = 0 then
          t.fbit .QW_CFG 0 fQW_CFG_EN = true ∧ t.qwNext = s.now ∧ t.qwRound = 0
        else t.fbit .QW_CFG 0 fQW_CFG_EN = false ∧ t.fbit .SCHED_EVT 0 fSCHED_EVT_CFG_REFUSED = true) ∧
    (s.bootU.asserted = false → s.fbit .QW_CFG 0 fQW_CFG_EN = true →
      Effect .qwRound s fun u =>
        u.qwNext = s.qwNext + s.fget .QW_CFG 0 fQW_CFG_PERIOD * usCycles ∧ u.now = max s.now s.qwNext ∧
        if s.qwOut ≠ 0 then
          u.rafterQ = s.rafterQ ∧ u.fbit .SCHED_EVT 0 fSCHED_EVT_SKIP = true ∧
          u.fget .QW_CNT 0 fQW_CNT_SKIPPED = min (2 ^ 16 - 1) (s.fget .QW_CNT 0 fQW_CNT_SKIPPED + 1)
        else if 2 ^ s.fget .QW_CFG 0 fQW_CFG_LOG2 <
            idxDiff (s.fget .QW_PROD 0 fQW_PROD_PROD) (s.fget .QW_CONS 0 fQW_CONS_CONS) + 32 + 8 * s.qwSlots.length then
          u.rafterQ = s.rafterQ ∧ u.fbit .SCHED_EVT 0 fSCHED_EVT_LOST = true ∧
          u.fget .QW_CNT 0 fQW_CNT_LOST = min (2 ^ 16 - 1) (s.fget .QW_CNT 0 fQW_CNT_LOST + 1)
        else u.qwLen = 32 + 8 * s.qwSlots.length ∧ u.qwOut = (u.rafterQ.drop s.rafterQ.length).length ∧
          u.rafterQ.take s.rafterQ.length = s.rafterQ ∧
          (u.rafterQ.drop s.rafterQ.length).flatMap (·.data) = (s.elapseTo s.qwNext).qwRecord ∧
          ((u.rafterQ.drop s.rafterQ.length).head?.map (·.addr)) = some (s.fget .QW_BUF_BASE 0 fQW_BUF_BASE_ADDR +
            s.fget .QW_PROD 0 fQW_PROD_PROD % 2 ^ s.fget .QW_CFG 0 fQW_CFG_LOG2) ∧
          (u.rafterQ.drop s.rafterQ.length).all (fun q => q.write && q.purpose == .qwWrite &&
            q.port == s.fget .QW_CFG 0 fQW_CFG_RAFTER && q.level == s.fget .QW_CFG 0 fQW_CFG_DMA_PRI) = true) ∧
    (s.goodResp a .qwWrite = true →
      Answers (.qwRoundDone a) s fun t =>
        t.outst = s.completed a ∧ t.qwOut = s.qwOut - 1 ∧
        (s.qwOut ≤ 1 → s.qwFail = false →
          t.fget .QW_PROD 0 fQW_PROD_PROD = (s.fget .QW_PROD 0 fQW_PROD_PROD + s.qwLen) % 2 ^ 32 ∧
          t.fget .QW_CNT 0 fQW_CNT_ROUNDS = min (2 ^ 32 - 1) (s.fget .QW_CNT 0 fQW_CNT_ROUNDS + 1) ∧
          t.fbit .SCHED_EVT 0 fSCHED_EVT_QW_ROUND = true ∧ t.qwRound = (s.qwRound + 1) % 2 ^ 32) ∧
        ((1 < s.qwOut ∨ s.qwFail = true) → t.rget .QW_PROD 0 = s.rget .QW_PROD 0))

/-- R535, R537 to R539, R705: EN opens the queues with all four indices at 0 where both bases are aligned, a cleared EN
leaves the indices, and a doorbell is taken within the queue's size and refused elsewhere. R543, R546, R548 to R550,
R558: commands that return join the queue, a fenced command may start once no earlier long operation is open, the
completion that is due first is written with its tag, opcode, status and phase, and its response raises the event;
operand memory that answers carries the command on. -/
def Obligations.AdminQueuesAndCommands : Prop :=
  (∀ (v : Word) (w : BitVec 32) (s : State),
     (s.serves .ADMIN_CFG 0 = true → s.encBad .ADMIN_CFG 0 v = [] →
       (s.adminEn = false → fADMIN_CFG_EN.get v = 1 →
         Effect (.adminEnable v) s fun u =>
           if s.fget .ADMIN_ASQ_BASE 0 fADMIN_ASQ_BASE_ADDR % 64 = 0 ∧
               s.fget .ADMIN_ACQ_BASE 0 fADMIN_ACQ_BASE_ADDR % 64 = 0 then
             u.adminEn = true ∧ u.asqProd = 0 ∧ u.asqCons = 0 ∧ u.acqProd = 0 ∧ u.acqCons = 0 ∧ u.adminFifo = [] ∧
               u.fget .ADMIN_CFG 0 fADMIN_CFG_ASQ_LOG2 = fADMIN_CFG_ASQ_LOG2.get v
           else u.adminEn = false ∧ u.fbit .ADMIN_EVT 0 fADMIN_EVT_CFG_REFUSED = true) ∧
       (s.adminEn = true → fADMIN_CFG_EN.get v = 0 →
         Effect (.adminDisable v) s fun u =>
           u.adminEn = false ∧ u.adminDue = s.adminDue ∧ u.adminCur = s.adminCur ∧ u.asqProd = s.asqProd ∧
           u.fget .ADMIN_CFG 0 fADMIN_CFG_ASQ_LOG2 = s.fget .ADMIN_CFG 0 fADMIN_CFG_ASQ_LOG2)) ∧
     (s.serves .ADMIN_ASQ_PROD 0 = true →
       Effect (.adminDoorbell w) s fun u =>
         if s.adminEn = false ∨ 2 ^ 31 ≤ idxDiff w.toNat s.asqProd ∨ s.asqSize < idxDiff w.toNat s.asqCons then
           u.asqProd = s.asqProd ∧ u.fbit .ADMIN_STAT 0 fADMIN_STAT_REFUSED = true ∧
             u.fbit .ADMIN_EVT 0 fADMIN_EVT_DB_REFUSED = true
         else u.asqProd = w.toNat) ∧
     (s.serves .ADMIN_ACQ_CONS 0 = true →
       Effect (.adminAcqConsWrite w) s fun u =>
         if 2 ^ 31 ≤ idxDiff s.acqProd w.toNat then
           u.acqCons = s.acqCons ∧ u.fbit .ADMIN_STAT 0 fADMIN_STAT_REFUSED = true ∧
             u.fbit .ADMIN_EVT 0 fADMIN_EVT_DB_REFUSED = true
         else u.acqCons = w.toNat)) ∧
  (∀ (a : Resp) (first n slot : Nat) (k : Fin 16) (c : AdminCompl) (rest : List AdminCompl) (x : AdminCur) (y : Lop)
       (s : State),
     (s.goodResp a (.asqRead first n) = true → n ≠ 0 →
       Effect (.adminCommandReadDone a) s fun u =>
         u.outst = s.completed a ∧ u.asqCons = idxAdd s.asqCons n ∧
         u.adminFifo = s.adminFifo ++ (List.range n).map (fun i => (a.data.drop (64 * i)).take 64)) ∧
     (s.bootU.asserted = false →
       Effect .fenceRelease s fun u =>
         u.fenceWait = (s.fenceWait && s.lopsOpen) ∧ RegsKept (fun id _ => id == .ADMIN_STAT) s u) ∧
     (s.bootU.asserted = false → s.failed = false → s.adminDue = c :: rest → s.adminEn = true → s.boot ≠ bQUIESCE →
       s.acqRoom ≠ 0 →
       (c.slot.any s.lopWriting = true → Effect .adminCompletionWrite s fun u => u = s) ∧
       (c.slot.any s.lopWriting = false → Effect .adminCompletionWrite s fun u =>
         u.adminDue = rest ∧ u.acqProd = idxAdd s.acqProd 1 ∧
         u.rafterQ = s.rafterQ ++ [s.adminReq true true
           (s.fget .ADMIN_ACQ_BASE 0 fADMIN_ACQ_BASE_ADDR + 32 * (s.acqProd % s.acqSize)) 32
           (c.bytes s.acqProd s.acqSize) (.acqWrite c.slot (s.dueNumber c))])) ∧
     ((c.bytes n 64).length = 32 ∧ cb (c.bytes n 64) 0 2 = c.tag % 2 ^ 16 ∧ cb (c.bytes n 64) 2 1 = c.opcode % 256 ∧
       cb (c.bytes n 64) 3 1 = c.status % 256 ∧ cb (c.bytes n 64) 8 8 = c.res0 % 2 ^ 64 ∧
       cb (c.bytes n 64) 31 1 = if n / 64 % 2 = 0 then 128 else 0) ∧
     (s.goodResp a (.acqWrite none n) = true →
       Effect (.adminCompletionDone a) s fun u =>
         u.outst = s.completed a ∧ u.fbit .ADMIN_EVT 0 fADMIN_EVT_COMPLETION = true ∧ u.lops = s.lops) ∧
     (s.goodResp a (.acqWrite (some (16 * slot + k)) n) = true → s.lops.find? k = some y → y.seq = slot →
       s.lopState k = kDONE →
       Effect (.adminCompletionDone a) s fun u =>
         u.fbit .ADMIN_EVT 0 fADMIN_EVT_COMPLETION = true ∧
         u.lopState k = if s.fbit .ADMIN_CFG 0 fADMIN_CFG_AUTO_RELEASE then kFREE else kDONE) ∧
     (s.goodResp a (.operandWrite none) = true → s.adminCur = some x → x.phase = 5 →
       Effect (.operandMemoryAccessDone a) s fun u =>
         u.outst = s.completed a ∧
         if x.left = 1 then
           u.adminCur = none ∧ u.adminDue = s.adminDue ++ [if x.failed then complOf x.bytes aHostError 0 0 0
             else complOf x.bytes aOK x.detail x.res0 x.res1]
         else 1 < x.left → u.adminCur = some { x with left := x.left - 1 } ∧ u.adminDue = s.adminDue) ∧
     (s.goodResp a (.operandRead (some (16 * slot + k)) n) = true → s.lops.find? k = some y → y.seq = slot → y.stop = none →
       Effect (.operandMemoryAccessDone a) s fun u =>
         u.outst = s.completed a ∧ u.lops.find? k = some { y with reading := false, got := a.data }) ∧
     (s.goodResp a (.operandWrite (some (16 * slot + k))) = true → s.lops.find? k = some y → y.seq = slot → y.stop = some n →
       y.left = 1 →
       y.reading = false → y.failed = false → (cb y.bytes 0 1 ≠ oDUMP ∨ y.header = true) → s.lopState k ≠ kDONE →
       s.lopState k ≠ kSUSPENDED →
       Effect (.operandMemoryAccessDone a) s fun u =>
         u.lopState k = kDONE ∧ u.fbit .ADMIN_LOP_RES k fADMIN_LOP_RES_READY = true ∧
         u.fget .ADMIN_LOP_RES k fADMIN_LOP_RES_STATUS = n % 2 ^ fADMIN_LOP_RES_STATUS.w ∧
         u.adminDue = s.adminDue ++ [{ complOf y.bytes n y.detail y.a y.b with slot := some (16 * y.seq + k) }]))

/-- R183, R389 to R393, R436, R554, R556, R567, R776: a unit of a long operation counts in its progress, does its work,
and lets a suspend or a cancel take effect. R553, R555, R556, R558, R560: SUSPEND, RESUME, CANCEL and RELEASE of a
slot's register lead its operation from state to state by the tables of R553 and R556, and are refused elsewhere. -/
def Obligations.LongOperationsAndSlots : Prop :=
  (∀ (k : Fin 16) (count fid : Nat) (e : Ecc) (x : Lop) (s : State), s.bootU.asserted = false →
     s.lops.find? k = some x → x.stop = none → s.lopDone k < s.lopTotal k →
     (s.lopState k = kRUNNING ∨ s.lopState k = kSUSPENDING ∨ s.lopState k = kCANCELLING) →
     ((cb x.bytes 0 1 = oEYE ∨ cb x.bytes 0 1 = oSCRUB) →
       Effect (.lopUnitEnd k count e fid) s fun u =>
         u.lopDone k = s.lopDone k + 1 ∧ (u.lops.find? k).map (·.cursor) = some (x.cursor + 1) ∧
         (s.lopState k = kSUSPENDING → x.failed = false → u.lopState k = kSUSPENDED) ∧
         (s.lopState k = kCANCELLING → (u.lops.find? k).map (·.stop) = some (some aCancelled)) ∧
         (s.lopState k = kRUNNING → x.failed = false →
           (u.lops.find? k).map (·.stop) = some (if s.lopDone k + 1 < s.lopTotal k then none else some aOK))) ∧
     (cb x.bytes 0 1 = oEYE →
       Effect (.lopUnitEnd k count e fid) s fun u =>
         (u.lops.find? k).map (·.a) = some (x.a + 1) ∧
         u.rafterQ = s.rafterQ ++ s.operandReqs (some (x.tag k)) true (cb x.bytes 24 8 + 4 * x.cursor)
           (leBytes 4 (min (2 ^ 32 - 1) (min (2 ^ cb x.bytes 16 1) count))) 4) ∧
     (cb x.bytes 0 1 = oSCRUB → x.cursor < cellWords →
       (e = .corrected →
         Effect (.lopUnitEnd k count e fid) s fun u =>
           (u.lops.find? k).map (fun y => (y.a, y.b)) = some (x.a + 1, x.b) ∧
           u.fget .LOFT_ECC 0 fLOFT_ECC_CORR = min (2 ^ fLOFT_ECC_CORR.w - 1) (s.fget .LOFT_ECC 0 fLOFT_ECC_CORR + 1)) ∧
       ((e ≠ .clean ∧ e ≠ .corrected ∧ e ≠ .bus) →
         Effect (.lopUnitEnd k count e fid) s fun u =>
           (u.lops.find? k).map (fun y => (y.a, y.b)) = some (x.a, x.b + 1) ∧
           u.fbit .LOFT_EVT 0 fLOFT_EVT_POISON = true)) ∧
     (cb x.bytes 0 1 = oBULK → x.got ≠ [] →
       Effect (.lopUnitEnd k count e fid) s fun u =>
         if ((s.serveTableWin.edit (if cb x.got 12 1 / 16 ≤ 2 then cb x.got 12 1 / 16 + 1 else 1) (cb x.got 15 1 % 4)
             false 0 x.got (bulk := true)).1).result = eOK then
           u.lopDone k = s.lopDone k + 1 ∧
             (u.lops.find? k).map (fun y => (y.a, y.cursor)) = some (x.a + 1, x.cursor + 1)
         else u.lopDone k = s.lopDone k ∧ (u.lops.find? k).map (fun y => (y.a, y.stop)) =
           some (x.a, some (if s.lopState k = kCANCELLING then aCancelled else aFailed))) ∧
     (cb x.bytes 0 1 = oREHASH → s.lopOver k x = false →
       Effect (.lopUnitEnd k count e fid) s fun u =>
         u.lopDone k = s.lopDone k + 1 ∧
         (u.lops.find? k).map (·.cursor) = (s.rehashNext (cb x.bytes 9 1) x.cursor).map (· + 1)) ∧
     (cb x.bytes 0 1 = oDUMP → s.rests (statDom (dumpAt x.cursor).1 (dumpAt x.cursor).2.1) = false →
       (s.lopState k = kCANCELLING → x.header = false → x.failed = false →
         Effect (.lopUnitEnd k count e fid) s fun u =>
           u.lopState k = kDONE ∧ u.lopDone k = s.lopDone k + 1 ∧ (u.rget .ADMIN_LOP_RES0 k).toNat =
             (x.a + (s.statBytes (dumpAt x.cursor).1 (dumpAt x.cursor).2.1).length + 64) % 2 ^ 64) ∧
       (s.lopState k ≠ kCANCELLING → Effect (.lopUnitEnd k count e fid) s fun u =>
         u.lopDone k = s.lopDone k + 1 ∧
         (u.lops.find? k).map (·.a) = some (x.a + (s.statBytes (dumpAt x.cursor).1 (dumpAt x.cursor).2.1).length) ∧
         u.rafterQ = s.rafterQ ++ s.operandReqs (some (x.tag k)) true (cb x.bytes 16 8 + (dumpAt x.cursor).2.2)
           (s.statBytes (dumpAt x.cursor).1 (dumpAt x.cursor).2.1)
           (s.statBytes (dumpAt x.cursor).1 (dumpAt x.cursor).2.1).length))) ∧
  (∀ (k : Fin 16) (x : Lop) (s : State), s.serves .ADMIN_LOP_CTRL k = true →
     (s.lops.find? k = some x → s.lopState k ≠ kFREE → s.lopState k ≠ kDONE →
       Effect (.lopSuspendReg k) s (fun u =>
         if s.lopState k = kRUNNING then
           u.lopState k = if s.atBoundary k x = true then kSUSPENDED else kSUSPENDING
         else u.lopState k = s.lopState k ∧ u.fbit .ADMIN_EVT 0 fADMIN_EVT_LOP_REFUSED = true) ∧
       Effect (.lopResumeReg k) s (fun u =>
         if s.lopState k = kSUSPENDING ∨ s.lopState k = kSUSPENDED then
           (x.failed = false → s.lopOver k x = false → u.lopState k = kRUNNING) ∧
           (x.failed = false → s.lopOver k x = true → (u.lops.find? k).map (·.stop) = some (some aOK)) ∧
           (x.failed = true → (u.lops.find? k).map (·.stop) = some (some aHostError))
         else u.lopState k = s.lopState k ∧ u.fbit .ADMIN_EVT 0 fADMIN_EVT_LOP_REFUSED = true) ∧
       Effect (.lopCancelReg k) s (fun u =>
         if s.lopState k = kCANCELLING then u.fbit .ADMIN_EVT 0 fADMIN_EVT_LOP_REFUSED = true
         else (s.lopState k = kRUNNING ∨ s.lopState k = kSUSPENDING ∨ s.lopState k = kSUSPENDED) →
           if s.lopState k = kSUSPENDED ∨ s.atBoundary k x = true ∨ cb x.bytes 0 1 = oEYE then
             (u.lops.find? k).map (·.stop) = some (some aCancelled) ∧ u.lopState k = kDONE
           else u.lopState k = kCANCELLING)) ∧
     ((s.lopState k = kFREE ∨ s.lopState k = kDONE) →
       Effect (.lopSuspendReg k) s fun u => u.fbit .ADMIN_EVT 0 fADMIN_EVT_LOP_REFUSED = true ∧ u.lops = s.lops) ∧
     Effect (.lopRelease k) s (fun u =>
       if s.lopState k = kDONE then
         u.lopState k = kFREE ∧ u.lops.find? k = none ∧ u.rget .ADMIN_LOP_RES k = 0 ∧ u.rget .ADMIN_LOP_PROG k = 0
       else u.lopState k = s.lopState k ∧ u.lops = s.lops ∧ u.fbit .ADMIN_EVT 0 fADMIN_EVT_LOP_REFUSED = true))

/-- R542, R544, R545: a command with a reserved header bit ends with BAD_OPERAND, whatever its opcode, and has no other
effect; a command whose opcode is another's is not taken by that one. -/
def Obligations.BadOperandsRefused : Prop :=
  ∀ (c : List Byte) (s : State), s.takes c = true → ∀ e ∈ adminSet,
    (cb c 0 1 = e.2 → 2 ≤ cb c 1 1 →
      Effect e.1 s fun u => s.posted u c aBadOperand 0 0 0 ∧ RegsKept (fun _ _ => false) s u ∧ u.lops = s.lops) ∧
    (cb c 0 1 ≠ e.2 →
      Effect e.1 s fun u => u.adminDue = s.adminDue ∧ u.adminFifo = s.adminFifo ∧ RegsKept (fun _ _ => false) s u)

/-- R493 to R495, R528, R534, R544, R562, R563, R572: NOP ends with OK; a create with a good record makes its ring or
queue with the record's fields, enabled and with its indices at 0, a destroy removes one that is at rest, and each
ends with its status. R472, R481 to R485, R563: the scheduler's commands check in the order of R482, end with the
unit's result, and carry out what the windows do. -/
def Obligations.RingAndSchedulerCommands : Prop :=
  (∀ (c : List Byte) (s : State), s.takes c = true → s.dom dHOSTIF ≠ 3 → s.ready dHOSTIF = true →
     (cb c 0 1 = 0x00 → onlyNamed c [] = true →
       Effect .nop s fun u => s.posted u c aOK 0 0 0 ∧ RegsKept (fun _ _ => false) s u) ∧
     (onlyNamed c [(8, 2), (16, 32)] = true → cb c 8 2 < 2 ^ 14 → ctxBad (ctxAt c) false = false →
       (cb c 0 1 = 0x01 →
         Effect .txrCreate s fun u =>
           s.posted u c (s.ringStatus false (cb c 8 2) (ctxAt c)) 0 0 0 ∧
           if s.ringStatus false (cb c 8 2) (ctxAt c) = aOK then
             (u.txr? (cb c 8 2)).map (fun x => (x.base, x.shadow, x.log2, x.cq, x.entries)) =
               some (cb c 16 8, cb c 24 8, cb c 32 4 % 32, cb c 32 4 / 2 ^ 10 % 2 ^ 12, []) ∧
             u.txOn (cb c 8 2) = true ∧ u.txProd (cb c 8 2) = 0 ∧ u.txCons (cb c 8 2) = 0
           else u.txrs = s.txrs ∧ RegsKept (fun _ _ => false) s u) ∧
       (cb c 0 1 = 0x03 →
         Effect .rxrCreate s fun u =>
           s.posted u c (s.ringStatus true (cb c 8 2) (ctxAt c)) 0 0 0 ∧
           if s.ringStatus true (cb c 8 2) (ctxAt c) = aOK then
             (u.rxr? (cb c 8 2)).map (fun x => (x.base, x.shadow, x.log2, x.cq, x.dq)) =
               some (cb c 16 8, cb c 24 8, cb c 32 4 % 32, cb c 32 4 / 2 ^ 10 % 2 ^ 12, []) ∧
             u.rxOn (cb c 8 2) = true ∧ u.rxProd (cb c 8 2) = 0 ∧ u.rxCons (cb c 8 2) = 0
           else u.rxrs = s.rxrs ∧ RegsKept (fun _ _ => false) s u)) ∧
     (cb c 0 1 = 0x05 → onlyNamed c [(8, 2), (16, 32)] = true → cb c 8 2 < 2 ^ 12 → ctxBad (ctxAt c) true = false →
       Effect .cqCreate s fun u =>
         if s.cq? (cb c 8 2) = none then
           s.posted u c aOK 0 0 0 ∧
           (u.cq? (cb c 8 2)).map (fun x => (x.base, x.log2, x.due)) = some (cb c 16 8, cb c 32 4 % 32, []) ∧
           u.cqProd (cb c 8 2) = 0 ∧ u.cqCons (cb c 8 2) = 0
         else s.posted u c aExists 0 0 0 ∧ u.cqs = s.cqs) ∧
     (onlyNamed c [(8, 2)] = true → cb c 8 2 < 2 ^ 14 →
       (cb c 0 1 = 0x02 →
         Effect .txrDestroy s fun u =>
           if s.txr? (cb c 8 2) = none then s.posted u c aNoObject 0 0 0
           else if s.txIdle (cb c 8 2) = true then s.posted u c aOK 0 0 0 ∧ u.txr? (cb c 8 2) = none
           else s.posted u c aBusy 0 0 0 ∧ u.txrs = s.txrs) ∧
       (cb c 0 1 = 0x04 →
         Effect .rxrDestroy s fun u =>
           if s.rxr? (cb c 8 2) = none then s.posted u c aNoObject 0 0 0
           else if s.rxOn (cb c 8 2) = true ∨ s.rxResetting (cb c 8 2) = true then
             s.posted u c aBusy 0 0 0 ∧ u.rxrs = s.rxrs
           else s.posted u c aOK 0 0 0 ∧ u.rxr? (cb c 8 2) = none) ∧
       (cb c 0 1 = 0x06 → cb c 8 2 < 2 ^ 12 →
         Effect .cqDestroy s fun u =>
           if s.cq? (cb c 8 2) = none then s.posted u c aNoObject 0 0 0
           else if s.txrs.any (fun e => e.2.cq == cb c 8 2) = true ∨ s.rxrs.any (fun e => e.2.cq == cb c 8 2) = true then
             s.posted u c aBusy 0 0 0 ∧ u.cqs = s.cqs
           else s.posted u c aOK 0 0 0 ∧ u.cq? (cb c 8 2) = none))) ∧
  (∀ (c : List Byte) (n : Node) (s : State), s.takes c = true → s.dom dSCHED ≠ 3 → s.ready dSCHED = true →
     (cb c 8 1 < 3 → cb c 12 4 < levelSize (cb c 8 1) →
       (cb c 0 1 = 0x20 → onlyNamed c [(8, 1), (12, 4), (16, 24)] = true →
         Effect .schedNodeCreate s fun u =>
           if recBad (cb c 8 1) (cmdWords c).1 (cmdWords c).2.1 (cmdWords c).2.2 = true then
             s.posted u c aFailed nBAD_VALUE 0 0
           else if (s.node? (cb c 8 1) (cb c 12 4)).isSome = true then s.posted u c aFailed nEXISTS 0 0
           else if s.parentOk (cb c 8 1) (cmdWords c).1 = false then s.posted u c aFailed nBAD_PARENT 0 0
           else s.posted u c aOK nOK 0 0 ∧
             (u.node? (cb c 8 1) (cb c 12 4)).map (fun m => (m.d0, m.d1, m.fifo, m.deficit)) =
               some (((cmdWords c).1 &&& recMask0 (cb c 8 1)) ||| 0x8000000000000000,
                 (cmdWords c).2.1 &&& recMask1 (cb c 8 1), [], 0) ∧
             (cb c 8 1 < 2 → bitOf (cmdWords c).1.toNat 25 = true →
               (u.node? (cb c 8 1) (cb c 12 4)).map (·.credit) =
                 some (((cmdWords c).2.2.toNat % 2 ^ 32 : Nat) * byteUnit))) ∧
       (cb c 0 1 = 0x21 → onlyNamed c [(8, 1), (12, 4)] = true →
         Effect .schedNodeDestroy s fun u =>
           if s.node? (cb c 8 1) (cb c 12 4) = none then s.posted u c aFailed nNO_NODE 0 0
           else if 0 < cb c 8 1 ∧ (s.nodesOf (cb c 8 1 - 1)).any (fun e => e.2.parent == cb c 12 4) = true then
             s.posted u c aFailed nBUSY 0 0
           else s.posted u c aOK nOK 0 0 ∧ u.node? (cb c 8 1) (cb c 12 4) = none) ∧
       (cb c 0 1 = 0x22 → onlyNamed c [(8, 1), (12, 4), (16, 24)] = true →
         recBad (cb c 8 1) (cmdWords c).1 (cmdWords c).2.1 (cmdWords c).2.2 = false →
         s.node? (cb c 8 1) (cb c 12 4) = some n →
         Effect .schedNodeWrite s fun u =>
           if s.parentOk (cb c 8 1) (cmdWords c).1 = false then s.posted u c aFailed nBAD_PARENT 0 0
           else if (cmdWords c).1.toNat % 2 ^ 14 ≠ n.parent ∧ s.backlog (cb c 8 1) (cb c 12 4) = true then
             s.posted u c aFailed nBUSY 0 0
           else s.posted u c aOK nOK 0 0 ∧
             (u.node? (cb c 8 1) (cb c 12 4)).map (fun m => (m.d0, m.d1, m.fifo)) =
               some (((cmdWords c).1 &&& recMask0 (cb c 8 1)) ||| 0x8000000000000000,
                 (cmdWords c).2.1 &&& recMask1 (cb c 8 1), n.fifo))) ∧
     (cb c 0 1 = 0x23 → onlyNamed c [(8, 1), (12, 4), (16, 24)] = true → cb c 8 1 < 2 → cb c 12 4 < 2 ^ 18 →
       Effect .meterWrite s fun u =>
         if meterBad (cmdWords c).1 (cmdWords c).2.1 (cmdWords c).2.2 = true then
           s.posted u c aFailed nBAD_VALUE 0 0 ∧ u.meters = s.meters
         else s.posted u c aOK 0 0 0 ∧ (u.meter (cb c 12 4)).d1 = (cmdWords c).2.1 ∧
           (cb c 8 1 = 1 → (u.meter (cb c 12 4)).tc = (u.meter (cb c 12 4)).cbs)))

/-- R564, R565: TABLE_EDIT reads its record, which makes the edit, and TABLE_GEN opens, commits or aborts the pending
generation; each ends with its status. R568 to R571, R682, R684, R702, R747, R775: REG_WRITE writes a register,
POWER_STATE begins its change or its entry, LANE_RETRAIN restarts lanes, and STATS_SNAPSHOT writes records and clears
them. -/
def Obligations.TableAndBlockCommands : Prop :=
  (∀ (c : List Byte) (a : Resp) (n : Nat) (x : AdminCur) (s : State),
     (s.takes c = true → s.dom dTABLE ≠ 3 → s.ready dTABLE = true → s.fbit .TABLE_WIN_CMD 0 fTABLE_WIN_CMD_BUSY = false →
       (cb c 0 1 = 0x10 → onlyNamed c [(8, 1), (9, 1), (12, 4), (16, 8)] = true → cb c 8 1 < 32 → cb c 8 1 % 16 ≤ 4 →
         cb c 9 1 < 4 → cb c 12 4 < 2 ^ 19 → cb c 16 8 % 64 = 0 →
         Effect .tableEdit s fun u =>
           u.adminFifo = s.adminFifo.tail ∧ u.adminDue = s.adminDue ∧
           u.adminCur = some { bytes := c, phase := 4, left := 1 } ∧
           u.rafterQ = s.rafterQ ++ [s.adminReq false false (cb c 16 8) 64 [] (.operandRead none 0)]) ∧
       (cb c 0 1 = 0x11 → onlyNamed c [(8, 1)] = true →
         (cb c 8 1 = 0 →
           Effect .tableGen s fun u =>
             if s.genState ≤ 1 then u.genState = gOPEN ∧ s.posted u c aOK 0 u.genPair 0
             else u.genState = s.genState ∧ s.posted u c aBusy 0 u.genPair 0) ∧
         ((cb c 8 1 = 1 ∨ cb c 8 1 = 2) →
           Effect .tableGen s fun u =>
             if s.genState = gOPEN ∧ s.fbit .TABLE_GEN_STAT 0 fTABLE_GEN_STAT_BULK = false then
               u.genState = (if cb c 8 1 = 1 then gCOMMITTING else gABORTING) ∧ u.adminFifo = s.adminFifo.tail ∧
               u.adminCur = some { bytes := c, phase := 6 } ∧ u.adminDue = s.adminDue
             else u.genState = s.genState ∧ s.posted u c aBusy 0 u.genPair 0))) ∧
     (s.goodResp a (.operandRead none n) = true → s.adminCur = some x → x.phase = 4 →
       Effect (.operandMemoryAccessDone a) s fun u =>
         u.outst = s.completed a ∧
         ((cb x.bytes 8 1 % 16 = 1 ∨ cb x.bytes 8 1 % 16 = 2 ∨ cb x.bytes 8 1 % 16 = 3) →
           u.adminCur = none ∧ (u.adminDue.drop s.adminDue.length).map (fun d => (d.tag, d.opcode, d.accepted)) =
             [(cb x.bytes 2 2, cb x.bytes 0 1, false)]) ∧
         ((cb x.bytes 8 1 % 16 = 0 ∨ cb x.bytes 8 1 % 16 = 4) →
           u.adminCur.map (·.phase) = some 5 ∨
             (u.adminDue.drop s.adminDue.length).map (·.status) = [aFailed]))) ∧
  (∀ (c : List Byte) (id : RegId) (i : Nat) (k : Fin 16) (d : Fin 15) (s : State), s.takes c = true →
     (cb c 0 1 = 0x30 → onlyNamed c [(8, 1), (16, 5), (24, 8)] = true → cb c 8 1 = 1 → i < id.count →
       cb c 16 4 = addrOf id i → cb c 20 1 = (if id.desc.width = 64 then 1 else 0) → regWriteBad (regWriteAt c 0) = false →
       id ≠ .GEN_RESET → s.dom (regDomain (addrOf id i)) ≠ 3 → s.ready (regDomain (addrOf id i)) = true →
       s.rethatching = false →
       Effect .regWrite s fun u =>
         u.adminFifo = s.adminFifo.tail ∧ u.adminDue.getLast? = some (complOf c aOK 1 0 0) ∧
         RegsKept (fun a _ => a == .GEN_ACC_ERR) (s.popCmd.writeReg id i (BitVec.ofNat 64 (cb c 24 8))) u) ∧
     (cb c 0 1 = 0x40 → onlyNamed c [(8, 1), (9, 1), (12, 4)] = true → cb c 9 1 ≤ 3 → s.powerLater c = aOK →
       (cb c 8 1 = 0 → cb c 12 4 = 0 → s.opp ≠ cb c 9 1 → s.power.change = none →
         Effect .powerState s fun u =>
           u.adminFifo = s.adminFifo.tail ∧ u.adminCur = some { bytes := c, phase := 1 } ∧
           u.power.change.map (·.target) = some (cb c 9 1) ∧ u.fbit .POWER_STAT 0 fPOWER_STAT_CHANGING = true ∧
           (s.dom d = 1 → u.power.waking.contains d.val = true)) ∧
       (cb c 8 1 = 1 → cb c 12 4 ≠ 0 → cb c 12 4 % 4 = 0 → cb c 12 4 < 2 ^ 14 →
         (List.range 15).all (fun x => !bitOf (cb c 12 4) x || (s.dom x != 3 && s.ready x)) = true →
         s.opp ≠ cb c 9 1 →
         Effect .powerState s fun u =>
           u.adminFifo = s.adminFifo.tail ∧ u.adminCur = some { bytes := c, phase := 1 } ∧
           u.fbit .POWER_STAT 0 fPOWER_STAT_ENTERING = true ∧
           (bitOf (cb c 12 4) d = true → s.dom d ≠ 1 → u.power.doze.map (·.left.contains d.val) = some true)) ∧
       (cb c 8 1 = 2 → cb c 12 4 = 0 →
         Effect .powerState s fun u =>
           u.adminFifo = s.adminFifo.tail ∧ u.adminCur = some { bytes := c, phase := 3 } ∧
           u.fbit .POWER_STAT 0 fPOWER_STAT_ENTERING = true ∧
           u.power.sleep = some { step := .draining, opp := cb c 9 1 })) ∧
     (cb c 0 1 = 0x41 → onlyNamed c [(12, 2)] = true → bitOf (cb c 12 2) k = true →
       (List.range 16).all (fun n => !bitOf (cb c 12 2) n || (s.dom (dQUAD (n / 4)) != 3 && s.ready (dQUAD (n / 4)) &&
         (s.laneOwner n).isSome && s.laneState n != lOFF && s.laneState n != lPLL)) = true → s.laneEn k = true →
       Effect .laneRetrain s fun u => s.posted u c aOK 0 0 0 ∧ u.laneState k = lBLIND) ∧
     (cb c 0 1 = 0x50 → onlyNamed c [(8, 1), (9, 1), (10, 2), (12, 4), (16, 8)] = true → cb c 8 1 ≤ 6 → cb c 9 1 ≤ 1 →
       1 ≤ cb c 10 2 → cb c 10 2 ≤ 4096 → cb c 12 4 + cb c 10 2 ≤ statCount (cb c 8 1) → cb c 16 8 % 64 = 0 →
       (snapObjs c).all (fun x => s.dom (statDom (cb c 8 1) x) != 3 && s.ready (statDom (cb c 8 1) x)) = true →
       Effect .statsSnapshot s fun u =>
         u.adminFifo = s.adminFifo.tail ∧ u.adminDue = s.adminDue ∧
         u.adminCur.map (fun x => (x.bytes, x.phase, x.res0)) = some (c, 5, cb c 10 2 * statSize (cb c 8 1)) ∧
         u.rafterQ = s.rafterQ ++ s.operandReqs none true (cb c 16 8) ((snapObjs c).flatMap (s.statBytes (cb c 8 1)))
           (cb c 10 2 * statSize (cb c 8 1))))

/-- R182, R381, R389, R391, R436, R544, R550, R553, R554, R566, R776: a rehash that the generation state or the seeds do
not allow is refused; a good long operation is accepted into the lowest free slot, with its ACCEPTED completion, its
progress at 0 and its TOTAL. R555 to R557: OP_SUSPEND, OP_RESUME and OP_CANCEL complete when they are taken, with the
operation's progress, and lead it as R556 says; they are refused where no such operation runs or its state does not
allow them. -/
def Obligations.LongOperationCommands : Prop :=
  (∀ (c : List Byte) (k : Nat) (s : State), s.takes c = true →
     (s.tagInUse c = false → s.freeSlot = some k →
       (cb c 0 1 = 0x12 → onlyNamed c [(16, 8), (24, 4)] = true → cb c 16 8 % 64 = 0 → 1 ≤ cb c 24 4 →
         cb c 24 4 ≤ 16777216 → s.dom dTABLE ≠ 3 → s.ready dTABLE = true → s.lopsOf oBULK = [] → s.genState ≤ 1 →
         Effect .tableBulkLoad s fun u =>
           s.started u k c ∧ u.lopState k = kRUNNING ∧ u.lopDone k = 0 ∧ u.lopTotal k = cb c 24 4 ∧
           u.fbit .TABLE_GEN_STAT 0 fTABLE_GEN_STAT_BULK = true ∧
           u.rafterQ = s.rafterQ ++ [s.adminReq false false (cb c 16 8) 64 [] (.operandRead (some (16 * s.lopSeq + k)) 0)]) ∧
       (cb c 0 1 = 0x13 → onlyNamed c [(9, 1), (16, 8)] = true → cb c 9 1 < 4 → s.dom dTABLE ≠ 3 →
         s.ready dTABLE = true → s.lopsOf oREHASH = [] → s.rehashBad (cb c 9 1) (BitVec.ofNat 64 (cb c 16 8)) = false →
         Effect .tableRehash s fun u =>
           s.started u k c ∧ u.lopTotal k = s.fget .TABLE_EM_OCC (cb c 9 1) fTABLE_EM_OCC_USED) ∧
       (cb c 0 1 = 0x13 → onlyNamed c [(9, 1), (16, 8)] = true → cb c 9 1 < 4 → s.dom dTABLE ≠ 3 →
         s.ready dTABLE = true → s.lopsOf oREHASH = [] → s.rehashBad (cb c 9 1) (BitVec.ofNat 64 (cb c 16 8)) = true →
         Effect .tableRehash s fun u =>
           s.posted u c aBusy 0 0 0 ∧ u.lops = s.lops ∧
           (s.genState ≠ gSTEADY → u.fbit .TABLE_GEN_EVT 0 fTABLE_GEN_EVT_REFUSED = true)) ∧
       (cb c 0 1 = 0x51 → onlyNamed c [(9, 1), (16, 8), (24, 8)] = true → cb c 9 1 ≤ 1 → cb c 16 8 % 4096 = 0 →
         dumpSize ≤ cb c 24 8 → s.lopsOf oDUMP = [] →
         Effect .statsDump s fun u =>
           s.started u k c ∧ u.lopState k = kRUNNING ∧ u.lopDone k = 0 ∧ u.lopTotal k = dumpUnits) ∧
       (cb c 0 1 = 0x60 → onlyNamed c [(8, 9), (24, 8)] = true → s.eyeBad c = false →
         s.dom (dQUAD (cb c 8 1 / 4)) ≠ 3 → s.ready (dQUAD (cb c 8 1 / 4)) = true → s.lopsOf oEYE = [] →
         s.laneState (cb c 8 1) = lDATA →
         Effect .eyeScan s fun u =>
           s.started u k c ∧ u.lopState k = kRUNNING ∧ u.lopDone k = 0 ∧
           u.lopTotal k = eyeThresholds c * eyePhases c) ∧
       (cb c 0 1 = 0x61 → onlyNamed c [] = true → s.dom dLOFT ≠ 3 → s.ready dLOFT = true → s.lopsOf oSCRUB = [] →
         Effect .loftScrub s fun u => s.started u k c)) ∧
     (cb c 0 1 = 0x61 → onlyNamed c [] = true →
       (s.tagInUse c = true → Effect .loftScrub s fun u => s.posted u c aTagInUse 0 0 0 ∧ u.lops = s.lops) ∧
       (s.tagInUse c = false → s.freeSlot = none →
         Effect .loftScrub s fun u => s.posted u c aLimit 0 0 0 ∧ u.lops = s.lops))) ∧
  (∀ (c : List Byte) (k : Nat) (x : Lop) (s : State), s.takes c = true → onlyNamed c [(8, 2)] = true →
     (s.lopNamed c = none →
       (cb c 0 1 = 0x70 → Effect .opSuspend s fun u => s.posted u c aNoSuchTag 0 0 0 ∧ u.lops = s.lops) ∧
       (cb c 0 1 = 0x71 → Effect .opResume s fun u => s.posted u c aNoSuchTag 0 0 0 ∧ u.lops = s.lops) ∧
       (cb c 0 1 = 0x72 → Effect .opCancel s fun u => s.posted u c aNoSuchTag 0 0 0 ∧ u.lops = s.lops)) ∧
     (s.lopNamed c = some k → s.lops.find? k = some x →
       (cb c 0 1 = 0x70 →
         Effect .opSuspend s fun u =>
           if s.lopState k = kRUNNING then
             s.posted u c aOK 0 (s.lopDone k) (s.atBoundary k x).toNat ∧
             u.lopState k = if s.atBoundary k x = true then kSUSPENDED else kSUSPENDING
           else s.posted u c aWrongState 0 0 0 ∧ u.lopState k = s.lopState k) ∧
       (cb c 0 1 = 0x71 →
         Effect .opResume s fun u =>
           if s.lopState k = kSUSPENDING ∨ s.lopState k = kSUSPENDED then
             u.adminFifo = s.adminFifo.tail ∧
             u.adminDue.take (s.adminDue.length + 1) = s.adminDue ++ [complOf c aOK 0 (s.lopDone k) 1] ∧
             (x.failed = false → s.lopOver k x = false → u.lopState k = kRUNNING)
           else s.posted u c aWrongState 0 0 0 ∧ u.lopState k = s.lopState k) ∧
       (cb c 0 1 = 0x72 →
         Effect .opCancel s fun u =>
           if s.lopState k = kRUNNING ∨ s.lopState k = kSUSPENDING ∨ s.lopState k = kSUSPENDED then
             u.adminFifo = s.adminFifo.tail ∧
             if s.lopState k = kSUSPENDED ∨ s.atBoundary k x = true ∨ cb x.bytes 0 1 = oEYE then
               u.adminDue.take (s.adminDue.length + 1) = s.adminDue ++ [complOf c aOK 0 (s.lopDone k) 1] ∧
               (u.lops.find? k).map (·.stop) = some (some aCancelled) ∧ u.lopState k = kDONE
             else s.posted u c aOK 0 (s.lopDone k) 0 ∧ u.lopState k = kCANCELLING
           else s.posted u c aWrongState 0 0 0 ∧ u.lopState k = s.lopState k)))

/-- R491, R527, R529, R532, R764: a doorbell of a ring that exists and is enabled is taken within the ring's size, is
fatal outside it, and is refused elsewhere, in fail-stop too; a completion queue's is taken up to its PROD. R523 to
R527: EN at 0 sets the drain limit, the drain ends at it with the completion of the last entry, IDLE lets the ring be
enabled again; RESET of a receive buffer ring frees its queue and returns its buffers, and clears once its completions
are answered. -/
def Obligations.DoorbellsDrainAndReset : Prop :=
  (∀ (r : Fin 16384) (q : Fin 4096) (v : BitVec 32) (x : TxRing) (y : RxRing) (s : State),
     (s.serves .TXR_PROD r = true →
       ((s.txr? r = none ∨ s.failed = true ∨ s.txOn r = false) →
         Answers (.txrDoorbell r v) s fun t =>
           t.txProd r = s.txProd r ∧ t.fbit .TXR_STAT r fTXR_STAT_REFUSED = true) ∧
       (s.txr? r = some x → s.failed = false → s.txOn r = true →
         Answers (.txrDoorbell r v) s fun t =>
           if 2 ^ 31 ≤ idxDiff v.toNat (s.txProd r) ∨ 2 ^ x.log2 < idxDiff v.toNat (s.txCons r) then
             t.txProd r = s.txProd r ∧ t.failed = true ∧ t.fget .GEN_FAULT_STAT 0 fGEN_FAULT_STAT_CAUSE = 1
           else t.txProd r = v.toNat ∧ t.failed = false)) ∧
     (s.serves .RXR_PROD r = true →
       ((s.rxr? r = none ∨ s.failed = true ∨ s.rxOn r = false) →
         Answers (.rxrDoorbell r v) s fun t =>
           t.rxProd r = s.rxProd r ∧ t.fbit .RXR_STAT r fRXR_STAT_REFUSED = true) ∧
       (s.rxr? r = some y → s.failed = false → s.rxOn r = true →
         Answers (.rxrDoorbell r v) s fun t =>
           if 2 ^ 31 ≤ idxDiff v.toNat (s.rxProd r) ∨ 2 ^ y.log2 < idxDiff v.toNat (s.rxCons r) then
             t.rxProd r = s.rxProd r ∧ t.failed = true ∧ t.fget .GEN_FAULT_STAT 0 fGEN_FAULT_STAT_CAUSE = 1
           else t.rxProd r = v.toNat ∧ t.failed = false)) ∧
     (s.serves .CQ_CONS q = true →
       ((s.cq? q = none ∨ s.failed = true) →
         Answers (.cqDoorbell q v) s fun t =>
           t.cqCons q = s.cqCons q ∧ t.fbit .CQ_STAT q fCQ_STAT_REFUSED = true) ∧
       (s.cq? q ≠ none → s.failed = false →
         Answers (.cqDoorbell q v) s fun t =>
           if 2 ^ 31 ≤ idxDiff v.toNat (s.cqCons q) ∨ 2 ^ 31 ≤ idxDiff (s.cqProd q) v.toNat then
             t.cqCons q = s.cqCons q ∧ t.failed = true ∧ t.fget .GEN_FAULT_STAT 0 fGEN_FAULT_STAT_CAUSE = 1
           else t.cqCons q = v.toNat))) ∧
  (∀ (r : Fin 16384) (x : TxRing) (y : RxRing) (c : Compl) (q : CqCtx) (s : State),
     (s.serves .TXR_CTRL r = true →
       (s.txr? r = none →
         Answers (.txrDisable r) s (fun t => t.fbit .TXR_STAT r fTXR_STAT_REFUSED = true) ∧
         Answers (.txrEnable r) s fun t => t.fbit .TXR_STAT r fTXR_STAT_REFUSED = true) ∧
       (s.txr? r = some x → s.txOn r = true →
         Effect (.txrDisable r) s (fun u =>
           u.txOn r = false ∧ u.txDraining r = true ∧ (u.txr? r).map (·.limit) = some (s.txProd r)) ∧
         Answers (.txrEnable r) s fun t => t.txOn r = true) ∧
       (s.txr? r = some x → s.txOn r = false →
         Answers (.txrEnable r) s fun t =>
           if s.txIdle r = true then t.txOn r = true ∧ t.txIdle r = false ∧ t.txProd r = s.txProd r
           else t.txOn r = false ∧ t.fbit .TXR_STAT r fTXR_STAT_REFUSED = true)) ∧
     (s.bootU.asserted = false → s.txr? r = some x → s.txDraining r = true → s.txCons r = x.limit →
       Effect (.txrDrainEnd r) s fun u =>
         u.txDraining r = false ∧
         (x.lastRet = some c → c.tx = true → c.ring = r → x.sinceDue = true → s.cq? x.cq = some q →
           (u.cq? x.cq).map (·.due) = some (q.due ++ [c]) ∧ u.txIdle r = s.txIdle r) ∧
         ((x.lastRet = none ∨ x.sinceDue = false) → s.txOn r = false → x.complOut = 0 → u.txIdle r = true)) ∧
     (s.serves .RXR_CTRL r = true →
       (s.rxr? r = none →
         Answers (.rxrReset r) s (fun t => t.fbit .RXR_STAT r fRXR_STAT_REFUSED = true) ∧
         Answers (.rxrEnable r) s fun t => t.fbit .RXR_STAT r fRXR_STAT_REFUSED = true) ∧
       (s.rxr? r = some y →
         (s.rxResetting r = false → y.active = [] → s.cq? y.cq = some q →
           Effect (.rxrReset r) s fun u =>
             u.rxOn r = false ∧ u.rxResetting r = true ∧ u.rxCons r = (s.rxCons r + y.bufs.length) % 2 ^ 32 ∧
             (u.rxr? r).map (fun z => (z.dq, z.bufs, z.drops)) = some ([], [], sat32 (y.drops + y.dq.length)) ∧
             (u.cq? y.cq).map (·.due) = some (q.due ++ y.bufs.map (RxBuf.aborted · r))) ∧
         Answers (.rxrEnable r) s fun t =>
           if s.rxResetting r = true then t.fbit .RXR_STAT r fRXR_STAT_REFUSED = true ∧ t.rxOn r = s.rxOn r
           else t.rxOn r = true ∧ t.rxCons r = s.rxCons r ∧ t.rxProd r = s.rxProd r)) ∧
     (s.bootU.asserted = false → s.rxr? r = some y →
       Answers (.rxrResetDone r) s fun t =>
         t.rxResetting r = (s.rxResetting r && (y.resetting || !y.active.isEmpty || y.complOut != 0))))

/-- R580: a transfer is cut into requests of 1 to 256 bytes that cross no aligned 256 B block, in order and without a gap,
and that together are the transfer. R585, R593, R599, R600: a port with a free tag takes a request of the highest
level that offers one, and the request is outstanding under that tag; a response that breaks the protocol is fatal,
with the port and the tag in the record. R591, R592, R598: a failed read or write completes its tag and counts on its
port; a transmit ring's, a receive buffer ring's or a completion queue's is fatal, but a data error on frame data
poisons the frame; the admin engine stops, a round of queue watch is lost, and a general channel halts. -/
def Obligations.RequestsOfRafterPorts : Prop :=
  (∀ a n : Nat,
     ((cuts a n).map (·.2)).sum = n ∧
     (∀ e ∈ cuts a n, 1 ≤ e.2 ∧ e.2 ≤ 256 ∧ (a + e.1) / 256 = (a + e.1 + e.2 - 1) / 256) ∧
     (∀ i, i < (cuts a n).length → ((cuts a n)[i]?).map (·.1) = some (((cuts a n).take i).map (·.2)).sum)) ∧
  (∀ (p : Fin 4) (t : Fin 1024) (v : Fin 4) (w : Bool) (n : Nat) (o : Offer) (s : State), s.bootU.asserted = false →
     (s.mayIssue = true → s.tagFree p t = true → (p = 0 → s.nextMessage = none) →
       (({ s with rclk := s.rftCycle p n } : State).chosenOffer p w = some o →
         Effect (.rafterRequestIssue p t w n) s fun u =>
           u.outst = s.outst ++ [{ port := p, tag := t, req := o.req }] ∧ o.req.port = p ∧
           ((({ s with rclk := s.rftCycle p n } : State).offers w).all
             (fun e => e.req.port != p.val || decide (e.req.level ≤ o.req.level))) = true ∧
           u.rafterQ = (if o.queued then s.rafterQ.erase o.req else s.rafterQ) ∧
           u.rrLast = s.rrLast.put (4 * p + o.req.level) o.req.who.order) ∧
       (({ s with rclk := s.rftCycle p n } : State).chosenOffer p w = none →
         Effect (.rafterRequestIssue p t w n) s fun u => u.outst = s.outst ∧ u.rafterQ = s.rafterQ)) ∧
     (s.tagUsed p t = true →
       Effect (.rafterRequestIssue p t w n) s fun u => u.outst = s.outst ∧ u.rafterQ = s.rafterQ) ∧
     ((v = 0 → s.tagUsed p t = false) → (v = 1 → s.tagUsed p t = true) →
       (v = 2 → ((s.outst.find? (fun e => e.port == p.val && e.tag == t.val)).map (·.req.write)) = some false) →
       s.failed = false →
       Answers (.rafterStrayResponse p t v) s fun z =>
         z.failed = true ∧ z.fget .GEN_FAULT_STAT 0 fGEN_FAULT_STAT_CAUSE = 2 ∧
         z.rget .GEN_FAULT_INFO 0 = BitVec.ofNat 64 (p + t * 4 + v * 4096))) ∧
  (∀ (a : Resp) (i j n : Nat) (k : Fin 64) (b : Bool) (h : CacheRead) (q : RafterReq) (l : List (Bool × Nat))
     (e : TxEntry) (s : State),
     s.asked a = some q →
     (s.badResp a (.txSlots i j n) = true →
       Answers (.txEntryReadDone a h) s fun t =>
         t.failed = true ∧ t.fget .GEN_FAULT_STAT 0 fGEN_FAULT_STAT_CAUSE = 3 ∧ t.outst = s.completed a ∧
         t.fget .RAFTER_ERR q.port fRAFTER_ERR_READS =
           min (2 ^ fRAFTER_ERR_READS.w - 1) (s.fget .RAFTER_ERR q.port fRAFTER_ERR_READS + 1) ∧
         t.fbit .RAFTER_EVT q.port fRAFTER_EVT_RD_FAIL = true) ∧
     (s.badResp a (.rxEntries i j n) = true → Answers (.rxBufferReadDone a h) s fun t => t.failed = true) ∧
     (s.badResp a (.rxData i j) = true → q.write = true →
       Answers (.rxDataWriteDone a) s fun t =>
         t.failed = true ∧ t.fget .RAFTER_ERR q.port fRAFTER_ERR_WRITES =
           min (2 ^ fRAFTER_ERR_WRITES.w - 1) (s.fget .RAFTER_ERR q.port fRAFTER_ERR_WRITES + 1)) ∧
     (s.badResp a (.cqWrite i l) = true → Answers (.completionWriteDone a) s fun t => t.failed = true) ∧
     (s.badResp a (.shadow b i) = true → Answers (.shadowWriteDone a) s fun t => t.failed = true) ∧
     (s.badResp a (.txData i j n) = true → q.write = false → s.entryAt i j = some e →
       Effect (.txFragmentReadDone a b) s fun u =>
         if a.code = 3 then u.failed = false ∧ (u.entryAt i j).map (·.poisoned) = some true
         else u.failed = true) ∧
     (s.badResp a (.asqRead i (n + 1)) = true →
       Effect (.adminCommandReadDone a) s fun u =>
         u.adminEn = false ∧ u.fbit .ADMIN_EVT 0 fADMIN_EVT_HOST_ERR = true ∧ u.adminFifo = s.adminFifo) ∧
     (s.badResp a .qwWrite = true → s.qwOut = 1 →
       Answers (.qwRoundDone a) s fun t =>
         t.rget .QW_PROD 0 = s.rget .QW_PROD 0 ∧ t.fbit .SCHED_EVT 0 fSCHED_EVT_LOST = true) ∧
     (s.badResp a (.dmaRead k n) = true → s.chanState k = cRUNNING →
       Answers (.dmaDataReadDone a) s fun t =>
         t.failed = false ∧ t.chanState k = cHALTED ∧ t.fbit .DMA_CHAN_EVT k fDMA_CHAN_EVT_HALT = true))

/-- R505, R507, R529, R530, R751, R754: an entry whose slots have been read is checked and taken: a direct one waits for
admission, an indirect one for its fragment table, and one whose leaf does not exist retires; a check that fails is
fatal, and so is an uncorrectable context; a slot in which the descriptor cache shows a parity error is read again,
once. R68, R424, R426, R435, R507 to R511, R753, R755, R819: the frame of a taken entry is admitted to the loft or
waits, its bytes are read into it, and it joins its leaf; TXR_CONS passes the retired entries at its head, once their
timestamps are known, and their completions fall due. -/
def Obligations.TransmitEntriesRun : Prop :=
  (∀ (a : Resp) (b : Bool) (r : Fin 16384) (first n i : Nat) (x : TxRing) (e : TxEntry) (q : RafterReq) (s : State),
     s.txr? r = some x → s.asked a = some q →
     (s.goodResp a (.txSlots r first n) = true → a.data.length = 32 * n →
       (i < n →
         Effect (.txEntryReadDone a { bad := [i] }) s fun u =>
           u.outst = s.completed a ∧ u.rafterQ.take (s.rafterQ.length + 1) = s.rafterQ ++
             [{ q with addr := q.addr + 32 * i, len := 32, purpose := .descReread 0 r (idxAdd first i) }]) ∧
       Effect (.txEntryReadDone a { ctx := .uncorrectable i }) s (fun u =>
         u.failed = true ∧ u.fget .GEN_FAULT_STAT 0 fGEN_FAULT_STAT_CAUSE = Cause.contextEcc.code ∧
           (u.rget .GEN_FAULT_INFO 0).toNat = r * 4 ∧ u.txrs = s.txrs) ∧
       (x.entries = [] → x.slotBuf = [] → s.txFetch r = first → s.cqWait true r x.cq = false →
         hdrSlots (cb a.data 0 8) = n → n ≤ idxDiff (s.txEnd r x) first →
         Effect (.txEntryReadDone a {}) s fun u =>
           u.txFetch r = idxAdd first n ∧
           if (if hdrIndirect (cb a.data 0 8) then slotChecks a.data else directChecks a.data) ≠ 0 then
             u.failed = true ∧ u.fget .GEN_FAULT_STAT 0 fGEN_FAULT_STAT_CAUSE = 1 ∧
               u.rget .GEN_FAULT_ADDR 0 = BitVec.ofNat 64 first
           else
             (u.txr? r).map (fun y => y.entries.map (fun z => (z.first, z.slots, z.stage, z.freed))) =
               some [(first, n, if s.leaf? (hdrLeaf (cb a.data 0 8)) = none then TxStage.retired
                 else if hdrIndirect (cb a.data 0 8) then TxStage.table else TxStage.admission,
                 (s.leaf? (hdrLeaf (cb a.data 0 8))).isNone)] ∧
             (hdrIndirect (cb a.data 0 8) = false →
               (u.entryAt r first).map (·.lhost) = some ((directFrags a.data).map (·.2)).sum) ∧
             ((u.rafterQ.drop s.rafterQ.length).map (·.len)).sum =
               if hdrIndirect (cb a.data 0 8) && (s.leaf? (hdrLeaf (cb a.data 0 8))).isSome then 16 * recLen a.data 16
               else 0)) ∧
     (s.goodResp a (.txTable r first 0 n) = true → x.entries = [e] → x.slotBuf = [] → e.first = first →
       e.table = [] → e.stage = .table → 16 * recLen e.bytes 16 = a.data.length →
       Effect (.txEntryReadDone a {}) s fun u =>
         if (tableChecks e.bytes a.data).1 ≠ 0 then
           u.failed = true ∧ u.fget .GEN_FAULT_STAT 0 fGEN_FAULT_STAT_CAUSE = 1
         else s.leaf? (hdrLeaf (cb e.bytes 0 8)) ≠ none →
           (u.entryAt r first).map (fun z => (z.stage, z.lhost)) = some (.admission,
             ((fragsAt a.data ((List.range (a.data.length / 16)).map (16 * ·))).map (·.2)).sum)) ∧
     (s.goodResp a (.descReread 0 r first) = true → q.len = 32 * n →
       (b = true →
         Answers (.descRereadDone a b) s fun t =>
           t.failed = true ∧ t.fget .GEN_FAULT_STAT 0 fGEN_FAULT_STAT_CAUSE = 10) ∧
       (b = false → x.entries.any (fun z => z.stage = .admission) = true →
         Effect (.descRereadDone a b) s fun u =>
           (u.txr? r).map (·.slotBuf) = some (x.slotBuf ++
             (List.range n).map (fun i => (idxAdd first i, (a.data.drop (32 * i)).take 32)))))) ∧
  (∀ (a : Resp) (b same : Bool) (r : Fin 16384) (first k : Nat) (x : TxRing) (e : TxEntry) (q : RafterReq) (f : Frame)
       (nd : Node) (c : CqCtx) (s : State), s.txr? r = some x →
     (s.goodResp a (.txData r first k) = true → s.asked a = some q → s.entryAt r first = some e →
       s.frames.find? e.fid = some f → q.write = false → k + q.len ≤ f.bytes.length →
       Effect (.txFragmentReadDone a b) s fun u =>
         u.outst = s.completed a ∧ (u.entryAt r first).map (·.missing) = some (e.missing - q.len) ∧
         (u.entryAt r first).map (·.poisoned) = some (e.poisoned || b) ∧
         (s.leaf? (hdrLeaf (cb e.bytes 0 8)) = some nd → x.entries = [e] → e.stage = .loading →
           (u.frames.find? e.fid).map (·.bytes) = some (patch f.bytes k a.data) ∧
           (e.missing ≤ q.len →
             (u.entryAt r first).map (·.stage) = some .queued ∧
             (u.leaf? (hdrLeaf (cb e.bytes 0 8))).map (·.fifo.length) = some (nd.fifo.length + 1)))) ∧
     (s.bootU.asserted = false → s.failed = false → x.slotBuf = [] →
       x.entries.find? (fun z => z.stage = .admission) = some e →
       (s.leaf? (hdrLeaf (cb e.bytes 0 8)) ≠ none →
         (s.hostCycle same).admitHost { leaf := true, id := hdrLeaf (cb e.bytes 0 8) } (cellsOf e.lhost) = true →
         Effect (.hostAdmission ⟨r, .uncorrectable k, same⟩) s fun u =>
           u.failed = true ∧ u.fget .GEN_FAULT_STAT 0 fGEN_FAULT_STAT_CAUSE = Cause.loftCtrlEcc.code ∧ u.txrs = s.txrs) ∧
       Effect (.hostAdmission ⟨r, .clean, same⟩) s fun u =>
         if s.leaf? (hdrLeaf (cb e.bytes 0 8)) = none then
           (u.entryAt r e.first).map (fun z => (z.stage, z.freed)) = some (.retired, true)
         else if (s.hostCycle same).admitHost { leaf := true, id := hdrLeaf (cb e.bytes 0 8) } (cellsOf e.lhost) = true then
           (x.entries = [e] → (u.entryAt r e.first).map (fun z => (z.stage, z.missing)) = some (.loading, e.lhost)) ∧
           u.fbit .TXR_STAT r fTXR_STAT_ADM_WAIT = false ∧
           ((u.rafterQ.drop s.rafterQ.length).map (·.len)).sum = (e.frags.map (·.2)).sum ∧
           (s.leaf? (hdrLeaf (cb e.bytes 0 8)) = some nd →
             (u.leaf? (hdrLeaf (cb e.bytes 0 8))).map (·.depth) = some (nd.depth + cellsOf e.lhost))
         else u.fbit .TXR_STAT r fTXR_STAT_ADM_WAIT = true ∧ u.rafterQ = s.rafterQ ∧
           u.fget .LOFT_HOST_WAIT 0 fLOFT_HOST_WAIT_CYCLES = min (2 ^ fLOFT_HOST_WAIT_CYCLES.w - 1)
             (s.fget .LOFT_HOST_WAIT 0 fLOFT_HOST_WAIT_CYCLES + 1)) ∧
     (s.bootU.asserted = false → s.cq? x.cq = some c →
       Effect (.txEntryRetire r) s fun u =>
         u.now = max s.now (((x.entries.takeWhile (fun z => z.stage = .retired)).map (·.known)).foldl max 0) ∧
         u.txCons r = (s.txCons r + ((x.entries.takeWhile (fun z => z.stage = .retired)).map (·.slots)).sum) % 2 ^ 32 ∧
         (u.txr? r).map (·.entries) = some (x.entries.dropWhile (fun z => z.stage = .retired)) ∧
         (u.cq? x.cq).map (·.due) = some (c.due ++
           ((x.entries.takeWhile (fun z => z.stage = .retired)).filter (·.cqReq)).map (·.compl r))))

/-- R67, R512 to R516, R529, R530: buffer entries that return are checked and prefetched in index order; the head frame
takes the fewest buffers that hold it and is written into them, or starves; with its last response its completion
falls due. R517 to R519, R522, R524, R650, R751: completions are written whole, at most eight at once and never past
the queue's space, with the PHASE of their lap; their response makes an arrival (R650) and lets a drained ring be
IDLE. A consumer index that has moved is written to its shadow address. -/
def Obligations.DeliveriesAndCompletions : Prop :=
  (∀ (a : Resp) (r : Fin 16384) (first n : Nat) (x : RxRing) (k : Pkt) (rest : List Pkt) (bs : List RxBuf) (d : Delivery)
       (c : CqCtx) (s : State),
     (s.goodResp a (.rxEntries r first n) = true → s.rxr? r = some x → a.data.length = 16 * n → x.resetting = false →
       x.raw = [] → first = idxAdd (s.rxCons r) x.bufs.length → n ≤ 2 ^ 20 →
       Effect (.rxBufferReadDone a {}) s fun u =>
         u.outst = s.completed a ∧
         if (List.range n).any (fun i => bufBad ((a.data.drop (16 * i)).take 16)) = true then
           u.failed = true ∧ u.fget .GEN_FAULT_STAT 0 fGEN_FAULT_STAT_CAUSE = 1
         else (u.rxr? r).map (·.bufs) = some (x.bufs ++ (List.range n).map (fun i =>
           { index := idxAdd first i, addr := cb a.data (16 * i) 8, len := cb a.data (16 * i + 8) 2,
             tag := cb a.data (16 * i + 12) 4 }))) ∧
     (takeBufs x.bufs n = some bs →
       bs = x.bufs.take bs.length ∧ n ≤ (bs.map (·.len)).sum ∧ (bs ≠ [] → (bs.dropLast.map (·.len)).sum < n)) ∧
     (s.bootU.asserted = false → s.failed = false → s.rxr? r = some x → x.dq = k :: rest → s.rxResetting r = false →
       s.cqWait false r x.cq = false →
       (takeBufs x.bufs (k.bytes ++ k.fcs).length = none →
         fRXR_STAT_STARVED.get (s.view .RXR_STAT r) = 1 ∧
         Effect (.rxDeliveryStart r {}) s fun u => u.rxCons r = s.rxCons r ∧ u.rxrs = s.rxrs) ∧
       (takeBufs x.bufs (k.bytes ++ k.fcs).length = some bs →
         fRXR_STAT_STARVED.get (s.view .RXR_STAT r) = 0 ∧
         Effect (.rxDeliveryStart r {}) s fun u =>
           u.rxCons r = (s.rxCons r + bs.length) % 2 ^ 32 ∧
           (u.rxr? r).map (fun y => (y.dq, y.bufs, y.active.length)) =
             some (rest, x.bufs.drop bs.length, x.active.length + 1) ∧
           (u.rafterQ.drop s.rafterQ.length).flatMap (·.data) = k.bytes ++ k.fcs ∧
           (bs = bs.take 1 → (u.rafterQ.drop s.rafterQ.length).head?.map (·.addr) = bs.head?.map (·.addr)))) ∧
     (s.goodResp a (.rxData r n) = true → s.rxr? r = some x → x.active = d :: [] → d.id = n → s.cq? x.cq = some c →
       x.resetting = false →
       Effect (.rxDataWriteDone a) s fun u =>
         u.outst = s.completed a ∧
         (1 < d.left → (u.rxr? r).map (fun y => y.active.map (·.left)) = some [d.left - 1] ∧ u.cqs = s.cqs) ∧
         (d.left = 1 → (u.rxr? r).map (fun y => (y.active, y.frames)) = some ([], sat32 (x.frames + 1)) ∧
           (u.cq? x.cq).map (fun y => y.due.map (fun z => (z.tx, z.ring, z.length))) =
             some (c.due.map (fun z => (z.tx, z.ring, z.length)) ++ [(false, r.val, d.len)])))) ∧
  (∀ (a : Resp) (q : Fin 4096) (r : Fin 16384) (k n : Nat) (rx : Bool) (c : CqCtx) (z : Compl) (x : TxRing) (y : RxRing)
       (s : State),
     (s.bootU.asserted = false → s.failed = false → s.cq? q = some c →
       s.cqRoom q k ≤ 8 ∧ s.cqRoom q k ≤ k ∧ s.cqRoom q k ≤ c.due.length ∧
       (0 < s.cqRoom q k → idxDiff (s.cqProd q) (s.cqCons q) + s.cqRoom q k ≤ 2 ^ c.log2) ∧
       (0 < s.cqRoom q k →
         Effect (.completionWriteIssue q ⟨k, .uncorrectable n⟩) s fun u =>
           u.failed = true ∧ u.fget .GEN_FAULT_STAT 0 fGEN_FAULT_STAT_CAUSE = Cause.contextEcc.code ∧
             (u.rget .GEN_FAULT_INFO 0).toNat = 2 + q * 4 ∧ u.cqs = s.cqs) ∧
       Effect (.completionWriteIssue q ⟨k, .clean⟩) s fun u =>
         u.cqProd q = idxAdd (s.cqProd q) (s.cqRoom q k) ∧ (u.cq? q).map (·.due) = some (c.due.drop (s.cqRoom q k)) ∧
         if s.cqRoom q k = 0 then u.rafterQ = s.rafterQ
         else (u.rafterQ.drop s.rafterQ.length).map (fun e => (e.addr, e.len, e.write, e.port)) =
           [(c.base + 32 * (s.cqProd q % 2 ^ c.log2), 32 * s.cqRoom q k, true, c.rafter)]) ∧
     ((z.bytes k 6).length = 32 ∧ cb (z.bytes k 6) 0 8 = z.ts % 2 ^ 64 ∧ cb (z.bytes k 6) 16 4 = z.index % 2 ^ 32 ∧
       cb (z.bytes k 6) 20 4 = z.tag % 2 ^ 32 ∧ cb (z.bytes k 6) 28 1 = z.status % 256 ∧
       (z.port < 16 → z.colour < 4 → (bitOf (cb (z.bytes k 6) 31 1) 7 = decide (k / 64 % 2 = 0)))) ∧
     (s.goodResp a (.cqWrite q [(true, r.val)]) = true → s.cq? q = some c → s.txr? r = some x →
       Effect (.completionWriteDone a) s fun u =>
         u.outst = s.completed a ∧ (u.txr? r).map (·.complOut) = some (x.complOut - 1) ∧
         (s.fbit .INTC_SRC q fINTC_SRC_EN = true → s.fbit .INTC_SRC q fINTC_SRC_FAST = true →
           s.fget .INTC_FVEC (s.fget .INTC_SRC q fINTC_SRC_VECTOR % 64) fINTC_FVEC_STATE = 0 →
           u.fget .INTC_FVEC (s.fget .INTC_SRC q fINTC_SRC_VECTOR % 64) fINTC_FVEC_STATE = 2) ∧
         (s.txOn r = false → s.txDraining r = false → x.complOut = 1 → u.txIdle r = true)) ∧
     (s.bootU.asserted = false → s.failed = false → s.txr? r = some x → s.rxr? r = some y →
       Effect (.shadowWrite rx r) s fun u =>
         if (if rx then y.shadowEn && y.shadowDue && !y.shadowOut else x.shadowEn && x.shadowDue && !x.shadowOut) = true then
           u.rafterQ = s.rafterQ ++ [if rx then shadowReq true r y.rafter y.pri y.shadow (s.rxCons r)
             else shadowReq false r x.rafter x.pri x.shadow (s.txCons r)]
         else u.rafterQ = s.rafterQ) ∧
     ((shadowReq rx r 0 0 k (k % 2 ^ 32)).data = leBytes 4 k ++ leBytes 4 0) ∧
     (s.goodResp a (.shadow rx r) = true → s.txr? r = some x → s.rxr? r = some y →
       Effect (.shadowWriteDone a) s fun u =>
         u.outst = s.completed a ∧ (if rx then (u.rxr? r).map (·.shadowOut) else (u.txr? r).map (·.shadowOut)) = some false))

/-- R43, R64, R65, R217, R219 to R222, R335, R404, R405, R417, R425, R769, R818: a good frame that a port receives counts
and enters the ingress FIFO of its course and the loft, or is discarded where either is full; an errored one enters as
such, and one with a bad start byte does not. Its last beat decides whether it joins its queue. R243, R248, R249,
R769: fragments of a preemptable frame assemble in sequence, and one out of sequence discards the open frame and
counts. -/
def Obligations.FramesAndFragmentsEnter : Prop :=
  (∀ (p : Fin 16) (x : RxFrame) (y : Path) (c i : Nat) (f : Frame) (nd : Node) (s : State), s.bootU.asserted = false →
     (s.cleanRx p x = true → x.parity = [] → x.same = false → x.alloc = .clean →
       isLpm x.bytes = false → isCtl x.bytes = false → s.sealEn = false →
       c = (if s.sprayed p then pairCourse p + (s.mac p).nextSeq % 2 else portCourse p) →
       Effect (.rxFrame p ⟨x, y⟩) s fun u =>
         u.fget .STATS_PORT (p * 64) fSTATS_PORT_COUNT = (s.fget .STATS_PORT (p * 64) fSTATS_PORT_COUNT + 1) % 2 ^ 48 ∧
         if 65536 < s.fifoBytes c + x.bytes.length then
           (u.course c).fifo = (s.course c).fifo ∧ u.nextId = s.nextId ∧
           u.fget .COURSE_RX_OVERRUN c fCOURSE_RX_OVERRUN_FRAMES =
             min (2 ^ fCOURSE_RX_OVERRUN_FRAMES.w - 1) (s.fget .COURSE_RX_OVERRUN c fCOURSE_RX_OVERRUN_FRAMES + 1)
         else if s.cellsFree (cellsOf x.bytes.length) = false then
           (u.course c).fifo = (s.course c).fifo ∧ u.nextId = s.nextId ∧ u.fbit .LOFT_EVT 0 fLOFT_EVT_NO_CELL = true
         else (u.course c).fifo.Perm ((s.course c).fifo ++ [s.nextId]) ∧
           ((s.course c).fifo.all (fun j => (s.frame? j).all (·.beat != s.nextId)) = true →
             (u.course c).fifo = (s.course c).fifo ++ [s.nextId]) ∧
           u.transit = (s.transit + cellsOf x.bytes.length) % 2 ^ 18 ∧
           (u.frame? s.nextId).map (fun g => (g.port, g.bytes ++ g.fcs, g.fcs.length, g.seq, g.stage, g.done)) =
             some (p.val, x.bytes, 4, if s.sprayed p then some (s.mac p).nextSeq else none, Stage.fifo, false)) ∧
     (s.portUp p = true → x.start ≠ 0xD5 → s.preemptEn p = false → s.portNear p = false →
       Effect (.rxFrame p ⟨x, y⟩) s fun u =>
         u.frames = s.frames ∧ u.fget .STATS_PORT (p * 64 + 6) fSTATS_PORT_COUNT =
           (s.fget .STATS_PORT (p * 64 + 6) fSTATS_PORT_COUNT + 1) % 2 ^ 48) ∧
     (s.portUp p = false → Effect (.rxFrame p ⟨x, y⟩) s fun u => u.frames = s.frames ∧ u.courses = s.courses) ∧
     (s.portUp p = true → s.portNear p = false → x.start = 0xD5 → x.alloc = .clean → s.rxHalted = false →
       64 ≤ x.bytes.length → x.bytes.length ≤ s.maxFrame p →
       isLpm x.bytes = false → fcsGood x.bytes = false → s.sealEn = false → s.sprayed p = false →
       s.fifoBytes (portCourse p) + x.bytes.length ≤ 65536 → s.cellsFree (cellsOf x.bytes.length) = true →
       Effect (.rxFrame p ⟨x, y⟩) s fun u =>
         u.fget .STATS_PORT (p * 64 + 2) fSTATS_PORT_COUNT = (s.fget .STATS_PORT (p * 64 + 2) fSTATS_PORT_COUNT + 1) % 2 ^ 48 ∧
         (u.frame? s.nextId).map (·.fcsBad) = some true) ∧
     (List.find? (fun (e : Nat × Frame) => e.2.port == p.val && !e.2.host && !e.2.done) s.frames = some (i, f) →
       s.frame? i = some f → s.failed = false →
       (f.stage ≠ .waitFcs → Effect (.rxFrameLastBeat p) s fun u => u.frame? i = some { f with done := true }) ∧
       (f.stage = .waitFcs → f.pendCopy = none → f.pend ≠ none → f.fate true = f.fate false → f.fate true ≠ .diag →
         f.pendLeaf = true → s.leaf? f.pendQ = some nd →
         Effect (.rxFrameLastBeat p) s fun u =>
           (u.frame? i).map (fun g => (g.stage, g.done)) = some (.queued, true) ∧
           (u.leaf? f.pendQ).map (·.fifo.length) = some (nd.fifo.length + 1)) ∧
       (f.stage = .waitFcs → f.pendCopy = none → f.fate true = .free → f.fate false ≠ .free → (f.pend ≠ none ∨ f.transit ≠ 0) →
         f.refs = [f.cells] →
         Effect (.rxFrameLastBeat p) s fun u => u.frame? i = none))) ∧
  (∀ (p : Fin 16) (x : Fragment) (y : Path) (o : RxOpen) (s : State), s.bootU.asserted = false → s.portUp p = true →
     s.portNear p = false → s.preemptEn p = true →
     (x.cont = false → (s.mac p).rxOpen = none → x.final = false → x.crcOk = true →
       Effect (.rxFragment p ⟨x, y⟩) s fun u =>
         (u.mac p).rxOpen = some { bytes := x.data, frame := x.frame, next := 0, frags := 1, err := x.err, parity := x.parity,
                                   bad := x.err || (x.fec && s.fecMarks p), first := s.rxFirst p y }) ∧
     (x.cont = true → (s.mac p).rxOpen = some o → x.count.val = o.next → x.frame.val = o.frame →
       (x.final = false → x.crcOk = true →
         Effect (.rxFragment p ⟨x, y⟩) s fun u =>
           (u.mac p).rxOpen = some { o with bytes := o.bytes ++ x.data, next := (o.next + 1) % 4, frags := o.frags + 1,
                                            err := o.err || x.err,
                                            parity := o.parity ++ x.parity.map (· + o.bytes.length),
                                            bad := o.bad || x.err || (x.fec && s.fecMarks p) } ∧
           u.frames = s.frames) ∧
       (x.final = true → s.rxHalted = false → o.bad = false → o.parity = [] → x.err = false → x.fec = false →
         x.parity = [] → x.alloc = .clean → 64 ≤ (o.bytes ++ x.data).length → (o.bytes ++ x.data).length ≤ o.first.cfg.max →
         fcsGood (o.bytes ++ x.data) = true → o.first.cfg.sealEn = false →
         isLpm (o.bytes ++ x.data) = false → isCtl (o.bytes ++ x.data) = false →
         s.sprayed p = false → s.fifoBytes (portCourse p) + (o.bytes ++ x.data).length ≤ 65536 →
         s.cellsFree (cellsOf (o.bytes ++ x.data).length) = true →
         Effect (.rxFragment p ⟨x, y⟩) s fun u =>
           (u.mac p).rxOpen = none ∧
           (u.frame? s.nextId).map (fun g => (g.bytes ++ g.fcs, g.path, g.arrived, g.deskew, g.fcsKeep)) =
             some (o.bytes ++ x.data, o.first.path, o.first.cycle, o.first.deskew, o.first.cfg.keep))) ∧
     (x.cont = true → (s.mac p).rxOpen.all (fun z => z.next != x.count.val || z.frame != x.frame.val) = true →
       Effect (.rxFragment p ⟨x, y⟩) s fun u =>
         (u.mac p).rxOpen = none ∧ u.frames = s.frames ∧
         u.fget .STATS_PORT (p * 64 + 57) fSTATS_PORT_COUNT =
           (s.fget .STATS_PORT (p * 64 + 57) fSTATS_PORT_COUNT + 1) % 2 ^ 48))

/-- R64, R279, R335 to R338, R369, R396, R397, R687, R751: a course's parser takes recirculated passes first, then its
ingress FIFO in order, and nothing while it holds a frame beyond the reorder window; a pass that needs a dozing domain
stalls; an uncorrectable word of table memory is fatal, and so is one of the meter record that the pass reads. The
reorder stage of a sprayed port releases a recirculated pass first, and frames in the order of their sequence numbers. -/
def Obligations.PassesKeepOrder : Prop :=
  ∀ (c : Fin 4) (n i : Nat) (l : List Nat) (f : Frame) (hi : Bool) (e m : Ecc) (s : State), s.bootU.asserted = false →
    s.failed = false →
    (s.boot = bRUNNING → s.up (dCOURSE c) = true → (s.course c).stalled = none →
      (s.passNeeds i).all s.up = true → s.frame? i = some f →
      ((s.course c).recirc = i :: l →
        Effect (.parserTake c .clean .clean) s (fun u =>
          u.fget .COURSE_PARSE_CNT c fCOURSE_PARSE_CNT_LATER =
            min (2 ^ fCOURSE_PARSE_CNT_LATER.w - 1) (s.fget .COURSE_PARSE_CNT c fCOURSE_PARSE_CNT_LATER + 1) ∧
          u.fget .TABLE_RECIRC_CNT c fTABLE_RECIRC_CNT_PASSES =
            min (2 ^ fTABLE_RECIRC_CNT_PASSES.w - 1) (s.fget .TABLE_RECIRC_CNT c fTABLE_RECIRC_CNT_PASSES + 1) ∧
          (u.course c).recirc = l ∧ (u.course c).fifo = (s.course c).fifo ∧
          (u.frame? i).all (fun g => g.pass == f.pass + 1 && g.gen == f.gen && g.tsRaw == f.tsRaw) = true ∧
          ((s.passNeeds i).contains dSCHED = false → (u.frame? i).isSome = true)) ∧
        Effect (.parserTake c (.uncorrectable n) m) s fun u =>
          u.failed = true ∧ u.fget .GEN_FAULT_STAT 0 fGEN_FAULT_STAT_CAUSE = 7 ∧ u.frames = s.frames) ∧
      ((s.course c).recirc = [] → (s.course c).fifo = i :: l →
        Effect (.parserTake c .clean .clean) s (fun u =>
          u.fget .COURSE_PARSE_CNT c fCOURSE_PARSE_CNT_FIRST =
            min (2 ^ fCOURSE_PARSE_CNT_FIRST.w - 1) (s.fget .COURSE_PARSE_CNT c fCOURSE_PARSE_CNT_FIRST + 1) ∧
          (u.course c).fifo = l ∧
          (u.frame? i).all (fun g => g.pass == f.pass + 1 && g.gen == some s.genCurrent && g.tsRaw == s.ingressTime f &&
            g.seq == f.seq) = true ∧
          ((s.passNeeds i).contains dSCHED = false → (u.frame? i).isSome = true) ∧
          ∀ m, f.seq = some m → s.sprayed f.port = true → s.tooFar f.port m = true → f.course = c.val →
            (u.frame? i).all (fun g => g.stage == .window && (u.course c).stalled == some i &&
              u.fbit .COURSE_PARSE_EVT c fCOURSE_PARSE_EVT_SPRAY_HOLD) = true) ∧
        Effect (.parserTake c .clean (.uncorrectable n)) s (fun u =>
          Effect (.parserTake c .clean .clean) s (fun v => v = u) ∨
          (u.failed = true ∧ u.fget .GEN_FAULT_STAT 0 fGEN_FAULT_STAT_CAUSE = 8 ∧ (u.rget .GEN_FAULT_INFO 0).toNat = 3 ∧
            u.meters = s.meters)) ∧
        Effect (.parserTake c (.uncorrectable n) m) s fun u =>
          u.failed = true ∧ u.fget .GEN_FAULT_STAT 0 fGEN_FAULT_STAT_CAUSE = 7 ∧ u.frames = s.frames)) ∧
    (s.boot = bRUNNING → s.up (dCOURSE c) = true → (s.course c).next = some i → (s.passNeeds i).all s.up = false →
      Effect (.parserTake c e m) s fun u => u.frames = s.frames ∧ u.courses = s.courses) ∧
    ((s.course c).next = none → Effect (.parserTake c e m) s fun u => u = s) ∧
    (s.boot = bRUNNING → s.up (dCOURSE c) = true → (s.course c).stalled = some i →
      Effect (.parserTake c e m) s fun u => u = s) ∧
    (s.sprayed (if hi then 8 else 0) = true →
      (s.inStage (if hi then 8 else 0) (fun g => g.seq.isNone && g.course == (if hi then 2 else 0)) = some i ∨
        (s.inStage (if hi then 8 else 0) (fun g => g.seq.isNone && g.course == (if hi then 2 else 0)) = none ∧
          s.inStage (if hi then 8 else 0) (fun g => g.seq.isNone && g.course == (if hi then 3 else 1)) = some i) →
        s.frame? i = some f → f.port = (if hi then 8 else 0) → f.seq = none →
        (s.course (if hi then 2 else 0)).stalled ≠ some i → (s.course (if hi then 3 else 1)).stalled ≠ some i →
        Effect (.reorderRelease hi) s fun u =>
          (u.frame? i).map (·.stage) = some .decide ∧
          (u.course (if hi then 2 else 0)).dec.take ((s.course (if hi then 2 else 0)).dec.length + 1) =
            (s.course (if hi then 2 else 0)).dec ++ [i]) ∧
      (s.inStage (if hi then 8 else 0) (fun g => g.seq.isNone) = none →
        (s.inStage (if hi then 8 else 0) (fun g => g.seq == some (s.mac (if hi then 8 else 0)).oldest) = some i →
          s.frame? i = some f → f.seq = some (s.mac (if hi then 8 else 0)).oldest → f.port = (if hi then 8 else 0) →
          (s.course (if hi then 2 else 0)).stalled ≠ some i → (s.course (if hi then 3 else 1)).stalled ≠ some i →
          Effect (.reorderRelease hi) s fun u =>
            (u.frame? i).map (fun g => (g.stage, g.seq)) = some (.decide, none) ∧
            (s.mac (if hi then 8 else 0)).oldest < (u.mac (if hi then 8 else 0)).oldest ∧
            (u.course (if hi then 2 else 0)).dec.take ((s.course (if hi then 2 else 0)).dec.length + 1) =
              (s.course (if hi then 2 else 0)).dec ++ [i]) ∧
        (s.inStage (if hi then 8 else 0) (fun g => g.seq == some (s.mac (if hi then 8 else 0)).oldest) = none →
          (s.course (if hi then 2 else 0)).stalled = none → (s.course (if hi then 3 else 1)).stalled = none →
          Effect (.reorderRelease hi) s fun u =>
            u.frames = s.frames ∧ (u.course (if hi then 2 else 0)).dec = (s.course (if hi then 2 else 0)).dec))) ∧
    (s.sprayed (if hi then 8 else 0) = false → Effect (.reorderRelease hi) s fun u => u = s)

/-- R65, R366, R410, R414, R417, R422, R444, R818: the decision on a frame: its queue's account and its ingress account
are charged and it joins, at once or after its last beat; or it is refused, dropped or freed, and counted. -/
def Obligations.AdmissionDecides : Prop :=
  ∀ (c : Fin 4) (same : Bool) (i q : Nat) (l : List Nat) (f : Frame) (nd : Node) (hd : Bool) (s s0 : State),
    s.bootU.asserted = false → s0 = (s.decCycle c same).leaveTransit i →
    s.failed = false → (s.course c).dec = i :: l → s.frame? i = some f → f.res.mirror = none → f.refs = [f.cells] →
    (f.done = true → f.fate true = .to { leaf := true, id := q } → s.leaf? q = some nd →
      (s0.admission (acctOf f.port f.res.pri) { leaf := true, id := q } f.colour f.layout.length =
          .accepted hd →
        Effect (.admissionDecision ⟨c, same⟩) s fun u =>
          (u.course c).dec = l ∧ u.transit = s.transit - f.transit ∧ (u.frame? i).map (·.stage) = some .queued ∧
          (u.leaf? q).map (fun m => (m.fifo.length, m.depth)) =
            some (nd.fifo.length + 1, nd.depth + f.layout.length) ∧
          (if hd then u.admHeld (acctOf f.port f.res.pri) =
              (s.admHeld (acctOf f.port f.res.pri) + f.layout.length) % 2 ^ fPORT_ADM_USE_HEAD.w
            else u.admUse (acctOf f.port f.res.pri) =
              (s.admUse (acctOf f.port f.res.pri) + f.layout.length) % 2 ^ fPORT_ADM_USE_USE.w)) ∧
      (s0.admission (acctOf f.port f.res.pri) { leaf := true, id := q } f.colour f.layout.length =
          .queue →
        Effect (.admissionDecision ⟨c, same⟩) s fun u =>
          (u.course c).dec = l ∧ u.frame? i = none ∧
          u.fget .LOFT_DROP 0 fLOFT_DROP_QUEUE = min (2 ^ fLOFT_DROP_QUEUE.w - 1) (s.fget .LOFT_DROP 0 fLOFT_DROP_QUEUE + 1) ∧
          (u.leaf? q).map (fun m => (m.fifo, m.depth, m.drops)) = some (nd.fifo, nd.depth, sat32 (nd.drops + 1)))) ∧
    (f.done = true → f.fate true = .drop →
      Effect (.admissionDecision ⟨c, same⟩) s fun u =>
        (u.course c).dec = l ∧ u.frame? i = none ∧
        u.fget .TABLE_ACT_CNT 0 fTABLE_ACT_CNT_DROPPED =
          min (2 ^ fTABLE_ACT_CNT_DROPPED.w - 1) (s.fget .TABLE_ACT_CNT 0 fTABLE_ACT_CNT_DROPPED + 1)) ∧
    (f.done = true → f.fate true = .free →
      Effect (.admissionDecision ⟨c, same⟩) s fun u => (u.course c).dec = l ∧ u.frame? i = none ∧ u.leaves = s.leaves) ∧
    (f.done = false → f.fate false = .to { leaf := true, id := q } → s.leaf? q = some nd →
      s0.admission (acctOf f.port f.res.pri) { leaf := true, id := q } f.colour f.layout.length =
        .accepted hd →
      Effect (.admissionDecision ⟨c, same⟩) s fun u =>
        (u.frame? i).map (fun g => (g.stage, g.pend.isSome, g.pendLeaf, g.pendQ)) = some (.waitFcs, true, true, q) ∧
        (u.leaf? q).map (fun m => (m.fifo, m.depth)) = some (nd.fifo, nd.depth + f.layout.length))

/-- R444, R450 to R452, R456 to R458, R486, R629, R687, R751: a course selects the head frame of a leaf of the class its
port serves, with room in the port's transmit buffer, and charges its shapers and the port; a frame that the seal port
must drop goes no further, and a dozing course is woken first; a blocked shaper or a paced port is eligible again once
its credit has refilled to zero. -/
def Obligations.SchedulerSelects : Prop :=
  ∀ (c : Fin 4) (str : Fin 6) (p : Fin 16) (lvl : Fin 3) (i n : Nat) (k : Pkt) (s0 s' : State) (nd : Node) (s : State),
    s.bootU.asserted = false →
    (s.failed = false → s.boot = bRUNNING → s.power.sleep = none → s.up dSCHED = true →
      (s.reachSelect c (s.rising.length + 1) = some (s0, p.val, k, s') → s0.up (dCOURSE c) = true →
        s0.leaf? k.leaf = some nd →
        (k.prot && (!s0.sealEn || !s0.fbit .SEAL_PORT_CFG p fSEAL_PORT_CFG_TX_EN || !k.slotOk)) = false →
        Effect (.schedSelect c .clean str) s (fun u =>
          (u.mac p).txBuf.map (·.fid) = (s0.mac p).txBuf.map (·.fid) ++ [k.fid] ∧
          (u.leaf? k.leaf).map (fun m => (m.fifo, m.frames)) = some (nd.fifo.tail, sat32 (nd.frames + 1)) ∧
          nd.fifo.head?.map (·.fid) = some k.fid ∧ s0.serveClass p = some k.path ∧
          (u.mac p).inFlight = (s0.mac p).inFlight + k.wire ∧ (u.mac p).inFlight ≤ 16384 ∧
          (u.mac p).paceWait = decide (s0.paceNow p < ((k.wire + 20 : Nat) : Int) * byteUnit)) ∧
        Effect (.schedSelect c (.uncorrectable n) str) s fun u =>
          u.failed = true ∧ u.fget .GEN_FAULT_STAT 0 fGEN_FAULT_STAT_CAUSE = 8 ∧ u.leaves = s0.leaves) ∧
      (s.reachSelect c (s.rising.length + 1) = some (s0, p.val, k, s') → s0.up (dCOURSE c) = true →
        (k.prot && (!s0.sealEn || !s0.fbit .SEAL_PORT_CFG p fSEAL_PORT_CFG_TX_EN || !k.slotOk)) = true →
        Effect (.schedSelect c .clean str) s fun u =>
          (u.mac p).txBuf = (s0.mac p).txBuf ∧
          u.fget .SEAL_PORT_ERR p fSEAL_PORT_ERR_TX_STALE =
            min (2 ^ fSEAL_PORT_ERR_TX_STALE.w - 1) (s0.fget .SEAL_PORT_ERR p fSEAL_PORT_ERR_TX_STALE + 1)) ∧
      (s.reachSelect c (s.rising.length + 1) = some (s0, p.val, k, s') → s0.up (dCOURSE c) = false →
        Effect (.schedSelect c .clean str) s fun u => u.leaves = s0.leaves ∧ u.macs = s0.macs) ∧
      (s.reachSelect c (s.rising.length + 1) = none →
        Effect (.schedSelect c .clean str) s fun u => u.leaves = s.leaves ∧ u.macs = s.macs)) ∧
    (s.reachSelect c (s.rising.length + 1) = some (s0, p.val, k, s') →
      s0.selectCourse c = some (p.val, k, s') ∧ s.now ≤ s0.now) ∧
    (lvl.val < 2 → s.node? lvl i = some nd → nd.shaped = true → nd.blocked = true → rateOk nd.rate = true →
      Effect (.shaperEligible lvl i) s fun u =>
        s.now ≤ u.now ∧ (u.node? lvl i).map (·.blocked) = some false ∧
        (u.node? lvl i).all (fun m => decide (0 ≤ m.credit)) = true) ∧
    ((s.mac p).paceWait = true → s.portRate p ≠ 0 →
      Effect (.pacingEligible p) s fun u =>
        (u.mac p).paceWait = false ∧ 0 ≤ (u.mac p).pace ∧ s.now ≤ u.now)

/-- R45, R204, R213, R244, R283, R287, R294, R410, R435, R451, R758, R769, R819: the MAC starts the frames of its buffer
in order, with their timestamps, frees a poisoned one, holds a preemptable one that an express frame cuts, and goes on
with a held one even while it may start none; it lets a frame that has left go, once its timestamp is known, padded
and with a good FCS. -/
def Obligations.FramesLeavePorts : Prop :=
  ∀ (p : Fin 16) (x : Path) (cut add sent total n : Nat) (delta : Int) (k : Pkt) (l : List Pkt) (t : TxCur) (nd : Node)
    (b : List Byte)
      (s : State), s.bootU.asserted = false →
    (64 ≤ (onWire b).length ∧ fcsGood (onWire b) = true ∧ (onWire b).take b.length = b) ∧
    (s.macMay p = true → (s.mac p).cur = none → s.sealU.enNext = none → s.sealEn = false → s.sealU.tx = [] →
      s.mReady p = false → s.fcReady p = false → s.lpmReady p = false →
      (s.preemptActive p = false → (s.mac p).held = none → (s.mac p).txBuf = k :: l → k.prot = false →
        (k.tsOp = 0 ∨ s.divisorPending = false) →
        Effect (.egressFrameStart p x {}) s fun u =>
          (u.mac p).txBuf = l ∧
          if s.pktPoisoned k = true then
            (u.mac p).cur = none ∧ u.fget .GEN_INTEG_POISON 0 fGEN_INTEG_POISON_TX_FREED =
              min (2 ^ fGEN_INTEG_POISON_TX_FREED.w - 1) (s.fget .GEN_INTEG_POISON 0 fGEN_INTEG_POISON_TX_FREED + 1)
          else (u.mac p).cur.map (fun z => (z.ts, z.frag, z.lane, z.one)) =
              some (s.egressTime p k x, 0, x.lane.val, k.tsOp != 0) ∧
            (k.tsOp = 0 → k.host = none → (u.mac p).cur.map (·.pkt.bytes) = some k.bytes) ∧
            (k.tsOp ≠ 0 → (u.lane x.lane).oneStep = (s.lane x.lane).oneStep ++ [x.sym])) ∧
      (s.preemptActive p = false → (s.mac p).held = none → (s.mac p).txBuf = k :: l → k.tsOp ≠ 0 →
        s.divisorPending = true →
        Effect (.egressFrameStart p x {}) s fun u =>
          (u.mac p).txBuf = k :: l ∧ (u.mac p).cur = none ∧ u.fbit .TIME_STAT 0 fTIME_STAT_CCLK_HOLD = true) ∧
      ((s.mac p).held = some t → (s.mac p).txBuf.any (·.express) = false →
        Effect (.egressFrameStart p x {}) s fun u => (u.mac p).cur = some t ∧ (u.mac p).held = none)) ∧
    (s.macMay p = false → s.goesOn p = false → Effect (.egressFrameStart p x {}) s fun u => u.macs = s.macs) ∧
    (s.macMay p = false → s.goesOn p = true → s.sealU.tx = [] → (s.mac p).cur = none → (s.mac p).held = some t →
      Effect (.egressFrameStart p x {}) s fun u => (u.mac p).cur = some t ∧ (u.mac p).held = none) ∧
    (s.failed = false → s.sealEn = false → s.preemptActive p = true → s.sealU.tx = [] →
      (s.mac p).cur = some t → t.pkt.express = false → s.expressWaits p = true →
      add = s.fget .PORT_PREEMPT_CFG p fPORT_PREEMPT_CFG_ADD_FRAG_SIZE →
      (fragPoint add t.frag t.pkt.bytes.length cut = some n → t.number.isSome = true →
        Effect (.preemptFragmentEnd p cut) s fun u =>
          (u.mac p).cur = none ∧ (u.mac p).held.map (·.frag) = some (t.frag + n)) ∧
      (fragPoint add t.frag t.pkt.bytes.length cut = none ∨ t.number = none →
        Effect (.preemptFragmentEnd p cut) s fun u => (u.mac p).cur = some t)) ∧
    (fragPoint add sent total cut = some n →
      cut ≤ n ∧ 64 * (1 + add) - 4 ≤ n ∧ (sent + n) % 8 = 0 ∧ sent + n + 60 ≤ total ∧
      ∀ m, cut ≤ m → 64 * (1 + add) - 4 ≤ m → (sent + m) % 8 = 0 → n ≤ m) ∧
    (s.failed = false → (s.mac p).cur = some t → s.leaf? t.pkt.leaf = some nd → nd.born = t.pkt.born →
      Effect (.egressFrameEnd p ⟨delta, .uncorrectable n⟩) s (fun u =>
        u.failed = true ∧ u.fget .GEN_FAULT_STAT 0 fGEN_FAULT_STAT_CAUSE = Cause.loftCtrlEcc.code ∧ u.leaves = s.leaves) ∧
      Effect (.egressFrameEnd p ⟨delta, .clean⟩) s fun u =>
        u.now = max s.now (s.endsAt t) ∧ (u.mac p).cur = none ∧ (u.mac p).lastTx = onWire t.pkt.bytes ∧
        (u.mac p).inFlight = (s.mac p).inFlight - t.pkt.wire ∧
        (u.leaf? t.pkt.leaf).map (·.depth) = some (nd.depth - t.pkt.ids.length) ∧
        u.fget .STATS_PORT (p * 64 + 32) fSTATS_PORT_COUNT =
          (s.fget .STATS_PORT (p * 64 + 32) fSTATS_PORT_COUNT + 1) % 2 ^ 48 ∧
        u.fget .STATS_PORT (p * 64 + 33) fSTATS_PORT_COUNT =
          (s.fget .STATS_PORT (p * 64 + 33) fSTATS_PORT_COUNT + (onWire t.pkt.bytes).length) % 2 ^ 48)

/-- Frame of the lanes and of live calibration: a command changes only registers of its lane (a quad's: of its lanes),
what the block holds of that lane, that the port which owns the lane has a live pitch message due, the time, and free
values drawn; a served write also its response, which access was served last, the staging latch, and GEN_ACC_ERR. -/
def Obligations.LaneFrame : Prop :=
  ∀ (q : Fin 4) (n : Fin 16) (b : Bool) (head pattern : List (Fin 4)) (est : RxSet) (i i' i'' : Nat)
    (x : Option RxSet) (w : Word) (s : State), s.bootU.asserted = false →
    (∀ cmd ∈ ([.cdrLock ⟨n, b⟩, .cdrLockLoss ⟨n, b⟩, .localReady n, .trainSearchMeasure n] : List Instr),
      Effect cmd s fun u =>
        RegsKept (within n [.LANE_STAT] []) s u ∧
        { u with regs := s.regs, lanes := s.lanes } = s ∧
        (∀ m : Fin 16, m ≠ n → u.lane m = s.lane m)) ∧
    (∀ cmd ∈ ([.frameLock n, .frameLockLost n, .trainingFrameRx n head pattern, .trainFrameTxStart n,
      .fixedModeReady n, .trainReqTimeout n, .trainingTimeout n, .countdownTimeout n, .failRetry n,
      .signalLoss n] : List Instr), Effect cmd s fun u =>
        RegsKept (within n (rxRegs ++ trainRegs ++ ([.LANE_TRAIN_CNT, .LANE_TRAIN_LAST] : List RegId))
          [.TIME_SLEW_REM]) s u ∧
        { u with regs := s.regs, now := s.now, macs := s.macs, time := s.time, lanes := s.lanes } = s ∧
        (∀ m : Fin 16, m ≠ n → u.lane m = s.lane m) ∧
        (∀ o : Fin 16, s.laneOwner n ≠ some o.val → u.mac o = s.mac o)) ∧
    (∀ cmd ∈ ([.liveReqTimeout n, .liveSearchMeasure n, .liveSearchTrial n, .rxUpdateInterval n est,
      .txUpdateInterval n, .stepApply n b, .pfBlockDone n i i' x i''] : List Instr), Effect cmd s fun u =>
        RegsKept (within n (rxRegs ++ ([.LANE_CAL_CNT, .LANE_CAL_EVENT, .LANE_CAL_STAT, .LANE_PATTERN_ERR, .LANE_PF,
          .LANE_STAT, .LANE_TX_TAPS] : List RegId)) [.TIME_SLEW_REM]) s u ∧
        { u with regs := s.regs, now := s.now, free := s.free, macs := s.macs, time := s.time,
                 lanes := s.lanes } = s ∧
        (∀ m : Fin 16, m ≠ n → u.lane m = s.lane m) ∧
        (∀ o : Fin 16, s.laneOwner n ≠ some o.val → u.mac o = s.mac o)) ∧
    (∀ cmd ∈ ([.quadPllLock q, .quadPllLockLost q] : List Instr), Effect cmd s fun u =>
        RegsKept (fun id i => (id == .LANE_QUAD_STAT && i == q) || ((rxRegs ++ trainRegs).contains id && id.unit i /
          4 == q)) s u ∧
        { u with regs := s.regs, macs := s.macs, lanes := s.lanes } = s ∧
        (∀ m : Fin 16, m.val / 4 ≠ q → u.lane m = s.lane m)) ∧
    (∀ cmd ∈ ([(.LANE_CTRL, n.val, .laneEnable n), (.LANE_CTRL, n.val, .laneDisable n),
      (.LANE_CTRL, n.val, .laneRestart n), (.LANE_LOOP, n.val, .laneLoopWrite n w),
      (.LANE_PATTERN, n.val, .lanePatternWrite n w), (.LANE_TX_FIXED, n.val, .laneTxFixedWrite n w),
      (.LANE_RX_EQ, n.val, .ctleHoldWrite n w),
      (.LANE_CAL_TX_SET, n.val, .calTxSetWrite n w)] : List (RegId × Nat × Instr)),
      s.serves cmd.1 cmd.2.1 = true → Effect cmd.2.2 s fun u =>
        RegsKept (within n (rxRegs ++ trainRegs ++ ([.LANE_CAL_EVENT, .LANE_CAL_TX_SET, .LANE_PATTERN,
          .LANE_TX_FIXED] : List RegId)) [.GEN_ACC_ERR, .LANE_QUAD_STAT]) s u ∧
        { u with regs := s.regs, staged := s.staged, ctResp := s.ctResp, ctOut := s.ctOut, ctLast := s.ctLast,
                 macs := s.macs, lanes := s.lanes } = s ∧
        (∀ m : Fin 16, m ≠ n → u.lane m = s.lane m) ∧
        (∀ o : Fin 16, s.laneOwner n ≠ some o.val → u.mac o = s.mac o))

/-- Frame of the ports and of block time: a command of a port changes only registers and the MAC of that port and the
time; one of block time only registers and the state of the time unit. -/
def Obligations.PortTimeFrame : Prop :=
  ∀ (p : Fin 16) (kind : Fin 3) (skews : List Nat) (k : Fin 9) (fixed : Option (List Nat)) (b : Bool) (k' : Fin 2)
    (w : Word) (c : Fin 4) (s : State), s.bootU.asserted = false →
    (∀ cmd ∈ ([.faultOrderedSetRx p kind, .markerLock p, .markerLockLost p, .skewMeasured p skews] : List Instr),
      Effect cmd s fun u =>
        RegsKept (within p [.PORT_LINK_EVT, .PORT_LINK_STAT, .PORT_MAC_EVT, .PORT_MAC_STAT] [.LANE_SKEW]) s u ∧
        { u with regs := s.regs, lanes := s.lanes } = s) ∧
    (∀ cmd ∈ ([.fcFrameSend p, .fcResendTimer p k, .fecCodewordDecode p fixed, .fecWindowEnd p,
      .pauseTimerExpiry p k, .preemptVerifyTimer p, .verifyPacketRx p, .respondPacketRx p, .lpmDueTimer p,
      .pacingEligible p] : List Instr), Effect cmd s fun u =>
        RegsKept (within p [.PORT_FC_STAT, .PORT_FEC_CNT, .PORT_FEC_EVT, .PORT_FEC_HIST, .PORT_FEC_LANE,
          .PORT_FEC_STAT, .PORT_FEC_SYM, .PORT_MAC_EVT, .PORT_PREEMPT_STAT, .STATS_HALF, .STATS_PORT]
          [.TIME_SLEW_REM]) s u ∧
        { u with regs := s.regs, now := s.now, macs := s.macs, time := s.time, lanes := s.lanes } = s ∧
        (∀ o : Fin 16, o ≠ p → u.mac o = s.mac o)) ∧
    (∀ cmd ∈ ([.ppsInEdge b, .ppsInMissTimer, .ppsOutEdge, .ppsOutFall, .rclkUnsquelch k', .timeLoadApply,
      .timeSlewDone] : List Instr), Effect cmd s fun u =>
        RegsKept (only [.TIME_EVT, .TIME_LOAD_CTRL, .TIME_PPS_IN_CAP_L, .TIME_SLEW_REM, .TIME_STAT]) s u ∧
        { u with regs := s.regs, now := s.now, time := s.time } = s) ∧
    (∀ cmd ∈ ([(.TIME_LOAD_CTRL, 0, .timeSetNow), (.TIME_LOAD_CTRL, 0, .timeStepNow),
      (.TIME_LOAD_CTRL, 0, .timeSetAtPps), (.TIME_LOAD_CTRL, 0, .timeSlewStart),
      (.TIME_LOAD_CTRL, 0, .timeLoadCancel), (.TIME_LOAD_CTRL, 0, .timeSlewCancel),
      (.TIME_ADDEND, 0, .timeAddendWrite w)] : List (RegId × Nat × Instr)),
      s.serves cmd.1 cmd.2.1 = true → Effect cmd.2.2 s fun u =>
        RegsKept (only [.GEN_ACC_ERR, .TIME_ADDEND, .TIME_EVT, .TIME_LOAD_CTRL, .TIME_SLEW_REM, .TIME_STAT]) s u ∧
        { u with regs := s.regs, staged := s.staged, ctResp := s.ctResp, ctOut := s.ctOut, ctLast := s.ctLast,
                 time := s.time } = s) ∧
    (∀ cmd ∈ ([(.TIME_NOW_L, 0, .timeNowRead)] : List (RegId × Nat × Instr)),
      s.serves cmd.1 cmd.2.1 = true → Effect cmd.2.2 s fun u =>
        RegsKept (only [.GEN_ACC_ERR, .TIME_NOW_H, .TIME_NOW_L, .TIME_SLEW_REM]) s u ∧
        { u with regs := s.regs, latch := s.latch, staged := s.staged, ctResp := s.ctResp, ctOut := s.ctOut,
                 ctLast := s.ctLast, now := s.now, time := s.time } = s) ∧
    (∀ cmd ∈ ([(.COURSE_PORT_MAP, c.val, .portMapWrite c w),
      (.PORT_MODE, p.val, .portModeWrite p w)] : List (RegId × Nat × Instr)),
      s.serves cmd.1 cmd.2.1 = true → Effect cmd.2.2 s fun u =>
        RegsKept (only [.COURSE_KPROF, .COURSE_KSEL, .COURSE_MAP_STAT, .COURSE_PARSE_CFG, .COURSE_PORT_MAP,
          .COURSE_SLOW_CFG, .COURSE_UDP_PORTS, .GEN_ACC_ERR, .LANE_PATTERN, .PORT_ADM_DROP, .PORT_DIAG_CNT,
          .PORT_FEC_CFG, .PORT_FEC_CNT, .PORT_FEC_HIST, .PORT_FEC_LANE, .PORT_FEC_STAT, .PORT_FEC_SYM,
          .PORT_LPM_CNT, .PORT_MODE, .SEAL_PORT_CNT, .SEAL_PORT_ERR, .STATS_PORT]) s u ∧
        { u with regs := s.regs, staged := s.staged, ctResp := s.ctResp, ctOut := s.ctOut, ctLast := s.ctLast,
                 macs := s.macs } = s)

/-- Frame of power, boot, the general channels, the interrupt controller and the seal port: what each group of their
commands may change, and nothing else; a served access also its response, which access was served last, the latches
and GEN_ACC_ERR. -/
def Obligations.UnitFrame : Prop :=
  ∀ (p : Fin 16) (b : List Byte) (b' : Bool) (h : Fin 64) (check : Fin 256) (sites : List (Option Int)) (d : Fin 15)
    (a : Resp) (v : Fin 4096) (q : Fin 4352) (t : Fin 1024) (ch : Fin 4) (x : SealResp) (w : Word) (z : BitVec 32)
    (s : State), s.bootU.asserted = false →
    (∀ cmd ∈ ([.watchMagicFrame p b b', .watchPatternMatch p b b', .watchSignalDetect p, .liggerPing h check,
      .liggerStatus h check, .liggerHostWake h check, .liggerRead h, .wakeTimerExpiry, .sleepWake] : List Instr),
      Effect cmd s fun u =>
        RegsKept (only (wakeRegs ++ ([.POWER_LIG_EVT, .TIME_SLEW_REM] : List RegId))) s u ∧
        { u with regs := s.regs, now := s.now, adminCur := s.adminCur, adminDue := s.adminDue, time := s.time,
                 power := s.power } = s) ∧
    (∀ cmd ∈ ([.thermSample sites, .surgeBucketEnd, .surgeTimeLimit, .voltAck, .vregTimeout, .dozeWindowExpiry,
      .domainDozeEntry d, .cclkDivisorChange, .sleepPadsHeld] : List Instr), Effect cmd s fun u =>
        RegsKept (only [.POWER_DOM_STAT, .POWER_EVT, .POWER_PAD, .POWER_READY, .POWER_STAT, .POWER_THERM_EVT,
          .POWER_THERM_STAT, .TIME_SLEW_REM, .TIME_STAT]) s u ∧
        { u with regs := s.regs, now := s.now, adminCur := s.adminCur, adminDue := s.adminDue, macs := s.macs,
                 time := s.time, power := s.power, sealU := s.sealU } = s) ∧
    (∀ cmd ∈ ([.bootDelayExpiry, .xspiResetRelease, .xspiWindowDone b, .bootLoadEnd] : List Instr),
      Effect cmd s fun u =>
        RegsKept (only [.BOOT_EVT, .BOOT_IMG_A, .BOOT_IMG_B, .BOOT_STAT, .BOOT_XSPI_CMD, .BOOT_XSPI_DATA,
          .DMA_CHAN_STAT, .POWER_STAT, .TIME_SLEW_REM]) s u ∧
        { u with regs := s.regs, now := s.now, chans := s.chans, adminCur := s.adminCur, time := s.time,
                 power := s.power, bootU := s.bootU } = s) ∧
    (∀ cmd ∈ ([.dmaChanStopped h, .dmaDescComplete h, .dmaDataReadDone a, .dmaDataWriteDone a, .dmaWritebackDone a,
      .dmaDescReadDone a] : List Instr), Effect cmd s fun u =>
        RegsKept (only (rafterRegs ++ ([.DMA_CHAN_BYTES, .DMA_CHAN_CUR, .DMA_CHAN_DONE_BYTES, .DMA_CHAN_DONE_CNT,
          .DMA_CHAN_EVT, .DMA_CHAN_STAT, .GEN_INTEG_CORR, .GEN_INTEG_EVT] : List RegId))) s u ∧
        { u with regs := s.regs, rafterQ := s.rafterQ, outst := s.outst, chans := s.chans } = s) ∧
    (∀ cmd ∈ ([.hostSleepChange h b', .intcModTimerExpiry v, .intcSourceChange q] : List Instr),
      Effect cmd s fun u =>
        RegsKept (only (wakeRegs ++ ([.INTC_FVEC, .INTC_SRC, .INTC_VEC, .POWER_DOM_STAT, .POWER_READY,
          .TIME_SLEW_REM] : List RegId))) s u ∧
        { u with regs := s.regs, now := s.now, adminCur := s.adminCur, adminDue := s.adminDue, time := s.time,
                 power := s.power, vecTimers := s.vecTimers, deferred := s.deferred } = s) ∧
    (∀ cmd ∈ ([.intcMessageSend t, .intcMessageWriteDone a] : List Instr), Effect cmd s fun u =>
        RegsKept (only (failRegs ++ rafterRegs ++ ([.INTC_FVEC, .INTC_MSG_CNT, .INTC_VEC] : List RegId))) s u ∧
        { u with regs := s.regs, outst := s.outst, rftPins := s.rftPins, rftAt := s.rftAt, rclk := s.rclk,
                 faultAt := s.faultAt, macs := s.macs, vecTimers := s.vecTimers } = s) ∧
    (∀ cmd ∈ ([.sealEnApply, .sealHoldSweepEnd, .sealBindRead, .sealBindWrite] : List Instr), Effect cmd s fun u =>
        RegsKept (only [.GEN_ACC_ERR, .SEAL_BIND_CMD, .SEAL_BIND_DATA, .SEAL_CFG, .SEAL_EVT, .SEAL_PORT_STAT,
          .TABLE_EM_OCC, .TIME_SLEW_REM]) s u ∧
        { u with regs := s.regs, now := s.now, leaves := s.leaves, clients := s.clients, groups := s.groups,
                 active := s.active, tables := s.tables, time := s.time, sealU := s.sealU } = s) ∧
    (∀ cmd ∈ ([.sealAlarm p v b', .sealTxResponse ch x, .sealRxTimeout ch] : List Instr), Effect cmd s fun u =>
        RegsKept (only (failRegs ++ ([.SEAL_ALARM_LOG, .SEAL_EVT, .SEAL_PORT_CNT, .SEAL_PORT_STAT, .SEAL_SLOT,
          .TABLE_EM_OCC, .TIME_SLEW_REM] : List RegId))) s u ∧
        { u with regs := s.regs, now := s.now, faultAt := s.faultAt, leaves := s.leaves, clients := s.clients,
                 groups := s.groups, active := s.active, tables := s.tables, macs := s.macs, time := s.time,
                 sealU := s.sealU } = s) ∧
    (∀ cmd ∈ ([(.DMA_CHAN_CTRL, h.val, .dmaChanStart h), (.DMA_CHAN_CTRL, h.val, .dmaChanStop h),
      (.DMA_CHAN_APPEND, h.val, .dmaChanAppend h), (.INTC_SRC, q.val, .intcSrcWrite q w),
      (.INTC_VEC, v.val, .intcVecWrite v w), (.INTC_CLAIM, h.val, .intcClaim h), (.INTC_EOI, h.val, .intcEoi h z),
      (.INTC_FCLAIM, h.val, .intcFclaim h), (.INTC_FEOI, h.val, .intcFeoi h z), (.SEAL_CFG, 0, .sealEnWrite b'),
      (.POWER_THERM_CTRL, 0, .thermUnlock),
      (.BOOT_XSPI_CMD, 0, .xspiWindowTransaction z)] : List (RegId × Nat × Instr)),
      s.serves cmd.1 cmd.2.1 = true → Effect cmd.2.2 s fun u =>
        RegsKept (only (wakeRegs ++ ([.BOOT_XSPI_CMD, .DMA_CHAN_APPCNT, .DMA_CHAN_APPEND, .DMA_CHAN_CTRL,
          .DMA_CHAN_CUR, .DMA_CHAN_DONE_BYTES, .DMA_CHAN_EVT, .DMA_CHAN_STAT, .GEN_ACC_ERR, .INTC_CLAIM,
          .INTC_CORE_STAT, .INTC_EOI, .INTC_FCLAIM, .INTC_FEOI, .INTC_FSTAT, .INTC_FVEC, .INTC_SRC, .INTC_VEC,
          .POWER_THERM_CTRL, .POWER_THERM_EVT, .POWER_THERM_STAT, .SEAL_CFG, .SEAL_EVT] : List RegId))) s u ∧
        { u with regs := s.regs, latch := s.latch, staged := s.staged, ctResp := s.ctResp, ctOut := s.ctOut,
                 ctLast := s.ctLast, chans := s.chans, adminCur := s.adminCur, adminDue := s.adminDue,
                 power := s.power, bootU := s.bootU, sealU := s.sealU, vecTimers := s.vecTimers } = s)

/-- Frame of the tables, the windows and the admin engine with its commands: what each group of them may change, and
nothing else; a served access also its response, which access was served last, the staging latch and GEN_ACC_ERR. -/
def Obligations.TableAdminFrame : Prop :=
  ∀ (a : Resp) (t : Fin 4) (w : Word) (z : BitVec 32) (k : Fin 16) (s : State), s.bootU.asserted = false →
    (∀ cmd ∈ ([.tableSearch, .tableInsert, .tableDelete, .tableUpdate, .tableRead, .commitEdge, .drainEnd,
      .drainSlowTimer, .settleSweepEnd, .abortSweepEnd] : List Instr), Effect cmd s fun u =>
        RegsKept (only (tableRegs ++ ([.TABLE_GEN_CTRL, .TIME_SLEW_REM] : List RegId))) s u ∧
        { u with regs := s.regs, now := s.now, tables := s.tables, genAt := s.genAt, editQ := s.editQ,
                 time := s.time } = s) ∧
    (∀ cmd ∈ ([.schedWinRead, .schedWinWrite] : List Instr), Effect cmd s fun u =>
        RegsKept (only [.SCHED_WIN_CMD, .SCHED_WIN_DATA_0, .SCHED_WIN_DATA_1, .SCHED_WIN_DATA_2, .SCHED_WIN_DATA_3,
          .SCHED_WIN_STAT]) s u ∧
        { u with regs := s.regs, leaves := s.leaves, clients := s.clients, groups := s.groups, active := s.active,
                 rising := s.rising } = s) ∧
    (∀ cmd ∈ ([.meterWinRead, .meterWinReadClear, .meterWinWrite, .meterWinWriteFill] : List Instr),
      Effect cmd s fun u =>
        RegsKept (only [.METER_WIN_CMD, .METER_WIN_DATA_0, .METER_WIN_DATA_1, .METER_WIN_DATA_2, .METER_WIN_DATA_3,
          .METER_WIN_DATA_4, .METER_WIN_DATA_5, .METER_WIN_STAT]) s u ∧
        { u with regs := s.regs, meters := s.meters } = s) ∧
    (∀ cmd ∈ ([.statsWinRead, .statsWinPeek] : List Instr), Effect cmd s fun u =>
        RegsKept (only (wakeRegs ++ statRegs ++ ([.POWER_DOM_STAT, .POWER_READY, .STATS_WIN_CMD, .STATS_WIN_DATA,
          .STATS_WIN_STAT] : List RegId))) s u ∧
        { u with regs := s.regs, txrs := s.txrs, rxrs := s.rxrs, adminCur := s.adminCur, adminDue := s.adminDue,
                 leaves := s.leaves, meters := s.meters, power := s.power } = s) ∧
    (∀ cmd ∈ ([.qwRound, .qwRoundDone a] : List Instr), Effect cmd s fun u =>
        RegsKept (only (rafterRegs ++ ([.QW_CNT, .QW_PROD, .SCHED_EVT, .TIME_SLEW_REM] : List RegId))) s u ∧
        { u with regs := s.regs, now := s.now, rafterQ := s.rafterQ, outst := s.outst, qwNext := s.qwNext,
                 qwOut := s.qwOut, qwLen := s.qwLen, qwRound := s.qwRound, qwFail := s.qwFail, time := s.time } = s) ∧
    (∀ cmd ∈ ([.adminCommandReadDone a, .adminCompletionWrite, .fenceRelease, .adminCompletionDone a] : List Instr),
      Effect cmd s fun u =>
        RegsKept (only (rafterRegs ++ lopRegs ++ ([.ADMIN_ACQ_PROD, .ADMIN_ASQ_CONS, .ADMIN_CFG, .ADMIN_EVT,
          .ADMIN_STAT] : List RegId))) s u ∧
        { u with regs := s.regs, rafterQ := s.rafterQ, outst := s.outst, adminFifo := s.adminFifo,
                 adminDue := s.adminDue, lops := s.lops, power := s.power } = s) ∧
    (∀ cmd ∈ ([.nop, .powerState, .meterWrite, .tableEdit, .schedNodeCreate, .schedNodeWrite] : List Instr),
      Effect cmd s fun u =>
        RegsKept (only (wakeRegs ++ ([.ADMIN_EVT, .POWER_DOM_STAT, .POWER_READY] : List RegId))) s u ∧
        { u with regs := s.regs, rafterQ := s.rafterQ, adminFifo := s.adminFifo, adminStalled := s.adminStalled,
                 adminCur := s.adminCur, adminDue := s.adminDue, leaves := s.leaves, clients := s.clients,
                 groups := s.groups, active := s.active, rising := s.rising, births := s.births, meters := s.meters,
                 power := s.power } = s) ∧
    (∀ cmd ∈ ([.txrCreate, .rxrCreate, .cqCreate, .cqDestroy, .txrDestroy, .rxrDestroy,
      .schedNodeDestroy] : List Instr), Effect cmd s fun u =>
        RegsKept (only (wakeRegs ++ ringRegs ++ loftRegs ++ ([.ADMIN_EVT, .CQ_CONS, .CQ_PROD, .CQ_STAT,
          .POWER_DOM_STAT, .POWER_READY] : List RegId))) s u ∧
        { u with regs := s.regs, txrs := s.txrs, rxrs := s.rxrs, cqs := s.cqs, adminFifo := s.adminFifo,
                 adminStalled := s.adminStalled, adminCur := s.adminCur, adminDue := s.adminDue, frames := s.frames,
                 bankUse := s.bankUse, freed := s.freed, leaves := s.leaves, clients := s.clients,
                 groups := s.groups, active := s.active, macs := s.macs, power := s.power } = s) ∧
    (∀ cmd ∈ ([.tableGen, .laneRetrain, .statsSnapshot] : List Instr), Effect cmd s fun u =>
        RegsKept (only (wakeRegs ++ rxRegs ++ tableRegs ++ statRegs ++ ([.ADMIN_EVT, .LANE_CAL_STAT, .LANE_CTRL,
          .LANE_LOOP, .LANE_STAT, .LANE_TX_TAPS, .POWER_DOM_STAT, .POWER_READY, .TABLE_GEN_CTRL] : List RegId))) s u ∧
        { u with regs := s.regs, now := s.now, rafterQ := s.rafterQ, txrs := s.txrs, rxrs := s.rxrs,
                 adminFifo := s.adminFifo, adminStalled := s.adminStalled, adminCur := s.adminCur,
                 adminDue := s.adminDue, leaves := s.leaves, meters := s.meters, tables := s.tables,
                 genAt := s.genAt, editQ := s.editQ, lanes := s.lanes, power := s.power } = s) ∧
    (∀ cmd ∈ ([.tableBulkLoad, .tableRehash, .statsDump, .eyeScan, .loftScrub, .opSuspend, .opResume,
      .opCancel] : List Instr), Effect cmd s fun u =>
        RegsKept (only (wakeRegs ++ lopRegs ++ ([.ADMIN_EVT, .POWER_DOM_STAT, .POWER_READY, .TABLE_EM_OCC,
          .TABLE_EM_SEED, .TABLE_EM_SEED_OLD, .TABLE_GEN_EVT, .TABLE_GEN_STAT] : List RegId))) s u ∧
        { u with regs := s.regs, now := s.now, rafterQ := s.rafterQ, adminFifo := s.adminFifo,
                 adminStalled := s.adminStalled, adminCur := s.adminCur, adminDue := s.adminDue, lops := s.lops,
                 lopSeq := s.lopSeq, tables := s.tables, power := s.power } = s) ∧
    (∀ cmd ∈ ([(.TABLE_EM_CFG, t.val, .tableCfgWrite t w), (.TABLE_GEN_CTRL, 0, .tableGenOpen),
      (.TABLE_GEN_CTRL, 0, .tableGenCommit), (.TABLE_GEN_CTRL, 0, .tableGenAbort), (.QW_CFG, 0, .qwEnable w),
      (.ADMIN_ASQ_PROD, 0, .adminDoorbell z), (.ADMIN_ACQ_CONS, 0, .adminAcqConsWrite z),
      (.ADMIN_LOP_CTRL, k.val, .lopSuspendReg k), (.ADMIN_LOP_CTRL, k.val, .lopResumeReg k),
      (.ADMIN_LOP_CTRL, k.val, .lopCancelReg k),
      (.ADMIN_LOP_CTRL, k.val, .lopRelease k)] : List (RegId × Nat × Instr)),
      s.serves cmd.1 cmd.2.1 = true → Effect cmd.2.2 s fun u =>
        RegsKept (only (wakeRegs ++ lopRegs ++ tableRegs ++ ([.ADMIN_ACQ_CONS, .ADMIN_ASQ_PROD, .ADMIN_EVT,
          .ADMIN_LOP_CTRL, .ADMIN_STAT, .GEN_ACC_ERR, .POWER_DOM_STAT, .POWER_READY, .QW_CFG, .QW_CONS, .QW_PROD,
          .SCHED_EVT, .TABLE_EM_CFG, .TABLE_GEN_CTRL] : List RegId))) s u ∧
        { u with regs := s.regs, staged := s.staged, ctResp := s.ctResp, ctOut := s.ctOut, ctLast := s.ctLast,
                 now := s.now, rafterQ := s.rafterQ, adminCur := s.adminCur, adminDue := s.adminDue, lops := s.lops,
                 qwNext := s.qwNext, qwRound := s.qwRound, tables := s.tables, genAt := s.genAt, editQ := s.editQ,
                 power := s.power } = s)

/-- Frame of the rings and of frames from wire to wire: what each group of their commands may change, and nothing else; a
served access also its response, which access was served last, the staging latch and GEN_ACC_ERR. -/
def Obligations.RingTrafficFrame : Prop :=
  ∀ (b : Bool) (r : Fin 16384) (v : Fin 4096) (k : ComplRun) (a : Resp) (h : CacheRead) (p v' : Fin 4)
    (t : Fin 1024) (d : AdmitCheck) (e : CellRead) (i : Nat) (e' e'' : Ecc) (p' : Fin 16) (x : RxFrame) (t' : Path)
    (g : Fragment) (str : Fin 6) (lvl : Fin 3) (o : EgressDone) (z : BitVec 32) (s : State),
    s.bootU.asserted = false →
    (∀ cmd ∈ ([.shadowWrite b r, .completionWriteIssue v k, .txEntryRetire r, .txrDrainEnd r,
      .rxrResetDone r] : List Instr), Effect cmd s fun u =>
        RegsKept (only (failRegs ++ ([.CQ_PROD, .GEN_INTEG_CORR, .RXR_CTRL, .TIME_SLEW_REM, .TXR_CONS, .TXR_STAT] :
          List RegId))) s u ∧
        { u with regs := s.regs, now := s.now, rafterQ := s.rafterQ, txrs := s.txrs, rxrs := s.rxrs, cqs := s.cqs,
                 faultAt := s.faultAt, macs := s.macs, time := s.time } = s) ∧
    (∀ cmd ∈ ([.txEntryReadDone a h, .descRereadDone a b, .rxBufferReadDone a h, .shadowWriteDone a,
      .rafterStrayResponse p t v'] : List Instr), Effect cmd s fun u =>
        RegsKept (only (failRegs ++ rafterRegs ++ ([.GEN_INTEG_CORR, .RXR_CONS, .TXR_FETCH] : List RegId))) s u ∧
        { u with regs := s.regs, free := s.free, rafterQ := s.rafterQ, outst := s.outst, txrs := s.txrs,
                 rxrs := s.rxrs, cqs := s.cqs, faultAt := s.faultAt, macs := s.macs } = s) ∧
    (Effect (.completionWriteDone a) s fun u =>
        RegsKept (only (failRegs ++ wakeRegs ++ rafterRegs ++ ([.INTC_FVEC, .INTC_VEC, .TXR_STAT] : List
          RegId))) s u ∧
        { u with regs := s.regs, outst := s.outst, txrs := s.txrs, rxrs := s.rxrs, cqs := s.cqs,
                 faultAt := s.faultAt, adminCur := s.adminCur, adminDue := s.adminDue, macs := s.macs,
                 power := s.power, vecTimers := s.vecTimers } = s) ∧
    (∀ cmd ∈ ([.hostAdmission d, .txFragmentReadDone a b, .rxDataWriteDone a, .rxDeliveryStart r e] : List Instr),
      Effect cmd s fun u =>
        RegsKept (only (failRegs ++ wakeRegs ++ rafterRegs ++ loftRegs ++ ([.GEN_INTEG_CORR, .GEN_INTEG_POISON,
          .LOFT_ECC, .LOFT_EVT, .LOFT_HOST_WAIT, .POWER_DOM_STAT, .POWER_READY, .RXR_CONS, .TIME_SLEW_REM,
          .TXR_FETCH, .TXR_STAT] : List RegId))) s u ∧
        { u with regs := s.regs, now := s.now, free := s.free, nextId := s.nextId, rafterQ := s.rafterQ,
                 outst := s.outst, txrs := s.txrs, rxrs := s.rxrs, cqs := s.cqs, faultAt := s.faultAt,
                 adminCur := s.adminCur, adminDue := s.adminDue, frames := s.frames, bankUse := s.bankUse,
                 moverBank := s.moverBank, freed := s.freed, lastDec := s.lastDec, fcThen := s.fcThen,
                 leaves := s.leaves, clients := s.clients, groups := s.groups, active := s.active,
                 rising := s.rising, macs := s.macs, time := s.time, power := s.power } = s) ∧
    (Effect (.rafterRequestIssue p t b i) s fun u =>
        RegsKept (only [.ADMIN_ASQ_CONS, .ADMIN_CFG, .ADMIN_EVT, .DMA_CHAN_DONE_BYTES, .DMA_CHAN_STAT]) s u ∧
        { u with regs := s.regs, rafterQ := s.rafterQ, outst := s.outst, rftPins := s.rftPins, rftAt := s.rftAt,
                 rrLast := s.rrLast, rclk := s.rclk, chans := s.chans, txrs := s.txrs, rxrs := s.rxrs,
                 adminFifo := s.adminFifo, adminReadPtr := s.adminReadPtr } = s) ∧
    (∀ cmd ∈ ([.reorderRelease b, .parserTake p e' e'', .preemptFragmentEnd p' i] : List Instr),
      Effect cmd s fun u =>
        RegsKept (only (failRegs ++ wakeRegs ++ ([.COURSE_PARSE_CNT, .COURSE_PARSE_EVT, .COURSE_SPRAY_CNT,
          .COURSE_SPRAY_STAT, .GEN_INTEG_CORR, .LOFT_USE, .POWER_DOM_STAT, .POWER_READY, .TABLE_EM_CNT,
          .TABLE_EM_ERR, .TABLE_RECIRC_CNT] : List RegId))) s u ∧
        { u with regs := s.regs, faultAt := s.faultAt, adminCur := s.adminCur, adminDue := s.adminDue,
                 frames := s.frames, bankUse := s.bankUse, freed := s.freed, meters := s.meters,
                 courses := s.courses, macs := s.macs, power := s.power, sealU := s.sealU } = s) ∧
    (∀ cmd ∈ ([.rxFrame p' ⟨x, t'⟩, .rxFragment p' ⟨g, t'⟩, .fcFrameRx p' ⟨x, t'⟩, .lpmReceive p' x] : List Instr),
      Effect cmd s fun u =>
        RegsKept (only (failRegs ++ ([.COURSE_RX_OVERRUN, .COURSE_SPRAY_CNT, .COURSE_SPRAY_STAT, .GEN_INTEG_CORR,
          .LANE_CAL_EVENT, .LANE_CAL_STAT, .LOFT_DROP, .LOFT_EVT, .LOFT_USE, .PORT_FC_STAT, .PORT_LPM_CNT,
          .PORT_MAC_EVT, .SEAL_PORT_ERR] : List RegId))) s u ∧
        { u with regs := s.regs, nextId := s.nextId, faultAt := s.faultAt, frames := s.frames, bankUse := s.bankUse,
                 courses := s.courses, macs := s.macs, lanes := s.lanes, sealU := s.sealU } = s) ∧
    (∀ cmd ∈ ([.admissionDecision ⟨p, b⟩, .rxFrameLastBeat p'] : List Instr), Effect cmd s fun u =>
        RegsKept (only (wakeRegs ++ loftRegs ++ ([.COURSE_PARSE_EVT, .COURSE_SLOW_CNT, .COURSE_SLOW_DROP,
          .GEN_INTEG_POISON, .LOFT_DROP, .LOFT_EVT, .PORT_ADM_DROP, .PORT_DIAG_CNT, .PORT_MAC_EVT, .POWER_DOM_STAT,
          .POWER_READY, .TABLE_ACT_CNT, .TABLE_MIRROR_CNT, .TABLE_RECIRC_CNT] : List RegId))) s u ∧
        { u with regs := s.regs, rxrs := s.rxrs, adminCur := s.adminCur, adminDue := s.adminDue, frames := s.frames,
                 bankUse := s.bankUse, freed := s.freed, lastDec := s.lastDec, fcThen := s.fcThen,
                 leaves := s.leaves, clients := s.clients, groups := s.groups, active := s.active,
                 rising := s.rising, courses := s.courses, macs := s.macs, power := s.power } = s) ∧
    (∀ cmd ∈ ([.schedSelect p e' str, .shaperEligible lvl i] : List Instr), Effect cmd s fun u =>
        RegsKept (only (failRegs ++ wakeRegs ++ loftRegs ++ ([.GEN_INTEG_CORR, .POWER_DOM_STAT, .POWER_READY,
          .SCHED_PORT_CNT, .SEAL_PORT_ERR, .TIME_SLEW_REM] : List RegId))) s u ∧
        { u with regs := s.regs, now := s.now, txrs := s.txrs, faultAt := s.faultAt, adminCur := s.adminCur,
                 adminDue := s.adminDue, frames := s.frames, bankUse := s.bankUse, freed := s.freed,
                 leaves := s.leaves, clients := s.clients, groups := s.groups, active := s.active,
                 rising := s.rising, courses := s.courses, macs := s.macs, time := s.time, power := s.power } = s) ∧
    (∀ cmd ∈ ([.egressFrameStart p' t' e, .egressFrameEnd p' o, .sealTxRelease p, .lpmSend p'] : List Instr),
      Effect cmd s fun u =>
        RegsKept (only (failRegs ++ loftRegs ++ ([.GEN_INTEG_CORR, .GEN_INTEG_POISON, .LANE_CAL_CNT, .LOFT_ECC,
          .LOFT_EVT, .PORT_LPM_CNT, .SEAL_PORT_ERR, .TIME_ONESTEP_SKIP, .TIME_SLEW_REM, .TIME_STAT] : List
          RegId))) s u ∧
        { u with regs := s.regs, now := s.now, txrs := s.txrs, faultAt := s.faultAt, frames := s.frames,
                 bankUse := s.bankUse, freed := s.freed, leaves := s.leaves, macs := s.macs, time := s.time,
                 lanes := s.lanes, sealU := s.sealU } = s) ∧
    (∀ cmd ∈ ([(.TXR_PROD, r.val, .txrDoorbell r z), (.RXR_PROD, r.val, .rxrDoorbell r z),
      (.CQ_CONS, v.val, .cqDoorbell v z), (.TXR_CTRL, r.val, .txrDisable r), (.TXR_CTRL, r.val, .txrEnable r),
      (.RXR_CTRL, r.val, .rxrReset r), (.RXR_CTRL, r.val, .rxrEnable r)] : List (RegId × Nat × Instr)),
      s.serves cmd.1 cmd.2.1 = true → Effect cmd.2.2 s fun u =>
        RegsKept (only (failRegs ++ loftRegs ++ ([.CQ_CONS, .CQ_STAT, .GEN_ACC_ERR, .RXR_CONS, .RXR_CTRL, .RXR_PROD,
          .RXR_STAT, .TXR_CTRL, .TXR_FETCH, .TXR_PROD, .TXR_STAT] : List RegId))) s u ∧
        { u with regs := s.regs, staged := s.staged, ctResp := s.ctResp, ctOut := s.ctOut, ctLast := s.ctLast,
                 free := s.free, rafterQ := s.rafterQ, txrs := s.txrs, rxrs := s.rxrs, cqs := s.cqs,
                 faultAt := s.faultAt, frames := s.frames, bankUse := s.bankUse, freed := s.freed,
                 macs := s.macs } = s)

/-- R55, R256, R300, R302, R303: the first lock of the ridge PLL starts the counter, a later one resynchronises it from
the coarse counter with the PLL's static phase, and a loss of lock leaves time to the coarse counter and stops the
block where domains run. -/
def Obligations.RidgeLockCarriesTime : Prop :=
  ∀ s : State, s.bootU.asserted = false →
    (s.power.sleep = none → s.time.locked = false → s.time.started = false →
      Effect .ridgePllLock s fun u => u.time.locked = true ∧ u.time.started = true ∧ u.time.t = s.time.t) ∧
    (s.power.sleep = none → s.time.locked = false → s.time.started = true →
      Effect .ridgePllLock s fun u =>
        u.time.locked = true ∧ u.time.t = (s.elapse (32 - s.now % 32)).time.coarse.add staticPhase ∧ u.now % 32 = 0 ∧
        u.fbit .TIME_STAT 0 fTIME_STAT_HOLDOVER = false ∧ u.fbit .TIME_EVT 0 fTIME_EVT_RESYNC = true) ∧
    (s.time.locked = true →
      Effect .ridgePllLockLost s fun u =>
        u.time.locked = false ∧ u.time.t = s.time.t ∧ u.time.coarse = s.time.coarse ∧
        u.fbit .TIME_STAT 0 fTIME_STAT_HOLDOVER = true ∧
        (s.dom dTIME = 0 →
          u.fbit .TIME_EVT 0 fTIME_EVT_HOLDOVER = true ∧ u.fbit .TIME_STAT 0 fTIME_STAT_SUSPECT = true ∧
          u.failed = true))

/-- R95 to R97, R99: a training frame that a lane sends has 4,096 symbols, and a receiver that takes them without an error
reads the two fields sent. What a good frame is, and the pattern's bit order, are the model's reading (log entry 76). -/
def Obligations.TrainingFramesRoundTrip : Prop :=
  ∀ (pam4 : Bool) (n control status : Nat), control < 2 ^ 16 → status < 2 ^ 16 →
    (trainSymbols pam4 n control status).length = 4096 ∧
    readFrame (trainSymbols pam4 n control status) = some (control, status)
end

