-- ==== Sys2Proof/Laws/Store.lean ====
section
/-! SUPPORT. The laws of finite maps: what is read after a write, and that every operation keeps the canonical form. -/

namespace Sys2Proof.Machine

variable {α : Type}

@[simp] theorem Store.find?_nil (q : Nat) : Store.find? ([] : Store α) q = none := rfl

theorem Store.find?_cons (k : Nat) (v : α) (t : Store α) (q : Nat) :
    Store.find? ((k, v) :: t) q = if k = q then some v else Store.find? t q := rfl

theorem Store.del_cons (k : Nat) (v : α) (t : Store α) (q : Nat) :
    Store.del ((k, v) :: t) q = if k = q then Store.del t q else (k, v) :: Store.del t q := by
  by_cases h : k = q <;> simp [Store.del, h]

/-- Reading after a deletion. -/
theorem Store.find?_del (st : Store α) (k q : Nat) :
    (st.del k).find? q = if q = k then none else st.find? q := by
  induction st with
  | nil => simp [Store.del]
  | cons e t ih =>
    obtain ⟨k', v'⟩ := e
    rw [Store.del_cons, Store.find?_cons]
    by_cases hk : k' = k
    · subst hk
      rw [if_pos rfl, ih]
      by_cases hq : q = k'
      · simp [hq]
      · simp [hq, Ne.symm hq]
    · rw [if_neg hk, Store.find?_cons, ih]
      by_cases hq : k' = q
      · subst hq; simp [hk]
      · simp [hq]

theorem Store.find?_insertSorted (st : Store α) (k q : Nat) (v : α) (h : st.find? k = none) :
    (Store.insertSorted k v st).find? q = if q = k then some v else st.find? q := by
  induction st with
  | nil => by_cases hq : k = q <;> simp [Store.insertSorted, Store.find?, hq, eq_comm]
  | cons e t ih =>
    obtain ⟨k', v'⟩ := e
    rw [Store.find?_cons] at h
    have hk : ¬ k' = k := by intro hc; simp [hc] at h
    rw [if_neg hk] at h
    simp only [Store.insertSorted]
    split
    · rw [Store.find?_cons]
      by_cases hq : k = q
      · simp [hq]
      · simp [hq, Ne.symm hq]
    · rw [Store.find?_cons, ih h, Store.find?_cons]
      by_cases hq : k' = q
      · subst hq; simp [hk]
      · simp [hq]

/-- Reading after a write. -/
theorem Store.find?_put (st : Store α) (k q : Nat) (v : α) :
    (st.put k v).find? q = if q = k then some v else st.find? q := by
  rw [Store.put, Store.find?_insertSorted _ _ _ _ (by rw [Store.find?_del, if_pos rfl]), Store.find?_del]
  by_cases hq : q = k <;> simp [hq]

@[simp] theorem Store.find?_put_same (st : Store α) (k : Nat) (v : α) : (st.put k v).find? k = some v := by
  rw [Store.find?_put, if_pos rfl]

theorem Store.find?_put_ne (st : Store α) {k q : Nat} (v : α) (h : q ≠ k) : (st.put k v).find? q = st.find? q := by
  rw [Store.find?_put, if_neg h]

@[simp] theorem Store.find?_del_same (st : Store α) (k : Nat) : (st.del k).find? k = none := by
  rw [Store.find?_del, if_pos rfl]

theorem Store.find?_del_ne (st : Store α) {k q : Nat} (h : q ≠ k) : (st.del k).find? q = st.find? q := by
  rw [Store.find?_del, if_neg h]

/-- Reading what was set in a map with a default. -/
@[simp] theorem Store.get_set_same [DecidableEq α] (d : α) (st : Store α) (k : Nat) (v : α) :
    Store.get d (Store.set d st k v) k = v := by
  unfold Store.get Store.set
  split
  · next h => simp [h]
  · simp

/-- Setting one key leaves every other. -/
theorem Store.get_set_ne [DecidableEq α] (d d' : α) (st : Store α) {k q : Nat} (v : α) (h : q ≠ k) :
    Store.get d' (Store.set d st k v) q = Store.get d' st q := by
  unfold Store.get Store.set
  split
  · rw [Store.find?_del_ne _ h]
  · rw [Store.find?_put_ne _ _ h]

-- The canonical form

theorem Store.sorted_tail {e : Nat × α} {t : Store α} (h : Store.sorted (e :: t) = true) : Store.sorted t = true := by
  cases t with
  | nil => rfl
  | cons f u => simp [Store.sorted] at h; exact h.2

theorem Store.sorted_head {e : Nat × α} {t : Store α} (h : Store.sorted (e :: t) = true) :
    ∀ f ∈ t, e.1 < f.1 := by
  induction t generalizing e with
  | nil => simp
  | cons g u ih =>
    simp [Store.sorted] at h
    intro f hf
    rcases List.mem_cons.mp hf with rfl | hf
    · exact h.1
    · exact Nat.lt_trans h.1 (ih h.2 f hf)

theorem Store.sorted_cons {e : Nat × α} {t : Store α} (h : ∀ f ∈ t, e.1 < f.1) (ht : Store.sorted t = true) :
    Store.sorted (e :: t) = true := by
  cases t with
  | nil => rfl
  | cons f u => simp [Store.sorted]; exact ⟨h f (List.mem_cons_self ..), ht⟩

theorem Store.mem_insertSorted {k : Nat} {v : α} {st : Store α} {f : Nat × α}
    (h : f ∈ Store.insertSorted k v st) : f = (k, v) ∨ f ∈ st := by
  induction st with
  | nil => simp [Store.insertSorted] at h; exact Or.inl h
  | cons e t ih =>
    obtain ⟨k', v'⟩ := e
    simp only [Store.insertSorted] at h
    split at h
    · rcases List.mem_cons.mp h with h | h
      · exact Or.inl h
      · exact Or.inr h
    · rcases List.mem_cons.mp h with h | h
      · exact Or.inr (by simp [h])
      · rcases ih h with h | h
        · exact Or.inl h
        · exact Or.inr (List.mem_cons_of_mem _ h)

theorem Store.mem_del {st : Store α} {k : Nat} {f : Nat × α} (h : f ∈ st.del k) : f ∈ st ∧ f.1 ≠ k := by
  simp [Store.del] at h; exact h

/-- A deletion keeps the keys rising. -/
theorem Store.sorted_del {st : Store α} (k : Nat) (h : Store.sorted st = true) : Store.sorted (st.del k) = true := by
  induction st with
  | nil => rfl
  | cons e t ih =>
    obtain ⟨k', v'⟩ := e
    rw [Store.del_cons]
    split
    · exact ih (Store.sorted_tail h)
    · exact Store.sorted_cons (fun f hf => Store.sorted_head h f (Store.mem_del hf).1) (ih (Store.sorted_tail h))

theorem Store.sorted_insertSorted {st : Store α} {k : Nat} (v : α) (h : Store.sorted st = true)
    (hk : ∀ f ∈ st, f.1 ≠ k) : Store.sorted (Store.insertSorted k v st) = true := by
  induction st with
  | nil => rfl
  | cons e t ih =>
    obtain ⟨k', v'⟩ := e
    simp only [Store.insertSorted]
    have hne : k' ≠ k := hk _ (List.mem_cons_self ..)
    split
    · next hlt =>
      refine Store.sorted_cons (fun f hf => ?_) h
      rcases List.mem_cons.mp hf with rfl | hf
      · exact hlt
      · exact Nat.lt_trans hlt (Store.sorted_head h f hf)
    · next hge =>
      refine Store.sorted_cons (fun f hf => ?_)
        (ih (Store.sorted_tail h) (fun f hf => hk f (List.mem_cons_of_mem _ hf)))
      rcases Store.mem_insertSorted hf with rfl | hf
      · show k' < k; omega
      · exact Store.sorted_head h f hf

/-- A write keeps the keys rising. -/
theorem Store.sorted_put {st : Store α} (k : Nat) (v : α) (h : Store.sorted st = true) :
    Store.sorted (st.put k v) = true :=
  Store.sorted_insertSorted v (Store.sorted_del k h) (fun _ hf => (Store.mem_del hf).2)

/-- Setting a value keeps the canonical form of a map with defaults. -/
theorem Store.wf_set [DecidableEq α] {d : Nat → α} {st : Store α} (k : Nat) (v : α) (h : Store.wf d st = true) :
    Store.wf d (Store.set (d k) st k v) = true := by
  simp only [Store.wf, Bool.and_eq_true, List.all_eq_true, decide_eq_true_eq] at h ⊢
  unfold Store.set
  split
  · exact ⟨Store.sorted_del k h.1, fun e he => h.2 e (Store.mem_del he).1⟩
  · next hv =>
    refine ⟨Store.sorted_put k v h.1, fun e he => ?_⟩
    rcases Store.mem_insertSorted he with rfl | he
    · exact hv
    · exact h.2 e (Store.mem_del he).1

end Sys2Proof.Machine
end

