-- ==== Sys2Proof/Laws/Regs.lean ====
section
/-! SUPPORT. The laws of registers and their fields: what is read after a write, and that all else stays. -/

namespace Sys2Proof.Machine

theorem RegId.ctorIdx_lt (id : RegId) : id.ctorIdx < 512 := by cases id <;> decide

theorem RegId.ctorIdx_inj {a b : RegId} (h : a.ctorIdx = b.ctorIdx) : a = b := by
  rw [← RegId.ofNat_ctorIdx a, h, RegId.ofNat_ctorIdx]

/-- Two instances have one key only if they are one instance of one register. -/
theorem rkey_inj {a b : RegId} {i j : Nat} : rkey a i = rkey b j ↔ a = b ∧ i = j := by
  constructor
  · intro h
    have ha := a.ctorIdx_lt
    have hb := b.ctorIdx_lt
    unfold rkey at h
    exact ⟨RegId.ctorIdx_inj (by omega), by omega⟩
  · rintro ⟨rfl, rfl⟩; rfl

@[simp] theorem State.rget_rset_same (s : State) (id : RegId) (i : Nat) (v : Word) :
    (s.rset id i v).rget id i = v := by simp [State.rget, State.rset]

theorem State.rget_rset_ne (s : State) {a b : RegId} {i j : Nat} (v : Word) (h : ¬ (a = b ∧ i = j)) :
    (s.rset a i v).rget b j = s.rget b j := by
  simp only [State.rget, State.rset]
  exact Store.get_set_ne _ _ _ _ (by rw [Ne, rkey_inj]; rintro ⟨rfl, rfl⟩; exact h ⟨rfl, rfl⟩)

/-- What any register instance reads after one was set. -/
theorem State.rget_rset (s : State) (a b : RegId) (i j : Nat) (v : Word) :
    (s.rset a i v).rget b j = if a = b ∧ i = j then v else s.rget b j := by
  split
  · next h => obtain ⟨rfl, rfl⟩ := h; simp
  · next h => exact s.rget_rset_ne v h

theorem Field.testBit_get (f : Field) (v : Word) (k : Nat) :
    (f.get v).testBit k = (decide (k < f.w) && v.getLsbD (f.lo + k)) := by
  simp [Field.get, Nat.testBit_mod_two_pow, Nat.testBit_shiftRight, BitVec.getLsbD]

theorem Field.getLsbD_put (f : Field) (v : Word) (n j : Nat) (hj : j < 64) :
    (f.put v n).getLsbD j =
      if f.lo ≤ j ∧ j < f.lo + f.w then n.testBit (j - f.lo) else v.getLsbD j := by
  simp only [Field.put, BitVec.getLsbD_or, BitVec.getLsbD_and, BitVec.getLsbD_not, BitVec.getLsbD_ofNat,
    Nat.testBit_shiftLeft, Nat.testBit_two_pow_sub_one, Nat.testBit_mod_two_pow, hj, decide_true, Bool.true_and]
  by_cases h1 : f.lo ≤ j
  · by_cases h2 : j - f.lo < f.w
    · rw [if_pos ⟨h1, by omega⟩]; simp [h1, h2]
    · rw [if_neg (by omega)]; simp [h2]
  · rw [if_neg (by omega)]; simp [h1]

/-- A field reads what was put into it, modulo its width. -/
theorem Field.get_put_same (f : Field) (v : Word) (n : Nat) (h : f.lo + f.w ≤ 64) :
    f.get (f.put v n) = n % 2 ^ f.w := by
  refine Nat.eq_of_testBit_eq fun k => ?_
  rw [Field.testBit_get, Nat.testBit_mod_two_pow]
  by_cases hk : k < f.w
  · rw [Field.getLsbD_put _ _ _ _ (by omega), if_pos (by omega)]; simp [hk]
  · simp [hk]

/-- A field keeps its value when another that does not overlap it is set. -/
theorem Field.get_put_ne (f g : Field) (v : Word) (n : Nat) (h : f.lo + f.w ≤ g.lo ∨ g.lo + g.w ≤ f.lo) :
    f.get (g.put v n) = f.get v := by
  refine Nat.eq_of_testBit_eq fun k => ?_
  rw [Field.testBit_get, Field.testBit_get]
  by_cases hk : k < f.w
  · by_cases hj : f.lo + k < 64
    · rw [Field.getLsbD_put _ _ _ _ hj, if_neg (by omega)]
    · simp [BitVec.getLsbD_of_ge _ _ (Nat.le_of_not_lt hj)]
  · simp [hk]

theorem Field.get_lt (f : Field) (v : Word) : f.get v < 2 ^ f.w := Nat.mod_lt _ (Nat.two_pow_pos _)

/-- A field that was set reads what was set, modulo its width. -/
theorem State.fget_fset_same (s : State) (id : RegId) (i : Nat) (f : Field) (n : Nat) (h : f.lo + f.w ≤ 64) :
    (s.fset id i f n).fget id i f = n % 2 ^ f.w := by
  simp [State.fget, State.fset, Field.get_put_same f _ n h]

/-- Another field of the register keeps its value. -/
theorem State.fget_fset_field (s : State) (id : RegId) (i j : Nat) (f g : Field) (n : Nat)
    (h : f.lo + f.w ≤ g.lo ∨ g.lo + g.w ≤ f.lo) : (s.fset id i g n).fget id j f = s.fget id j f := by
  simp only [State.fget, State.fset, State.rget_rset]
  split
  · next e => rw [Field.get_put_ne f g _ n h, e.2]
  · rfl

theorem State.rget_fset_ne (s : State) {a b : RegId} {i j : Nat} (f : Field) (n : Nat) (h : ¬ (a = b ∧ i = j)) :
    (s.fset a i f n).rget b j = s.rget b j := s.rget_rset_ne _ h

/-- A field of another register keeps its value. -/
theorem State.fget_fset_reg (s : State) {a b : RegId} {i j : Nat} (f g : Field) (n : Nat) (h : ¬ (a = b ∧ i = j)) :
    (s.fset a i g n).fget b j f = s.fget b j f := by
  simp only [State.fget, State.rget_fset_ne _ g n h]

/-- Setting a register keeps the canonical form of the register map. -/
theorem State.regs_wf_rset (s : State) (d : Nat → Word) (id : RegId) (i : Nat) (v : Word)
    (hd : d (rkey id i) = id.resetAt i) (h : Store.wf d s.regs = true) : Store.wf d (s.rset id i v).regs = true := by
  simp only [State.rset, ← hd]
  exact Store.wf_set _ _ h

end Sys2Proof.Machine
end

