-- ==== Sys2Proof/Laws/State.lean ====
section
/-! SUPPORT. One lemma for each field of the state and each update: the fields that the update leaves alone, and the
one it sets. -/

namespace Sys2Proof.Machine

@[simp] theorem State.pending_rset (s : State) (id : RegId) (i : Nat) (v : Word) :
    (s.rset id i v).pending = s.pending := rfl
@[simp] theorem State.latch_rset (s : State) (id : RegId) (i : Nat) (v : Word) :
    (s.rset id i v).latch = s.latch := rfl
@[simp] theorem State.staged_rset (s : State) (id : RegId) (i : Nat) (v : Word) :
    (s.rset id i v).staged = s.staged := rfl
@[simp] theorem State.ctResp_rset (s : State) (id : RegId) (i : Nat) (v : Word) :
    (s.rset id i v).ctResp = s.ctResp := rfl
@[simp] theorem State.ctStall_rset (s : State) (id : RegId) (i : Nat) (v : Word) :
    (s.rset id i v).ctStall = s.ctStall := rfl
@[simp] theorem State.ctQueue_rset (s : State) (id : RegId) (i : Nat) (v : Word) :
    (s.rset id i v).ctQueue = s.ctQueue := rfl
@[simp] theorem State.now_rset (s : State) (id : RegId) (i : Nat) (v : Word) :
    (s.rset id i v).now = s.now := rfl
@[simp] theorem State.free_rset (s : State) (id : RegId) (i : Nat) (v : Word) :
    (s.rset id i v).free = s.free := rfl
@[simp] theorem State.nextId_rset (s : State) (id : RegId) (i : Nat) (v : Word) :
    (s.rset id i v).nextId = s.nextId := rfl
@[simp] theorem State.rafterQ_rset (s : State) (id : RegId) (i : Nat) (v : Word) :
    (s.rset id i v).rafterQ = s.rafterQ := rfl
@[simp] theorem State.outst_rset (s : State) (id : RegId) (i : Nat) (v : Word) :
    (s.rset id i v).outst = s.outst := rfl
@[simp] theorem State.rrLast_rset (s : State) (id : RegId) (i : Nat) (v : Word) :
    (s.rset id i v).rrLast = s.rrLast := rfl
@[simp] theorem State.rclk_rset (s : State) (id : RegId) (i : Nat) (v : Word) :
    (s.rset id i v).rclk = s.rclk := rfl
@[simp] theorem State.chans_rset (s : State) (id : RegId) (i : Nat) (v : Word) :
    (s.rset id i v).chans = s.chans := rfl
@[simp] theorem State.txrs_rset (s : State) (id : RegId) (i : Nat) (v : Word) :
    (s.rset id i v).txrs = s.txrs := rfl
@[simp] theorem State.rxrs_rset (s : State) (id : RegId) (i : Nat) (v : Word) :
    (s.rset id i v).rxrs = s.rxrs := rfl
@[simp] theorem State.cqs_rset (s : State) (id : RegId) (i : Nat) (v : Word) :
    (s.rset id i v).cqs = s.cqs := rfl
@[simp] theorem State.adminFifo_rset (s : State) (id : RegId) (i : Nat) (v : Word) :
    (s.rset id i v).adminFifo = s.adminFifo := rfl
@[simp] theorem State.adminReadPtr_rset (s : State) (id : RegId) (i : Nat) (v : Word) :
    (s.rset id i v).adminReadPtr = s.adminReadPtr := rfl
@[simp] theorem State.adminCur_rset (s : State) (id : RegId) (i : Nat) (v : Word) :
    (s.rset id i v).adminCur = s.adminCur := rfl
@[simp] theorem State.adminDue_rset (s : State) (id : RegId) (i : Nat) (v : Word) :
    (s.rset id i v).adminDue = s.adminDue := rfl
@[simp] theorem State.lops_rset (s : State) (id : RegId) (i : Nat) (v : Word) :
    (s.rset id i v).lops = s.lops := rfl
@[simp] theorem State.lopSeq_rset (s : State) (id : RegId) (i : Nat) (v : Word) :
    (s.rset id i v).lopSeq = s.lopSeq := rfl
@[simp] theorem State.frames_rset (s : State) (id : RegId) (i : Nat) (v : Word) :
    (s.rset id i v).frames = s.frames := rfl
@[simp] theorem State.bankUse_rset (s : State) (id : RegId) (i : Nat) (v : Word) :
    (s.rset id i v).bankUse = s.bankUse := rfl
@[simp] theorem State.moverBank_rset (s : State) (id : RegId) (i : Nat) (v : Word) :
    (s.rset id i v).moverBank = s.moverBank := rfl
@[simp] theorem State.freed_rset (s : State) (id : RegId) (i : Nat) (v : Word) :
    (s.rset id i v).freed = s.freed := rfl
@[simp] theorem State.ctLast_rset (s : State) (id : RegId) (i : Nat) (v : Word) :
    (s.rset id i v).ctLast = s.ctLast := rfl
@[simp] theorem State.rftPins_rset (s : State) (id : RegId) (i : Nat) (v : Word) :
    (s.rset id i v).rftPins = s.rftPins := rfl
@[simp] theorem State.rftAt_rset (s : State) (id : RegId) (i : Nat) (v : Word) :
    (s.rset id i v).rftAt = s.rftAt := rfl
@[simp] theorem State.faultAt_rset (s : State) (id : RegId) (i : Nat) (v : Word) :
    (s.rset id i v).faultAt = s.faultAt := rfl
@[simp] theorem State.adminStalled_rset (s : State) (id : RegId) (i : Nat) (v : Word) :
    (s.rset id i v).adminStalled = s.adminStalled := rfl
@[simp] theorem State.lastDec_rset (s : State) (id : RegId) (i : Nat) (v : Word) :
    (s.rset id i v).lastDec = s.lastDec := rfl
@[simp] theorem State.fcThen_rset (s : State) (id : RegId) (i : Nat) (v : Word) :
    (s.rset id i v).fcThen = s.fcThen := rfl
@[simp] theorem State.leaves_rset (s : State) (id : RegId) (i : Nat) (v : Word) :
    (s.rset id i v).leaves = s.leaves := rfl
@[simp] theorem State.clients_rset (s : State) (id : RegId) (i : Nat) (v : Word) :
    (s.rset id i v).clients = s.clients := rfl
@[simp] theorem State.groups_rset (s : State) (id : RegId) (i : Nat) (v : Word) :
    (s.rset id i v).groups = s.groups := rfl
@[simp] theorem State.active_rset (s : State) (id : RegId) (i : Nat) (v : Word) :
    (s.rset id i v).active = s.active := rfl
@[simp] theorem State.rising_rset (s : State) (id : RegId) (i : Nat) (v : Word) :
    (s.rset id i v).rising = s.rising := rfl
@[simp] theorem State.births_rset (s : State) (id : RegId) (i : Nat) (v : Word) :
    (s.rset id i v).births = s.births := rfl
@[simp] theorem State.meters_rset (s : State) (id : RegId) (i : Nat) (v : Word) :
    (s.rset id i v).meters = s.meters := rfl
@[simp] theorem State.qwNext_rset (s : State) (id : RegId) (i : Nat) (v : Word) :
    (s.rset id i v).qwNext = s.qwNext := rfl
@[simp] theorem State.qwOut_rset (s : State) (id : RegId) (i : Nat) (v : Word) :
    (s.rset id i v).qwOut = s.qwOut := rfl
@[simp] theorem State.qwLen_rset (s : State) (id : RegId) (i : Nat) (v : Word) :
    (s.rset id i v).qwLen = s.qwLen := rfl
@[simp] theorem State.qwRound_rset (s : State) (id : RegId) (i : Nat) (v : Word) :
    (s.rset id i v).qwRound = s.qwRound := rfl
@[simp] theorem State.qwFail_rset (s : State) (id : RegId) (i : Nat) (v : Word) :
    (s.rset id i v).qwFail = s.qwFail := rfl
@[simp] theorem State.tables_rset (s : State) (id : RegId) (i : Nat) (v : Word) :
    (s.rset id i v).tables = s.tables := rfl
@[simp] theorem State.genAt_rset (s : State) (id : RegId) (i : Nat) (v : Word) :
    (s.rset id i v).genAt = s.genAt := rfl
@[simp] theorem State.editQ_rset (s : State) (id : RegId) (i : Nat) (v : Word) :
    (s.rset id i v).editQ = s.editQ := rfl
@[simp] theorem State.courses_rset (s : State) (id : RegId) (i : Nat) (v : Word) :
    (s.rset id i v).courses = s.courses := rfl
@[simp] theorem State.macs_rset (s : State) (id : RegId) (i : Nat) (v : Word) :
    (s.rset id i v).macs = s.macs := rfl
@[simp] theorem State.time_rset (s : State) (id : RegId) (i : Nat) (v : Word) :
    (s.rset id i v).time = s.time := rfl
@[simp] theorem State.lanes_rset (s : State) (id : RegId) (i : Nat) (v : Word) :
    (s.rset id i v).lanes = s.lanes := rfl
@[simp] theorem State.power_rset (s : State) (id : RegId) (i : Nat) (v : Word) :
    (s.rset id i v).power = s.power := rfl
@[simp] theorem State.bootU_rset (s : State) (id : RegId) (i : Nat) (v : Word) :
    (s.rset id i v).bootU = s.bootU := rfl
@[simp] theorem State.sealU_rset (s : State) (id : RegId) (i : Nat) (v : Word) :
    (s.rset id i v).sealU = s.sealU := rfl
@[simp] theorem State.vecTimers_rset (s : State) (id : RegId) (i : Nat) (v : Word) :
    (s.rset id i v).vecTimers = s.vecTimers := rfl
@[simp] theorem State.deferred_rset (s : State) (id : RegId) (i : Nat) (v : Word) :
    (s.rset id i v).deferred = s.deferred := rfl

@[simp] theorem State.pending_fset (s : State) (id : RegId) (i : Nat) (f : Field) (n : Nat) :
    (s.fset id i f n).pending = s.pending := rfl
@[simp] theorem State.latch_fset (s : State) (id : RegId) (i : Nat) (f : Field) (n : Nat) :
    (s.fset id i f n).latch = s.latch := rfl
@[simp] theorem State.staged_fset (s : State) (id : RegId) (i : Nat) (f : Field) (n : Nat) :
    (s.fset id i f n).staged = s.staged := rfl
@[simp] theorem State.ctResp_fset (s : State) (id : RegId) (i : Nat) (f : Field) (n : Nat) :
    (s.fset id i f n).ctResp = s.ctResp := rfl
@[simp] theorem State.ctStall_fset (s : State) (id : RegId) (i : Nat) (f : Field) (n : Nat) :
    (s.fset id i f n).ctStall = s.ctStall := rfl
@[simp] theorem State.ctQueue_fset (s : State) (id : RegId) (i : Nat) (f : Field) (n : Nat) :
    (s.fset id i f n).ctQueue = s.ctQueue := rfl
@[simp] theorem State.now_fset (s : State) (id : RegId) (i : Nat) (f : Field) (n : Nat) :
    (s.fset id i f n).now = s.now := rfl
@[simp] theorem State.free_fset (s : State) (id : RegId) (i : Nat) (f : Field) (n : Nat) :
    (s.fset id i f n).free = s.free := rfl
@[simp] theorem State.nextId_fset (s : State) (id : RegId) (i : Nat) (f : Field) (n : Nat) :
    (s.fset id i f n).nextId = s.nextId := rfl
@[simp] theorem State.rafterQ_fset (s : State) (id : RegId) (i : Nat) (f : Field) (n : Nat) :
    (s.fset id i f n).rafterQ = s.rafterQ := rfl
@[simp] theorem State.outst_fset (s : State) (id : RegId) (i : Nat) (f : Field) (n : Nat) :
    (s.fset id i f n).outst = s.outst := rfl
@[simp] theorem State.rrLast_fset (s : State) (id : RegId) (i : Nat) (f : Field) (n : Nat) :
    (s.fset id i f n).rrLast = s.rrLast := rfl
@[simp] theorem State.rclk_fset (s : State) (id : RegId) (i : Nat) (f : Field) (n : Nat) :
    (s.fset id i f n).rclk = s.rclk := rfl
@[simp] theorem State.chans_fset (s : State) (id : RegId) (i : Nat) (f : Field) (n : Nat) :
    (s.fset id i f n).chans = s.chans := rfl
@[simp] theorem State.txrs_fset (s : State) (id : RegId) (i : Nat) (f : Field) (n : Nat) :
    (s.fset id i f n).txrs = s.txrs := rfl
@[simp] theorem State.rxrs_fset (s : State) (id : RegId) (i : Nat) (f : Field) (n : Nat) :
    (s.fset id i f n).rxrs = s.rxrs := rfl
@[simp] theorem State.cqs_fset (s : State) (id : RegId) (i : Nat) (f : Field) (n : Nat) :
    (s.fset id i f n).cqs = s.cqs := rfl
@[simp] theorem State.adminFifo_fset (s : State) (id : RegId) (i : Nat) (f : Field) (n : Nat) :
    (s.fset id i f n).adminFifo = s.adminFifo := rfl
@[simp] theorem State.adminReadPtr_fset (s : State) (id : RegId) (i : Nat) (f : Field) (n : Nat) :
    (s.fset id i f n).adminReadPtr = s.adminReadPtr := rfl
@[simp] theorem State.adminCur_fset (s : State) (id : RegId) (i : Nat) (f : Field) (n : Nat) :
    (s.fset id i f n).adminCur = s.adminCur := rfl
@[simp] theorem State.adminDue_fset (s : State) (id : RegId) (i : Nat) (f : Field) (n : Nat) :
    (s.fset id i f n).adminDue = s.adminDue := rfl
@[simp] theorem State.lops_fset (s : State) (id : RegId) (i : Nat) (f : Field) (n : Nat) :
    (s.fset id i f n).lops = s.lops := rfl
@[simp] theorem State.lopSeq_fset (s : State) (id : RegId) (i : Nat) (f : Field) (n : Nat) :
    (s.fset id i f n).lopSeq = s.lopSeq := rfl
@[simp] theorem State.frames_fset (s : State) (id : RegId) (i : Nat) (f : Field) (n : Nat) :
    (s.fset id i f n).frames = s.frames := rfl
@[simp] theorem State.bankUse_fset (s : State) (id : RegId) (i : Nat) (f : Field) (n : Nat) :
    (s.fset id i f n).bankUse = s.bankUse := rfl
@[simp] theorem State.moverBank_fset (s : State) (id : RegId) (i : Nat) (f : Field) (n : Nat) :
    (s.fset id i f n).moverBank = s.moverBank := rfl
@[simp] theorem State.freed_fset (s : State) (id : RegId) (i : Nat) (f : Field) (n : Nat) :
    (s.fset id i f n).freed = s.freed := rfl
@[simp] theorem State.ctLast_fset (s : State) (id : RegId) (i : Nat) (f : Field) (n : Nat) :
    (s.fset id i f n).ctLast = s.ctLast := rfl
@[simp] theorem State.rftPins_fset (s : State) (id : RegId) (i : Nat) (f : Field) (n : Nat) :
    (s.fset id i f n).rftPins = s.rftPins := rfl
@[simp] theorem State.rftAt_fset (s : State) (id : RegId) (i : Nat) (f : Field) (n : Nat) :
    (s.fset id i f n).rftAt = s.rftAt := rfl
@[simp] theorem State.faultAt_fset (s : State) (id : RegId) (i : Nat) (f : Field) (n : Nat) :
    (s.fset id i f n).faultAt = s.faultAt := rfl
@[simp] theorem State.adminStalled_fset (s : State) (id : RegId) (i : Nat) (f : Field) (n : Nat) :
    (s.fset id i f n).adminStalled = s.adminStalled := rfl
@[simp] theorem State.lastDec_fset (s : State) (id : RegId) (i : Nat) (f : Field) (n : Nat) :
    (s.fset id i f n).lastDec = s.lastDec := rfl
@[simp] theorem State.fcThen_fset (s : State) (id : RegId) (i : Nat) (f : Field) (n : Nat) :
    (s.fset id i f n).fcThen = s.fcThen := rfl
@[simp] theorem State.leaves_fset (s : State) (id : RegId) (i : Nat) (f : Field) (n : Nat) :
    (s.fset id i f n).leaves = s.leaves := rfl
@[simp] theorem State.clients_fset (s : State) (id : RegId) (i : Nat) (f : Field) (n : Nat) :
    (s.fset id i f n).clients = s.clients := rfl
@[simp] theorem State.groups_fset (s : State) (id : RegId) (i : Nat) (f : Field) (n : Nat) :
    (s.fset id i f n).groups = s.groups := rfl
@[simp] theorem State.active_fset (s : State) (id : RegId) (i : Nat) (f : Field) (n : Nat) :
    (s.fset id i f n).active = s.active := rfl
@[simp] theorem State.rising_fset (s : State) (id : RegId) (i : Nat) (f : Field) (n : Nat) :
    (s.fset id i f n).rising = s.rising := rfl
@[simp] theorem State.births_fset (s : State) (id : RegId) (i : Nat) (f : Field) (n : Nat) :
    (s.fset id i f n).births = s.births := rfl
@[simp] theorem State.meters_fset (s : State) (id : RegId) (i : Nat) (f : Field) (n : Nat) :
    (s.fset id i f n).meters = s.meters := rfl
@[simp] theorem State.qwNext_fset (s : State) (id : RegId) (i : Nat) (f : Field) (n : Nat) :
    (s.fset id i f n).qwNext = s.qwNext := rfl
@[simp] theorem State.qwOut_fset (s : State) (id : RegId) (i : Nat) (f : Field) (n : Nat) :
    (s.fset id i f n).qwOut = s.qwOut := rfl
@[simp] theorem State.qwLen_fset (s : State) (id : RegId) (i : Nat) (f : Field) (n : Nat) :
    (s.fset id i f n).qwLen = s.qwLen := rfl
@[simp] theorem State.qwRound_fset (s : State) (id : RegId) (i : Nat) (f : Field) (n : Nat) :
    (s.fset id i f n).qwRound = s.qwRound := rfl
@[simp] theorem State.qwFail_fset (s : State) (id : RegId) (i : Nat) (f : Field) (n : Nat) :
    (s.fset id i f n).qwFail = s.qwFail := rfl
@[simp] theorem State.tables_fset (s : State) (id : RegId) (i : Nat) (f : Field) (n : Nat) :
    (s.fset id i f n).tables = s.tables := rfl
@[simp] theorem State.genAt_fset (s : State) (id : RegId) (i : Nat) (f : Field) (n : Nat) :
    (s.fset id i f n).genAt = s.genAt := rfl
@[simp] theorem State.editQ_fset (s : State) (id : RegId) (i : Nat) (f : Field) (n : Nat) :
    (s.fset id i f n).editQ = s.editQ := rfl
@[simp] theorem State.courses_fset (s : State) (id : RegId) (i : Nat) (f : Field) (n : Nat) :
    (s.fset id i f n).courses = s.courses := rfl
@[simp] theorem State.macs_fset (s : State) (id : RegId) (i : Nat) (f : Field) (n : Nat) :
    (s.fset id i f n).macs = s.macs := rfl
@[simp] theorem State.time_fset (s : State) (id : RegId) (i : Nat) (f : Field) (n : Nat) :
    (s.fset id i f n).time = s.time := rfl
@[simp] theorem State.lanes_fset (s : State) (id : RegId) (i : Nat) (f : Field) (n : Nat) :
    (s.fset id i f n).lanes = s.lanes := rfl
@[simp] theorem State.power_fset (s : State) (id : RegId) (i : Nat) (f : Field) (n : Nat) :
    (s.fset id i f n).power = s.power := rfl
@[simp] theorem State.bootU_fset (s : State) (id : RegId) (i : Nat) (f : Field) (n : Nat) :
    (s.fset id i f n).bootU = s.bootU := rfl
@[simp] theorem State.sealU_fset (s : State) (id : RegId) (i : Nat) (f : Field) (n : Nat) :
    (s.fset id i f n).sealU = s.sealU := rfl
@[simp] theorem State.vecTimers_fset (s : State) (id : RegId) (i : Nat) (f : Field) (n : Nat) :
    (s.fset id i f n).vecTimers = s.vecTimers := rfl
@[simp] theorem State.deferred_fset (s : State) (id : RegId) (i : Nat) (f : Field) (n : Nat) :
    (s.fset id i f n).deferred = s.deferred := rfl

@[simp] theorem State.pending_setLane (s : State) (n : Nat) (l : Lane) :
    (s.setLane n l).pending = s.pending := rfl
@[simp] theorem State.regs_setLane (s : State) (n : Nat) (l : Lane) :
    (s.setLane n l).regs = s.regs := rfl
@[simp] theorem State.latch_setLane (s : State) (n : Nat) (l : Lane) :
    (s.setLane n l).latch = s.latch := rfl
@[simp] theorem State.staged_setLane (s : State) (n : Nat) (l : Lane) :
    (s.setLane n l).staged = s.staged := rfl
@[simp] theorem State.ctResp_setLane (s : State) (n : Nat) (l : Lane) :
    (s.setLane n l).ctResp = s.ctResp := rfl
@[simp] theorem State.ctStall_setLane (s : State) (n : Nat) (l : Lane) :
    (s.setLane n l).ctStall = s.ctStall := rfl
@[simp] theorem State.ctQueue_setLane (s : State) (n : Nat) (l : Lane) :
    (s.setLane n l).ctQueue = s.ctQueue := rfl
@[simp] theorem State.now_setLane (s : State) (n : Nat) (l : Lane) :
    (s.setLane n l).now = s.now := rfl
@[simp] theorem State.free_setLane (s : State) (n : Nat) (l : Lane) :
    (s.setLane n l).free = s.free := rfl
@[simp] theorem State.nextId_setLane (s : State) (n : Nat) (l : Lane) :
    (s.setLane n l).nextId = s.nextId := rfl
@[simp] theorem State.rafterQ_setLane (s : State) (n : Nat) (l : Lane) :
    (s.setLane n l).rafterQ = s.rafterQ := rfl
@[simp] theorem State.outst_setLane (s : State) (n : Nat) (l : Lane) :
    (s.setLane n l).outst = s.outst := rfl
@[simp] theorem State.rrLast_setLane (s : State) (n : Nat) (l : Lane) :
    (s.setLane n l).rrLast = s.rrLast := rfl
@[simp] theorem State.rclk_setLane (s : State) (n : Nat) (l : Lane) :
    (s.setLane n l).rclk = s.rclk := rfl
@[simp] theorem State.chans_setLane (s : State) (n : Nat) (l : Lane) :
    (s.setLane n l).chans = s.chans := rfl
@[simp] theorem State.txrs_setLane (s : State) (n : Nat) (l : Lane) :
    (s.setLane n l).txrs = s.txrs := rfl
@[simp] theorem State.rxrs_setLane (s : State) (n : Nat) (l : Lane) :
    (s.setLane n l).rxrs = s.rxrs := rfl
@[simp] theorem State.cqs_setLane (s : State) (n : Nat) (l : Lane) :
    (s.setLane n l).cqs = s.cqs := rfl
@[simp] theorem State.adminFifo_setLane (s : State) (n : Nat) (l : Lane) :
    (s.setLane n l).adminFifo = s.adminFifo := rfl
@[simp] theorem State.adminReadPtr_setLane (s : State) (n : Nat) (l : Lane) :
    (s.setLane n l).adminReadPtr = s.adminReadPtr := rfl
@[simp] theorem State.adminCur_setLane (s : State) (n : Nat) (l : Lane) :
    (s.setLane n l).adminCur = s.adminCur := rfl
@[simp] theorem State.adminDue_setLane (s : State) (n : Nat) (l : Lane) :
    (s.setLane n l).adminDue = s.adminDue := rfl
@[simp] theorem State.lops_setLane (s : State) (n : Nat) (l : Lane) :
    (s.setLane n l).lops = s.lops := rfl
@[simp] theorem State.lopSeq_setLane (s : State) (n : Nat) (l : Lane) :
    (s.setLane n l).lopSeq = s.lopSeq := rfl
@[simp] theorem State.frames_setLane (s : State) (n : Nat) (l : Lane) :
    (s.setLane n l).frames = s.frames := rfl
@[simp] theorem State.bankUse_setLane (s : State) (n : Nat) (l : Lane) :
    (s.setLane n l).bankUse = s.bankUse := rfl
@[simp] theorem State.moverBank_setLane (s : State) (n : Nat) (l : Lane) :
    (s.setLane n l).moverBank = s.moverBank := rfl
@[simp] theorem State.freed_setLane (s : State) (n : Nat) (l : Lane) :
    (s.setLane n l).freed = s.freed := rfl
@[simp] theorem State.ctLast_setLane (s : State) (n : Nat) (l : Lane) :
    (s.setLane n l).ctLast = s.ctLast := rfl
@[simp] theorem State.rftPins_setLane (s : State) (n : Nat) (l : Lane) :
    (s.setLane n l).rftPins = s.rftPins := rfl
@[simp] theorem State.rftAt_setLane (s : State) (n : Nat) (l : Lane) :
    (s.setLane n l).rftAt = s.rftAt := rfl
@[simp] theorem State.faultAt_setLane (s : State) (n : Nat) (l : Lane) :
    (s.setLane n l).faultAt = s.faultAt := rfl
@[simp] theorem State.adminStalled_setLane (s : State) (n : Nat) (l : Lane) :
    (s.setLane n l).adminStalled = s.adminStalled := rfl
@[simp] theorem State.lastDec_setLane (s : State) (n : Nat) (l : Lane) :
    (s.setLane n l).lastDec = s.lastDec := rfl
@[simp] theorem State.fcThen_setLane (s : State) (n : Nat) (l : Lane) :
    (s.setLane n l).fcThen = s.fcThen := rfl
@[simp] theorem State.leaves_setLane (s : State) (n : Nat) (l : Lane) :
    (s.setLane n l).leaves = s.leaves := rfl
@[simp] theorem State.clients_setLane (s : State) (n : Nat) (l : Lane) :
    (s.setLane n l).clients = s.clients := rfl
@[simp] theorem State.groups_setLane (s : State) (n : Nat) (l : Lane) :
    (s.setLane n l).groups = s.groups := rfl
@[simp] theorem State.active_setLane (s : State) (n : Nat) (l : Lane) :
    (s.setLane n l).active = s.active := rfl
@[simp] theorem State.rising_setLane (s : State) (n : Nat) (l : Lane) :
    (s.setLane n l).rising = s.rising := rfl
@[simp] theorem State.births_setLane (s : State) (n : Nat) (l : Lane) :
    (s.setLane n l).births = s.births := rfl
@[simp] theorem State.meters_setLane (s : State) (n : Nat) (l : Lane) :
    (s.setLane n l).meters = s.meters := rfl
@[simp] theorem State.qwNext_setLane (s : State) (n : Nat) (l : Lane) :
    (s.setLane n l).qwNext = s.qwNext := rfl
@[simp] theorem State.qwOut_setLane (s : State) (n : Nat) (l : Lane) :
    (s.setLane n l).qwOut = s.qwOut := rfl
@[simp] theorem State.qwLen_setLane (s : State) (n : Nat) (l : Lane) :
    (s.setLane n l).qwLen = s.qwLen := rfl
@[simp] theorem State.qwRound_setLane (s : State) (n : Nat) (l : Lane) :
    (s.setLane n l).qwRound = s.qwRound := rfl
@[simp] theorem State.qwFail_setLane (s : State) (n : Nat) (l : Lane) :
    (s.setLane n l).qwFail = s.qwFail := rfl
@[simp] theorem State.tables_setLane (s : State) (n : Nat) (l : Lane) :
    (s.setLane n l).tables = s.tables := rfl
@[simp] theorem State.genAt_setLane (s : State) (n : Nat) (l : Lane) :
    (s.setLane n l).genAt = s.genAt := rfl
@[simp] theorem State.editQ_setLane (s : State) (n : Nat) (l : Lane) :
    (s.setLane n l).editQ = s.editQ := rfl
@[simp] theorem State.courses_setLane (s : State) (n : Nat) (l : Lane) :
    (s.setLane n l).courses = s.courses := rfl
@[simp] theorem State.macs_setLane (s : State) (n : Nat) (l : Lane) :
    (s.setLane n l).macs = s.macs := rfl
@[simp] theorem State.time_setLane (s : State) (n : Nat) (l : Lane) :
    (s.setLane n l).time = s.time := rfl
@[simp] theorem State.power_setLane (s : State) (n : Nat) (l : Lane) :
    (s.setLane n l).power = s.power := rfl
@[simp] theorem State.bootU_setLane (s : State) (n : Nat) (l : Lane) :
    (s.setLane n l).bootU = s.bootU := rfl
@[simp] theorem State.sealU_setLane (s : State) (n : Nat) (l : Lane) :
    (s.setLane n l).sealU = s.sealU := rfl
@[simp] theorem State.vecTimers_setLane (s : State) (n : Nat) (l : Lane) :
    (s.setLane n l).vecTimers = s.vecTimers := rfl
@[simp] theorem State.deferred_setLane (s : State) (n : Nat) (l : Lane) :
    (s.setLane n l).deferred = s.deferred := rfl

@[simp] theorem State.pending_setMac (s : State) (p : Nat) (m : MacPort) :
    (s.setMac p m).pending = s.pending := rfl
@[simp] theorem State.regs_setMac (s : State) (p : Nat) (m : MacPort) :
    (s.setMac p m).regs = s.regs := rfl
@[simp] theorem State.latch_setMac (s : State) (p : Nat) (m : MacPort) :
    (s.setMac p m).latch = s.latch := rfl
@[simp] theorem State.staged_setMac (s : State) (p : Nat) (m : MacPort) :
    (s.setMac p m).staged = s.staged := rfl
@[simp] theorem State.ctResp_setMac (s : State) (p : Nat) (m : MacPort) :
    (s.setMac p m).ctResp = s.ctResp := rfl
@[simp] theorem State.ctStall_setMac (s : State) (p : Nat) (m : MacPort) :
    (s.setMac p m).ctStall = s.ctStall := rfl
@[simp] theorem State.ctQueue_setMac (s : State) (p : Nat) (m : MacPort) :
    (s.setMac p m).ctQueue = s.ctQueue := rfl
@[simp] theorem State.now_setMac (s : State) (p : Nat) (m : MacPort) :
    (s.setMac p m).now = s.now := rfl
@[simp] theorem State.free_setMac (s : State) (p : Nat) (m : MacPort) :
    (s.setMac p m).free = s.free := rfl
@[simp] theorem State.nextId_setMac (s : State) (p : Nat) (m : MacPort) :
    (s.setMac p m).nextId = s.nextId := rfl
@[simp] theorem State.rafterQ_setMac (s : State) (p : Nat) (m : MacPort) :
    (s.setMac p m).rafterQ = s.rafterQ := rfl
@[simp] theorem State.outst_setMac (s : State) (p : Nat) (m : MacPort) :
    (s.setMac p m).outst = s.outst := rfl
@[simp] theorem State.rrLast_setMac (s : State) (p : Nat) (m : MacPort) :
    (s.setMac p m).rrLast = s.rrLast := rfl
@[simp] theorem State.rclk_setMac (s : State) (p : Nat) (m : MacPort) :
    (s.setMac p m).rclk = s.rclk := rfl
@[simp] theorem State.chans_setMac (s : State) (p : Nat) (m : MacPort) :
    (s.setMac p m).chans = s.chans := rfl
@[simp] theorem State.txrs_setMac (s : State) (p : Nat) (m : MacPort) :
    (s.setMac p m).txrs = s.txrs := rfl
@[simp] theorem State.rxrs_setMac (s : State) (p : Nat) (m : MacPort) :
    (s.setMac p m).rxrs = s.rxrs := rfl
@[simp] theorem State.cqs_setMac (s : State) (p : Nat) (m : MacPort) :
    (s.setMac p m).cqs = s.cqs := rfl
@[simp] theorem State.adminFifo_setMac (s : State) (p : Nat) (m : MacPort) :
    (s.setMac p m).adminFifo = s.adminFifo := rfl
@[simp] theorem State.adminReadPtr_setMac (s : State) (p : Nat) (m : MacPort) :
    (s.setMac p m).adminReadPtr = s.adminReadPtr := rfl
@[simp] theorem State.adminCur_setMac (s : State) (p : Nat) (m : MacPort) :
    (s.setMac p m).adminCur = s.adminCur := rfl
@[simp] theorem State.adminDue_setMac (s : State) (p : Nat) (m : MacPort) :
    (s.setMac p m).adminDue = s.adminDue := rfl
@[simp] theorem State.lops_setMac (s : State) (p : Nat) (m : MacPort) :
    (s.setMac p m).lops = s.lops := rfl
@[simp] theorem State.lopSeq_setMac (s : State) (p : Nat) (m : MacPort) :
    (s.setMac p m).lopSeq = s.lopSeq := rfl
@[simp] theorem State.frames_setMac (s : State) (p : Nat) (m : MacPort) :
    (s.setMac p m).frames = s.frames := rfl
@[simp] theorem State.bankUse_setMac (s : State) (p : Nat) (m : MacPort) :
    (s.setMac p m).bankUse = s.bankUse := rfl
@[simp] theorem State.moverBank_setMac (s : State) (p : Nat) (m : MacPort) :
    (s.setMac p m).moverBank = s.moverBank := rfl
@[simp] theorem State.freed_setMac (s : State) (p : Nat) (m : MacPort) :
    (s.setMac p m).freed = s.freed := rfl
@[simp] theorem State.ctLast_setMac (s : State) (p : Nat) (m : MacPort) :
    (s.setMac p m).ctLast = s.ctLast := rfl
@[simp] theorem State.rftPins_setMac (s : State) (p : Nat) (m : MacPort) :
    (s.setMac p m).rftPins = s.rftPins := rfl
@[simp] theorem State.rftAt_setMac (s : State) (p : Nat) (m : MacPort) :
    (s.setMac p m).rftAt = s.rftAt := rfl
@[simp] theorem State.faultAt_setMac (s : State) (p : Nat) (m : MacPort) :
    (s.setMac p m).faultAt = s.faultAt := rfl
@[simp] theorem State.adminStalled_setMac (s : State) (p : Nat) (m : MacPort) :
    (s.setMac p m).adminStalled = s.adminStalled := rfl
@[simp] theorem State.lastDec_setMac (s : State) (p : Nat) (m : MacPort) :
    (s.setMac p m).lastDec = s.lastDec := rfl
@[simp] theorem State.fcThen_setMac (s : State) (p : Nat) (m : MacPort) :
    (s.setMac p m).fcThen = s.fcThen := rfl
@[simp] theorem State.leaves_setMac (s : State) (p : Nat) (m : MacPort) :
    (s.setMac p m).leaves = s.leaves := rfl
@[simp] theorem State.clients_setMac (s : State) (p : Nat) (m : MacPort) :
    (s.setMac p m).clients = s.clients := rfl
@[simp] theorem State.groups_setMac (s : State) (p : Nat) (m : MacPort) :
    (s.setMac p m).groups = s.groups := rfl
@[simp] theorem State.active_setMac (s : State) (p : Nat) (m : MacPort) :
    (s.setMac p m).active = s.active := rfl
@[simp] theorem State.rising_setMac (s : State) (p : Nat) (m : MacPort) :
    (s.setMac p m).rising = s.rising := rfl
@[simp] theorem State.births_setMac (s : State) (p : Nat) (m : MacPort) :
    (s.setMac p m).births = s.births := rfl
@[simp] theorem State.meters_setMac (s : State) (p : Nat) (m : MacPort) :
    (s.setMac p m).meters = s.meters := rfl
@[simp] theorem State.qwNext_setMac (s : State) (p : Nat) (m : MacPort) :
    (s.setMac p m).qwNext = s.qwNext := rfl
@[simp] theorem State.qwOut_setMac (s : State) (p : Nat) (m : MacPort) :
    (s.setMac p m).qwOut = s.qwOut := rfl
@[simp] theorem State.qwLen_setMac (s : State) (p : Nat) (m : MacPort) :
    (s.setMac p m).qwLen = s.qwLen := rfl
@[simp] theorem State.qwRound_setMac (s : State) (p : Nat) (m : MacPort) :
    (s.setMac p m).qwRound = s.qwRound := rfl
@[simp] theorem State.qwFail_setMac (s : State) (p : Nat) (m : MacPort) :
    (s.setMac p m).qwFail = s.qwFail := rfl
@[simp] theorem State.tables_setMac (s : State) (p : Nat) (m : MacPort) :
    (s.setMac p m).tables = s.tables := rfl
@[simp] theorem State.genAt_setMac (s : State) (p : Nat) (m : MacPort) :
    (s.setMac p m).genAt = s.genAt := rfl
@[simp] theorem State.editQ_setMac (s : State) (p : Nat) (m : MacPort) :
    (s.setMac p m).editQ = s.editQ := rfl
@[simp] theorem State.courses_setMac (s : State) (p : Nat) (m : MacPort) :
    (s.setMac p m).courses = s.courses := rfl
@[simp] theorem State.time_setMac (s : State) (p : Nat) (m : MacPort) :
    (s.setMac p m).time = s.time := rfl
@[simp] theorem State.lanes_setMac (s : State) (p : Nat) (m : MacPort) :
    (s.setMac p m).lanes = s.lanes := rfl
@[simp] theorem State.power_setMac (s : State) (p : Nat) (m : MacPort) :
    (s.setMac p m).power = s.power := rfl
@[simp] theorem State.bootU_setMac (s : State) (p : Nat) (m : MacPort) :
    (s.setMac p m).bootU = s.bootU := rfl
@[simp] theorem State.sealU_setMac (s : State) (p : Nat) (m : MacPort) :
    (s.setMac p m).sealU = s.sealU := rfl
@[simp] theorem State.vecTimers_setMac (s : State) (p : Nat) (m : MacPort) :
    (s.setMac p m).vecTimers = s.vecTimers := rfl
@[simp] theorem State.deferred_setMac (s : State) (p : Nat) (m : MacPort) :
    (s.setMac p m).deferred = s.deferred := rfl

@[simp] theorem State.pending_setCourse (s : State) (c : Nat) (x : CourseSt) :
    (s.setCourse c x).pending = s.pending := rfl
@[simp] theorem State.regs_setCourse (s : State) (c : Nat) (x : CourseSt) :
    (s.setCourse c x).regs = s.regs := rfl
@[simp] theorem State.latch_setCourse (s : State) (c : Nat) (x : CourseSt) :
    (s.setCourse c x).latch = s.latch := rfl
@[simp] theorem State.staged_setCourse (s : State) (c : Nat) (x : CourseSt) :
    (s.setCourse c x).staged = s.staged := rfl
@[simp] theorem State.ctResp_setCourse (s : State) (c : Nat) (x : CourseSt) :
    (s.setCourse c x).ctResp = s.ctResp := rfl
@[simp] theorem State.ctStall_setCourse (s : State) (c : Nat) (x : CourseSt) :
    (s.setCourse c x).ctStall = s.ctStall := rfl
@[simp] theorem State.ctQueue_setCourse (s : State) (c : Nat) (x : CourseSt) :
    (s.setCourse c x).ctQueue = s.ctQueue := rfl
@[simp] theorem State.now_setCourse (s : State) (c : Nat) (x : CourseSt) :
    (s.setCourse c x).now = s.now := rfl
@[simp] theorem State.free_setCourse (s : State) (c : Nat) (x : CourseSt) :
    (s.setCourse c x).free = s.free := rfl
@[simp] theorem State.nextId_setCourse (s : State) (c : Nat) (x : CourseSt) :
    (s.setCourse c x).nextId = s.nextId := rfl
@[simp] theorem State.rafterQ_setCourse (s : State) (c : Nat) (x : CourseSt) :
    (s.setCourse c x).rafterQ = s.rafterQ := rfl
@[simp] theorem State.outst_setCourse (s : State) (c : Nat) (x : CourseSt) :
    (s.setCourse c x).outst = s.outst := rfl
@[simp] theorem State.rrLast_setCourse (s : State) (c : Nat) (x : CourseSt) :
    (s.setCourse c x).rrLast = s.rrLast := rfl
@[simp] theorem State.rclk_setCourse (s : State) (c : Nat) (x : CourseSt) :
    (s.setCourse c x).rclk = s.rclk := rfl
@[simp] theorem State.chans_setCourse (s : State) (c : Nat) (x : CourseSt) :
    (s.setCourse c x).chans = s.chans := rfl
@[simp] theorem State.txrs_setCourse (s : State) (c : Nat) (x : CourseSt) :
    (s.setCourse c x).txrs = s.txrs := rfl
@[simp] theorem State.rxrs_setCourse (s : State) (c : Nat) (x : CourseSt) :
    (s.setCourse c x).rxrs = s.rxrs := rfl
@[simp] theorem State.cqs_setCourse (s : State) (c : Nat) (x : CourseSt) :
    (s.setCourse c x).cqs = s.cqs := rfl
@[simp] theorem State.adminFifo_setCourse (s : State) (c : Nat) (x : CourseSt) :
    (s.setCourse c x).adminFifo = s.adminFifo := rfl
@[simp] theorem State.adminReadPtr_setCourse (s : State) (c : Nat) (x : CourseSt) :
    (s.setCourse c x).adminReadPtr = s.adminReadPtr := rfl
@[simp] theorem State.adminCur_setCourse (s : State) (c : Nat) (x : CourseSt) :
    (s.setCourse c x).adminCur = s.adminCur := rfl
@[simp] theorem State.adminDue_setCourse (s : State) (c : Nat) (x : CourseSt) :
    (s.setCourse c x).adminDue = s.adminDue := rfl
@[simp] theorem State.lops_setCourse (s : State) (c : Nat) (x : CourseSt) :
    (s.setCourse c x).lops = s.lops := rfl
@[simp] theorem State.lopSeq_setCourse (s : State) (c : Nat) (x : CourseSt) :
    (s.setCourse c x).lopSeq = s.lopSeq := rfl
@[simp] theorem State.frames_setCourse (s : State) (c : Nat) (x : CourseSt) :
    (s.setCourse c x).frames = s.frames := rfl
@[simp] theorem State.bankUse_setCourse (s : State) (c : Nat) (x : CourseSt) :
    (s.setCourse c x).bankUse = s.bankUse := rfl
@[simp] theorem State.moverBank_setCourse (s : State) (c : Nat) (x : CourseSt) :
    (s.setCourse c x).moverBank = s.moverBank := rfl
@[simp] theorem State.freed_setCourse (s : State) (c : Nat) (x : CourseSt) :
    (s.setCourse c x).freed = s.freed := rfl
@[simp] theorem State.ctLast_setCourse (s : State) (c : Nat) (x : CourseSt) :
    (s.setCourse c x).ctLast = s.ctLast := rfl
@[simp] theorem State.rftPins_setCourse (s : State) (c : Nat) (x : CourseSt) :
    (s.setCourse c x).rftPins = s.rftPins := rfl
@[simp] theorem State.rftAt_setCourse (s : State) (c : Nat) (x : CourseSt) :
    (s.setCourse c x).rftAt = s.rftAt := rfl
@[simp] theorem State.faultAt_setCourse (s : State) (c : Nat) (x : CourseSt) :
    (s.setCourse c x).faultAt = s.faultAt := rfl
@[simp] theorem State.adminStalled_setCourse (s : State) (c : Nat) (x : CourseSt) :
    (s.setCourse c x).adminStalled = s.adminStalled := rfl
@[simp] theorem State.lastDec_setCourse (s : State) (c : Nat) (x : CourseSt) :
    (s.setCourse c x).lastDec = s.lastDec := rfl
@[simp] theorem State.fcThen_setCourse (s : State) (c : Nat) (x : CourseSt) :
    (s.setCourse c x).fcThen = s.fcThen := rfl
@[simp] theorem State.leaves_setCourse (s : State) (c : Nat) (x : CourseSt) :
    (s.setCourse c x).leaves = s.leaves := rfl
@[simp] theorem State.clients_setCourse (s : State) (c : Nat) (x : CourseSt) :
    (s.setCourse c x).clients = s.clients := rfl
@[simp] theorem State.groups_setCourse (s : State) (c : Nat) (x : CourseSt) :
    (s.setCourse c x).groups = s.groups := rfl
@[simp] theorem State.active_setCourse (s : State) (c : Nat) (x : CourseSt) :
    (s.setCourse c x).active = s.active := rfl
@[simp] theorem State.rising_setCourse (s : State) (c : Nat) (x : CourseSt) :
    (s.setCourse c x).rising = s.rising := rfl
@[simp] theorem State.births_setCourse (s : State) (c : Nat) (x : CourseSt) :
    (s.setCourse c x).births = s.births := rfl
@[simp] theorem State.meters_setCourse (s : State) (c : Nat) (x : CourseSt) :
    (s.setCourse c x).meters = s.meters := rfl
@[simp] theorem State.qwNext_setCourse (s : State) (c : Nat) (x : CourseSt) :
    (s.setCourse c x).qwNext = s.qwNext := rfl
@[simp] theorem State.qwOut_setCourse (s : State) (c : Nat) (x : CourseSt) :
    (s.setCourse c x).qwOut = s.qwOut := rfl
@[simp] theorem State.qwLen_setCourse (s : State) (c : Nat) (x : CourseSt) :
    (s.setCourse c x).qwLen = s.qwLen := rfl
@[simp] theorem State.qwRound_setCourse (s : State) (c : Nat) (x : CourseSt) :
    (s.setCourse c x).qwRound = s.qwRound := rfl
@[simp] theorem State.qwFail_setCourse (s : State) (c : Nat) (x : CourseSt) :
    (s.setCourse c x).qwFail = s.qwFail := rfl
@[simp] theorem State.tables_setCourse (s : State) (c : Nat) (x : CourseSt) :
    (s.setCourse c x).tables = s.tables := rfl
@[simp] theorem State.genAt_setCourse (s : State) (c : Nat) (x : CourseSt) :
    (s.setCourse c x).genAt = s.genAt := rfl
@[simp] theorem State.editQ_setCourse (s : State) (c : Nat) (x : CourseSt) :
    (s.setCourse c x).editQ = s.editQ := rfl
@[simp] theorem State.macs_setCourse (s : State) (c : Nat) (x : CourseSt) :
    (s.setCourse c x).macs = s.macs := rfl
@[simp] theorem State.time_setCourse (s : State) (c : Nat) (x : CourseSt) :
    (s.setCourse c x).time = s.time := rfl
@[simp] theorem State.lanes_setCourse (s : State) (c : Nat) (x : CourseSt) :
    (s.setCourse c x).lanes = s.lanes := rfl
@[simp] theorem State.power_setCourse (s : State) (c : Nat) (x : CourseSt) :
    (s.setCourse c x).power = s.power := rfl
@[simp] theorem State.bootU_setCourse (s : State) (c : Nat) (x : CourseSt) :
    (s.setCourse c x).bootU = s.bootU := rfl
@[simp] theorem State.sealU_setCourse (s : State) (c : Nat) (x : CourseSt) :
    (s.setCourse c x).sealU = s.sealU := rfl
@[simp] theorem State.vecTimers_setCourse (s : State) (c : Nat) (x : CourseSt) :
    (s.setCourse c x).vecTimers = s.vecTimers := rfl
@[simp] theorem State.deferred_setCourse (s : State) (c : Nat) (x : CourseSt) :
    (s.setCourse c x).deferred = s.deferred := rfl

@[simp] theorem State.rget_setLane (s : State) (n : Nat) (l : Lane) (id : RegId) (j : Nat) :
    (s.setLane n l).rget id j = s.rget id j := rfl
@[simp] theorem State.fget_setLane (s : State) (n : Nat) (l : Lane) (id : RegId) (j : Nat) (g : Field) :
    (s.setLane n l).fget id j g = s.fget id j g := rfl
@[simp] theorem State.rget_setMac (s : State) (p : Nat) (m : MacPort) (id : RegId) (j : Nat) :
    (s.setMac p m).rget id j = s.rget id j := rfl
@[simp] theorem State.fget_setMac (s : State) (p : Nat) (m : MacPort) (id : RegId) (j : Nat) (g : Field) :
    (s.setMac p m).fget id j g = s.fget id j g := rfl
@[simp] theorem State.rget_setCourse (s : State) (c : Nat) (x : CourseSt) (id : RegId) (j : Nat) :
    (s.setCourse c x).rget id j = s.rget id j := rfl
@[simp] theorem State.fget_setCourse (s : State) (c : Nat) (x : CourseSt) (id : RegId) (j : Nat) (g : Field) :
    (s.setCourse c x).fget id j g = s.fget id j g := rfl

theorem State.lane_setLane (s : State) (n m : Nat) (l : Lane) :
    (s.setLane n l).lane m = if m = n then l else s.lane m := by
  split
  · next h => subst h; simp [State.lane, State.setLane]
  · next h => exact Store.get_set_ne _ _ _ _ h

theorem State.mac_setMac (s : State) (p q : Nat) (m : MacPort) :
    (s.setMac p m).mac q = if q = p then m else s.mac q := by
  split
  · next h => subst h; simp [State.mac, State.setMac]
  · next h => exact Store.get_set_ne _ _ _ _ h

theorem State.course_setCourse (s : State) (c d : Nat) (x : CourseSt) :
    (s.setCourse c x).course d = if d = c then x else s.course d := by
  split
  · next h => subst h; simp [State.course, State.setCourse]
  · next h => exact Store.get_set_ne _ _ _ _ h

@[simp] theorem State.lane_rset (s : State) (id : RegId) (i : Nat) (v : Word) (n : Nat) :
    (s.rset id i v).lane n = s.lane n := rfl
@[simp] theorem State.mac_rset (s : State) (id : RegId) (i : Nat) (v : Word) (p : Nat) :
    (s.rset id i v).mac p = s.mac p := rfl

/-- States with the same register map read alike. -/
theorem State.rget_congr {s t : State} (h : t.regs = s.regs) (id : RegId) (i : Nat) : t.rget id i = s.rget id i := by
  simp [State.rget, h]

end Sys2Proof.Machine
end

