-- ==== Sys2Proof/Laws/After.lean ====
section
/-! SUPPORT. What follows from a command at once (`State.after`) changes only the registers of `afterRegs`, and nothing
of the part of the state that `State.unfollowed` shows. -/

namespace Sys2Proof.Machine

/-- From s to t only the registers of `afterRegs` and the fields that `State.unfollowed` blanks out have changed. -/
structure Follows (s t : State) : Prop where
  rest : t.unfollowed = s.unfollowed
  regs : ∀ id, id ∉ afterRegs → ∀ i, t.rget id i = s.rget id i

theorem Follows.refl (s : State) : Follows s s := ⟨rfl, fun _ _ _ => rfl⟩

theorem Follows.trans {s t u : State} (h : Follows s t) (k : Follows t u) : Follows s u :=
  ⟨k.rest.trans h.rest, fun id hid i => (k.regs id hid i).trans (h.regs id hid i)⟩

theorem Follows.rset {s t : State} {id : RegId} (i : Nat) (v : Word) (hid : id ∈ afterRegs) (h : Follows s t) :
    Follows s (t.rset id i v) :=
  h.trans ⟨rfl, fun _ hb _ => t.rget_rset_ne v (fun e => hb (e.1 ▸ hid))⟩

theorem Follows.fset {s t : State} {id : RegId} (i : Nat) (f : Field) (n : Nat) (hid : id ∈ afterRegs)
    (h : Follows s t) : Follows s (t.fset id i f n) := h.rset i _ hid

theorem Follows.ite {s t u : State} {c : Prop} [Decidable c] (h : c → Follows s t) (k : ¬c → Follows s u) :
    Follows s (if c then t else u) := by split <;> rename_i e <;> first | exact h e | exact k e

theorem Follows.forEach {α : Type} {s t : State} (l : List α) (f : State → α → State)
    (hf : ∀ u x, Follows u (f u x)) (h : Follows s t) : Follows s (t.forEach l f) := by
  induction l generalizing t with
  | nil => exact h
  | cons a l ih => exact ih (h.trans (hf t a))

/-- An update of fields that `State.unfollowed` blanks out. -/
theorem Follows.raw {s t u : State} (h : Follows s t) (hr : u.unfollowed = t.unfollowed) (hg : u.regs = t.regs) :
    Follows s u := h.trans ⟨hr, fun _ _ _ => by simp [State.rget, hg]⟩

theorem Follows.setMac {s t : State} (p : Nat) (m : MacPort) (h : Follows s t) : Follows s (t.setMac p m) := h.raw rfl rfl

theorem Follows.modMac {s t : State} (p : Nat) (f : MacPort → MacPort) (h : Follows s t) : Follows s (t.modMac p f) :=
  h.raw rfl rfl

theorem Follows.setTxr {s t : State} (r : Nat) (x : TxRing) (h : Follows s t) : Follows s (t.setTxr r x) := h.raw rfl rfl

theorem State.follow_follows (s : State) (id : RegId) (i : Nat) (f : Field) (b : Bool) (hid : id ∈ afterRegs) :
    Follows s (s.follow id i f b) := by
  unfold State.follow State.fsetB
  exact .ite (fun _ => .refl s) (fun _ => (Follows.refl s).fset i f _ hid)

theorem State.stat_follows (s : State) (p k n : Nat) : Follows s (s.stat p k n) := by
  unfold State.stat State.wrapAdd
  have h := (Follows.refl s).fset (id := .STATS_PORT) (p * 64 + k) fSTATS_PORT_COUNT
    (s.fget .STATS_PORT (p * 64 + k) fSTATS_PORT_COUNT + n) (by decide)
  exact .ite (fun _ => h.rset p _ (by decide)) (fun _ => h)

theorem State.clearOneStep_follows (s : State) (c : TxCur) : Follows s (s.clearOneStep c) := by
  unfold State.clearOneStep
  exact .ite (fun _ => (Follows.refl s).raw rfl rfl) (fun _ => .refl s)

theorem State.modTxr_follows (s : State) (r : Nat) (f : TxRing → TxRing) : Follows s (s.modTxr r f) := by
  unfold State.modTxr
  split
  · exact (Follows.refl s).setTxr r _
  · exact .refl s

theorem State.modEntry_follows (s : State) (r first : Nat) (f : TxEntry → TxEntry) : Follows s (s.modEntry r first f) :=
  s.modTxr_follows r _

theorem State.hostSent_follows (s : State) (p : Nat) (k : Pkt) (t : Int) (n : Nat) (b : Bool) :
    Follows s (s.hostSent p k t n b) := by
  unfold State.hostSent
  split
  · next r f _ =>
    have h : Follows s (s.txSent r f (stampOf t) n p) := (s.modTxr_follows r _).trans (State.modEntry_follows _ r f _)
    exact .ite (fun _ => h.trans (State.modEntry_follows _ r f _)) (fun _ => h)
  · exact .refl s

theorem State.unchargeLeaf_follows (s : State) (l c : Nat) : Follows s (s.unchargeLeaf l c) := by
  unfold State.unchargeLeaf
  split
  · exact (Follows.refl s).raw rfl rfl
  · exact .refl s

theorem State.fcPriority_follows (s : State) (p i : Nat) : Follows s (s.fcPriority p i) := by
  unfold State.fcPriority State.fcFall
  refine .ite (fun _ => .refl s) (fun _ => ?_)
  have h := (Follows.refl s).fset (id := .PORT_FC_TX_STAT) p fPORT_FC_TX_STAT_ASSERTED
    (s.fget .PORT_FC_TX_STAT p fPORT_FC_TX_STAT_ASSERTED ^^^ 2 ^ i) (by decide)
  exact .ite (fun _ => h.modMac p _) (fun _ => h)

theorem State.fcPause_follows (s : State) (p : Nat) : Follows s (s.fcPause p) := by
  unfold State.fcPause State.fcFall State.fsetB
  exact .ite
    (fun _ => .ite (fun _ => .refl s) (fun _ => ((Follows.refl s).fset p _ _ (by decide)).modMac p _))
    (fun _ => .ite (fun _ => (Follows.refl s).fset p _ _ (by decide)) (fun _ => .refl s))

theorem State.fcUpdate_follows (s : State) (p : Nat) : Follows s (s.fcUpdate p) :=
  (Follows.forEach _ _ (fun u i => u.fcPriority_follows p i) (.refl s)).trans (State.fcPause_follows _ p)

theorem State.unchargeSent_follows (s : State) (k : Pkt) : Follows s (s.unchargeSent k) := by
  unfold State.unchargeSent
  split
  · exact .ite (fun _ => s.unchargeLeaf_follows _ _) (fun _ => .refl s)
  · exact .refl s

theorem State.lagFree_follows (s : State) (n : Nat) : Follows s (s.lagFree n) := (Follows.refl s).raw rfl rfl

theorem State.unchargeIngress_follows (s : State) (a use head : Nat) : Follows s (s.unchargeIngress a use head) :=
  ((((Follows.refl s).fset a _ _ (by decide)).fset a _ _ (by decide)).trans (State.lagFree_follows _ _)).trans
    (State.fcUpdate_follows _ _)

theorem State.dropHost_follows (s : State) (n : Nat) : Follows s (s.dropHost n) :=
  ((Follows.refl s).fset 0 _ _ (by decide)).trans (State.lagFree_follows _ _)

theorem State.freeCells_follows (s : State) (f : Frame) (ids : List Nat) : Follows s (s.freeCells f ids) :=
  Follows.forEach _ _ (fun u _ => (Follows.refl u).raw rfl rfl) (.refl s)

theorem State.release_follows (s : State) (fid : Nat) (ids : List Nat) : Follows s (s.release fid ids) := by
  unfold State.release
  split
  · exact .refl s
  · exact .ite (fun _ => (State.freeCells_follows s _ ids).raw rfl rfl)
      (fun _ => (State.freeCells_follows s _ ids).raw rfl rfl)

theorem State.releasePkt_follows (s : State) (k : Pkt) : Follows s (s.releasePkt k) := by
  unfold State.releasePkt
  split
  · exact .refl s
  · next f _ =>
    refine Follows.trans ?_ (State.release_follows _ _ _)
    have h : Follows s (if k.copy then s else match f.acct with
        | some a => s.unchargeIngress a f.use f.head
        | none => if f.host then s.dropHost f.hostUse else s) := by
      refine .ite (fun _ => .refl s) (fun _ => ?_)
      split
      · exact s.unchargeIngress_follows _ _ _
      · exact .ite (fun _ => s.dropHost_follows _) (fun _ => .refl s)
    exact .ite (fun _ => h) (fun _ => h.raw rfl rfl)

theorem State.statCut_follows (s : State) (p n : Nat) : Follows s (s.statCut p n) := by
  have h := s.stat_follows p 45 1
  have g := State.stat_follows (s.stat p 45 1) p (47 + sizeBucket n) 1
  exact .ite (fun _ => h) (fun _ => h.trans g)

theorem State.cutLink_follows (s : State) (p : Nat) (c : TxCur) (n : Nat) : Follows s (s.cutLink p c n) := by
  unfold State.cutLink State.hostCut State.leavePort
  refine Follows.trans ?_ (State.releasePkt_follows _ _)
  refine Follows.trans ?_ (State.unchargeSent_follows _ _)
  refine Follows.modMac p _ ?_
  have h : Follows s (if s.portUsed p = true then s.statCut p n else s) :=
    .ite (fun _ => s.statCut_follows p n) (fun _ => .refl s)
  exact (h.trans (State.clearOneStep_follows _ c)).trans (State.hostSent_follows _ _ _ _ _ _)

theorem State.verifyStart_follows (s : State) (p : Nat) : Follows s (s.verifyStart p) := by
  unfold State.verifyStart State.verifySend State.setVerify
  have h := (Follows.refl s).modMac p (fun m => { m with verifyTries := 0, verifyEnd := none, verifyDue := false })
  exact .ite (fun _ => h.fset p _ _ (by decide))
    (fun _ => .ite (fun _ => (h.modMac p _).fset p _ _ (by decide)) (fun _ => h.fset p _ _ (by decide)))

theorem State.dropMarkers_follows (s : State) (p : Nat) : Follows s (s.dropMarkers p) := by
  unfold State.dropMarkers
  refine .ite (fun _ => .refl s) (fun _ => ?_)
  have h := Follows.forEach (s.portLanes p) (fun (s : State) n => s.follow .LANE_SKEW n fLANE_SKEW_VALID false)
    (fun u n => u.follow_follows _ n _ _ (by decide)) (.refl s)
  exact (h.trans (State.follow_follows _ _ p _ _ (by decide))).trans (State.follow_follows _ _ p _ _ (by decide))

theorem State.linkUp_follows (s : State) (p : Nat) : Follows s (s.linkUp p) := by
  unfold State.linkUp State.paceReset State.flag
  refine Follows.trans (Follows.modMac p _ (Follows.modMac p _ ?_)) (State.verifyStart_follows _ p)
  exact ((Follows.refl s).fset p _ _ (by decide)).fset p _ _ (by decide)

theorem State.cutIf_follows (s : State) (p : Nat) (o : Option TxCur) (n : TxCur → Nat) :
    Follows s (s.cutIf p o n) := by
  cases o with
  | none => exact .refl s
  | some c => exact s.cutLink_follows p c (n c)

theorem State.linkDown_follows (s : State) (p st : Nat) : Follows s (s.linkDown p st) := by
  unfold State.linkDown State.flag
  refine Follows.trans ?_ (State.verifyStart_follows _ p)
  have h := ((Follows.refl s).fset (id := .PORT_LINK_STAT) p fPORT_LINK_STAT_LINK_STATE st (by decide)).fset
    (id := .PORT_LINK_EVT) p fPORT_LINK_EVT_DOWN 1 (by decide)
  refine .ite (fun _ => ?_) (fun _ => Follows.trans ?_ (State.cutIf_follows _ p _ _)) <;>
    exact Follows.trans (h.setMac p _) (State.cutIf_follows _ p _ _)

theorem State.followLink_follows (s : State) (p : Nat) : Follows s (s.followLink p) := by
  unfold State.followLink
  have h := s.dropMarkers_follows p
  exact .ite (fun _ => h) (fun _ => .ite (fun _ => h.trans (State.linkUp_follows _ p))
    (fun _ => .ite (fun _ => h.trans (State.linkDown_follows _ p _)) (fun _ => h.fset p _ _ (by decide))))

theorem State.followFec_follows (s : State) (p : Nat) : Follows s (s.followFec p) := by
  unfold State.followFec State.fsetB State.flag
  refine .ite (fun _ => .refl s) (fun _ => ?_)
  have h := (Follows.refl s).fset (id := .PORT_FEC_STAT) p fPORT_FEC_STAT_LOCKED
    (s.portUsed p && s.portFec p && s.markerLock p).toNat (by decide)
  exact .ite (fun _ => h.fset p _ _ (by decide)) (fun _ => h)

theorem State.followSpray_follows (s : State) (p : Nat) : Follows s (s.followSpray p) := by
  unfold State.followSpray
  exact .ite (fun _ => s.follow_follows _ _ _ _ (by decide)) (fun _ => .refl s)

theorem State.finish_follows (s : State) (p : Nat) : Follows s (s.finish p) := by
  unfold State.finish
  exact .ite (fun _ => (Follows.refl s).modMac p _) (fun _ => .refl s)

theorem State.onLine_follows (s : State) (p : Nat) (w : List Byte) (b : Bool) : Follows s (s.onLine p w b) := by
  unfold State.onLine
  exact .ite (fun _ => .refl s) (fun _ => (Follows.refl s).modMac p _)

theorem State.loopItem_follows (s : State) (p : Nat) (x : RxFrame ⊕ Fragment) : Follows s (s.loopItem p x) := by
  unfold State.loopItem
  exact .ite (fun _ => (Follows.refl s).modMac p _) (fun _ => .refl s)

theorem State.mSend_follows (s : State) (p : Nat) : Follows s (s.mSend p) := by
  have send (u : State) (b : Byte) : Follows u
      (((u.modMac p (fun m => { m with lastCtl := mPacket })).onLine p (preamble b ++ mPacket) false).loopItem p
        (.inl { bytes := mPacket, start := b })) :=
    (((Follows.refl u).modMac p _).trans (State.onLine_follows _ p _ _)).trans (State.loopItem_follows _ p _)
  unfold State.mSend
  refine .ite (fun _ => .refl s) (fun _ => ?_)
  have h : Follows s (if (s.mac p).respondDue then
      (((s.modMac p (fun m => { m with respondDue := false })).modMac p (fun m => { m with lastCtl := mPacket })).onLine p
        (preamble smdR ++ mPacket) false).loopItem p (.inl { bytes := mPacket, start := smdR }) else s) :=
    .ite (fun _ => ((Follows.refl s).modMac p _).trans (send _ smdR)) (fun _ => .refl s)
  exact .ite (fun _ => (h.modMac p _).trans (send _ smdV)) (fun _ => h)

theorem State.showPort_follows (s : State) (p : Nat) : Follows s (s.showPort p) := by
  unfold State.showPort
  refine Follows.trans ?_ (State.followSpray_follows _ p)
  refine Follows.trans ?_ (State.followFec_follows _ p)
  refine Follows.trans ?_ (State.mSend_follows _ p)
  refine Follows.trans ?_ (State.follow_follows _ _ p _ _ (by decide))
  refine Follows.trans ?_ (State.finish_follows _ p)
  exact ((s.follow_follows _ p _ _ (by decide)).trans (State.follow_follows _ _ p _ _ (by decide))).trans
    (State.follow_follows _ _ p _ _ (by decide))

theorem State.rclkFollow_follows (s : State) (k : Nat) : Follows s (s.rclkFollow k) := by
  unfold State.rclkFollow State.rclkSquelch State.flag
  have h : Follows s { s with time := { s.time with rclkClear := s.time.rclkClear.del k } } :=
    (Follows.refl s).raw rfl rfl
  exact .ite (fun _ => .ite (fun _ => h) (fun _ => (h.fset 0 _ _ (by decide)).fset 0 _ _ (by decide)))
    (fun _ => .ite (fun _ => (Follows.refl s).raw rfl rfl) (fun _ => .refl s))

theorem State.settle_follows (s : State) : Follows s s.settle := by
  unfold State.settle State.rclkFollowAll
  exact (((Follows.refl s).forEach _ _ (fun u p => u.followLink_follows p)).forEach _ _
    (fun u p => u.showPort_follows p)).trans ((State.rclkFollow_follows _ 0).trans (State.rclkFollow_follows _ 1))

theorem State.adminPost_follows (s : State) (c : AdminCompl) : Follows s (s.adminPost c) := by
  unfold State.adminPost State.flag
  have h : Follows s { s with adminDue := s.adminDue ++ [c] } := (Follows.refl s).raw rfl rfl
  exact .ite (fun _ => h.fset 0 _ _ (by decide)) (fun _ => h)

theorem State.lopFinal_follows (s : State) (k : Nat) (x : Lop) (st : Nat) : Follows s (s.lopFinal k x st) := by
  unfold State.lopFinal State.setLopState State.flag
  refine Follows.trans ?_ (State.adminPost_follows _ _)
  exact ((((((Follows.refl s).fset k _ _ (by decide)).fset k _ _ (by decide)).fset k _ _ (by decide)).fset k _ _
    (by decide)).rset k _ (by decide)).rset k _ (by decide)

theorem State.askLop_follows (s : State) (k : Nat) (x : Lop) (qs : List RafterReq) :
    Follows s ((s.setLop k x).enqueue qs) := (Follows.refl s).raw rfl rfl

theorem State.lopFinish_follows (s : State) (k : Nat) : Follows s (s.lopFinish k) := by
  unfold State.lopFinish
  split
  · exact .refl s
  · split
    · exact .refl s
    · refine .ite (fun _ => .refl s) (fun _ => .ite (fun _ => ?_) (fun _ => State.lopFinal_follows s k _ _))
      exact .ite (fun _ => (s.askLop_follows k _ _).trans (State.lopFinal_follows _ k _ _))
        (fun _ => s.askLop_follows k _ _)

theorem State.rehashEnd_follows (s : State) (t : Nat) : Follows s (s.rehashEnd t) := by
  unfold State.rehashEnd State.fsetB
  exact ((Follows.refl s).fset t _ _ (by decide)).fset 0 _ _ (by decide)

theorem State.lopEnd_follows (s : State) (k st : Nat) : Follows s (s.lopEnd k st) := by
  unfold State.lopEnd
  split
  · exact .refl s
  · next x _ =>
    refine Follows.trans ?_ (State.lopFinish_follows _ k)
    have h : Follows s (if cb x.bytes 0 1 == oBULK then s.fset .TABLE_GEN_STAT 0 fTABLE_GEN_STAT_BULK 0 else s) :=
      .ite (fun _ => (Follows.refl s).fset 0 _ _ (by decide)) (fun _ => .refl s)
    have k : Follows s (if cb x.bytes 0 1 == oREHASH then
        (if cb x.bytes 0 1 == oBULK then s.fset .TABLE_GEN_STAT 0 fTABLE_GEN_STAT_BULK 0 else s).rehashEnd
          (cb x.bytes 9 1)
        else if cb x.bytes 0 1 == oBULK then s.fset .TABLE_GEN_STAT 0 fTABLE_GEN_STAT_BULK 0 else s) :=
      .ite (fun _ => h.trans (State.rehashEnd_follows _ _)) (fun _ => h)
    exact k.raw rfl rfl

theorem State.eyeCheck_follows (s : State) : Follows s s.eyeCheck := by
  unfold State.eyeCheck
  exact Follows.forEach _ _ (fun u e => .ite
    (fun _ => ((Follows.refl u).fset e.1 _ _ (by decide)).trans (State.lopEnd_follows _ _ _)) (fun _ => .refl u)) (.refl s)

theorem State.genDone_follows (s : State) : Follows s s.genDone := by
  unfold State.genDone State.curDone State.shortDone
  split
  · refine .ite (fun _ => ?_) (fun _ => .refl s)
    split
    · exact Follows.trans (t := { s with adminCur := none }) ((Follows.refl s).raw rfl rfl)
        (State.adminPost_follows _ _)
    · exact .refl s
  · exact .refl s

theorem State.badOpcodes_follows (n : Nat) (s : State) : Follows s (s.badOpcodes n) := by
  induction n generalizing s with
  | zero => exact .refl s
  | succ n ih =>
    unfold State.badOpcodes
    split
    · refine .ite (fun _ => .refl s) (fun _ => Follows.trans ?_ (ih _))
      exact Follows.trans (t := s.popCmd) ((Follows.refl s).raw rfl rfl) (State.adminPost_follows _ _)
    · exact .refl s

theorem State.fenceCheck_follows (s : State) : Follows s s.fenceCheck := by
  unfold State.fenceCheck State.flag
  split
  · exact .ite (fun _ => (Follows.refl s).fset 0 _ _ (by decide)) (fun _ => .refl s)
  · exact .ite (fun _ => (Follows.refl s).fset 0 _ _ (by decide)) (fun _ => .refl s)

theorem State.wake_follows (s : State) (d : Nat) : Follows s (s.wake d) := by
  unfold State.wake
  exact .ite (fun _ => (Follows.refl s).raw rfl rfl) (fun _ => .refl s)

theorem State.followWork_follows (s : State) : Follows s s.followWork :=
  Follows.forEach _ _ (fun u d => .ite (fun _ => .refl u) (fun _ => u.wake_follows d)) (.refl s)

theorem State.followWatch_follows (s : State) : Follows s s.followWatch := by
  unfold State.followWatch
  refine .ite (fun h => ?_) (fun _ => .refl s)
  have k : s.power.sleep.isSome = true := by
    simp only [Bool.and_eq_true, State.watchTime] at h
    cases hs : s.power.sleep <;> simp_all
  unfold State.setDom State.setReady State.showBlock
  rw [if_pos (by exact k)]
  exact ((Follows.refl s).fset 0 _ _ (by decide)).fset 0 _ _ (by decide)

/-- A command that leaves the SLEEP entry as it is frees no pads. -/
theorem State.padsFreed_sleep {s t : State} (h : t.power.sleep = s.power.sleep) : s.padsFreed t = t := by
  unfold State.padsFreed
  cases hs : s.power.sleep <;> simp [h, hs]

/-- What follows from a command that frees no pads changes only the registers of `afterRegs` and what `State.unfollowed`
blanks out. -/
theorem State.after_follows (s t : State) (h : s.bootU.asserted = false) (hp : s.padsFreed t = t) :
    Follows t (s.after t) := by
  have k := (((t.eyeCheck_follows.trans (State.genDone_follows _)).trans
    (State.badOpcodes_follows t.eyeCheck.adminFifo.length _)).trans (State.fenceCheck_follows _)).trans
    (State.settle_follows _)
  have k := (k.trans (State.followWork_follows _)).trans (State.followWatch_follows _)
  unfold State.after
  rw [h, if_neg (by decide), hp]
  exact k.raw rfl rfl

/-- A register outside `afterRegs` reads after a command as its own effect left it. -/
theorem State.after_rget (s t : State) (h : s.bootU.asserted = false) (hp : s.padsFreed t = t) (id : RegId) (i : Nat)
    (hid : id ∉ afterRegs) : (s.after t).rget id i = t.rget id i := (s.after_follows t h hp).regs id hid i

theorem State.after_fget (s t : State) (h : s.bootU.asserted = false) (hp : s.padsFreed t = t) (id : RegId) (i : Nat)
    (f : Field) (hid : id ∉ afterRegs) : (s.after t).fget id i f = t.fget id i f := by
  simp only [State.fget, s.after_rget t h hp id i hid]

/-- The queue of a command's next state is the one the command was given. -/
theorem State.after_pending (s t : State) : (s.after t).pending = s.pending := by
  unfold State.after; split <;> rfl

end Sys2Proof.Machine
end

