-- ==== Sys2Proof/Laws/Access.lean ====
section
/-! SUPPORT. What a write or a read of a whole register at the control port does when the port serves it at once. -/

namespace Sys2Proof.Machine

theorem RegId.width_cases (id : RegId) : id.desc.width = 32 ∨ id.desc.width = 64 := by cases id <;> decide

/-- The word that a write of a whole register carries to it. -/
def carried (id : RegId) (v : Word) : Word := if id.desc.width = 64 then v else low32 v

/-- What a whole-register write does to the register, its staging latch emptied (R24). -/
def State.written (s : State) (id : RegId) (i : Nat) (v : Word) : State :=
  ({ s with staged := s.staged.del (rkey id i) } : State).writeReg id i (carried id v)

theorem State.writeAt_whole (s : State) (id : RegId) (i : Nat) (v : Word) :
    s.writeAt id i false (id.desc.width / 8) v = s.written id i v := by
  unfold State.writeAt State.written carried
  rcases id.width_cases with h | h <;> simp [h]

theorem State.serves_asserted {s : State} {id : RegId} {i : Nat} (h : s.serves id i = true) :
    s.bootU.asserted = false := by
  simp [State.serves] at h; exact h.1.1.1

/-- A write served at once: the register is written, FIRST_OFF is tracked (R29), and the response is normal. -/
theorem State.ctWrite_serves {s : State} {id : RegId} {i : Nat} (v : Word) (h : s.serves id i = true) :
    s.ctWrite id i v =
      { s.tracked (addrOf id i) (s.written id i v) with
        ctResp := some { err := false, data := 0 }
        ctOut := [{ err := false, data := 0 }]
        ctLast := some (addrOf id i % 16777216, s.mclk) } := by
  simp only [State.serves, Bool.and_eq_true, Bool.not_eq_true', Option.isNone_iff_eq_none] at h
  obtain ⟨⟨⟨h1, h2⟩, h3⟩, h4⟩ := h
  cases hd : regionDom (addrOf id i) with
  | none => rw [hd] at h4; simp at h4
  | some d =>
    rw [hd] at h4
    simp only [Bool.and_eq_true, bne_iff_ne, ne_eq] at h4
    have h5 : (s.dom d == 3) = false := by simpa using h4.1
    have h6 : s.writeHeld (addrOf id i) = false := by
      simp only [Bool.or_eq_true, beq_iff_eq] at h3
      rcases h3 with h3 | h3 <;> simp [State.writeHeld, h3, bRUNNING, bSAFE]
    simp [State.ctWrite, State.ctAccessBy, h1, h2, State.ctServeBy, State.stalls, State.accessAt, hd, h4.2, h5, h6,
      State.writeAt_whole]

/-- A read served at once. -/
theorem State.ctRead_serves {s : State} {id : RegId} {i : Nat} (h : s.serves id i = true) :
    s.ctRead id i =
      { (s.readAt id i false (id.desc.width / 8)).2 with
        ctResp := some { err := false, data := (s.readAt id i false (id.desc.width / 8)).1 }
        ctOut := [{ err := false, data := (s.readAt id i false (id.desc.width / 8)).1 }]
        ctLast := some (addrOf id i % 16777216, s.mclk) } := by
  simp only [State.serves, Bool.and_eq_true, Bool.not_eq_true', Option.isNone_iff_eq_none] at h
  obtain ⟨⟨⟨h1, h2⟩, _⟩, h4⟩ := h
  cases hd : regionDom (addrOf id i) with
  | none => rw [hd] at h4; simp at h4
  | some d =>
    rw [hd] at h4
    simp only [Bool.and_eq_true, bne_iff_ne, ne_eq] at h4
    have h5 : (s.dom d == 3) = false := by simpa using h4.1
    simp [State.ctRead, State.ctAccessBy, h1, h2, State.ctServeBy, State.stalls, State.accessAt, hd, h4.2, h5]

/-- Tracking FIRST_OFF changes GEN_ACC_ERR alone. -/
theorem State.tracked_rget (s s' : State) (off : Nat) (id : RegId) (i : Nat) (h : id ≠ .GEN_ACC_ERR) :
    (s.tracked off s').rget id i = s'.rget id i := by
  unfold State.tracked
  split
  · exact s'.rget_fset_ne _ _ (fun e => h e.1.symm)
  · rfl

/-- A register other than GEN_ACC_ERR reads after a served write as the write left it. -/
theorem State.ctWrite_rget {s : State} {id : RegId} {i : Nat} (v : Word) (h : s.serves id i = true) (a : RegId)
    (j : Nat) (ha : a ≠ .GEN_ACC_ERR) : (s.ctWrite id i v).rget a j = (s.written id i v).rget a j := by
  rw [State.ctWrite_serves v h]
  exact State.tracked_rget s _ _ a j ha

/-- What a served write leaves beside GEN_ACC_ERR and the response is what the write of the register leaves. -/
theorem State.ctWrite_rest {s : State} {id : RegId} {i : Nat} (v : Word) (h : s.serves id i = true) :
    { s.ctWrite id i v with regs := [], ctResp := none, ctOut := [], ctLast := none } =
      { s.written id i v with regs := [], ctResp := none, ctOut := [], ctLast := none } := by
  rw [State.ctWrite_serves v h]
  unfold State.tracked
  split <;> rfl

/-- A write without a reserved encoding acts as it is. -/
theorem State.writeReg_ok (s : State) (id : RegId) (i : Nat) (v : Word) (h : s.encBad id i v = []) :
    s.writeReg id i v = s.actWrite id i v := by simp [State.writeReg, h]

end Sys2Proof.Machine
end

