-- ==== Sys2Proof/WellFormed.lean ====
section
/-! DEFINITION. Well-formed commands: operands within what the manual's ports and formats can carry. -/

namespace Sys2Proof

open Machine

/-- R13, R57: an access of 1, 2, 4 or 8 bytes within the 16 MiB window. -/
def Access.wf (a : Access) : Bool := [1, 2, 4, 8].contains a.size && decide (a.offset < 2 ^ 24)

/-- R57: an offset within the window. -/
def offsetWf (off : Nat) : Bool := decide (off < 2 ^ 24)

/-- R580, R583: a response carries the bytes of one request, at most 256. -/
def Resp.wf (r : Resp) : Bool := decide (r.data.length ≤ 256)

/-- R144: a receiver setting names every tap: four of the reflection canceller and 32 of the FFE. -/
def RxSet.wf (x : RxSet) : Bool := x.rc.length == 4 && x.ffe.length == 32

/-- R280: the phase of a timestamp point is in units of 1/64 UI. -/
def Path.wf (x : Path) : Bool := decide (x.phase < 64)

/-- R217: a received frame holds at least one byte after its start. -/
def RxFrame.wf (x : RxFrame) : Bool := x.bytes != []

/-- R249: a fragment carries frame data. -/
def Fragment.wf (x : Fragment) : Bool := x.data != []

/-- R712, R713: a frame at a watch lane holds at least one byte. -/
def watchWf (b : List Byte) : Bool := b != []

/-- R732: SELECT reads 64 bytes of a header, and 16 of a commit marker or none. -/
def selectWf (h m : List Byte) : Bool := h.length == 64 && (m.length == 16 || m == [])

/-- R729: the items that a restore applies are SCHED_NODE and METER items of 32 bytes. -/
def restoreWf (items : List (Bool × List Byte)) : Bool := items.all (fun i => i.2.length == 32)

/-- R806: the governor reads five sensor sites. -/
def sitesWf (sites : List (Option Int)) : Bool := sites.length == 5

/-- R729: LOAD reads a record header and an item of at most 64 bytes. -/
def itemWf (b : List Byte) : Bool := decide (b.length ≤ 72)

/-- R748: a window transaction carries at most 256 data bytes. -/
def xspiWf (b : List Byte) : Bool := decide (b.length ≤ 256)

/-- R205: corrected symbols are reported by lane, for at most eight lanes. -/
def fecWf (x : Option (List Nat)) : Bool := match x with | some l => decide (l.length ≤ 8) | none => true

/-- R95: a training frame has 384 symbols of marker and fields, and 3,712 of its pattern. -/
def trainWf (head pattern : List (Fin 4)) : Bool := head.length == 384 && pattern.length == 3712

/-- R124: skews are reported by lane, for at most eight lanes. -/
def skewWf (l : List Nat) : Bool := decide (l.length ≤ 8)

/-- A command whose operands are within what the manual's ports and formats can carry. -/
def Instr.wf : Instr → Bool
  | .registerWrite a => a.wf
  | .rcCounterRead off size => (Access.wf { write := false, size := size, offset := off, data := 0 })
  | .lowerHalfRead off => offsetWf off
  | .lowerHalfWrite off _ => offsetWf off
  | .upperHalfWrite off _ => offsetWf off
  | .rxFrame _ x => x.what.wf && x.path.wf
  | .rxFragment _ x => x.what.wf && x.path.wf
  | .shaperEligible lvl node => decide (node < levelSize lvl)
  | .egressFrameStart _ x _ => x.wf
  | .txEntryReadDone a _ => a.wf
  | .descRereadDone a _ => a.wf
  | .txFragmentReadDone a _ => a.wf
  | .rxBufferReadDone a _ => a.wf
  | .rxDataWriteDone a => a.wf
  | .completionWriteDone a => a.wf
  | .shadowWriteDone a => a.wf
  | .pfBlockDone _ _ _ x _ => match x with | some y => y.wf | none => true
  | .rxUpdateInterval _ est => est.wf
  | .lpmReceive _ x => x.wf
  | .fcFrameRx _ x => x.what.wf && x.path.wf
  | .skewMeasured _ l => skewWf l
  | .trainingFrameRx _ head pattern => trainWf head pattern
  | .fecCodewordDecode _ x => fecWf x
  | .qwRoundDone a => a.wf
  | .adminCommandReadDone a => a.wf
  | .adminCompletionDone a => a.wf
  | .operandMemoryAccessDone a => a.wf
  | .dmaDescReadDone a => a.wf
  | .dmaDataReadDone a => a.wf
  | .dmaDataWriteDone a => a.wf
  | .dmaWritebackDone a => a.wf
  | .intcMessageWriteDone a => a.wf
  | .domainReady _ items => restoreWf items
  | .watchMagicFrame _ b _ => watchWf b
  | .watchPatternMatch _ b _ => watchWf b
  | .thermSample sites => sitesWf sites
  | .bootSelectDone hA mA hB mB => selectWf hA mA && selectWf hB mB
  | .bootItemApply x => itemWf x.bytes
  | .xspiWindowDone b => xspiWf b
  | _ => true

end Sys2Proof
end

