-- ==== Sys2Proof/Tests/Slice0.lean ====
section
/-! SUPPORT. Tests: an ill-formed term for each check of WellFormed, worked examples of the manual, and for each statement
and each clause of it a state and operands that meet its hypotheses. -/

namespace Sys2Proof.Machine

/-- Sets fields of an instance of a register, by their places. -/
def State.sets (s : State) (id : RegId) (i : Nat) (l : List (Field × Nat)) : State :=
  l.foldl (fun s e => s.fset id i e.1 e.2) s

end Sys2Proof.Machine

namespace Sys2Proof.Tests

open Sys2Proof Sys2Proof.Machine

set_option Elab.async false

/-- A block that runs: the ridge PLL is locked, every domain is ready, and the boot engine is in RUNNING. -/
def run : State :=
  let s : State := { State.reset with time := { locked := true, started := true }, now := 100000 }
  (s.fset .POWER_READY 0 fPOWER_READY_READY 0x7FFF).fset .BOOT_STAT 0 fBOOT_STAT_STATE bRUNNING

/-- `run` with lane 0 in a state. -/
def lane0 (st : Nat) : State := run.fset .LANE_STAT 0 fLANE_STAT_STATE st

/-- `run` with P0 a port of one lane of 200 Gb/s, UP. -/
def up : State :=
  (((lane0 lDATA).fset .LANE_CTRL 0 fLANE_CTRL_EN 1).rset .COURSE_PORT_MAP 0 0x05555FE4).rset .PORT_LINK_STAT 0
    ((fPORT_LINK_STAT_LINK_STATE.at 3) ||| fPORT_LINK_STAT_MARKER_LOCK.at 1)

/-- n bytes of zero but for those listed by place. -/
def bytesAt (n : Nat) (l : List (Nat × Nat)) : List Byte :=
  (List.range n).map fun i => BitVec.ofNat 8 (((l.find? fun e => e.1 == i).map (·.2)).getD 0)

/-- `bytesAt` with a good FCS after them. -/
def good (n : Nat) (l : List (Nat × Nat)) : List Byte := bytesAt n l ++ fcsOf (bytesAt n l)

/-- A setting of the transmit taps. -/
def taps0 : Taps := { m3 := 0, m2 := 0, m1 := -8, p1 := 0 }

/-- A good image header with a SEQ, and its commit marker. -/
def header (seq : Nat) : List Byte :=
  let b := leBytes 4 0x7A3E1216 ++ leBytes 4 1 ++ leBytes 4 seq ++ leBytes 4 80 ++ leBytes 4 7 ++
    [0x16, 0x32, 0xA7, 1, 1, 1] ++ bytesAt 34 []
  b ++ leBytes 4 (crc32c 0xFFFFFFFF b)
def marker (seq : Nat) : List Byte := leBytes 4 0x85C1EDE9 ++ leBytes 4 seq ++ leBytes 4 80 ++ leBytes 4 7

/-- `run` with LOAD in progress at an offset of an image of 112 bytes. -/
def loading (off : Nat) : State :=
  (run.modBoot fun u => { u with load := some { copy := 1, next := [], len := 112, crc := 0, strict := false, off } }).fset
    .BOOT_STAT 0 fBOOT_STAT_STATE bLOAD

/-- `run` in a SLEEP entry, at a step. -/
def sleepAt (st : SleepStep) : State := run.modPower fun u => { u with sleep := some { step := st, opp := 2 } }

/-- SLEEP, with the Watch domain running. -/
def watching : State := (sleepAt .asleep).fset .POWER_DOM_STAT 0 (fPOWER_DOM_STAT_STATE dWATCH) 0

/-- `run` in an operating point change, at a step. -/
def changing (st : OppStep) (up : Bool) : State :=
  run.modPower fun u => { u with change := some { target := 3, former := 4, raising := up, step := st, cmd := false } }

/-- An entry with key 7, and where its first bucket begins. -/
def ent : Entry :=
  { action := 0, genFirst := 2, genLast := 0, valid := true, firstV := true, profile := 1, keyLen := 4, key := 7 }
def tab0 : State := run.fset .TABLE_EM_CFG 0 fTABLE_EM_CFG_SIZE 1
def entAt : Nat := (tab0.buckets 0 1 4 7).1 * 4

/-- Table 0 with the record of `ent` in its window, an operation BUSY, and the entry in the table or not. -/
def tabWin (op : Nat) (present : Bool) : State :=
  let s := (tab0.sets .TABLE_WIN_CMD 0 [(fTABLE_WIN_CMD_BUSY, 1), (fTABLE_WIN_CMD_OP, op)])
  let s := (List.range 8).foldl (fun (s : State) i => s.rset .TABLE_WIN_DATA i (wordAt ent.record i)) s
  if present then s.setEntry 0 entAt ent else s

/-- `run` in a generation state. -/
def genAt (st : Nat) : State := run.setGen st 0 1

/-- A request of someone for a purpose, and a state with it outstanding under tag 3 of port 0; its answer with n bytes,
and an answer with an error. -/
def reqOf (who : Requester) (p : Purpose) (write : Bool) (len : Nat) : RafterReq :=
  { who, port := 0, level := 0, write, addr := 0, len, data := [], msg := false, ctrl := false, purpose := p }
def waits (who : Requester) (p : Purpose) (write : Bool) (len : Nat) (s : State) : State :=
  { s with outst := [{ port := 0, tag := 3, req := reqOf who p write len }] }
def answer (n : Nat) : Resp := { port := 0, tag := 3, data := List.replicate n 0 }
def wrong (n : Nat) : Resp := { answer n with code := 1 }

/-- A packet of two bytes, and a frame of them that the blocks hold in one cell. -/
def pkt0 : Pkt := { fid := 0, bytes := [1, 2], ids := [0] }
def frame0 : Frame := { port := 0, bytes := [1, 2], banks := [0], layout := [(0, 2)] }

/-- A node, a ring of each kind, an entry of a transmit ring, a completion queue and a completion. -/
def node0 : Node := { d0 := 0, d1 := 0, d2 := 0 }
def txr0 : TxRing := { base := 0, shadow := 0, log2 := 6, shadowEn := false, rafter := 0, pri := 0, cq := 0 }
def rxr0 : RxRing := { base := 0, shadow := 0, log2 := 6, shadowEn := false, rafter := 0, pri := 0, cq := 0 }
def txe0 : TxEntry := { first := 0, slots := 1, bytes := bytesAt 32 [], stage := .admission, cqReq := false }
def cq0 : CqCtx := { base := 0, log2 := 6, rafter := 0, pri := 0 }
def compl0 : Compl :=
  { tx := true, ring := 0, ts := 0, parse := 0, hit := 0, index := 0, tag := 0, length := 0, status := 0, reason := 0,
    bufCnt := 0, port := 15, colour := 3, aux := false }
def del0 : Delivery := { id := 7, pkt := pkt0, bufs := [], left := 1, len := 2 }

/-- An administration completion, a command in progress and a long operation. -/
def acompl0 : AdminCompl := { tag := 5, opcode := 0, status := 0, accepted := false, detail := 0, res0 := 0, res1 := 0 }
def acur0 : AdminCur := { bytes := bytesAt 64 [], phase := 5, left := 1 }
def lop0 : Lop := { bytes := bytesAt 64 [(0, 0x61)] }
def req0 : RafterReq :=
  { who := .admin, port := 0, level := 0, write := false, addr := 0, len := 0, data := [], msg := false, ctrl := false,
    purpose := .qwWrite }

/-- `run` with the seal unit's frames on its two paths, and one with a domain in a state of R687 and not ready. -/
def sealing (tx rx : List SealOut) : State := { run with sealU := { run.sealU with tx, rx } }
def resting (d st : Nat) : State :=
  (run.fset .POWER_DOM_STAT 0 (fPOWER_DOM_STAT_STATE d) st).fset .POWER_READY 0 fPOWER_READY_READY (0x7FFF - 2 ^ d)

/-- A frame at the cipher engine. -/
def atSeal : SealOut := { chan := 0, fid := 5, port := 0, input := [1, 2], times := [9] }

/-- Vectors 5 and 6 of core 0 PENDING, at priorities 7 and 3. -/
def pend : State :=
  (run.sets .INTC_VEC 5 [(fINTC_VEC_STATE, 2), (fINTC_VEC_EN, 1), (fINTC_VEC_PRIO, 7)]).sets .INTC_VEC 6
    [(fINTC_VEC_STATE, 2), (fINTC_VEC_EN, 1), (fINTC_VEC_PRIO, 3)]
/-- The response to `atSeal`, whole and good. -/
def resp0 : SealResp := { fid := 5, sof := true, eof := true, data := [9, 9] }
/-- A descriptor of 64 bytes from 0x1000 to 0x2000, the last of its chain. -/
def desc0 : List Byte := leBytes 8 0x1000 ++ leBytes 8 0x2000 ++ leBytes 4 64 ++ leBytes 4 0 ++ leBytes 8 1
def offer0 : Offer := { req := req0, queued := true }

/-- The administration queues open, in a state and in `run`; a command at the front; a command of the bytes listed; and
the command that writes 5 to TIME_ADDEND. -/
def opened (s : State) : State :=
  s.sets .ADMIN_CFG 0 [(fADMIN_CFG_EN, 1), (fADMIN_CFG_ASQ_LOG2, 6), (fADMIN_CFG_ACQ_LOG2, 6)]
def adminOn : State := opened run
def front (s : State) (c : List Byte) : State := { opened s with adminFifo := [c] }
def regCmd : List Byte :=
  bytesAt 16 [(0, 0x30), (8, 1)] ++ leBytes 4 (addrOf .TIME_ADDEND 0) ++ leBytes 4 1 ++ leBytes 8 56294995342131 ++
    bytesAt 32 []

/-- `run` with a long operation in slot 2, of 8 units. -/
def lopping (st : Nat) (x : Lop) (s : State) : State :=
  ((s.setLop 2 x).setLopState 2 st).fset .ADMIN_LOP_PROG 2 fADMIN_LOP_PROG_TOTAL 8

/-- Rings 0 and completion queue 0, enabled. -/
def ringed (x : TxRing) (y : RxRing) (c : CqCtx) : State :=
  ((((run.setTxr 0 x).setRxr 0 y).setCq 0 c).fset .TXR_CTRL 0 fTXR_CTRL_EN 1).fset .RXR_CTRL 0 fRXR_CTRL_EN 1
/-- The slot of a direct entry of one fragment of 64 bytes at 0x1000, to leaf 0, that asks for a completion. -/
def slot0 : List Byte := leBytes 8 (8 + 64) ++ leBytes 8 0 ++ leBytes 8 0x1000 ++ leBytes 2 64 ++ bytesAt 6 [(5, 1)]
/-- The fragment table of an entry, and its slot. -/
def tableSlot : List Byte := leBytes 8 (8 + 64 + 4) ++ leBytes 8 0 ++ leBytes 8 0x1000 ++ leBytes 2 1 ++ bytesAt 6 [(5, 2)]
def table0 : List Byte := leBytes 8 0x2000 ++ leBytes 2 64 ++ bytesAt 6 [(5, 1)]
/-- An entry that loads 32 bytes into frame 7. -/
def txeL : TxEntry := { txe0 with stage := .loading, fid := 7, missing := 32, bytes := slot0, lhost := 64 }
def frameL : Frame := { port := 0, host := true, bytes := bytesAt 64 [], banks := [0], layout := [(0, 64)] }
def rxb0 : RxBuf := { index := 0, addr := 0x4000, len := 64, tag := 9 }
/-- A node with a good record. -/
def node1 : Node := { d0 := 0x8000000000020000, d1 := 64, d2 := 0 }

/-- A frame received whole in one cell, decided for leaf 0, and a leaf of 100 cells. -/
def frameQ : Frame := { frame0 with refs := [[0]], done := true, res := { op := 2 }, stage := .decide }
def frameW : Frame := { frameQ with done := false, stage := .waitFcs, pend := some pkt0, pendLeaf := true }
def node2 : Node := { node1 with d0 := node1.d0 ||| ((100 : Word) <<< 30) }
/-- Course 0 with frame 0 due its decision, before a leaf. -/
def deciding (f : Frame) (n : Node) : State :=
  (((run.setFrame 0 f).setCourse 0 { run.course 0 with dec := [0] }).setLeaf 0 n).fset .PORT_ADM_PRI 0 fPORT_ADM_PRI_MIN 100
/-- Course 0 with queues and a frame; a sprayed P0. -/
def course0 (recirc fifo : List Nat) (f : Frame) : State :=
  (run.setFrame 0 f).setCourse 0 { run.course 0 with recirc, fifo }
def spray : State := run.rset .COURSE_PORT_MAP 0 0x10008000
/-- P0 UP, with a leaf, a group and a client that lead to it, and the packet on the leaf. -/
def queued : State :=
  let s := (((up.fset .PORT_MAC_STAT 0 fPORT_MAC_STAT_HELD 0).nodeCreate 2 0 0x20000 0 0).2.nodeCreate 1 0 0x20000 64 0).2
  ((s.nodeCreate 0 0 (node2.d0 &&& 0xFFFFFFFFFFFF) 64 0).2.joinLeaf 0 pkt0).setFrame 0 frame0
/-- P0 UP with preemption verified; a course's path; a frame on the wire. -/
def preempt : State :=
  up.sets .PORT_PREEMPT_CFG 0 [(fPORT_PREEMPT_CFG_EN, 1), (fPORT_PREEMPT_CFG_VERIFY_DIS, 1)]
def path0 : Path := { lane := 0, sym := 7, cycles := 3, symbols := 2, phase := 1 }
def cur0 : TxCur := { pkt := pkt0 }
def macOf (s : State) (f : MacPort → MacPort) : State := s.modMac 0 f
/-- A frame whose response has returned; a frame with a one-step operation while a CCLK divisor change waits. -/
def returned : SealOut :=
  { atSeal with back := 1, ended := true, out := [9, 9], ends := [2], tx := some { pkt := pkt0 } }
def stepHeld : State :=
  { macOf up (fun m => { m with txBuf := [{ pkt0 with tsOp := 1 }] }) with power := (changing .divisor true).power }
/-- A frame on the wire of 200 bytes, and one being reassembled after its first 30. -/
def curL : TxCur := { pkt := { pkt0 with bytes := bytesAt 200 [] }, number := some 0 }
def rxHalf : RxOpen := { bytes := (good 60 []).take 30, next := 3, frags := 1, first := { cfg := { max := 64 } } }
/-- P0 UP with preemption, an express frame in its buffer. -/
def cutting : MacPort → MacPort := fun m => { m with txBuf := [{ pkt0 with express := true }] }
/-- A descriptor of a chain, and P0's leaf bound to be protected, or before a course that dozes. -/
def desc1 : DescRef := { addr := 0x1000, len := 64, num := 0 }
def queuedP : State := { queued with sealU := { queued.sealU with binds := [(0, 1)] } }
def queuedD : State := queued.fset .POWER_READY 0 fPOWER_READY_READY (0x7FFF - 2 ^ dCOURSE 0)

/-- The command answers a next state with p. -/
def leads (c : Instr) (s : State) (p : State → Bool) : Bool :=
  match exec c s with
  | .next t => p t
  | _ => false

-- An ill-formed term for each check of WellFormed

theorem test_wf_access_size : (Instr.registerWrite { write := true, size := 3, offset := 0, data := 0 }).wf = false := by
  decide
theorem test_wf_access_offset : (Instr.rcCounterRead 0x1000000 4).wf = false := by decide
theorem test_wf_offset : (Instr.lowerHalfRead 0x1000000).wf = false ∧ (Instr.lowerHalfWrite 0x1000000 0).wf = false ∧
    (Instr.upperHalfWrite 0x1000000 0).wf = false := by decide
theorem test_wf_frame : (Instr.rxFrame 0 ⟨{ bytes := [] }, {}⟩).wf = false := by decide
theorem test_wf_fragment : (Instr.rxFragment 0 ⟨{ cont := false, count := 0, data := [], final := true }, {}⟩).wf = false := by
  decide
theorem test_wf_path : (Instr.egressFrameStart 0 { path0 with phase := 64 } {}).wf = false := by decide
theorem test_wf_training_frame : (Instr.trainingFrameRx 0 [0] []).wf = false := by decide
theorem test_wf_node : (Instr.shaperEligible 1 16384).wf = false := by decide
theorem test_wf_response : (Instr.dmaDataReadDone (answer 257)).wf = false := by decide +kernel
theorem test_wf_rx_setting : (Instr.rxUpdateInterval 0 { ctle := 0, dfe := 0, rc := [0, 0, 0], ffe := [] }).wf = false := by
  decide
theorem test_wf_skew : (Instr.skewMeasured 0 [0, 1, 2, 3, 4, 5, 6, 7, 8]).wf = false := by decide
theorem test_wf_fec : (Instr.fecCodewordDecode 0 (some [0, 1, 2, 3, 4, 5, 6, 7, 8])).wf = false := by decide
theorem test_wf_restore : (Instr.domainReady 0 [(true, [0])]).wf = false := by decide
theorem test_wf_watch : (Instr.watchMagicFrame 0 [] 0).wf = false := by decide
theorem test_wf_sites : (Instr.thermSample [none]).wf = false := by decide
theorem test_wf_select : (Instr.bootSelectDone [] [] [] []).wf = false := by decide
theorem test_wf_item : (Instr.bootItemApply { bytes := List.replicate 73 0 }).wf = false := by decide +kernel
theorem test_wf_xspi : (Instr.xspiWindowDone (List.replicate 257 0)).wf = false := by decide +kernel

-- Worked examples of the manual

/-- 00_scope, after R24: the lower half of PORT_FEC_SYM reads 0x34567890 and latches 0x0000_0012. -/
theorem test_latch_example :
    leads (.lowerHalfRead (addrOf .PORT_FEC_SYM 0)) (run.rset .PORT_FEC_SYM 0 0x001234567890) (fun t =>
      t.ctResp == some { err := false, data := 0x34567890 } && t.readLatch .PORT_FEC_SYM 0 == 0x12 &&
        t.rget .PORT_FEC_SYM 0 == 0) = true := by decide +kernel

/-- 02_lane_bringup, at R81: decrementing c−1 from −12 gives −13; and c0 of preset 3 is 46. -/
theorem test_tap_example : ((preset 3).request 2 2).2.m1 = -13 ∧ (preset 3).c0 = 46 := by decide

/-- 03_live_calibration, at R157: preset 3 at 106.25 GBd is reported as −116, and with c−1 at −13 as −125. -/
theorem test_delay_example : dTxOf 0 (preset 3) = -116 ∧ dTxOf 0 { preset 3 with m1 := -13 } = -125 := by decide

/-- 04_ports_mac, at R196: the map 0x0450_6FE0 gives P4 lanes 4 and 5 at 400G, P6 lane 6 and P7 lane 7. -/
theorem test_map_example :
    ((run.rset .COURSE_PORT_MAP 1 0x04506FE0).portLanes 4, (run.rset .COURSE_PORT_MAP 1 0x04506FE0).portRate 4,
      (run.rset .COURSE_PORT_MAP 1 0x04506FE0).portLanes 6, (run.rset .COURSE_PORT_MAP 1 0x04506FE0).portLanes 7) =
      ([4, 5], 400, [6], [7]) := by decide +kernel

/-- 04_ports_mac, at R240: 256 quanta at 400 Gb/s last 327.68 ns, which is 1,638.4 ridge clock cycles. -/
theorem test_quanta_example : (run.rset .COURSE_PORT_MAP 1 0x04506FE0).quanta 4 256 = 16384 := by decide +kernel

/-- 07_tables_generations, at R367: the hairpin action of the example is well formed. -/
theorem test_action_example : actionBad (0x2 + 0x3E80 + 0x400000 + 0x1F4000000 + 0x1000000000000 + 0xA000000000000 +
    0x30000000000000 + 0x80000000000000) = false := by decide

/-- 09_scheduler, at R460: the increment of 125,000 kb/s is 2^26, and of 15,625 kb/s 2^23. -/
theorem test_increment_example : increment 125000 = 2 ^ 26 ∧ increment 15625 = 2 ^ 23 := by decide

-- For the statements about every command

theorem test_StepRunsFrontCommand :
    ∃ t, exec .ridgePllLock { State.reset with pending := [] } = .next t ∧
      ({ State.reset with pending := [.ridgePllLock] } : State).pending = [.ridgePllLock] := ⟨_, rfl, rfl⟩
theorem test_ResetLeavesResetValues :
    (∃ f, (15 < RegId.count .LANE_CTRL ∧ RegId.LANE_CTRL ≠ .INTC_SRC) ∧ f ∈ (RegId.desc .LANE_CTRL).fields) ∧
      4351 < RegId.count .INTC_SRC :=
  ⟨⟨_, by decide +kernel, List.head_mem (by decide)⟩, by decide +kernel⟩
theorem test_ResetAndIdle : State.reset.pending = [] := rfl
theorem test_PortsAlwaysReport : ∃ s t : State, s.PortsReport ∧ step s = .next t :=
  ⟨State.reset, _, by unfold State.PortsReport State.reports; decide +kernel, rfl⟩
theorem test_NothingRunsInColdReset :
    ({ run with bootU := { asserted := true } } : State).bootU.asserted = true ∧ Instr.nop ≠ .coldReset ∧
      Instr.nop ≠ .memorySelfTestStart ∧ (∀ b, Instr.nop ≠ .memorySelfTestDone b) ∧
      ∀ f m v, Instr.nop ≠ .coldResetRelease f m v :=
  ⟨rfl, by decide, by decide, fun _ => Instr.noConfusion, fun _ _ _ => Instr.noConfusion⟩
theorem test_LaneFrame : ∃ s : State, s.bootU.asserted = false ∧ ([.LANE_CTRL, .LANE_LOOP, .LANE_PATTERN,
    .LANE_TX_FIXED, .LANE_RX_EQ, .LANE_CAL_TX_SET] : List RegId).all (fun id => s.serves id 0) = true :=
  ⟨run, by decide +kernel⟩
theorem test_PortTimeFrame : ∃ s : State, s.bootU.asserted = false ∧ ([.TIME_LOAD_CTRL, .TIME_ADDEND, .TIME_NOW_L,
    .COURSE_PORT_MAP, .PORT_MODE] : List RegId).all (fun id => s.serves id 0) = true :=
  ⟨run, by decide +kernel⟩
theorem test_UnitFrame : ∃ s : State, s.bootU.asserted = false ∧ ([.DMA_CHAN_CTRL, .DMA_CHAN_APPEND, .INTC_SRC,
    .INTC_VEC, .INTC_CLAIM, .INTC_EOI, .INTC_FCLAIM, .INTC_FEOI, .SEAL_CFG, .POWER_THERM_CTRL, .BOOT_XSPI_CMD] : List
    RegId).all (fun id => s.serves id 0) = true :=
  ⟨run, by decide +kernel⟩
theorem test_TableAdminFrame : ∃ s : State, s.bootU.asserted = false ∧ ([.TABLE_EM_CFG, .TABLE_GEN_CTRL, .QW_CFG,
    .ADMIN_ASQ_PROD, .ADMIN_ACQ_CONS, .ADMIN_LOP_CTRL] : List RegId).all (fun id => s.serves id 0) = true :=
  ⟨run, by decide +kernel⟩
theorem test_RingTrafficFrame : ∃ s : State, s.bootU.asserted = false ∧ ([.TXR_PROD, .RXR_PROD, .CQ_CONS, .TXR_CTRL,
    .RXR_CTRL] : List RegId).all (fun id => s.serves id 0) = true :=
  ⟨run, by decide +kernel⟩

-- For each statement, what meets its hypotheses, clause by clause

theorem test_RegisterMapAndWrites :
    (∃ (id : RegId) (i : Nat), i < id.count) ∧
    (∃ (id : RegId) (i : Nat) (s : State), i < id.count ∧ s.serves id i = true) :=
  ⟨⟨.BOOT_EVT, 0, by decide +kernel⟩,
  ⟨.GEN_FAULT_STAT, 0, run, by decide +kernel⟩⟩

theorem test_EventBitsClearByOne :
    ∃ (id : RegId) (i : Nat) (s : State), i < id.count ∧ s.serves id i = true ∧ id ∈ [.LANE_EVENT,
      .LANE_CAL_EVENT, .PORT_MAC_EVT, .COURSE_PARSE_EVT, .TABLE_GEN_EVT, .SCHED_EVT, .LOFT_EVT, .SEAL_EVT,
      .DMA_CHAN_EVT, .GEN_INTEG_EVT, .POWER_EVT, .POWER_THERM_EVT, .POWER_LIG_EVT, .BOOT_EVT] :=
  ⟨.LANE_EVENT, 15, run.rset .LANE_EVENT 15 0xFF, by decide +kernel⟩

theorem test_CountersClearAndHalvesLatch :
    (∃ (id : RegId) (i : Nat) (s : State), i < id.count ∧ s.serves id i = true ∧ typeMask .rc id.desc.fields ≠ 0 ∧
      id ≠ .INTC_CLAIM ∧ id ≠ .INTC_FCLAIM ∧ id ≠ .COURSE_SPRAY_STAT ∧ id ≠ .COURSE_SPRAY_CNT) ∧
    (∃ (id : RegId) (c : Fin 4) (s : State), s.serves id c = true ∧ (id = .COURSE_SPRAY_STAT ∨ id =
      .COURSE_SPRAY_CNT)) ∧
    (∃ (id : RegId) (i : Nat) (s : State), i < id.count ∧ s.serves id i = true ∧ id.desc.width = 64) ∧
    (∃ (id : RegId) (i : Nat) (v : BitVec 32) (s : State), i < id.count ∧ s.serves id i = true ∧ id.desc.width =
      64 ∧ s.stagedLow id i = some (v.setWidth 64)) :=
  ⟨⟨.LANE_CAL_CNT, 15, run.rset .LANE_CAL_CNT 15 5, by decide +kernel⟩,
  ⟨.COURSE_SPRAY_CNT, 0, run, by decide +kernel⟩,
  ⟨.TIME_ADDEND, 0, run, by decide +kernel⟩,
  ⟨.TIME_ADDEND, 0, 5, { run with staged := run.staged.put (rkey .TIME_ADDEND 0) 5 }, by decide +kernel⟩⟩

theorem test_AccessesStallOrFail :
    (∃ (a : Access) (s : State), s.bootU.asserted = false ∧ a.parityOk = true ∧ s.ctStall = none ∧ a.offset < 2 ^
      24 ∧ ((a.size ≠ 4 ∧ a.size ≠ 8) ∨ a.offset % a.size ≠ 0)) ∧
    (∃ (a : Access) (d : Fin 15) (s : State), s.bootU.asserted = false ∧ a.parityOk = true ∧ s.ctStall = none ∧
      a.offset < 2 ^ 24 ∧ a.size = 4 ∧ a.offset % 4 = 0 ∧ regionDom a.offset = some d ∧ s.dom d = 3) ∧
    (∃ (a : Access) (d : Fin 15) (s : State), s.bootU.asserted = false ∧ a.parityOk = true ∧ s.ctStall = none ∧
      a.offset < 2 ^ 24 ∧ a.size = 4 ∧ a.offset % 4 = 0 ∧ regionDom a.offset = some d ∧ s.dom d ≠ 3 ∧ s.stalls
      a.offset = false ∧ s.writeHeld a.offset = true) ∧
    (∃ (a : Access) (s : State), s.bootU.asserted = false ∧ a.parityOk = true ∧ s.ctStall = none ∧ a.offset < 2 ^
      24 ∧ a.size = 4 ∧ a.offset % 4 = 0 ∧ regionDom a.offset = none) ∧
    (∃ (a : Access) (d : Fin 15) (s : State), s.bootU.asserted = false ∧ a.parityOk = true ∧ s.ctStall = none ∧
      a.offset < 2 ^ 24 ∧ a.size = 4 ∧ a.offset % 4 = 0 ∧ regionDom a.offset = some d ∧ s.dom d = 1 ∧ s.ready d =
      false ∧ s.power.dozed.contains (d.val, s.mclk) = false) ∧
    (∃ (a : Access) (s : State), s.bootU.asserted = false ∧ a.parityOk = true ∧ s.ctStall.isSome = true ∧
      s.ctQueue.length < 4) ∧
    (∃ (a : Access) (s : State), s.bootU.asserted = false ∧ a.parityOk = true ∧ s.ctStall = some a ∧ s.ctQueue =
      [] ∧ s.stalls a.offset = false) :=
  ⟨⟨{ write := true, size := 8, offset := 0x10004, data := 1 }, run, by decide +kernel⟩,
  ⟨{ write := true, size := 4, offset := 0x30000, data := 1 }, 14, resting 14 3, by decide +kernel⟩,
  ⟨{ write := true, size := 4, offset := 0x30000, data := 1 }, 14, run.fset .BOOT_STAT 0 fBOOT_STAT_STATE bLOAD,
    by decide +kernel⟩,
  ⟨{ write := true, size := 4, offset := 0xFFFFFC, data := 1 }, run, by decide +kernel⟩,
  ⟨{ write := true, size := 4, offset := 0x30000, data := 1 }, 14, resting 14 1, by decide +kernel⟩,
  ⟨{ write := true, size := 4, offset := 0, data := 1 },
    { run with ctStall := some { write := true, size := 4, offset := 0, data := 1 } }, by decide +kernel⟩,
  ⟨{ write := true, size := 4, offset := 0x30000, data := 1 },
    { run with ctStall := some { write := true, size := 4, offset := 0x30000, data := 1 } }, by decide +kernel⟩⟩

theorem test_LaneControlAndSettings :
    (∃ (n : Fin 16) (s : State), s.serves .LANE_CTRL n = true ∧ s.laneRate n ≤ 4 ∧ s.laneEn n = false ∧ s.boot =
      bRUNNING ∧ s.laneState n = lOFF ∧ (s.laneOwner n).any (fun p => s.portLaneRate p == some (s.laneRate n)) =
      true ∧ s.fbit .LANE_QUAD_STAT (n / 4) fLANE_QUAD_STAT_PLL_LOCK = false) ∧
    (∃ (n : Fin 16) (s : State), s.serves .LANE_CTRL n = true ∧ s.laneRate n ≤ 4 ∧ s.laneState n ≠ lOFF) ∧
    (∃ (n : Fin 16) (s : State), s.serves .LANE_CTRL n = true ∧ s.laneRate n ≤ 4 ∧ s.laneEn n = true ∧ lBLIND ≤
      s.laneState n) ∧
    (∃ (n : Fin 16) (s : State), s.serves .LANE_TX_FIXED n = true) ∧
    (∃ (n : Fin 16) (v : Word) (s : State), s.serves .LANE_LOOP n = true ∧ fLANE_LOOP_MODE.get v ≠ s.loopMode n) ∧
    (∃ (n : Fin 16) (v : Word) (s : State), s.serves .LANE_PATTERN n = true ∧ fLANE_PATTERN_GEN.get v ≤ 2 ∧
      fLANE_PATTERN_CHK.get v ≤ 2) :=
  ⟨⟨0, (run.rset .COURSE_PORT_MAP 0 0x05555FE4), by decide +kernel⟩,
  ⟨0, lane0 lDATA, by decide +kernel⟩,
  ⟨0, (lane0 lDATA).fset .LANE_CTRL 0 fLANE_CTRL_EN 1, by decide +kernel⟩,
  ⟨0, run, by decide +kernel⟩,
  ⟨0, fLANE_LOOP_MODE.at 1, run, by decide +kernel⟩,
  ⟨0, 0, run, by decide +kernel⟩⟩

theorem test_LaneLocksAndTimers :
    (∃ (q : Fin 4) (i : Fin 4) (n : Fin 16) (s : State), s.bootU.asserted = false ∧ n.val = 4 * q.val + i.val ∧
      s.laneState n ≠ lOFF) ∧
    (∃ (q : Fin 4) (i : Fin 4) (n : Fin 16) (s : State), s.bootU.asserted = false ∧ n.val = 4 * q.val + i.val ∧
      s.fbit .LANE_QUAD_STAT q fLANE_QUAD_STAT_PLL_LOCK = true) ∧
    (∃ (q : Fin 4) (i : Fin 4) (n : Fin 16) (s : State), s.bootU.asserted = false ∧ n.val = 4 * q.val + i.val ∧
      lBLIND ≤ s.laneState n ∧ s.laneState n ≤ lDATA) ∧
    (∃ (q : Fin 4) (i : Fin 4) (n : Fin 16) (s : State), s.bootU.asserted = false ∧ n.val = 4 * q.val + i.val ∧
      s.cdrLock n = true) ∧
    (∃ (n : Fin 16) (s : State), s.bootU.asserted = false ∧ (s.lane n).reqOut = true ∧ (s.laneState n = lTRAIN ∨
      s.laneState n = lENDING)) ∧
    (∃ (n : Fin 16) (s : State), s.bootU.asserted = false ∧ (s.laneState n = lBLIND ∨ s.laneState n = lTRAIN) ∧
      s.readyHolds n = false ∧ (s.fixedMode n = false ∨ (s.lane n).readyRun < 1024)) ∧
    (∃ (n : Fin 16) (s : State), s.bootU.asserted = false ∧ s.laneState n = lTRAIN ∧ s.readyHolds n = true ∧
      s.localReady n = false ∧ s.partnerReady n = true) ∧
    (∃ (n : Fin 16) (s : State), s.bootU.asserted = false ∧ s.laneState n = lBLIND ∧ s.fixedMode n = true ∧
      s.cdrLock n = true ∧ 1024 ≤ (s.lane n).readyRun) ∧
    (∃ (n : Fin 16) (s : State), s.bootU.asserted = false ∧ s.laneState n = lENDING ∧ (s.lane n).sentOne = true ∧
      (s.lane n).rcvdOne = false) ∧
    (∃ (n : Fin 16) (s : State), s.bootU.asserted = false ∧ s.laneState n = lFAIL ∧ s.fbit .LANE_TRAIN_CFG n
      fLANE_TRAIN_CFG_AUTO_RETRY = true) ∧
    (∃ (n : Fin 16) (s : State), s.bootU.asserted = false ∧ s.laneState n = lDATA) :=
  ⟨⟨0, 0, 0, lane0 lPLL, by decide +kernel⟩,
  ⟨0, 0, 0, run.fset .LANE_QUAD_STAT 0 fLANE_QUAD_STAT_PLL_LOCK 1, by decide +kernel⟩,
  ⟨0, 0, 0, lane0 lBLIND, by decide +kernel⟩,
  ⟨0, 0, 0, (lane0 lDATA).fset .LANE_STAT 0 fLANE_STAT_CDR_LOCK 1, by decide +kernel⟩,
  ⟨0, (lane0 lTRAIN).modLane 0 (fun l => { l with reqOut := true }), by decide +kernel⟩,
  ⟨0, lane0 lBLIND, by decide +kernel⟩,
  ⟨0, ((lane0 lTRAIN).sets .LANE_STAT 0 [(fLANE_STAT_CDR_LOCK, 1), (fLANE_STAT_FRAME_LOCK, 1),
    (fLANE_STAT_PARTNER_READY, 1)]).modLane 0 (fun l =>
    { l with readyRun := 1024, search := { l.search with roundDone := true } }), by decide +kernel⟩,
  ⟨0, (((lane0 lBLIND).sets .LANE_STAT 0 [(fLANE_STAT_CDR_LOCK, 1)]).fset .LANE_CTRL 0 fLANE_CTRL_TRAIN_MODE
    1).modLane 0 (fun l => { l with readyRun := 1024 }), by decide +kernel⟩,
  ⟨0, (lane0 lENDING).modLane 0 (fun l => { l with sentOne := true }), by decide +kernel⟩,
  ⟨0, (lane0 lFAIL).fset .LANE_TRAIN_CFG 0 fLANE_TRAIN_CFG_AUTO_RETRY 1, by decide +kernel⟩,
  ⟨0, lane0 lDATA, by decide +kernel⟩⟩

theorem test_TrainingMovesLane :
    (∃ (n : Fin 16) (s : State), s.bootU.asserted = false ∧ s.fixedMode n = false ∧ s.cdrLock n = true ∧ 3 ≤
      (s.lane n).good ∧ (s.laneState n = lBLIND ∨ s.laneState n = lDATA)) ∧
    (∃ (n : Fin 16) (s : State), s.bootU.asserted = false ∧ (s.laneState n = lTRAIN ∨ s.laneState n = lENDING) ∧
      s.frameLock n = true ∧ (s.lane n).rcvdOne = false ∧ 4 ≤ (s.lane n).bad) ∧
    (∃ (n : Fin 16) (s : State) (h : List (Fin 4)) (r : List (Fin 4)) (control : Nat) (status : Nat),
      s.bootU.asserted = false ∧ readFrame (s.frameIn n ((h ++ r).map Fin.val)) = some (control, status) ∧
      s.fixedMode n = false ∧ lBLIND ≤ s.laneState n ∧ s.laneState n ≤ lENDING ∧ s.loopMode n ≠ 2 ∧ (s.lane
      n).rcvdOne = false) ∧
    (∃ (n : Fin 16) (s : State) (h : List (Fin 4)) (r : List (Fin 4)), s.bootU.asserted = false ∧ readFrame
      (s.frameIn n ((h ++ r).map Fin.val)) = none ∧ s.fixedMode n = false ∧ lBLIND ≤ s.laneState n ∧ s.laneState n
      ≤ lENDING ∧ s.loopMode n ≠ 2 ∧ (s.lane n).rcvdOne = false) ∧
    (∃ (n : Fin 16) (s : State), s.bootU.asserted = false ∧ s.fixedMode n = false ∧ lBLIND ≤ s.laneState n ∧
      s.laneState n ≤ lENDING ∧ (s.lane n).sentOne = false) ∧
    (∃ (n : Fin 16) (s : State), s.bootU.asserted = false ∧ s.laneState n = lTRAIN ∧ (s.lane n).search.phase =
      .presetMeas ∧ 256 ≤ (s.lane n).search.count) ∧
    (∃ (n : Fin 16) (s : State), s.bootU.asserted = false ∧ s.laneState n = lTRAIN ∧ s.localReady n = false ∧
      s.readyHolds n = true) ∧
    (∃ (n : Fin 16) (s : State), s.bootU.asserted = false ∧ s.fixedMode n = true ∧ s.laneState n = lBLIND ∧
      s.cdrLock n = true ∧ 1024 ≤ (s.lane n).readyRun) :=
  ⟨⟨0, ((lane0 lBLIND).fset .LANE_STAT 0 fLANE_STAT_CDR_LOCK 1).modLane 0 (fun l => { l with good := 3 }),
    by decide +kernel⟩,
  ⟨0, ((lane0 lTRAIN).fset .LANE_STAT 0 fLANE_STAT_FRAME_LOCK 1).modLane 0 (fun l => { l with bad := 4 }),
    by decide +kernel⟩,
  ⟨0, lane0 lTRAIN, (frameHead 0x8001 5).map (Fin.ofNat 4), [], 0x8001, 5, by decide +kernel⟩,
  ⟨0, lane0 lTRAIN, [], [], by decide +kernel⟩,
  ⟨0, lane0 lENDING, by decide +kernel⟩,
  ⟨0, (lane0 lTRAIN).modLane 0 (fun l => { l with search := { l.search with phase := .presetMeas, count := 256 } }),
    by decide +kernel⟩,
  ⟨0, ((lane0 lTRAIN).sets .LANE_STAT 0 [(fLANE_STAT_CDR_LOCK, 1), (fLANE_STAT_FRAME_LOCK, 1)]).modLane 0 (fun l =>
    { l with readyRun := 1024, search := { l.search with roundDone := true } }), by decide +kernel⟩,
  ⟨0, (((lane0 lBLIND).sets .LANE_STAT 0 [(fLANE_STAT_CDR_LOCK, 1)]).fset .LANE_CTRL 0 fLANE_CTRL_TRAIN_MODE
    1).modLane 0 (fun l => { l with readyRun := 1024 }), by decide +kernel⟩⟩

theorem test_CalibrationStepsAndWrites :
    (∃ (n : Fin 16) (s : State) (err : Nat), s.bootU.asserted = false ∧ s.cdrLock n = true ∧ 0 < err) ∧
    (∃ (n : Fin 16) (s : State) (est : RxSet), s.bootU.asserted = false ∧ s.laneState n = lDATA ∧ (s.lane
      n).rxStep = none ∧ s.fbit .LANE_CAL_CTRL n fLANE_CAL_CTRL_RX_QUIET = false ∧ towards (s.rxSet n) est
      (s.nextCtle n est.ctle) ≠ s.rxSet n) ∧
    (∃ (n : Fin 16) (s : State), s.bootU.asserted = false ∧ s.laneState n = lDATA ∧ (s.lane n).txStep = none ∧
      s.fbit .LANE_CAL_CTRL n fLANE_CAL_CTRL_TX_QUIET = false ∧ (s.lane n).txDriver.isSome = true ∧ (s.lane
      n).txDriver ≠ some (s.txTaps n)) ∧
    (∃ (n : Fin 16) (s : State), s.bootU.asserted = false ∧ (s.lane n).rxStep.isSome = true) ∧
    (∃ (n : Fin 16) (s : State), s.bootU.asserted = false ∧ (s.lane n).txStep.any (·.change) = true) ∧
    (∃ (n : Fin 16) (v : Word) (s : State), s.serves .LANE_CAL_TX_SET n = true ∧ (tapsOf v).ok = true) ∧
    (∃ (n : Fin 16) (v : Word) (s : State), s.serves .LANE_CAL_TX_SET n = true ∧ (tapsOf v).ok = false) ∧
    (∃ (n : Fin 16) (s : State), s.serves .LANE_RX_EQ n = true) :=
  ⟨⟨0, (lane0 lDATA).fset .LANE_STAT 0 fLANE_STAT_CDR_LOCK 1, 1, by decide +kernel⟩,
  ⟨0, lane0 lDATA, { ctle := 1, dfe := 1, rc := [], ffe := [] }, by decide +kernel⟩,
  ⟨0, (lane0 lDATA).modLane 0 (fun l => { l with txDriver := some taps0 }), by decide +kernel⟩,
  ⟨0, (lane0 lDATA).modLane 0 (fun l =>
    { l with rxStep := some { ctle := 1, dfe := 0, rc := 0, ffe := [], apply := 5, acked := true } }),
    by decide +kernel⟩,
  ⟨0, (lane0 lDATA).modLane 0 (fun l =>
    { l with txStep := some { taps := taps0, change := true, apply := 5, acked := true } }), by decide +kernel⟩,
  ⟨0, taps0.word, run, by decide +kernel⟩,
  ⟨0, fLANE_TX_TAPS_C_M3.at 9, run, by decide +kernel⟩,
  ⟨0, run, by decide +kernel⟩⟩

theorem test_FiguresAndUnits :
    (∃ (err : Nat) (k : Nat), 1 ≤ k ∧ k ≤ 255 ∧ 0 < err) ∧
    (∃ (sig : Nat) (k : Nat), 1 ≤ k ∧ k ≤ 255 ∧ 0 < sig) ∧
    (∃ (lo : Int) (hi : Int) (old : Int), lo ≤ old ∧ old ≤ hi) ∧
    (∃ (lo : Int) (hi : Int) (old : Int) (est : Int), lo ≤ old ∧ old ≤ hi ∧ lo ≤ est ∧ est ≤ hi) :=
  ⟨⟨1, 255, by decide +kernel⟩,
  ⟨1, 1, by decide +kernel⟩,
  ⟨-3, 3, -3, by decide +kernel⟩,
  ⟨-3, 3, 3, -3, by decide +kernel⟩⟩

theorem test_LiveCalibrationTalks :
    (∃ (p : Fin 16) (s : State), s.bootU.asserted = false ∧ s.lpmEn p = true ∧ s.portUp p = true ∧ s.failed =
      false ∧ (s.lpmDeadline p).isSome = true) ∧
    (∃ (p : Fin 16) (s : State), s.bootU.asserted = false ∧ s.lpmMay p = true ∧ (s.mac p).lpmDue = true ∧ (s.mac
      p).cur = none) ∧
    (∃ (n : Fin 16) (s : State), s.bootU.asserted = false ∧ s.laneState n = lDATA ∧ s.fbit .LANE_CAL_CTRL n
      fLANE_CAL_CTRL_LIVE_SEARCH_EN = true ∧ (s.lane n).quietRx = false ∧ s.fixedMode n = false ∧ (s.lane n).trial
      = 0 ∧ (s.lane n).liveOut = false) ∧
    (∃ (n : Fin 16) (s : State), s.bootU.asserted = false ∧ s.laneState n = lDATA ∧ (s.lane n).trial = 2 ∧ 1024 ≤
      (s.lane n).meas.1 ∧ (s.lane n).quietRx = false) ∧
    (∃ (n : Fin 16) (s : State), s.bootU.asserted = false ∧ (s.lane n).liveOut = true ∧ (s.lane
      n).liveFirst.isSome = true) ∧
    (∃ (p : Fin 16) (x : RxFrame) (s : State), s.bootU.asserted = false ∧ s.cleanRx p x = true ∧ isLpm x.bytes =
      true ∧ s.lpmEn p = true ∧ byteAt x.bytes 15 = 1 ∧ byteAt x.bytes 16 = (s.lpmLanes p).length) :=
  ⟨⟨0, up.fset .PORT_LPM_CFG 0 fPORT_LPM_CFG_EN 1, by decide +kernel⟩,
  ⟨0, (up.fset .PORT_LPM_CFG 0 fPORT_LPM_CFG_EN 1).modMac 0 (fun m => { m with lpmDue := true }),
    by decide +kernel⟩,
  ⟨0, (lane0 lDATA).fset .LANE_CAL_CTRL 0 fLANE_CAL_CTRL_LIVE_SEARCH_EN 1, by decide +kernel⟩,
  ⟨0, (lane0 lDATA).modLane 0 (fun l => { l with trial := 2, meas := (1024, 0) }), by decide +kernel⟩,
  ⟨0, (lane0 lDATA).modLane 0 (fun l => { l with liveOut := true, liveFirst := some 5 }), by decide +kernel⟩,
  ⟨0, { bytes := good 60 [(12, 0x88), (13, 0xB5), (14, 0xF1), (15, 1), (16, 1)] }, up.fset .PORT_LPM_CFG 0
    fPORT_LPM_CFG_EN 1, by decide +kernel⟩⟩

theorem test_PortMapAndAlignment :
    (∃ (s : State) (c : Fin 4), s.serves .COURSE_PORT_MAP c = true) ∧
    (∃ (s : State) (p : Fin 16), s.serves .PORT_MODE p = true) ∧
    (∃ (p : Fin 16) (s : State), s.bootU.asserted = false ∧ s.allData p = true) ∧
    (∃ (s : State), s.bootU.asserted = false) ∧
    (∃ (p : Fin 16) (s : State) (skews : List Nat), s.bootU.asserted = false ∧ s.allData p = true ∧ s.markerLock p
      = true ∧ 2 ≤ (s.portLanes p).length ∧ skews.length = (s.portLanes p).length) :=
  ⟨⟨run, 0, by decide +kernel⟩,
  ⟨run, 0, by decide +kernel⟩,
  ⟨0, up, by decide +kernel⟩,
  ⟨up, by decide +kernel⟩,
  ⟨0, ((((up.rset .COURSE_PORT_MAP 0 0x4300).fset .LANE_STAT 1 fLANE_STAT_STATE lDATA))), [0, 7],
    by decide +kernel⟩⟩

theorem test_FaultsAndFecCount :
    (∃ (s : State), s.bootU.asserted = false) ∧
    (∃ (p : Fin 16) (s : State), s.bootU.asserted = false ∧ s.portFec p = true ∧ s.portUsed p = true ∧ s.fbit
      .PORT_FEC_STAT p fPORT_FEC_STAT_LOCKED = true) ∧
    (∃ (p : Fin 16) (s : State) (l : List Nat), s.bootU.asserted = false ∧ s.portFec p = true ∧ s.portUsed p =
      true ∧ s.fbit .PORT_FEC_STAT p fPORT_FEC_STAT_LOCKED = true ∧ l.length ≤ (s.portLanes p).length ∧ 0 < l.sum
      ∧ l.sum ≤ 15) ∧
    (∃ (p : Fin 16) (s : State), s.bootU.asserted = false ∧ 8192 ≤ (s.mac p).fecCw ∧ s.portFec p = true) :=
  ⟨⟨up, by decide +kernel⟩,
  ⟨0, up.fset .PORT_FEC_STAT 0 fPORT_FEC_STAT_LOCKED 1, by decide +kernel⟩,
  ⟨0, up.fset .PORT_FEC_STAT 0 fPORT_FEC_STAT_LOCKED 1, [15], by decide +kernel⟩,
  ⟨0, up.modMac 0 (fun m => { m with fecCw := 8192 }), by decide +kernel⟩⟩

theorem test_FlowControlAndVerify :
    (∃ (p : Fin 16) (s : State) (x : RxFrame), s.bootU.asserted = false ∧ s.cleanRx p x = true ∧ isCtl x.bytes =
      true ∧ be2 x.bytes 14 = 1 ∧ x.bytes.take 6 = [0x01, 0x80, 0xC2, 0x00, 0x00, 0x01] ∧ s.fget .PORT_FC_CFG p
      fPORT_FC_CFG_RX_MODE = 1) ∧
    (∃ (p : Fin 16) (s : State), s.bootU.asserted = false ∧ (s.mac p).pauseEnd.isSome = true) ∧
    (∃ (p : Fin 16) (s : State) (k : Fin 8), s.bootU.asserted = false ∧ ((s.mac p).pfcEnd.find? k).isSome = true)
      ∧
    (∃ (p : Fin 16) (s : State), s.bootU.asserted = false ∧ (s.mac p).fcRelease = [] ∧ s.macMay p = true ∧ (s.mac
      p).cur.isNone = true ∧ s.fcTxMode p = 1 ∧ (s.mac p).fcDue.any (·.1 == 8) = true) ∧
    (∃ (p : Fin 16) (s : State), s.bootU.asserted = false ∧ s.fcTxMode p = 1 ∧ s.fbit .PORT_FC_TX_STAT p
      fPORT_FC_TX_STAT_PAUSE = true ∧ ((s.mac p).fcSent.find? 8).isSome = true) ∧
    (∃ (p : Fin 16) (s : State), s.bootU.asserted = false ∧ (s.mac p).verifyEnd.isSome = true) ∧
    (∃ (p : Fin 16) (s : State), s.bootU.asserted = false ∧ s.portUp p = true ∧ s.preemptEn p = true ∧
      s.portLooped p = false) ∧
    (∃ (p : Fin 16) (s : State), s.bootU.asserted = false ∧ s.portUp p = true ∧ s.preemptEn p = true ∧
      s.portLooped p = false ∧ s.verifyState p = 2) ∧
    (∃ (p : Fin 16) (s : State), s.bootU.asserted = false ∧ s.portUp p = true ∧ s.preemptEn p = false ∧
      s.portLooped p = false) ∧
    (∃ (p : Fin 16) (s : State), s.bootU.asserted = false ∧ s.macMay p = true ∧ (s.mac p).cur = none ∧ (s.mac
      p).respondDue = true ∧ (s.mac p).verifyDue = false) ∧
    (∃ (p : Fin 16) (s : State), s.bootU.asserted = false ∧ s.macMay p = true ∧ (s.mac p).cur = none ∧ (s.mac
      p).respondDue = true ∧ (s.mac p).verifyDue = false ∧ s.portFar p = false) ∧
    (∃ (p : Fin 16) (s : State), s.bootU.asserted = false ∧ s.macMay p = true ∧ (s.mac p).cur = none ∧ (s.mac
      p).verifyDue = true) ∧
    (∃ (p : Fin 16) (s : State), s.bootU.asserted = false ∧ s.macMay p = true ∧ (s.mac p).cur = none ∧ (s.mac
      p).verifyDue = true ∧ s.portFar p = false) :=
  ⟨⟨0, up.fset .PORT_FC_CFG 0 fPORT_FC_CFG_RX_MODE 1,
    { bytes := good 60 [(0, 1), (1, 0x80), (2, 0xC2), (5, 1), (12, 0x88), (13, 8), (15, 1), (17, 5)] },
    by decide +kernel⟩,
  ⟨0, up.modMac 0 (fun m => { m with pauseEnd := some 5 }), by decide +kernel⟩,
  ⟨0, up.modMac 0 (fun m => { m with pfcEnd := [(0, 5)] }), 0, by decide +kernel⟩,
  ⟨0, (up.fset .PORT_FC_CFG 0 fPORT_FC_CFG_TX_MODE 1).modMac 0 (fun m => { m with fcDue := [(8, true)] }),
    by decide +kernel⟩,
  ⟨0, ((up.fset .PORT_FC_CFG 0 fPORT_FC_CFG_TX_MODE 1).fset .PORT_FC_TX_STAT 0 fPORT_FC_TX_STAT_PAUSE 1).modMac 0
    (fun m => { m with fcSent := [(8, 5)] }), by decide +kernel⟩,
  ⟨0, up.modMac 0 (fun m => { m with verifyEnd := some 5 }), by decide +kernel⟩,
  ⟨0, up.fset .PORT_PREEMPT_CFG 0 fPORT_PREEMPT_CFG_EN 1, by decide +kernel⟩,
  ⟨0, (up.fset .PORT_PREEMPT_CFG 0 fPORT_PREEMPT_CFG_EN 1).fset .PORT_PREEMPT_STAT 0 fPORT_PREEMPT_STAT_VERIFY_STATE
    2, by decide +kernel⟩,
  ⟨0, up, by decide +kernel⟩,
  ⟨0, macOf up fun m => { m with respondDue := true }, by decide +kernel⟩,
  ⟨0, macOf up fun m => { m with respondDue := true }, by decide +kernel⟩,
  ⟨0, macOf up fun m => { m with verifyDue := true }, by decide +kernel⟩,
  ⟨0, macOf up fun m => { m with verifyDue := true }, by decide +kernel⟩⟩

theorem test_CounterAddsAddend :
    ∃ (s : State), s.timeCounts = true ∧ s.time.slew = none ∧ s.time.addends = [] ∧ s.time.addend = s.fget
      .TIME_ADDEND 0 fTIME_ADDEND_ADDEND :=
  ⟨{ run with time := { run.time with t := { sec := 2 ^ 48 - 1, sub := secUnits - 1 } } }, by decide +kernel⟩

theorem test_TimePassesAndLoads :
    (∃ (s : State), s.serves .TIME_LOAD_CTRL 0 = true ∧ s.fbit .TIME_LOAD_CTRL 0 fTIME_LOAD_CTRL_GO = false) ∧
    (∃ (s : State), s.serves .TIME_LOAD_CTRL 0 = true ∧ s.fbit .TIME_LOAD_CTRL 0 fTIME_LOAD_CTRL_GO = true ∧
      s.fbit .TIME_STAT 0 fTIME_STAT_LOAD_ARMED = true ∧ s.fget .TIME_LOAD_CTRL 0 fTIME_LOAD_CTRL_MODE < 3) ∧
    (∃ (s : State), s.bootU.asserted = false ∧ s.time.load.isSome = true ∧ s.fget .TIME_LOAD_CTRL 0
      fTIME_LOAD_CTRL_MODE = 0) ∧
    (∃ (s : State), s.bootU.asserted = false ∧ s.time.load.isSome = true ∧ s.fget .TIME_LOAD_CTRL 0
      fTIME_LOAD_CTRL_MODE = 2) :=
  ⟨⟨run, by decide +kernel⟩,
  ⟨(run.fset .TIME_LOAD_CTRL 0 fTIME_LOAD_CTRL_GO 1).fset .TIME_STAT 0 fTIME_STAT_LOAD_ARMED 1, by decide +kernel⟩,
  ⟨{ run with time := { run.time with load := some 5 } }, by decide +kernel⟩,
  ⟨{ run with time := { run.time with load := some 5 } }.fset .TIME_LOAD_CTRL 0 fTIME_LOAD_CTRL_MODE 2,
    by decide +kernel⟩⟩

theorem test_SlewAddendAndCapture :
    (∃ (s : State), s.serves .TIME_LOAD_CTRL 0 = true ∧ s.fget .TIME_LOAD_CTRL 0 fTIME_LOAD_CTRL_MODE < 3 ∧ s.fbit
      .TIME_LOAD_CTRL 0 fTIME_LOAD_CTRL_SLEW_GO = false) ∧
    (∃ (s : State), s.serves .TIME_LOAD_CTRL 0 = true ∧ s.fget .TIME_LOAD_CTRL 0 fTIME_LOAD_CTRL_MODE < 3 ∧ s.fbit
      .TIME_LOAD_CTRL 0 fTIME_LOAD_CTRL_SLEW_GO = true ∧ s.time.slew.isSome = true) ∧
    (∃ (s : State), s.bootU.asserted = false ∧ s.timeRuns = true ∧ 0 < s.fget .TIME_SLEW 0 fTIME_SLEW_STEP ∧
      s.time.slew.isSome = true) ∧
    (∃ (v : Word) (s : State), s.serves .TIME_ADDEND 0 = true ∧ 56266847844460 ≤ fTIME_ADDEND_ADDEND.get v ∧
      fTIME_ADDEND_ADDEND.get v ≤ 56323142839802 ∧ fTIME_ADDEND_ADDEND.get v ≠ s.fget .TIME_ADDEND 0
      fTIME_ADDEND_ADDEND) ∧
    (∃ (s : State), s.serves .TIME_NOW_L 0 = true) :=
  ⟨⟨run, by decide +kernel⟩,
  ⟨{ run with time := { run.time with slew := some (5, 7) } }.fset .TIME_LOAD_CTRL 0 fTIME_LOAD_CTRL_SLEW_GO 1,
    by decide +kernel⟩,
  ⟨{ run with time := { run.time with slew := some (5, 7) } }.fset .TIME_SLEW 0 fTIME_SLEW_STEP 1,
    by decide +kernel⟩,
  ⟨fTIME_ADDEND_ADDEND.at 56323142839802, run, by decide +kernel⟩,
  ⟨run, by decide +kernel⟩⟩

theorem test_PulsesAndClocks :
    (∃ (rising : Bool) (s : State), s.bootU.asserted = false ∧ s.fbit .TIME_PPS_IN_CFG 0 fTIME_PPS_IN_CFG_EN =
      true ∧ rising = !s.fbit .TIME_PPS_IN_CFG 0 fTIME_PPS_IN_CFG_EDGE ∧ s.time.ppsIn.all (fun d => decide (d +
      100 * msCycles ≤ s.now)) = true ∧ s.timeRuns = true) ∧
    (∃ (s : State), s.bootU.asserted = false ∧ s.fbit .TIME_PPS_IN_CFG 0 fTIME_PPS_IN_CFG_EN = true ∧
      s.time.ppsIn.isSome = true ∧ s.time.ppsMissed = false ∧ s.timeRuns = true) ∧
    (∃ (s : State), s.bootU.asserted = false ∧ s.ppsOn = true ∧ s.time.ppsDue = 0 ∧ s.time.slew = none ∧
      s.time.addends = [] ∧ 56266847844460 ≤ s.time.addend) ∧
    (∃ (s : State), s.bootU.asserted = false ∧ s.ppsOn = true ∧ 0 < s.time.ppsDue) ∧
    (∃ (s : State), s.bootU.asserted = false ∧ s.time.ppsFall.isSome = true) ∧
    (∃ (k : Fin 2) (s : State), s.bootU.asserted = false ∧ (s.time.rclkClear.find? k).isSome = true) :=
  ⟨⟨true, run.fset .TIME_PPS_IN_CFG 0 fTIME_PPS_IN_CFG_EN 1, by decide +kernel⟩,
  ⟨{ run with time := { run.time with ppsIn := some 5 } }.fset .TIME_PPS_IN_CFG 0 fTIME_PPS_IN_CFG_EN 1,
    by decide +kernel⟩,
  ⟨run.fset .TIME_PPS_OUT_CFG 0 fTIME_PPS_OUT_CFG_EN 1, by decide +kernel⟩,
  ⟨{ run with time := { run.time with ppsDue := 1 } }.fset .TIME_PPS_OUT_CFG 0 fTIME_PPS_OUT_CFG_EN 1,
    by decide +kernel⟩,
  ⟨{ run with time := { run.time with ppsFall := some 5 } }, by decide +kernel⟩,
  ⟨0, { run with time := { run.time with rclkClear := [(0, 5)] } }, by decide +kernel⟩⟩

theorem test_OperatingPointsAndSurge :
    (∃ (s : State), s.bootU.asserted = false ∧ s.power.sleep = none ∧ s.powerCmd = none ∧ s.power.ceiling = none ∧
      s.power.change.any (fun c => c.step == .ack && c.raising) = true) ∧
    (∃ (s : State), s.bootU.asserted = false ∧ s.power.sleep = none ∧ s.powerCmd = none ∧ s.power.ceiling = none ∧
      s.power.change.any (fun c => c.step == .ack && !c.raising) = true) ∧
    (∃ (s : State), s.bootU.asserted = false ∧ s.power.sleep = none ∧ s.powerCmd = none ∧ s.power.ceiling = none ∧
      s.power.change.any (fun c => c.step == .ack) = true) ∧
    (∃ (s : State), s.bootU.asserted = false ∧ s.power.sleep = none ∧ s.powerCmd = none ∧ s.power.ceiling = none ∧
      s.power.change.any (fun c => c.step == .divisor && decide (c.target < 4)) = true) ∧
    (∃ (s : State) (sites : List (Option Int)), s.bootU.asserted = false ∧ sites ≠ []) ∧
    (∃ (s : State), s.bootU.asserted = false ∧ s.power.cclk = 3 ∧ s.surgeUsed < surgeLimit ∧ s.power.surgeAt ≤
      s.now ∧ s.now + (surgeLimit - s.surgeUsed) ≤ s.power.bucketAt + bucketCycles ∧ s.power.sleep = none) ∧
    (∃ (s : State), s.bootU.asserted = false) ∧
    (∃ (s : State), s.bootU.asserted = false ∧ s.serves .POWER_THERM_CTRL 0 = true) :=
  ⟨⟨changing .ack true, by decide +kernel⟩,
  ⟨changing .ack false, by decide +kernel⟩,
  ⟨changing .ack true, by decide +kernel⟩,
  ⟨changing .divisor true, by decide +kernel⟩,
  ⟨run, [some 448, none], by decide +kernel⟩,
  ⟨run.modPower fun u => { u with cclk := 3, surge := [4999899999] }, by decide +kernel⟩,
  ⟨run, by decide +kernel⟩,
  ⟨run, by decide +kernel⟩⟩

theorem test_DozeAndReady :
    (∃ (d : Fin 15) (s : State), s.bootU.asserted = false ∧ s.power.doze.any (fun z => z.left.contains d.val &&
      !z.closed) = true ∧ s.dom d = 0 ∧ s.domIdle d = true) ∧
    (∃ (s : State), s.bootU.asserted = false ∧ s.power.doze.isSome = true ∧ s.powerCmd = none) ∧
    (∃ (d : Fin 15) (s : State), s.bootU.asserted = false ∧ s.power.waking.contains d.val = true ∧ d ≠ 12 ∧ d ≠
      13) ∧
    (∃ (d : Fin 15) (s : State), s.bootU.asserted = false ∧ s.power.waking.contains d.val = false ∧ s.boot = bINIT
      ∧ s.dom d = 0 ∧ s.ready d = false) :=
  ⟨⟨2, run.modPower fun u => { u with doze := some { left := [2], since := 5 } }, by decide +kernel⟩,
  ⟨run.modPower fun u => { u with doze := some { left := [2], since := 5 } }, by decide +kernel⟩,
  ⟨2, run.modPower fun u => { u with waking := [2] }, by decide +kernel⟩,
  ⟨14, State.reset, by decide +kernel⟩⟩

theorem test_SleepWakeAndSources :
    (∃ (s : State), s.bootU.asserted = false ∧ s.power.sleep.any (fun e => e.step == .draining) = true ∧ s.drained
      = true) ∧
    (∃ (s : State), s.bootU.asserted = false ∧ s.power.sleep.any (fun e => e.step == .answered) = true ∧ s.outst =
      [] ∧ s.power.change = none ∧ s.intcBusy = false) ∧
    (∃ (s : State), s.bootU.asserted = false ∧ s.power.sleep.any (fun e => e.step == .settling) = true ∧
      s.power.change = none) ∧
    (∃ (s : State), s.bootU.asserted = false ∧ s.power.sleep.any (fun e => e.step == .asleep && e.latched.isSome)
      = true) ∧
    (∃ (s : State), s.bootU.asserted = false ∧ s.power.sleep.any (fun e => e.step == .waking) = true ∧
      s.power.change = none) ∧
    (∃ (s : State), s.bootU.asserted = false ∧ s.power.sleep.any (fun e => e.step == .locking) = true ∧
      s.power.sleep.all (fun e => decide (e.opp < 4)) = true ∧ s.time.locked = false) ∧
    (∃ (s : State), s.bootU.asserted = false ∧ s.power.sleep.any (fun e => e.step == .asleep) = true ∧ s.fbit
      .POWER_WAKE_EN 0 fPOWER_WAKE_EN_TIMER = true ∧ s.power.sleep.all (fun e => e.latched.isNone) = true) ∧
    (∃ (p : Fin 16) (s : State), s.bootU.asserted = false ∧ s.power.sleep.any (fun e => e.step == .asleep) = true
      ∧ s.dom dWATCH = 0 ∧ s.armed p = true) ∧
    (∃ (p : Fin 16) (b : List Byte) (s : State) (k : Fin 32), s.bootU.asserted = false ∧ s.power.sleep.any (fun e
      => e.step == .asleep) = true ∧ s.dom dWATCH = 0 ∧ s.armed p = true ∧ bitOf (s.fget .POWER_WATCH_CFG p
      fPOWER_WATCH_CFG_PAT_EN) k = true ∧ s.patternHit k b = true ∧ (List.range k).all (fun j => !(bitOf (s.fget
      .POWER_WATCH_CFG p fPOWER_WATCH_CFG_PAT_EN) j && s.patternHit j b)) = true ∧ (fun (w : WakeSrc) =>
      s.power.sleep.all (fun e => e.latched.all (fun v => s.power.wakeAt == s.mclk && w.before v)))
      { code := 7, port := p, pattern := k } = true) ∧
    (∃ (p : Fin 16) (s : State), s.bootU.asserted = false ∧ s.power.sleep.any (fun e => e.step == .asleep) = true
      ∧ s.dom dWATCH = 0 ∧ s.armed p = true ∧ s.fbit .POWER_WATCH_CFG p fPOWER_WATCH_CFG_SIGDET_EN = true ∧ (fun
      (w : WakeSrc) => s.power.sleep.all (fun e => e.latched.all (fun v => s.power.wakeAt == s.mclk && w.before
      v))) { code := 8, port := p } = true) :=
  ⟨⟨sleepAt .draining, by decide +kernel⟩,
  ⟨sleepAt .answered, by decide +kernel⟩,
  ⟨sleepAt .settling, by decide +kernel⟩,
  ⟨run.modPower fun u => { u with sleep := some { step := .asleep, opp := 2, latched := some { code := 2 } } },
    by decide +kernel⟩,
  ⟨sleepAt .waking, by decide +kernel⟩,
  ⟨{ sleepAt .locking with time := { run.time with locked := false } }, by decide +kernel⟩,
  ⟨(sleepAt .asleep).fset .POWER_WAKE_EN 0 fPOWER_WAKE_EN_TIMER 1, by decide +kernel⟩,
  ⟨0, (watching.rset .COURSE_PORT_MAP 0 0x05555FE4).fset .POWER_WATCH_CFG 0 fPOWER_WATCH_CFG_MAGIC_EN 1,
    by decide +kernel⟩,
  ⟨0, [7], (((watching.rset .COURSE_PORT_MAP 0 0x05555FE4).fset .POWER_WATCH_CFG 0 fPOWER_WATCH_CFG_PAT_EN
    0x80000000).rset .POWER_PAT_MASK 124 1).rset .POWER_PAT_VAL 992 7, 31, by decide +kernel⟩,
  ⟨0, (watching.rset .COURSE_PORT_MAP 0 0x05555FE4).fset .POWER_WATCH_CFG 0 fPOWER_WATCH_CFG_SIGDET_EN 1,
    by decide +kernel⟩⟩

theorem test_FencesPadsAndLigger :
    (∃ (v : Word) (s : State), s.serves .POWER_FENCE 0 = true ∧ fPOWER_FENCE_QUAD.get v = fPOWER_FENCE_COURSE.get
      v) ∧
    (∃ (s : State), s.serves .POWER_PAD 0 = true) ∧
    (∃ (addr : Fin 64) (s : State), s.bootU.asserted = false ∧ s.power.sleep = none ∧ s.ligMatch addr = true) :=
  ⟨⟨(fPOWER_FENCE_QUAD.at 1) ||| fPOWER_FENCE_COURSE.at 1, run, by decide +kernel⟩,
  ⟨run, by decide +kernel⟩,
  ⟨5, run.sets .POWER_LIG_CFG 0 [(fPOWER_LIG_CFG_EN, 1), (fPOWER_LIG_CFG_ADDR, 5)], by decide +kernel⟩⟩

theorem test_ColdResetAndBootSelect :
    (∃ (s : State), s.bootU.asserted = true) ∧
    (∃ (s : State), s.bootU.asserted = true ∧ s.bootU.mbist = true) ∧
    (∃ (s : State), s.bootU.asserted = false) ∧
    (∃ (s : State), s.bootU.asserted = false ∧ s.bootU.xspiRst = false) ∧
    (∃ (s : State), s.bootU.asserted = false ∧ s.bootU.xspiRst = true) ∧
    (∃ (s : State), s.bootU.asserted = false ∧ s.failed = false ∧ s.boot = bINIT ∧ (s.time.locked = true ∨
      s.bootU.warm = true) ∧ (List.range 15).all (fun d => s.dom d != 0 || s.ready d) = true) ∧
    (∃ (s : State), s.bootU.asserted = false ∧ s.failed = false ∧ s.boot = bINIT ∧ ((s.time.locked = false ∧
      s.bootU.warm = false) ∨ (List.range 15).any (fun d => s.dom d == 0 && !s.ready d) = true)) ∧
    (∃ (hA : List Byte) (mA : List Byte) (hB : List Byte) (mB : List Byte) (l : List Nat) (s : State),
      s.bootU.asserted = false ∧ s.failed = false ∧ s.boot = bSELECT ∧ l = (if s.bootU.warm && !s.bootU.reselect
      then [s.fget .BOOT_STAT 0 fBOOT_STAT_CHOSEN].filter (fun c => if c = 2 then candidate hB mB else candidate
      hA mA) else tryOrder hA mA hB mB)) ∧
    (∃ (s : State), s.bootU.asserted = false) :=
  ⟨⟨{ run with bootU := { asserted := true } }, by decide +kernel⟩,
  ⟨{ run with bootU := { asserted := true, mbist := true } }, by decide +kernel⟩,
  ⟨run, by decide +kernel⟩,
  ⟨State.reset, by decide +kernel⟩,
  ⟨{ run with bootU := { run.bootU with xspiRst := true } }, by decide +kernel⟩,
  ⟨run.fset .BOOT_STAT 0 fBOOT_STAT_STATE bINIT, by decide +kernel⟩,
  ⟨(run.fset .BOOT_STAT 0 fBOOT_STAT_STATE bINIT).fset .POWER_READY 0 fPOWER_READY_READY 0x3FFF, by decide +kernel⟩,
  ⟨header 4294967295, marker 4294967295, header 0, marker 0, [2, 1], run.fset .BOOT_STAT 0 fBOOT_STAT_STATE bSELECT,
    by decide +kernel⟩,
  ⟨run, by decide +kernel⟩⟩

theorem test_ImageLoadsAndReleases :
    (∃ (b : List Byte) (s : State), s.bootU.asserted = false ∧ s.failed = false ∧ s.boot = bLOAD ∧
      s.bootU.load.any (fun l => l.delay.isNone && l.left == 0 && decide (l.off + 32 ≤ l.len) && !l.strict) = true
      ∧ b.length = 16 ∧ cb b 0 2 = 1 ∧ cb b 2 2 = 1 ∧ cb b 4 4 = 8 ∧ cb b 11 1 = 0 ∧ regForbidden (cb b 8 3) =
      false) ∧
    (∃ (b : List Byte) (s : State), s.bootU.asserted = false ∧ s.failed = false ∧ s.boot = bLOAD ∧
      s.bootU.load.any (fun l => l.delay.isNone && l.left == 0 && decide (l.off + 32 ≤ l.len) && !l.strict) = true
      ∧ b.length = 16 ∧ cb b 0 2 = 10 ∧ cb b 2 2 = 1 ∧ cb b 4 4 = 8 ∧ 0 < cb b 8 4 ∧ cb b 8 4 ≤ 100000 ∧ cb b 12 4
      = 0) ∧
    (∃ (b : List Byte) (s : State), s.bootU.asserted = false ∧ s.failed = false ∧ s.boot = bLOAD ∧
      s.bootU.load.any (fun l => l.delay.isNone && l.left == 0 && decide (l.off + 32 ≤ l.len) && !l.strict) = true
      ∧ 8 ≤ b.length ∧ itemSize (cb b 0 2) = 0) ∧
    (∃ (s : State), s.bootU.asserted = false ∧ s.failed = false ∧ s.boot = bLOAD ∧ s.bootU.load.any
      (·.delay.isSome) = true) ∧
    (∃ (s : State), s.bootU.asserted = false ∧ s.failed = false ∧ s.boot = bLOAD ∧ s.bootU.load.any (fun l =>
      l.delay.isNone && l.left == 0 && l.off == l.len - 16) = true ∧ s.bootU.releasing = false) ∧
    (∃ (s : State), s.bootU.asserted = false ∧ s.failed = false ∧ s.boot = bCLEAR) ∧
    (∃ (s : State), s.bootU.asserted = false ∧ s.failed = false ∧ s.bootU.releasing = true ∧ s.bootU.load.isSome =
      true ∧ s.power.change.all (!·.boot) = true ∧ s.bootU.load.all (fun l => l.opp.all (fun o =>
      s.power.change.isNone && (o == s.opp || s.oppDenied o))) = true) ∧
    (∃ (s : State), s.bootU.asserted = false ∧ s.failed = false ∧ s.bootU.releasing = true ∧ s.power.change = none
      ∧ s.bootU.load.any (fun l => l.opp.any (fun o => o != s.opp && !s.oppDenied o)) = true) ∧
    (∃ (s : State), s.serves .BOOT_CTRL 0 = true ∧ s.boot = bSAFE) :=
  ⟨⟨leBytes 2 1 ++ leBytes 2 1 ++ leBytes 4 8 ++ leBytes 4 0x030010 ++ leBytes 4 0, loading 64, by decide +kernel⟩,
  ⟨leBytes 2 10 ++ leBytes 2 1 ++ leBytes 4 8 ++ leBytes 4 100000 ++ leBytes 4 0, loading 64, by decide +kernel⟩,
  ⟨leBytes 8 99, loading 64, by decide +kernel⟩,
  ⟨(loading 64).modBoot fun u => { u with load := u.load.map fun l => { l with delay := some 5 } },
    by decide +kernel⟩,
  ⟨loading 96, by decide +kernel⟩,
  ⟨run.fset .BOOT_STAT 0 fBOOT_STAT_STATE bCLEAR, by decide +kernel⟩,
  ⟨(loading 96).modBoot fun u => { u with releasing := true }, by decide +kernel⟩,
  ⟨((loading 96).modBoot fun u =>
    { u with releasing := true, load := u.load.map fun l => { l with opp := some 4 } }), by decide +kernel⟩,
  ⟨run.fset .BOOT_STAT 0 fBOOT_STAT_STATE bSAFE, by decide +kernel⟩⟩

theorem test_RethatchAndFlashWindow :
    (∃ (s : State), s.serves .GEN_RESET 0 = true ∧ s.dom dHOSTIF = 0 ∧ s.bootU.xspiBusy = false ∧ s.power.sleep =
      none) ∧
    (∃ (s : State), s.bootU.asserted = false ∧ s.boot = bQUIESCE ∧ s.outst = [] ∧ s.sealU.tx.all (·.ended) = true
      ∧ s.sealU.rx.all (·.ended) = true) ∧
    (∃ (s : State), s.serves .BOOT_XSPI_CMD 0 = true ∧ s.fbit .BOOT_XSPI_CMD 0 fBOOT_XSPI_CMD_BUSY = false) ∧
    (∃ (b : List Byte) (s : State), s.bootU.asserted = false ∧ s.bootU.xspiBusy = true ∧ s.bootU.rethatchWait =
      false ∧ 8 ≤ b.length) :=
  ⟨⟨run, by decide +kernel⟩,
  ⟨run.fset .BOOT_STAT 0 fBOOT_STAT_STATE bQUIESCE, by decide +kernel⟩,
  ⟨run, by decide +kernel⟩,
  ⟨leBytes 8 5, run.modBoot fun u => { u with xspiBusy := true }, by decide +kernel⟩⟩

theorem test_ArrivalsAndModeration :
    (∃ (s : State), s.bootU.asserted = false ∧ s.power.sleep = none ∧ s.dom dHOSTIF = 0) ∧
    (∃ (q : Fin 4352) (v : Word) (s : State), s.bootU.asserted = false ∧ s.power.sleep = none ∧ s.serves .INTC_SRC
      q = true ∧ fINTC_SRC_FAST.get v = 0) ∧
    (∃ (s : State), s.bootU.asserted = false ∧ s.power.sleep = none) ∧
    (∃ (v : Fin 4096) (s : State), s.bootU.asserted = false ∧ s.power.sleep = none ∧ (s.timer v).tick.isSome =
      true) ∧
    (∃ (v : Fin 4096) (w : Word) (s : State), s.bootU.asserted = false ∧ s.power.sleep = none ∧ s.serves .INTC_VEC
      v = true ∧ 1 ≤ fINTC_VEC_MOD_COUNT.get w ∧ s.fget .INTC_VEC v fINTC_VEC_STATE ≠ 3) :=
  ⟨⟨run, by decide +kernel⟩,
  ⟨0, (fINTC_SRC_EN.at 1) ||| fINTC_SRC_VECTOR.at 5, run, by decide +kernel⟩,
  ⟨run.sets .INTC_VEC 5 [(fINTC_VEC_STATE, 1), (fINTC_VEC_SLEEP_FLUSH, 1)], by decide +kernel⟩,
  ⟨5, ((run.sets .INTC_VEC 5 [(fINTC_VEC_STATE, 1), (fINTC_VEC_MOD_TIMER, 9)]).loadTimer 5), by decide +kernel⟩,
  ⟨5, fINTC_VEC_MOD_COUNT.at 1, run.sets .INTC_VEC 5 [(fINTC_VEC_STATE, 1), (fINTC_VEC_COUNT, 1)],
    by decide +kernel⟩⟩

theorem test_ClaimsAndMessages :
    (∃ (s : State) (n : Nat) (e : Nat × Word), s.bestVec n = some e) ∧
    (∃ (s : State) (n : Nat) (e : Nat × Word) (x : _), s.bestVec n = some e ∧ x ∈ s.vecsOf n 2 ∧ s.eligible n x.2
      = true) ∧
    (∃ (n : Fin 64) (s : State), s.serves .INTC_CLAIM n = true) ∧
    (∃ (n : Fin 64) (k : Nat) (v : BitVec 32) (s : State), s.serves .INTC_EOI n = true ∧ k = fINTC_EOI_VECTOR.get
      (v.setWidth 64)) ∧
    (∃ (n : Fin 64) (s : State), s.serves .INTC_FCLAIM n = true) ∧
    (∃ (n : Fin 64) (k : Nat) (v : BitVec 32) (s : State), s.serves .INTC_FEOI n = true ∧ k =
      fINTC_FEOI_VECTOR.get (v.setWidth 64)) ∧
    (∃ (tag : Fin 1024) (s : State), s.bootU.asserted = false ∧ s.nextMessage.isSome = true ∧ s.mayIssue = true ∧
      s.tagFree 0 tag = true) ∧
    (∃ (a : Resp) (s : State), s.bootU.asserted = false ∧ (s.answered a
      (fun | .intcMsg _ _ => true | _ => false)).any (·.write) = true) :=
  ⟨⟨pend, 0, (5, pend.rget .INTC_VEC 5), by decide +kernel⟩,
  ⟨pend, 0, (5, pend.rget .INTC_VEC 5), (6, pend.rget .INTC_VEC 6), by decide +kernel⟩,
  ⟨0, pend, by decide +kernel⟩,
  ⟨0, 5, 5, pend.fset .INTC_VEC 5 fINTC_VEC_STATE 3, by decide +kernel⟩,
  ⟨0, run.sets .INTC_FVEC 7 [(fINTC_FVEC_STATE, 2), (fINTC_FVEC_EN, 1)], by decide +kernel⟩,
  ⟨0, 7, 7, run.sets .INTC_FVEC 7 [(fINTC_FVEC_STATE, 3), (fINTC_FVEC_REPEND, 1)], by decide +kernel⟩,
  ⟨1023, (pend.fset .INTC_CORE_CFG 0 fINTC_CORE_CFG_DELIVER 1), by decide +kernel⟩,
  ⟨answer 0, waits .intc (.intcMsg false 5) true 4 run, by decide +kernel⟩⟩

theorem test_SealPortRules :
    (∃ (s : State), s.serves .SEAL_CFG 0 = true ∧ 8 ≤ s.fget .SEAL_CFG 0 fSEAL_CFG_TX_DELAY ∧ s.fget .SEAL_CFG 0
      fSEAL_CFG_TX_DELAY ≤ 96 ∧ 64 ≤ s.fget .SEAL_CFG 0 fSEAL_CFG_RX_MAX) ∧
    (∃ (s : State), s.bootU.asserted = false ∧ s.sealU.enNext.isSome = true) ∧
    (∃ (ch : Fin 4) (x : SealResp) (o : SealOut) (s : State), s.bootU.asserted = false ∧ s.failed = false ∧ o.chan
      = ch.val ∧ s.sealU.tx = [o] ∧ o.waits = true ∧ o.susp = [] ∧ o.back = 0 ∧ x.fid.val = o.fid ∧ x.sof = true ∧
      x.eof = true ∧ x.susp = false ∧ x.resume = false ∧ x.status = 0 ∧ x.late = false ∧ x.cpar = false) ∧
    (∃ (ch : Fin 4) (x : SealResp) (o : SealOut) (s : State), s.bootU.asserted = false ∧ s.failed = false ∧ o.chan
      = ch.val ∧ s.sealU.tx = [o] ∧ o.waits = true ∧ o.susp = [] ∧ o.back = 0 ∧ x.fid.val ≠ o.fid) ∧
    (∃ (ch : Fin 4) (o : SealOut) (s : State), s.bootU.asserted = false ∧ s.failed = false ∧ o.chan = ch.val ∧
      s.sealU.tx = [o] ∧ o.susp = [] ∧ o.back = 1 ∧ o.released = 0 ∧ o.paused = false ∧ o.status = 0 ∧ o.cut =
      none ∧ o.ended = true ∧ o.times.length = 1 ∧ o.ends = [o.out.length] ∧ o.tx.isSome = true ∧ s.portUp o.port
      = true ∧ (s.mac o.port).cur = none) ∧
    (∃ (ch : Fin 4) (x : SealResp) (o : SealOut) (s : State), s.bootU.asserted = false ∧ s.failed = false ∧ o.chan
      = ch.val ∧ s.sealU.rx = [o] ∧ o.ended = false ∧ o.rx.any (fun f => !f.trunc) = true ∧ x.fid.val = o.fid ∧
      x.sof = true ∧ x.eof = true ∧ x.susp = false ∧ x.resume = false ∧ x.late = false ∧ x.cpar = false ∧ x.status
      = 0) ∧
    (∃ (ch : Fin 4) (o : SealOut) (s : State), s.bootU.asserted = false ∧ s.failed = false ∧ o.chan = ch.val ∧
      s.sealU.rx = [o] ∧ o.ended = false) ∧
    (∃ (s : State), s.bootU.asserted = false ∧ s.sealEn = true) ∧
    (∃ (s : State), s.bootU.asserted = false ∧ s.sealEn = true ∧ s.failed = false) ∧
    (∃ (s : State), s.bootU.asserted = false ∧ s.sealU.sweep ≠ [] ∧ s.sealU.sweep.all (fun q => decide (q < 16)) =
      true) ∧
    (∃ (s : State), s.bootU.asserted = false ∧ s.fbit .SEAL_BIND_CMD 0 fSEAL_BIND_CMD_BUSY = true ∧ s.fget
      .SEAL_BIND_CMD 0 fSEAL_BIND_CMD_OP = 0) ∧
    (∃ (s : State), s.bootU.asserted = false ∧ s.fbit .SEAL_BIND_CMD 0 fSEAL_BIND_CMD_BUSY = true ∧ s.fget
      .SEAL_BIND_CMD 0 fSEAL_BIND_CMD_OP = 1) :=
  ⟨⟨run, by decide +kernel⟩,
  ⟨{ run with sealU := { run.sealU with enNext := some true } }, by decide +kernel⟩,
  ⟨0, resp0, atSeal, sealing [atSeal] [], by decide +kernel⟩,
  ⟨0, { resp0 with fid := 6 }, atSeal, sealing [atSeal] [], by decide +kernel⟩,
  ⟨0, returned, { up with sealU := { up.sealU with tx := [returned] } }, by decide +kernel⟩,
  ⟨0, resp0, { atSeal with rx := some frame0 }, sealing [] [{ atSeal with rx := some frame0 }], by decide +kernel⟩,
  ⟨0, { atSeal with rx := some frame0 }, sealing [] [{ atSeal with rx := some frame0 }], by decide +kernel⟩,
  ⟨run.fset .SEAL_CFG 0 fSEAL_CFG_EN 1, by decide +kernel⟩,
  ⟨run.fset .SEAL_CFG 0 fSEAL_CFG_EN 1, by decide +kernel⟩,
  ⟨{ run with sealU := { run.sealU with sweep := [3] } }, by decide +kernel⟩,
  ⟨run.fset .SEAL_BIND_CMD 0 fSEAL_BIND_CMD_BUSY 1, by decide +kernel⟩,
  ⟨(run.sets .SEAL_BIND_CMD 0 [(fSEAL_BIND_CMD_BUSY, 1), (fSEAL_BIND_CMD_OP, 1)]), by decide +kernel⟩⟩

theorem test_GeneralChannelsRun :
    (∃ (k : Fin 64) (s : State), s.serves .DMA_CHAN_CTRL k = true) ∧
    (∃ (k : Fin 64) (s : State), s.serves .DMA_CHAN_APPEND k = true) ∧
    (∃ (k : Fin 64) (s : State), s.bootU.asserted = false ∧ s.chanTags k = 0 ∧ (s.chanState k = cSTOPPING ∨
      (s.chanState k = cHALTED ∧ (s.chan k).stop = true))) ∧
    (∃ (k : Fin 64) (a : Resp) (s : State), s.goodResp a (.dmaDesc k false) = true ∧ s.chanState k = cSTOPPING ∧
      s.descBad k a.data = true) ∧
    (∃ (k : Fin 64) (a : Resp) (s : State), s.goodResp a (.dmaDesc k false) = true ∧ s.chanState k = cRUNNING) ∧
    (∃ (k : Fin 64) (off : Nat) (a : Resp) (s : State), s.goodResp a (.dmaRead k off) = true) ∧
    (∃ (k : Fin 64) (desc : DescRef) (a : Resp) (s : State), s.goodResp a (.dmaWrite k desc) = true) ∧
    (∃ (k : Fin 64) (desc : DescRef) (a : Resp) (s : State), s.goodResp a (.dmaWb k desc) = true) ∧
    (∃ (k : Fin 64) (s : State), s.bootU.asserted = false ∧ s.failed = false ∧ s.chanDone k = true) :=
  ⟨⟨63, run, by decide +kernel⟩,
  ⟨63, run.fset .DMA_CHAN_STAT 63 fDMA_CHAN_STAT_STATE cATEND, by decide +kernel⟩,
  ⟨0, run.fset .DMA_CHAN_STAT 0 fDMA_CHAN_STAT_STATE cSTOPPING, by decide +kernel⟩,
  ⟨0, answer 32, waits (.chan 0) (.dmaDesc 0 false) false 32 (run.fset .DMA_CHAN_STAT 0 fDMA_CHAN_STAT_STATE
    cSTOPPING), by decide +kernel⟩,
  ⟨0, { answer 32 with data := desc0 }, waits (.chan 0) (.dmaDesc 0 false) false 32 (run.fset .DMA_CHAN_STAT 0
    fDMA_CHAN_STAT_STATE cRUNNING), by decide +kernel⟩,
  ⟨0, 7, answer 4, waits (.chan 0) (.dmaRead 0 7) false 4 run, by decide +kernel⟩,
  ⟨0, desc1, answer 0, waits (.chan 0) (.dmaWrite 0 desc1) true 4 run, by decide +kernel⟩,
  ⟨0, desc1, answer 0, waits (.chan 0) (.dmaWb 0 desc1) true 4 run, by decide +kernel⟩,
  ⟨0, (run.fset .DMA_CHAN_STAT 0 fDMA_CHAN_STAT_STATE cRUNNING).modChan 0 (fun c =>
    { c with active := true, len := 4, rdOff := 4, wrOff := 4, link := 1 }), by decide +kernel⟩⟩

theorem test_WindowEdits :
    (∃ (tab : Fin 4) (s : State), s.bootU.asserted = false ∧ s.fbit .TABLE_WIN_CMD 0 fTABLE_WIN_CMD_BUSY = true ∧
      s.fget .TABLE_WIN_ADDR 0 fTABLE_WIN_ADDR_TABLE = tab ∧ s.tabSize tab ≠ 0 ∧ s.hstate tab ≠ 1 ∧ s.genState < 2
      ∧ s.keyBad tab s.tableWinRec false = false ∧ s.fget .TABLE_WIN_CMD 0 fTABLE_WIN_CMD_OP = 0 ∧ s.fbit
      .TABLE_WIN_CMD 0 fTABLE_WIN_CMD_GEN_SEL = false) ∧
    (∃ (tab : Fin 4) (s : State), s.bootU.asserted = false ∧ s.fbit .TABLE_WIN_CMD 0 fTABLE_WIN_CMD_BUSY = true ∧
      s.fget .TABLE_WIN_ADDR 0 fTABLE_WIN_ADDR_TABLE = tab ∧ s.tabSize tab ≠ 0 ∧ s.hstate tab ≠ 1 ∧ s.genState < 2
      ∧ s.keyBad tab s.tableWinRec false = false ∧ s.fget .TABLE_WIN_CMD 0 fTABLE_WIN_CMD_OP = 1 ∧ actionBad
      (entryOf s.tableWinRec).action = false ∧ s.findKey tab s.genOther (entryOf s.tableWinRec).profile (entryOf
      s.tableWinRec).keyLen (entryOf s.tableWinRec).key = none) ∧
    (∃ (tab : Fin 4) (l : Nat) (s : State), s.bootU.asserted = false ∧ s.fbit .TABLE_WIN_CMD 0 fTABLE_WIN_CMD_BUSY
      = true ∧ s.fget .TABLE_WIN_ADDR 0 fTABLE_WIN_ADDR_TABLE = tab ∧ s.tabSize tab ≠ 0 ∧ s.hstate tab ≠ 1 ∧
      s.genState < 2 ∧ s.keyBad tab s.tableWinRec false = false ∧ s.findKey tab s.genOther (entryOf
      s.tableWinRec).profile (entryOf s.tableWinRec).keyLen (entryOf s.tableWinRec).key = some l ∧ s.fget
      .TABLE_WIN_CMD 0 fTABLE_WIN_CMD_OP = 1 ∧ actionBad (entryOf s.tableWinRec).action = false) ∧
    (∃ (tab : Fin 4) (l : Nat) (s : State), s.bootU.asserted = false ∧ s.fbit .TABLE_WIN_CMD 0 fTABLE_WIN_CMD_BUSY
      = true ∧ s.fget .TABLE_WIN_ADDR 0 fTABLE_WIN_ADDR_TABLE = tab ∧ s.tabSize tab ≠ 0 ∧ s.hstate tab ≠ 1 ∧
      s.genState < 2 ∧ s.keyBad tab s.tableWinRec false = false ∧ s.findKey tab s.genOther (entryOf
      s.tableWinRec).profile (entryOf s.tableWinRec).keyLen (entryOf s.tableWinRec).key = some l ∧ s.fget
      .TABLE_WIN_CMD 0 fTABLE_WIN_CMD_OP = 2) ∧
    (∃ (tab : Fin 4) (l : Nat) (s : State), s.bootU.asserted = false ∧ s.fbit .TABLE_WIN_CMD 0 fTABLE_WIN_CMD_BUSY
      = true ∧ s.fget .TABLE_WIN_ADDR 0 fTABLE_WIN_ADDR_TABLE = tab ∧ s.tabSize tab ≠ 0 ∧ s.hstate tab ≠ 1 ∧
      s.genState < 2 ∧ s.keyBad tab s.tableWinRec false = false ∧ s.findKey tab s.genOther (entryOf
      s.tableWinRec).profile (entryOf s.tableWinRec).keyLen (entryOf s.tableWinRec).key = some l ∧ s.fget
      .TABLE_WIN_CMD 0 fTABLE_WIN_CMD_OP = 3 ∧ actionBad (entryOf s.tableWinRec).action = false ∧ (s.entry tab
      l).firstV = true) ∧
    (∃ (tab : Fin 4) (l : Nat) (s : State), s.bootU.asserted = false ∧ s.fbit .TABLE_WIN_CMD 0 fTABLE_WIN_CMD_BUSY
      = true ∧ s.fget .TABLE_WIN_ADDR 0 fTABLE_WIN_ADDR_TABLE = tab ∧ s.tabSize tab ≠ 0 ∧ s.hstate tab ≠ 1 ∧
      s.genState < 2 ∧ s.keyBad tab s.tableWinRec false = false ∧ s.fget .TABLE_WIN_CMD 0 fTABLE_WIN_CMD_OP = 4 ∧
      l = s.fget .TABLE_WIN_ADDR 0 fTABLE_WIN_ADDR_BUCKET * 4 + s.fget .TABLE_WIN_ADDR 0 fTABLE_WIN_ADDR_WAY) :=
  ⟨⟨0, tabWin 0 true, by decide +kernel⟩,
  ⟨0, tabWin 1 false, by decide +kernel⟩,
  ⟨0, entAt, tabWin 1 true, by decide +kernel⟩,
  ⟨0, entAt, tabWin 2 true, by decide +kernel⟩,
  ⟨0, entAt, tabWin 3 true, by decide +kernel⟩,
  ⟨0, 0, (tabWin 4 true), by decide +kernel⟩⟩

theorem test_GenerationsAndSweeps :
    (∃ (tab : Fin 4) (v : Word) (s : State), s.serves .TABLE_EM_CFG tab = true ∧ fTABLE_EM_CFG_SIZE.get v ≤ 32 ∧ 1
      ≤ fTABLE_EM_CFG_MAX_DEPTH.get v ∧ fTABLE_EM_CFG_MAX_DEPTH.get v ≤ 6 ∧ s.genState = gSTEADY ∧ s.hstate tab =
      0 ∧ s.tabBase 4 / 16384 - s.tabSize tab + fTABLE_EM_CFG_SIZE.get v ≤ 32 ∧ (List.range 4).all (fun i =>
      s.fget .TABLE_EM_OCC i fTABLE_EM_OCC_USED == 0) = true) ∧
    (∃ (tab : Fin 4) (v : Word) (s : State), s.serves .TABLE_EM_CFG tab = true ∧ fTABLE_EM_CFG_SIZE.get v ≤ 32 ∧ 1
      ≤ fTABLE_EM_CFG_MAX_DEPTH.get v ∧ fTABLE_EM_CFG_MAX_DEPTH.get v ≤ 6 ∧ s.genState ≠ gSTEADY ∧
      fTABLE_EM_CFG_SIZE.get v ≠ s.tabSize tab) ∧
    (∃ (s : State), s.serves .TABLE_GEN_CTRL 0 = true ∧ s.fbit .TABLE_WIN_CMD 0 fTABLE_WIN_CMD_BUSY = false) ∧
    (∃ (s : State), s.bootU.asserted = false ∧ s.genState = gCOMMITTING ∧ s.editQ = []) ∧
    (∃ (s : State), s.bootU.asserted = false ∧ s.genState = gDRAINING ∧ s.carrying s.genOther = 0) ∧
    (∃ (s : State), s.bootU.asserted = false ∧ s.genState = gDRAINING ∧ s.genAt ≠ 0) ∧
    (∃ (s : State), s.bootU.asserted = false ∧ s.genState = gSETTLING) ∧
    (∃ (s : State), s.bootU.asserted = false ∧ s.genState = gABORTING ∧ s.editQ = []) ∧
    (∃ (tab : Fin 4) (l : Nat) (s : State), s.bootU.asserted = false ∧ l < s.tabBuckets tab * 4 ∧ s.genState =
      gSETTLING) ∧
    (∃ (tab : Fin 4) (l : Nat) (s : State), s.bootU.asserted = false ∧ l < s.tabBuckets tab * 4 ∧ s.genState =
      gABORTING ∧ s.editQ = []) :=
  ⟨⟨3, (fTABLE_EM_CFG_SIZE.at 32) ||| fTABLE_EM_CFG_MAX_DEPTH.at 6, run, by decide +kernel⟩,
  ⟨0, (fTABLE_EM_CFG_SIZE.at 1) ||| fTABLE_EM_CFG_MAX_DEPTH.at 1, genAt gOPEN, by decide +kernel⟩,
  ⟨run, by decide +kernel⟩,
  ⟨genAt gCOMMITTING, by decide +kernel⟩,
  ⟨genAt gDRAINING, by decide +kernel⟩,
  ⟨{ genAt gDRAINING with genAt := 5 }, by decide +kernel⟩,
  ⟨genAt gSETTLING, by decide +kernel⟩,
  ⟨genAt gABORTING, by decide +kernel⟩,
  ⟨0, entAt, (tab0.setEntry 0 entAt { ent with lastV := true }).setGen gSETTLING 0 1, by decide +kernel⟩,
  ⟨0, entAt, (tab0.setEntry 0 entAt ent).setGen gABORTING 0 1, by decide +kernel⟩⟩

theorem test_NodeMeterAndStatsWindows :
    (∃ (lvl : Nat) (i : Nat) (s : State), s.bootU.asserted = false ∧ s.fbit .SCHED_WIN_CMD 0 fSCHED_WIN_CMD_BUSY =
      true ∧ s.fget .SCHED_WIN_ADDR 0 fSCHED_WIN_ADDR_LEVEL = lvl ∧ s.fget .SCHED_WIN_ADDR 0 fSCHED_WIN_ADDR_INDEX
      = i ∧ s.fget .SCHED_WIN_CMD 0 fSCHED_WIN_CMD_OP = 0) ∧
    (∃ (lvl : Nat) (i : Nat) (s : State), s.bootU.asserted = false ∧ s.fbit .SCHED_WIN_CMD 0 fSCHED_WIN_CMD_BUSY =
      true ∧ s.fget .SCHED_WIN_ADDR 0 fSCHED_WIN_ADDR_LEVEL = lvl ∧ s.fget .SCHED_WIN_ADDR 0 fSCHED_WIN_ADDR_INDEX
      = i ∧ s.fget .SCHED_WIN_CMD 0 fSCHED_WIN_CMD_OP = 1) ∧
    (∃ (i : Nat) (s : State), s.bootU.asserted = false ∧ s.fbit .METER_WIN_CMD 0 fMETER_WIN_CMD_BUSY = true ∧
      s.fget .METER_WIN_ADDR 0 fMETER_WIN_ADDR_METER = i ∧ s.fget .METER_WIN_CMD 0 fMETER_WIN_CMD_OP = 0) ∧
    (∃ (i : Nat) (s : State), s.bootU.asserted = false ∧ s.fbit .METER_WIN_CMD 0 fMETER_WIN_CMD_BUSY = true ∧
      s.fget .METER_WIN_ADDR 0 fMETER_WIN_ADDR_METER = i ∧ s.fget .METER_WIN_CMD 0 fMETER_WIN_CMD_OP = 1) ∧
    (∃ (i : Nat) (s : State), s.bootU.asserted = false ∧ s.fbit .METER_WIN_CMD 0 fMETER_WIN_CMD_BUSY = true ∧
      s.fget .METER_WIN_ADDR 0 fMETER_WIN_ADDR_METER = i ∧ s.fget .METER_WIN_CMD 0 fMETER_WIN_CMD_OP = 2) ∧
    (∃ (i : Nat) (s : State), s.bootU.asserted = false ∧ s.fbit .METER_WIN_CMD 0 fMETER_WIN_CMD_BUSY = true ∧
      s.fget .METER_WIN_ADDR 0 fMETER_WIN_ADDR_METER = i ∧ s.fget .METER_WIN_CMD 0 fMETER_WIN_CMD_OP = 3 ∧
      meterBad (s.rget .METER_WIN_DATA_0 0) (s.rget .METER_WIN_DATA_1 0) (s.rget .METER_WIN_DATA_2 0) = false) ∧
    (∃ (g : Nat) (i : Nat) (ws : List Nat) (s : State), s.bootU.asserted = false ∧ s.fbit .STATS_WIN_CMD 0
      fSTATS_WIN_CMD_BUSY = true ∧ s.fget .STATS_WIN_ADDR 0 fSTATS_WIN_ADDR_GROUP = g ∧ s.fget .STATS_WIN_ADDR 0
      fSTATS_WIN_ADDR_INDEX = i ∧ s.rests (statDom g i) = false ∧ s.rests dHOSTIF = false ∧ g ≠ 0 ∧ i < statCount
      g ∧ s.statRecord g i = some ws ∧ s.fget .STATS_WIN_CMD 0 fSTATS_WIN_CMD_OP = 0) ∧
    (∃ (g : Nat) (i : Nat) (ws : List Nat) (s : State), s.bootU.asserted = false ∧ s.fbit .STATS_WIN_CMD 0
      fSTATS_WIN_CMD_BUSY = true ∧ s.fget .STATS_WIN_ADDR 0 fSTATS_WIN_ADDR_GROUP = g ∧ s.fget .STATS_WIN_ADDR 0
      fSTATS_WIN_ADDR_INDEX = i ∧ s.rests (statDom g i) = false ∧ s.rests dHOSTIF = false ∧ g ≠ 0 ∧ i < statCount
      g ∧ s.statRecord g i = some ws ∧ s.fget .STATS_WIN_CMD 0 fSTATS_WIN_CMD_OP = 1) ∧
    (∃ (g : Nat) (i : Nat) (s : State), s.bootU.asserted = false ∧ s.fbit .STATS_WIN_CMD 0 fSTATS_WIN_CMD_BUSY =
      true ∧ s.fget .STATS_WIN_ADDR 0 fSTATS_WIN_ADDR_GROUP = g ∧ s.fget .STATS_WIN_ADDR 0 fSTATS_WIN_ADDR_INDEX =
      i ∧ s.rests (statDom g i) = false ∧ s.rests dHOSTIF = false ∧ s.fget .STATS_WIN_CMD 0 fSTATS_WIN_CMD_OP = 1
      ∧ s.statRecord g i = none) :=
  ⟨⟨0, 0, run.sets .SCHED_WIN_CMD 0 [(fSCHED_WIN_CMD_BUSY, 1)], by decide +kernel⟩,
  ⟨0, 0, run.sets .SCHED_WIN_CMD 0 [(fSCHED_WIN_CMD_BUSY, 1), (fSCHED_WIN_CMD_OP, 1)], by decide +kernel⟩,
  ⟨0, run.sets .METER_WIN_CMD 0 [(fMETER_WIN_CMD_BUSY, 1)], by decide +kernel⟩,
  ⟨0, run.sets .METER_WIN_CMD 0 [(fMETER_WIN_CMD_BUSY, 1), (fMETER_WIN_CMD_OP, 1)], by decide +kernel⟩,
  ⟨0, run.sets .METER_WIN_CMD 0 [(fMETER_WIN_CMD_BUSY, 1), (fMETER_WIN_CMD_OP, 2)], by decide +kernel⟩,
  ⟨0, run.sets .METER_WIN_CMD 0 [(fMETER_WIN_CMD_BUSY, 1), (fMETER_WIN_CMD_OP, 3)], by decide +kernel⟩,
  ⟨1, 0, [0, 0, 0, 0], (run.fset .STATS_WIN_ADDR 0 fSTATS_WIN_ADDR_GROUP 1).sets .STATS_WIN_CMD 0
    [(fSTATS_WIN_CMD_BUSY, 1)], by decide +kernel⟩,
  ⟨1, 0, [0, 0, 0, 0], (run.fset .STATS_WIN_ADDR 0 fSTATS_WIN_ADDR_GROUP 1).sets .STATS_WIN_CMD 0
    [(fSTATS_WIN_CMD_BUSY, 1), (fSTATS_WIN_CMD_OP, 1)], by decide +kernel⟩,
  ⟨3, 0, (run.fset .STATS_WIN_ADDR 0 fSTATS_WIN_ADDR_GROUP 3).sets .STATS_WIN_CMD 0 [(fSTATS_WIN_CMD_BUSY, 1),
    (fSTATS_WIN_CMD_OP, 1)], by decide +kernel⟩⟩

theorem test_QueueWatchRounds :
    (∃ (v : Word) (s : State), s.serves .QW_CFG 0 = true ∧ s.fbit .QW_CFG 0 fQW_CFG_EN = false ∧ fQW_CFG_EN.get v
      = 1 ∧ s.encBad .QW_CFG 0 v = []) ∧
    (∃ (s : State), s.bootU.asserted = false ∧ s.fbit .QW_CFG 0 fQW_CFG_EN = true) ∧
    (∃ (a : Resp) (s : State), s.goodResp a .qwWrite = true) :=
  ⟨⟨(fQW_CFG_EN.at 1) ||| (fQW_CFG_PERIOD.at 100) ||| fQW_CFG_LOG2.at 16, run, by decide +kernel⟩,
  ⟨run.sets .QW_CFG 0 [(fQW_CFG_EN, 1), (fQW_CFG_PERIOD, 100), (fQW_CFG_LOG2, 16)], by decide +kernel⟩,
  ⟨answer 0, { waits .qw .qwWrite true 4 run with qwOut := 1 }, by decide +kernel⟩⟩

theorem test_AdminQueuesAndCommands :
    (∃ (v : Word) (s : State), s.serves .ADMIN_CFG 0 = true ∧ s.encBad .ADMIN_CFG 0 v = [] ∧ s.adminEn = false ∧
      fADMIN_CFG_EN.get v = 1) ∧
    (∃ (v : Word) (s : State), s.serves .ADMIN_CFG 0 = true ∧ s.encBad .ADMIN_CFG 0 v = [] ∧ s.adminEn = true ∧
      fADMIN_CFG_EN.get v = 0) ∧
    (∃ (s : State), s.serves .ADMIN_ASQ_PROD 0 = true) ∧
    (∃ (s : State), s.serves .ADMIN_ACQ_CONS 0 = true) ∧
    (∃ (a : Resp) (first : Nat) (n : Nat) (s : State), s.goodResp a (.asqRead first n) = true ∧ n ≠ 0) ∧
    (∃ (s : State), s.bootU.asserted = false) ∧
    (∃ (c : AdminCompl) (rest : List AdminCompl) (s : State), s.bootU.asserted = false ∧ s.failed = false ∧
      s.adminDue = c :: rest ∧ s.adminEn = true ∧ s.boot ≠ bQUIESCE ∧ s.acqRoom ≠ 0 ∧ c.slot.any s.lopWriting =
      true) ∧
    (∃ (c : AdminCompl) (rest : List AdminCompl) (s : State), s.bootU.asserted = false ∧ s.failed = false ∧
      s.adminDue = c :: rest ∧ s.adminEn = true ∧ s.boot ≠ bQUIESCE ∧ s.acqRoom ≠ 0 ∧ c.slot.any s.lopWriting =
      false) ∧
    (∃ (a : Resp) (n : Nat) (s : State), s.goodResp a (.acqWrite none n) = true) ∧
    (∃ (a : Resp) (n : Nat) (slot : Nat) (k : Fin 16) (y : Lop) (s : State), s.goodResp a (.acqWrite (some (16 *
      slot + k)) n) = true ∧ s.lops.find? k = some y ∧ y.seq = slot ∧ s.lopState k = kDONE) ∧
    (∃ (a : Resp) (x : AdminCur) (s : State), s.goodResp a (.operandWrite none) = true ∧ s.adminCur = some x ∧
      x.phase = 5) ∧
    (∃ (a : Resp) (n : Nat) (slot : Nat) (k : Fin 16) (y : Lop) (s : State), s.goodResp a (.operandRead (some (16
      * slot + k)) n) = true ∧ s.lops.find? k = some y ∧ y.seq = slot ∧ y.stop = none) ∧
    (∃ (a : Resp) (n : Nat) (slot : Nat) (k : Fin 16) (y : Lop) (s : State), s.goodResp a (.operandWrite (some (16
      * slot + k))) = true ∧ s.lops.find? k = some y ∧ y.seq = slot ∧ y.stop = some n ∧ y.left = 1 ∧ y.reading =
      false ∧ y.failed = false ∧ (cb y.bytes 0 1 ≠ oDUMP ∨ y.header = true) ∧ s.lopState k ≠ kDONE ∧ s.lopState k
      ≠ kSUSPENDED) :=
  ⟨⟨(fADMIN_CFG_EN.at 1) ||| (fADMIN_CFG_ASQ_LOG2.at 6) ||| fADMIN_CFG_ACQ_LOG2.at 12, run, by decide +kernel⟩,
  ⟨(fADMIN_CFG_ASQ_LOG2.at 6) ||| fADMIN_CFG_ACQ_LOG2.at 6, adminOn, by decide +kernel⟩,
  ⟨adminOn, by decide +kernel⟩,
  ⟨run, by decide +kernel⟩,
  ⟨answer 64, 0, 1, waits .admin (.asqRead 0 1) false 64 adminOn, by decide +kernel⟩,
  ⟨run.fset .ADMIN_STAT 0 fADMIN_STAT_FENCE_WAIT 1, by decide +kernel⟩,
  ⟨{ acompl0 with slot := some 2 }, [],
    { waits .admin (.operandWrite (some 2)) true 4 adminOn with adminDue := [{ acompl0 with slot := some 2 }] },
    by decide +kernel⟩,
  ⟨acompl0, [], { adminOn with adminDue := [acompl0] }, by decide +kernel⟩,
  ⟨answer 0, 0, waits .admin (.acqWrite none 0) true 32 adminOn, by decide +kernel⟩,
  ⟨answer 0, 0, 0, 2, lop0, waits .admin (.acqWrite (some 2) 0) true 32 (lopping kDONE lop0 adminOn),
    by decide +kernel⟩,
  ⟨answer 0, acur0, waits .admin (.operandWrite none) true 64 { adminOn with adminCur := some acur0 },
    by decide +kernel⟩,
  ⟨answer 64, 0, 0, 2, lop0, waits .admin (.operandRead (some 2) 0) false 64 (lopping kRUNNING lop0 adminOn),
    by decide +kernel⟩,
  ⟨answer 0, 0, 0, 2, { lop0 with stop := some 0, left := 1 }, waits .admin (.operandWrite (some 2)) true 4 (lopping
    kRUNNING { lop0 with stop := some 0, left := 1 } adminOn), by decide +kernel⟩⟩

theorem test_LongOperationsAndSlots :
    (∃ (k : Fin 16) (x : Lop) (s : State), s.bootU.asserted = false ∧ s.lops.find? k = some x ∧ x.stop = none ∧
      s.lopDone k < s.lopTotal k ∧ (s.lopState k = kRUNNING ∨ s.lopState k = kSUSPENDING ∨ s.lopState k =
      kCANCELLING) ∧ (cb x.bytes 0 1 = oEYE ∨ cb x.bytes 0 1 = oSCRUB)) ∧
    (∃ (k : Fin 16) (x : Lop) (s : State), s.bootU.asserted = false ∧ s.lops.find? k = some x ∧ x.stop = none ∧
      s.lopDone k < s.lopTotal k ∧ (s.lopState k = kRUNNING ∨ s.lopState k = kSUSPENDING ∨ s.lopState k =
      kCANCELLING) ∧ cb x.bytes 0 1 = oEYE) ∧
    (∃ (k : Fin 16) (e : Ecc) (x : Lop) (s : State), s.bootU.asserted = false ∧ s.lops.find? k = some x ∧ x.stop =
      none ∧ s.lopDone k < s.lopTotal k ∧ (s.lopState k = kRUNNING ∨ s.lopState k = kSUSPENDING ∨ s.lopState k =
      kCANCELLING) ∧ cb x.bytes 0 1 = oSCRUB ∧ x.cursor < cellWords ∧ e = .corrected) ∧
    (∃ (k : Fin 16) (e : Ecc) (x : Lop) (s : State), s.bootU.asserted = false ∧ s.lops.find? k = some x ∧ x.stop =
      none ∧ s.lopDone k < s.lopTotal k ∧ (s.lopState k = kRUNNING ∨ s.lopState k = kSUSPENDING ∨ s.lopState k =
      kCANCELLING) ∧ cb x.bytes 0 1 = oSCRUB ∧ x.cursor < cellWords ∧ e ≠ .clean ∧ e ≠ .corrected ∧ e ≠ .bus) ∧
    (∃ (k : Fin 16) (x : Lop) (s : State), s.bootU.asserted = false ∧ s.lops.find? k = some x ∧ x.stop = none ∧
      s.lopDone k < s.lopTotal k ∧ (s.lopState k = kRUNNING ∨ s.lopState k = kSUSPENDING ∨ s.lopState k =
      kCANCELLING) ∧ cb x.bytes 0 1 = oBULK ∧ x.got ≠ []) ∧
    (∃ (k : Fin 16) (x : Lop) (s : State), s.bootU.asserted = false ∧ s.lops.find? k = some x ∧ x.stop = none ∧
      s.lopDone k < s.lopTotal k ∧ (s.lopState k = kRUNNING ∨ s.lopState k = kSUSPENDING ∨ s.lopState k =
      kCANCELLING) ∧ cb x.bytes 0 1 = oREHASH ∧ s.lopOver k x = false) ∧
    (∃ (k : Fin 16) (x : Lop) (s : State), s.bootU.asserted = false ∧ s.lops.find? k = some x ∧ x.stop = none ∧
      s.lopDone k < s.lopTotal k ∧ (s.lopState k = kRUNNING ∨ s.lopState k = kSUSPENDING ∨ s.lopState k =
      kCANCELLING) ∧ cb x.bytes 0 1 = oDUMP ∧ s.rests (statDom (dumpAt x.cursor).1 (dumpAt x.cursor).2.1) = false
      ∧ s.lopState k = kCANCELLING ∧ x.header = false ∧ x.failed = false) ∧
    (∃ (k : Fin 16) (x : Lop) (s : State), s.bootU.asserted = false ∧ s.lops.find? k = some x ∧ x.stop = none ∧
      s.lopDone k < s.lopTotal k ∧ (s.lopState k = kRUNNING ∨ s.lopState k = kSUSPENDING ∨ s.lopState k =
      kCANCELLING) ∧ cb x.bytes 0 1 = oDUMP ∧ s.rests (statDom (dumpAt x.cursor).1 (dumpAt x.cursor).2.1) = false
      ∧ s.lopState k ≠ kCANCELLING) ∧
    (∃ (k : Fin 16) (x : Lop) (s : State), s.serves .ADMIN_LOP_CTRL k = true ∧ s.lops.find? k = some x ∧
      s.lopState k ≠ kFREE ∧ s.lopState k ≠ kDONE) ∧
    (∃ (k : Fin 16) (s : State), s.serves .ADMIN_LOP_CTRL k = true ∧ (s.lopState k = kFREE ∨ s.lopState k =
      kDONE)) ∧
    (∃ (k : Fin 16) (s : State), s.serves .ADMIN_LOP_CTRL k = true) :=
  ⟨⟨2, lop0, lopping kSUSPENDING lop0 adminOn, by decide +kernel⟩,
  ⟨2, { lop0 with bytes := bytesAt 64 [(0, 0x60)] }, lopping kRUNNING { lop0 with bytes := bytesAt 64 [(0, 0x60)] }
    adminOn, by decide +kernel⟩,
  ⟨2, .corrected, lop0, lopping kRUNNING lop0 adminOn, by decide +kernel⟩,
  ⟨2, .uncorrectable 0, lop0, lopping kRUNNING lop0 adminOn, by decide +kernel⟩,
  ⟨2, { bytes := bytesAt 64 [(0, 0x12)], got := ent.record }, lopping kRUNNING
    { bytes := bytesAt 64 [(0, 0x12)], got := ent.record } (opened tab0), by decide +kernel⟩,
  ⟨2, { bytes := bytesAt 64 [(0, 0x13)], cursor := entAt }, lopping kRUNNING
    { bytes := bytesAt 64 [(0, 0x13)], cursor := entAt } (opened (tab0.setEntry 0 entAt
    { ent with firstV := false, old := true })), by decide +kernel⟩,
  ⟨2, { bytes := bytesAt 64 [(0, 0x51)], cursor := 16 }, lopping kCANCELLING
    { bytes := bytesAt 64 [(0, 0x51)], cursor := 16 } adminOn, by decide +kernel⟩,
  ⟨2, { bytes := bytesAt 64 [(0, 0x51)], cursor := 16 }, lopping kRUNNING
    { bytes := bytesAt 64 [(0, 0x51)], cursor := 16 } adminOn, by decide +kernel⟩,
  ⟨2, lop0, lopping kRUNNING lop0 adminOn, by decide +kernel⟩,
  ⟨2, run, by decide +kernel⟩,
  ⟨2, lopping kDONE lop0 adminOn, by decide +kernel⟩⟩

theorem test_BadOperandsRefused :
    (∃ (c : List Byte) (s : State) (e : _), s.takes c = true ∧ e ∈ adminSet ∧ cb c 0 1 = e.2 ∧ 2 ≤ cb c 1 1) ∧
    (∃ (c : List Byte) (s : State) (e : _), s.takes c = true ∧ e ∈ adminSet ∧ cb c 0 1 ≠ e.2) :=
  ⟨⟨bytesAt 64 [(0, 0x60), (1, 2)], front run (bytesAt 64 [(0, 0x60), (1, 2)]), (.eyeScan, 0x60),
    by decide +kernel⟩,
  ⟨bytesAt 64 [(0, 0x61)], front run (bytesAt 64 [(0, 0x61)]), (.eyeScan, 0x60), by decide +kernel⟩⟩

theorem test_RingAndSchedulerCommands :
    (∃ (c : List Byte) (s : State), s.takes c = true ∧ s.dom dHOSTIF ≠ 3 ∧ s.ready dHOSTIF = true ∧ cb c 0 1 =
      0x00 ∧ onlyNamed c [] = true) ∧
    (∃ (c : List Byte) (s : State), s.takes c = true ∧ s.dom dHOSTIF ≠ 3 ∧ s.ready dHOSTIF = true ∧ onlyNamed c
      [(8, 2), (16, 32)] = true ∧ cb c 8 2 < 2 ^ 14 ∧ ctxBad (ctxAt c) false = false ∧ cb c 0 1 = 0x01) ∧
    (∃ (c : List Byte) (s : State), s.takes c = true ∧ s.dom dHOSTIF ≠ 3 ∧ s.ready dHOSTIF = true ∧ onlyNamed c
      [(8, 2), (16, 32)] = true ∧ cb c 8 2 < 2 ^ 14 ∧ ctxBad (ctxAt c) false = false ∧ cb c 0 1 = 0x03) ∧
    (∃ (c : List Byte) (s : State), s.takes c = true ∧ s.dom dHOSTIF ≠ 3 ∧ s.ready dHOSTIF = true ∧ cb c 0 1 =
      0x05 ∧ onlyNamed c [(8, 2), (16, 32)] = true ∧ cb c 8 2 < 2 ^ 12 ∧ ctxBad (ctxAt c) true = false) ∧
    (∃ (c : List Byte) (s : State), s.takes c = true ∧ s.dom dHOSTIF ≠ 3 ∧ s.ready dHOSTIF = true ∧ onlyNamed c
      [(8, 2)] = true ∧ cb c 8 2 < 2 ^ 14 ∧ cb c 0 1 = 0x02) ∧
    (∃ (c : List Byte) (s : State), s.takes c = true ∧ s.dom dHOSTIF ≠ 3 ∧ s.ready dHOSTIF = true ∧ onlyNamed c
      [(8, 2)] = true ∧ cb c 8 2 < 2 ^ 14 ∧ cb c 0 1 = 0x04) ∧
    (∃ (c : List Byte) (s : State), s.takes c = true ∧ s.dom dHOSTIF ≠ 3 ∧ s.ready dHOSTIF = true ∧ onlyNamed c
      [(8, 2)] = true ∧ cb c 8 2 < 2 ^ 14 ∧ cb c 0 1 = 0x06 ∧ cb c 8 2 < 2 ^ 12) ∧
    (∃ (c : List Byte) (s : State), s.takes c = true ∧ s.dom dSCHED ≠ 3 ∧ s.ready dSCHED = true ∧ cb c 8 1 < 3 ∧
      cb c 12 4 < levelSize (cb c 8 1) ∧ cb c 0 1 = 0x20 ∧ onlyNamed c [(8, 1), (12, 4), (16, 24)] = true) ∧
    (∃ (c : List Byte) (s : State), s.takes c = true ∧ s.dom dSCHED ≠ 3 ∧ s.ready dSCHED = true ∧ cb c 8 1 < 3 ∧
      cb c 12 4 < levelSize (cb c 8 1) ∧ cb c 0 1 = 0x21 ∧ onlyNamed c [(8, 1), (12, 4)] = true) ∧
    (∃ (c : List Byte) (n : Node) (s : State), s.takes c = true ∧ s.dom dSCHED ≠ 3 ∧ s.ready dSCHED = true ∧ cb c
      8 1 < 3 ∧ cb c 12 4 < levelSize (cb c 8 1) ∧ cb c 0 1 = 0x22 ∧ onlyNamed c [(8, 1), (12, 4), (16, 24)] =
      true ∧ recBad (cb c 8 1) (cmdWords c).1 (cmdWords c).2.1 (cmdWords c).2.2 = false ∧ s.node? (cb c 8 1) (cb c
      12 4) = some n) ∧
    (∃ (c : List Byte) (s : State), s.takes c = true ∧ s.dom dSCHED ≠ 3 ∧ s.ready dSCHED = true ∧ cb c 0 1 = 0x23
      ∧ onlyNamed c [(8, 1), (12, 4), (16, 24)] = true ∧ cb c 8 1 < 2 ∧ cb c 12 4 < 2 ^ 18) :=
  ⟨⟨bytesAt 64 [], front run (bytesAt 64 []), by decide +kernel⟩,
  ⟨bytesAt 64 [(0, 1), (8, 0xFF), (9, 0x3F), (32, 6)], front (run.setCq 0 cq0) (bytesAt 64 [(0, 1), (8, 0xFF), (9,
    0x3F), (32, 6)]), by decide +kernel⟩,
  ⟨bytesAt 64 [(0, 3), (32, 6)], front (run.setCq 0 cq0) (bytesAt 64 [(0, 3), (32, 6)]), by decide +kernel⟩,
  ⟨bytesAt 64 [(0, 5), (32, 20)], front run (bytesAt 64 [(0, 5), (32, 20)]), by decide +kernel⟩,
  ⟨bytesAt 64 [(0, 2)], front (ringed txr0 rxr0 cq0) (bytesAt 64 [(0, 2)]), by decide +kernel⟩,
  ⟨bytesAt 64 [(0, 4)], front (ringed txr0 rxr0 cq0) (bytesAt 64 [(0, 4)]), by decide +kernel⟩,
  ⟨bytesAt 64 [(0, 6)], front (ringed txr0 rxr0 cq0) (bytesAt 64 [(0, 6)]), by decide +kernel⟩,
  ⟨bytesAt 64 [(0, 0x20), (8, 2), (18, 2)], front run (bytesAt 64 [(0, 0x20), (8, 2), (18, 2)]), by decide +kernel⟩,
  ⟨bytesAt 64 [(0, 0x21)], front (run.setLeaf 0 node1) (bytesAt 64 [(0, 0x21)]), by decide +kernel⟩,
  ⟨bytesAt 64 [(0, 0x22), (18, 2), (24, 64)], node1, front (run.setLeaf 0 node1) (bytesAt 64 [(0, 0x22), (18, 2),
    (24, 64)]), by decide +kernel⟩,
  ⟨bytesAt 64 [(0, 0x23), (8, 1)], front run (bytesAt 64 [(0, 0x23), (8, 1)]), by decide +kernel⟩⟩

theorem test_TableAndBlockCommands :
    (∃ (c : List Byte) (s : State), s.takes c = true ∧ s.dom dTABLE ≠ 3 ∧ s.ready dTABLE = true ∧ s.fbit
      .TABLE_WIN_CMD 0 fTABLE_WIN_CMD_BUSY = false ∧ cb c 0 1 = 0x10 ∧ onlyNamed c [(8, 1), (9, 1), (12, 4), (16,
      8)] = true ∧ cb c 8 1 < 32 ∧ cb c 8 1 % 16 ≤ 4 ∧ cb c 9 1 < 4 ∧ cb c 12 4 < 2 ^ 19 ∧ cb c 16 8 % 64 = 0) ∧
    (∃ (c : List Byte) (s : State), s.takes c = true ∧ s.dom dTABLE ≠ 3 ∧ s.ready dTABLE = true ∧ s.fbit
      .TABLE_WIN_CMD 0 fTABLE_WIN_CMD_BUSY = false ∧ cb c 0 1 = 0x11 ∧ onlyNamed c [(8, 1)] = true ∧ cb c 8 1 = 0)
      ∧
    (∃ (c : List Byte) (s : State), s.takes c = true ∧ s.dom dTABLE ≠ 3 ∧ s.ready dTABLE = true ∧ s.fbit
      .TABLE_WIN_CMD 0 fTABLE_WIN_CMD_BUSY = false ∧ cb c 0 1 = 0x11 ∧ onlyNamed c [(8, 1)] = true ∧ (cb c 8 1 = 1
      ∨ cb c 8 1 = 2)) ∧
    (∃ (a : Resp) (n : Nat) (x : AdminCur) (s : State), s.goodResp a (.operandRead none n) = true ∧ s.adminCur =
      some x ∧ x.phase = 4) ∧
    (∃ (c : List Byte) (id : RegId) (i : Nat) (s : State), s.takes c = true ∧ cb c 0 1 = 0x30 ∧ onlyNamed c [(8,
      1), (16, 5), (24, 8)] = true ∧ cb c 8 1 = 1 ∧ i < id.count ∧ cb c 16 4 = addrOf id i ∧ cb c 20 1 = (if
      id.desc.width = 64 then 1 else 0) ∧ regWriteBad (regWriteAt c 0) = false ∧ id ≠ .GEN_RESET ∧ s.dom
      (regDomain (addrOf id i)) ≠ 3 ∧ s.ready (regDomain (addrOf id i)) = true ∧ s.rethatching = false) ∧
    (∃ (c : List Byte) (s : State), s.takes c = true ∧ cb c 0 1 = 0x40 ∧ onlyNamed c [(8, 1), (9, 1), (12, 4)] =
      true ∧ cb c 9 1 ≤ 3 ∧ s.powerLater c = aOK ∧ cb c 8 1 = 0 ∧ cb c 12 4 = 0 ∧ s.opp ≠ cb c 9 1 ∧
      s.power.change = none) ∧
    (∃ (c : List Byte) (s : State), s.takes c = true ∧ cb c 0 1 = 0x40 ∧ onlyNamed c [(8, 1), (9, 1), (12, 4)] =
      true ∧ cb c 9 1 ≤ 3 ∧ s.powerLater c = aOK ∧ cb c 8 1 = 1 ∧ cb c 12 4 ≠ 0 ∧ cb c 12 4 % 4 = 0 ∧ cb c 12 4 <
      2 ^ 14 ∧ (List.range 15).all (fun x => !bitOf (cb c 12 4) x || (s.dom x != 3 && s.ready x)) = true ∧ s.opp ≠
      cb c 9 1) ∧
    (∃ (c : List Byte) (s : State), s.takes c = true ∧ cb c 0 1 = 0x40 ∧ onlyNamed c [(8, 1), (9, 1), (12, 4)] =
      true ∧ cb c 9 1 ≤ 3 ∧ s.powerLater c = aOK ∧ cb c 8 1 = 2 ∧ cb c 12 4 = 0) ∧
    (∃ (c : List Byte) (k : Fin 16) (s : State), s.takes c = true ∧ cb c 0 1 = 0x41 ∧ onlyNamed c [(12, 2)] = true
      ∧ bitOf (cb c 12 2) k = true ∧ (List.range 16).all (fun n => !bitOf (cb c 12 2) n || (s.dom (dQUAD (n / 4))
      != 3 && s.ready (dQUAD (n / 4)) && (s.laneOwner n).isSome && s.laneState n != lOFF && s.laneState n !=
      lPLL)) = true ∧ s.laneEn k = true) ∧
    (∃ (c : List Byte) (s : State), s.takes c = true ∧ cb c 0 1 = 0x50 ∧ onlyNamed c [(8, 1), (9, 1), (10, 2),
      (12, 4), (16, 8)] = true ∧ cb c 8 1 ≤ 6 ∧ cb c 9 1 ≤ 1 ∧ 1 ≤ cb c 10 2 ∧ cb c 10 2 ≤ 4096 ∧ cb c 12 4 + cb c
      10 2 ≤ statCount (cb c 8 1) ∧ cb c 16 8 % 64 = 0 ∧ (snapObjs c).all (fun x => s.dom (statDom (cb c 8 1) x)
      != 3 && s.ready (statDom (cb c 8 1) x)) = true) :=
  ⟨⟨bytesAt 64 [(0, 0x10), (8, 0x14)], front tab0 (bytesAt 64 [(0, 0x10), (8, 0x14)]), by decide +kernel⟩,
  ⟨bytesAt 64 [(0, 0x11)], front tab0 (bytesAt 64 [(0, 0x11)]), by decide +kernel⟩,
  ⟨bytesAt 64 [(0, 0x11), (8, 2)], front (genAt gOPEN) (bytesAt 64 [(0, 0x11), (8, 2)]), by decide +kernel⟩,
  ⟨answer 64, 0, { acur0 with phase := 4, bytes := bytesAt 64 [(0, 0x10)] }, waits .admin (.operandRead none 0)
    false 64 { adminOn with adminCur := some { acur0 with phase := 4, bytes := bytesAt 64 [(0, 0x10)] } },
    by decide +kernel⟩,
  ⟨regCmd, .TIME_ADDEND, 0, front run regCmd, by decide +kernel⟩,
  ⟨bytesAt 64 [(0, 0x40), (9, 3)], front run (bytesAt 64 [(0, 0x40), (9, 3)]), by decide +kernel⟩,
  ⟨bytesAt 64 [(0, 0x40), (8, 1), (9, 3), (12, 4)], front run (bytesAt 64 [(0, 0x40), (8, 1), (9, 3), (12, 4)]),
    by decide +kernel⟩,
  ⟨bytesAt 64 [(0, 0x40), (8, 2), (9, 3)], front run (bytesAt 64 [(0, 0x40), (8, 2), (9, 3)]), by decide +kernel⟩,
  ⟨bytesAt 64 [(0, 0x41), (12, 1)], 0, front up (bytesAt 64 [(0, 0x41), (12, 1)]), by decide +kernel⟩,
  ⟨bytesAt 64 [(0, 0x50), (8, 1), (10, 1)], front run (bytesAt 64 [(0, 0x50), (8, 1), (10, 1)]), by decide +kernel⟩⟩

theorem test_LongOperationCommands :
    (∃ (c : List Byte) (k : Nat) (s : State), s.takes c = true ∧ s.tagInUse c = false ∧ s.freeSlot = some k ∧ cb c
      0 1 = 0x12 ∧ onlyNamed c [(16, 8), (24, 4)] = true ∧ cb c 16 8 % 64 = 0 ∧ 1 ≤ cb c 24 4 ∧ cb c 24 4 ≤
      16777216 ∧ s.dom dTABLE ≠ 3 ∧ s.ready dTABLE = true ∧ s.lopsOf oBULK = [] ∧ s.genState ≤ 1) ∧
    (∃ (c : List Byte) (k : Nat) (s : State), s.takes c = true ∧ s.tagInUse c = false ∧ s.freeSlot = some k ∧ cb c
      0 1 = 0x13 ∧ onlyNamed c [(9, 1), (16, 8)] = true ∧ cb c 9 1 < 4 ∧ s.dom dTABLE ≠ 3 ∧ s.ready dTABLE = true
      ∧ s.lopsOf oREHASH = [] ∧ s.rehashBad (cb c 9 1) (BitVec.ofNat 64 (cb c 16 8)) = false) ∧
    (∃ (c : List Byte) (k : Nat) (s : State), s.takes c = true ∧ s.tagInUse c = false ∧ s.freeSlot = some k ∧ cb c
      0 1 = 0x13 ∧ onlyNamed c [(9, 1), (16, 8)] = true ∧ cb c 9 1 < 4 ∧ s.dom dTABLE ≠ 3 ∧ s.ready dTABLE = true
      ∧ s.lopsOf oREHASH = [] ∧ s.rehashBad (cb c 9 1) (BitVec.ofNat 64 (cb c 16 8)) = true) ∧
    (∃ (c : List Byte) (k : Nat) (s : State), s.takes c = true ∧ s.tagInUse c = false ∧ s.freeSlot = some k ∧ cb c
      0 1 = 0x51 ∧ onlyNamed c [(9, 1), (16, 8), (24, 8)] = true ∧ cb c 9 1 ≤ 1 ∧ cb c 16 8 % 4096 = 0 ∧ dumpSize
      ≤ cb c 24 8 ∧ s.lopsOf oDUMP = []) ∧
    (∃ (c : List Byte) (k : Nat) (s : State), s.takes c = true ∧ s.tagInUse c = false ∧ s.freeSlot = some k ∧ cb c
      0 1 = 0x60 ∧ onlyNamed c [(8, 9), (24, 8)] = true ∧ s.eyeBad c = false ∧ s.dom (dQUAD (cb c 8 1 / 4)) ≠ 3 ∧
      s.ready (dQUAD (cb c 8 1 / 4)) = true ∧ s.lopsOf oEYE = [] ∧ s.laneState (cb c 8 1) = lDATA) ∧
    (∃ (c : List Byte) (k : Nat) (s : State), s.takes c = true ∧ s.tagInUse c = false ∧ s.freeSlot = some k ∧ cb c
      0 1 = 0x61 ∧ onlyNamed c [] = true ∧ s.dom dLOFT ≠ 3 ∧ s.ready dLOFT = true ∧ s.lopsOf oSCRUB = []) ∧
    (∃ (c : List Byte) (s : State), s.takes c = true ∧ cb c 0 1 = 0x61 ∧ onlyNamed c [] = true ∧ s.tagInUse c =
      true) ∧
    (∃ (c : List Byte) (s : State), s.takes c = true ∧ cb c 0 1 = 0x61 ∧ onlyNamed c [] = true ∧ s.tagInUse c =
      false ∧ s.freeSlot = none) ∧
    (∃ (c : List Byte) (s : State), s.takes c = true ∧ onlyNamed c [(8, 2)] = true ∧ s.lopNamed c = none ∧ cb c 0
      1 = 0x70) ∧
    (∃ (c : List Byte) (s : State), s.takes c = true ∧ onlyNamed c [(8, 2)] = true ∧ s.lopNamed c = none ∧ cb c 0
      1 = 0x71) ∧
    (∃ (c : List Byte) (s : State), s.takes c = true ∧ onlyNamed c [(8, 2)] = true ∧ s.lopNamed c = none ∧ cb c 0
      1 = 0x72) ∧
    (∃ (c : List Byte) (k : Nat) (x : Lop) (s : State), s.takes c = true ∧ onlyNamed c [(8, 2)] = true ∧
      s.lopNamed c = some k ∧ s.lops.find? k = some x ∧ cb c 0 1 = 0x70) ∧
    (∃ (c : List Byte) (k : Nat) (x : Lop) (s : State), s.takes c = true ∧ onlyNamed c [(8, 2)] = true ∧
      s.lopNamed c = some k ∧ s.lops.find? k = some x ∧ cb c 0 1 = 0x71) ∧
    (∃ (c : List Byte) (k : Nat) (x : Lop) (s : State), s.takes c = true ∧ onlyNamed c [(8, 2)] = true ∧
      s.lopNamed c = some k ∧ s.lops.find? k = some x ∧ cb c 0 1 = 0x72) :=
  ⟨⟨bytesAt 64 [(0, 0x12), (24, 1)], 0, front tab0 (bytesAt 64 [(0, 0x12), (24, 1)]), by decide +kernel⟩,
  ⟨bytesAt 64 [(0, 0x13)], 0, front run (bytesAt 64 [(0, 0x13)]), by decide +kernel⟩,
  ⟨bytesAt 64 [(0, 0x13)], 0, (front run (bytesAt 64 [(0, 0x13)])).setGen gOPEN 0 1, by decide +kernel⟩,
  ⟨bytesAt 64 [(0, 0x51), (24, 0x80), (25, 0x22), (26, 0x88)], 0, front run (bytesAt 64 [(0, 0x51), (24, 0x80), (25,
    0x22), (26, 0x88)]), by decide +kernel⟩,
  ⟨bytesAt 64 [(0, 0x60), (12, 1), (15, 1), (16, 12)], 0, front (lane0 lDATA) (bytesAt 64 [(0, 0x60), (12, 1), (15,
    1), (16, 12)]), by decide +kernel⟩,
  ⟨bytesAt 64 [(0, 0x61)], 0, front run (bytesAt 64 [(0, 0x61)]), by decide +kernel⟩,
  ⟨bytesAt 64 [(0, 0x61)], front (lopping kRUNNING lop0 run) (bytesAt 64 [(0, 0x61)]), by decide +kernel⟩,
  ⟨bytesAt 64 [(0, 0x61)], (List.range 16).foldl (fun s k => s.setLopState k kDONE) (front run (bytesAt 64 [(0,
    0x61)])), by decide +kernel⟩,
  ⟨bytesAt 64 [(0, 0x70)], front run (bytesAt 64 [(0, 0x70)]), by decide +kernel⟩,
  ⟨bytesAt 64 [(0, 0x71)], front run (bytesAt 64 [(0, 0x71)]), by decide +kernel⟩,
  ⟨bytesAt 64 [(0, 0x72)], front run (bytesAt 64 [(0, 0x72)]), by decide +kernel⟩,
  ⟨bytesAt 64 [(0, 0x70)], 2, lop0, front (lopping kRUNNING lop0 run) (bytesAt 64 [(0, 0x70)]), by decide +kernel⟩,
  ⟨bytesAt 64 [(0, 0x71)], 2, lop0, front (lopping kSUSPENDED lop0 run) (bytesAt 64 [(0, 0x71)]),
    by decide +kernel⟩,
  ⟨bytesAt 64 [(0, 0x72)], 2, lop0, front (lopping kSUSPENDED lop0 run) (bytesAt 64 [(0, 0x72)]),
    by decide +kernel⟩⟩

theorem test_DoorbellsDrainAndReset :
    (∃ (r : Fin 16384) (s : State), s.serves .TXR_PROD r = true ∧ (s.txr? r = none ∨ s.failed = true ∨ s.txOn r =
      false)) ∧
    (∃ (r : Fin 16384) (x : TxRing) (s : State), s.serves .TXR_PROD r = true ∧ s.txr? r = some x ∧ s.failed =
      false ∧ s.txOn r = true) ∧
    (∃ (r : Fin 16384) (s : State), s.serves .RXR_PROD r = true ∧ (s.rxr? r = none ∨ s.failed = true ∨ s.rxOn r =
      false)) ∧
    (∃ (r : Fin 16384) (y : RxRing) (s : State), s.serves .RXR_PROD r = true ∧ s.rxr? r = some y ∧ s.failed =
      false ∧ s.rxOn r = true) ∧
    (∃ (q : Fin 4096) (s : State), s.serves .CQ_CONS q = true ∧ (s.cq? q = none ∨ s.failed = true)) ∧
    (∃ (q : Fin 4096) (s : State), s.serves .CQ_CONS q = true ∧ s.cq? q ≠ none ∧ s.failed = false) ∧
    (∃ (r : Fin 16384) (s : State), s.serves .TXR_CTRL r = true ∧ s.txr? r = none) ∧
    (∃ (r : Fin 16384) (x : TxRing) (s : State), s.serves .TXR_CTRL r = true ∧ s.txr? r = some x ∧ s.txOn r =
      true) ∧
    (∃ (r : Fin 16384) (x : TxRing) (s : State), s.serves .TXR_CTRL r = true ∧ s.txr? r = some x ∧ s.txOn r =
      false) ∧
    (∃ (r : Fin 16384) (x : TxRing) (s : State), s.bootU.asserted = false ∧ s.txr? r = some x ∧ s.txDraining r =
      true ∧ s.txCons r = x.limit) ∧
    (∃ (r : Fin 16384) (s : State), s.serves .RXR_CTRL r = true ∧ s.rxr? r = none) ∧
    (∃ (r : Fin 16384) (y : RxRing) (q : CqCtx) (s : State), s.serves .RXR_CTRL r = true ∧ s.rxr? r = some y ∧
      s.rxResetting r = false ∧ y.active = [] ∧ s.cq? y.cq = some q) ∧
    (∃ (r : Fin 16384) (y : RxRing) (s : State), s.serves .RXR_CTRL r = true ∧ s.rxr? r = some y) ∧
    (∃ (r : Fin 16384) (y : RxRing) (s : State), s.bootU.asserted = false ∧ s.rxr? r = some y) :=
  ⟨⟨16383, run, by decide +kernel⟩,
  ⟨0, txr0, ringed txr0 rxr0 cq0, by decide +kernel⟩,
  ⟨16383, run, by decide +kernel⟩,
  ⟨0, rxr0, ringed txr0 rxr0 cq0, by decide +kernel⟩,
  ⟨4095, run, by decide +kernel⟩,
  ⟨0, ringed txr0 rxr0 cq0, by decide +kernel⟩,
  ⟨0, run, by decide +kernel⟩,
  ⟨0, txr0, ringed txr0 rxr0 cq0, by decide +kernel⟩,
  ⟨0, txr0, (ringed txr0 rxr0 cq0).rset .TXR_CTRL 0 0, by decide +kernel⟩,
  ⟨0, { txr0 with lastRet := some compl0, sinceDue := true }, ((ringed
    { txr0 with lastRet := some compl0, sinceDue := true } rxr0 cq0).rset .TXR_CTRL 0 0).fset .TXR_STAT 0
    fTXR_STAT_DRAINING 1, by decide +kernel⟩,
  ⟨0, run, by decide +kernel⟩,
  ⟨0, { rxr0 with dq := [pkt0], bufs := [rxb0] }, cq0, (ringed txr0 { rxr0 with dq := [pkt0], bufs := [rxb0] }
    cq0).setFrame 0 frame0, by decide +kernel⟩,
  ⟨0, rxr0, ringed txr0 rxr0 cq0, by decide +kernel⟩,
  ⟨0, rxr0, ringed txr0 rxr0 cq0, by decide +kernel⟩⟩

theorem test_RequestsOfRafterPorts :
    (∃ (a : Nat) (n : Nat) (e : _), e ∈ cuts a n) ∧
    (∃ (a : Nat) (n : Nat) (i : _), i < (cuts a n).length) ∧
    (∃ (p : Fin 4) (t : Fin 1024) (w : Bool) (n : Nat) (o : Offer) (s : State), s.bootU.asserted = false ∧
      s.mayIssue = true ∧ s.tagFree p t = true ∧ (p = 0 → s.nextMessage = none) ∧
      ({ s with rclk := s.rftCycle p n } : State).chosenOffer p w = some o) ∧
    (∃ (p : Fin 4) (t : Fin 1024) (w : Bool) (n : Nat) (s : State), s.bootU.asserted = false ∧ s.mayIssue = true ∧
      s.tagFree p t = true ∧ (p = 0 → s.nextMessage = none) ∧ ({ s with rclk := s.rftCycle p n } :
      State).chosenOffer p w = none) ∧
    (∃ (p : Fin 4) (t : Fin 1024) (s : State), s.bootU.asserted = false ∧ s.tagUsed p t = true) ∧
    (∃ (p : Fin 4) (t : Fin 1024) (v : Fin 4) (s : State), s.bootU.asserted = false ∧ (v = 0 → s.tagUsed p t =
      false) ∧ (v = 1 → s.tagUsed p t = true) ∧ (v = 2 → ((s.outst.find? (fun e => e.port == p.val && e.tag ==
      t.val)).map (·.req.write)) = some false) ∧ s.failed = false) ∧
    (∃ (a : Resp) (i : Nat) (j : Nat) (n : Nat) (q : RafterReq) (s : State), s.asked a = some q ∧ s.badResp a
      (.txSlots i j n) = true) ∧
    (∃ (a : Resp) (i : Nat) (j : Nat) (n : Nat) (q : RafterReq) (s : State), s.asked a = some q ∧ s.badResp a
      (.rxEntries i j n) = true) ∧
    (∃ (a : Resp) (i : Nat) (j : Nat) (q : RafterReq) (s : State), s.asked a = some q ∧ s.badResp a (.rxData i j)
      = true ∧ q.write = true) ∧
    (∃ (a : Resp) (i : Nat) (q : RafterReq) (l : List (Bool × Nat)) (s : State), s.asked a = some q ∧ s.badResp a
      (.cqWrite i l) = true) ∧
    (∃ (a : Resp) (i : Nat) (b : Bool) (q : RafterReq) (s : State), s.asked a = some q ∧ s.badResp a (.shadow b i)
      = true) ∧
    (∃ (a : Resp) (i : Nat) (j : Nat) (n : Nat) (q : RafterReq) (e : TxEntry) (s : State), s.asked a = some q ∧
      s.badResp a (.txData i j n) = true ∧ q.write = false ∧ s.entryAt i j = some e) ∧
    (∃ (a : Resp) (i : Nat) (n : Nat) (q : RafterReq) (s : State), s.asked a = some q ∧ s.badResp a (.asqRead i (n
      + 1)) = true) ∧
    (∃ (a : Resp) (q : RafterReq) (s : State), s.asked a = some q ∧ s.badResp a .qwWrite = true ∧ s.qwOut = 1) ∧
    (∃ (a : Resp) (n : Nat) (k : Fin 64) (q : RafterReq) (s : State), s.asked a = some q ∧ s.badResp a (.dmaRead k
      n) = true ∧ s.chanState k = cRUNNING) :=
  ⟨⟨255, 2, (1, 1), by decide +kernel⟩,
  ⟨255, 2, 1, by decide +kernel⟩,
  ⟨0, 0, false, 0, offer0, { run with rafterQ := [req0] }, by decide +kernel⟩,
  ⟨0, 0, false, 0, run, by decide +kernel⟩,
  ⟨0, 3, waits .qw .qwWrite true 4 run, by decide +kernel⟩,
  ⟨3, 1023, 3, run, by decide +kernel⟩,
  ⟨wrong 32, 0, 0, 1, reqOf (.txr 0) (.txSlots 0 0 1) false 32, waits (.txr 0) (.txSlots 0 0 1) false 32 (ringed
    txr0 rxr0 cq0), by decide +kernel⟩,
  ⟨wrong 16, 0, 0, 1, reqOf (.rxr 0) (.rxEntries 0 0 1) false 16, waits (.rxr 0) (.rxEntries 0 0 1) false 16 (ringed
    txr0 rxr0 cq0), by decide +kernel⟩,
  ⟨wrong 0, 0, 0, reqOf (.rxr 0) (.rxData 0 0) true 16, waits (.rxr 0) (.rxData 0 0) true 16 (ringed txr0 rxr0 cq0),
    by decide +kernel⟩,
  ⟨wrong 0, 0, reqOf (.cq 0) (.cqWrite 0 []) true 32, [], waits (.cq 0) (.cqWrite 0 []) true 32 (ringed txr0 rxr0
    cq0), by decide +kernel⟩,
  ⟨wrong 0, 0, true, reqOf (.rxr 0) (.shadow true 0) true 8, waits (.rxr 0) (.shadow true 0) true 8 (ringed txr0
    rxr0 cq0), by decide +kernel⟩,
  ⟨{ answer 32 with code := 3 }, 0, 0, 0, reqOf (.txr 0) (.txData 0 0 0) false 32, txeL, (waits (.txr 0) (.txData 0
    0 0) false 32 (ringed { txr0 with entries := [txeL] } rxr0 cq0)).setFrame 7 frameL, by decide +kernel⟩,
  ⟨wrong 64, 0, 0, reqOf .admin (.asqRead 0 1) false 64, waits .admin (.asqRead 0 1) false 64 adminOn,
    by decide +kernel⟩,
  ⟨wrong 0, reqOf .qw .qwWrite true 4, { waits .qw .qwWrite true 4 run with qwOut := 1 }, by decide +kernel⟩,
  ⟨wrong 4, 0, 0, reqOf (.chan 0) (.dmaRead 0 0) false 4, waits (.chan 0) (.dmaRead 0 0) false 4 (run.fset
    .DMA_CHAN_STAT 0 fDMA_CHAN_STAT_STATE cRUNNING), by decide +kernel⟩⟩

theorem test_TransmitEntriesRun :
    (∃ (a : Resp) (r : Fin 16384) (first : Nat) (n : Nat) (i : Nat) (x : TxRing) (q : RafterReq) (s : State),
      s.txr? r = some x ∧ s.asked a = some q ∧ s.goodResp a (.txSlots r first n) = true ∧ a.data.length = 32 * n ∧
      i < n) ∧
    (∃ (a : Resp) (r : Fin 16384) (first : Nat) (n : Nat) (x : TxRing) (q : RafterReq) (s : State), s.txr? r =
      some x ∧ s.asked a = some q ∧ s.goodResp a (.txSlots r first n) = true ∧ a.data.length = 32 * n) ∧
    (∃ (a : Resp) (r : Fin 16384) (first : Nat) (n : Nat) (x : TxRing) (q : RafterReq) (s : State), s.txr? r =
      some x ∧ s.asked a = some q ∧ s.goodResp a (.txSlots r first n) = true ∧ a.data.length = 32 * n ∧ x.entries
      = [] ∧ x.slotBuf = [] ∧ s.txFetch r = first ∧ s.cqWait true r x.cq = false ∧ hdrSlots (cb a.data 0 8) = n ∧
      n ≤ idxDiff (s.txEnd r x) first) ∧
    (∃ (a : Resp) (r : Fin 16384) (first : Nat) (n : Nat) (x : TxRing) (e : TxEntry) (q : RafterReq) (s : State),
      s.txr? r = some x ∧ s.asked a = some q ∧ s.goodResp a (.txTable r first 0 n) = true ∧ x.entries = [e] ∧
      x.slotBuf = [] ∧ e.first = first ∧ e.table = [] ∧ e.stage = .table ∧ 16 * recLen e.bytes 16 = a.data.length)
      ∧
    (∃ (a : Resp) (b : Bool) (r : Fin 16384) (first : Nat) (n : Nat) (x : TxRing) (q : RafterReq) (s : State),
      s.txr? r = some x ∧ s.asked a = some q ∧ s.goodResp a (.descReread 0 r first) = true ∧ q.len = 32 * n ∧ b =
      true) ∧
    (∃ (a : Resp) (b : Bool) (r : Fin 16384) (first : Nat) (n : Nat) (x : TxRing) (q : RafterReq) (s : State),
      s.txr? r = some x ∧ s.asked a = some q ∧ s.goodResp a (.descReread 0 r first) = true ∧ q.len = 32 * n ∧ b =
      false ∧ x.entries.any (fun z => z.stage = .admission) = true) ∧
    (∃ (a : Resp) (r : Fin 16384) (first : Nat) (k : Nat) (x : TxRing) (e : TxEntry) (q : RafterReq) (f : Frame)
      (s : State), s.txr? r = some x ∧ s.goodResp a (.txData r first k) = true ∧ s.asked a = some q ∧ s.entryAt r
      first = some e ∧ s.frames.find? e.fid = some f ∧ q.write = false ∧ k + q.len ≤ f.bytes.length) ∧
    (∃ (same : Bool) (r : Fin 16384) (x : TxRing) (e : TxEntry) (s : State), s.txr? r = some x ∧ s.bootU.asserted
      = false ∧ s.failed = false ∧ x.slotBuf = [] ∧ x.entries.find? (fun z => z.stage = .admission) = some e ∧
      s.leaf? (hdrLeaf (cb e.bytes 0 8)) ≠ none ∧ (s.hostCycle same).admitHost
      { leaf := true, id := hdrLeaf (cb e.bytes 0 8) } (cellsOf e.lhost) = true) ∧
    (∃ (r : Fin 16384) (x : TxRing) (e : TxEntry) (s : State), s.txr? r = some x ∧ s.bootU.asserted = false ∧
      s.failed = false ∧ x.slotBuf = [] ∧ x.entries.find? (fun z => z.stage = .admission) = some e) ∧
    (∃ (r : Fin 16384) (x : TxRing) (c : CqCtx) (s : State), s.txr? r = some x ∧ s.bootU.asserted = false ∧ s.cq?
      x.cq = some c) :=
  ⟨⟨answer 32, 0, 0, 1, 0, txr0, reqOf (.txr 0) (.txSlots 0 0 1) false 32, waits (.txr 0) (.txSlots 0 0 1) false 32
    (ringed txr0 rxr0 cq0), by decide +kernel⟩,
  ⟨answer 32, 0, 0, 1, txr0, reqOf (.txr 0) (.txSlots 0 0 1) false 32, waits (.txr 0) (.txSlots 0 0 1) false 32
    (ringed txr0 rxr0 cq0), by decide +kernel⟩,
  ⟨{ answer 0 with data := slot0 }, 0, 0, 1, txr0, reqOf (.txr 0) (.txSlots 0 0 1) false 32, waits (.txr 0)
    (.txSlots 0 0 1) false 32 ((ringed txr0 rxr0 cq0).fset .TXR_PROD 0 fTXR_PROD_PROD 1), by decide +kernel⟩,
  ⟨{ answer 0 with data := table0 }, 0, 0, 0,
    { txr0 with entries := [{ txe0 with bytes := tableSlot, stage := .table }] },
    { txe0 with bytes := tableSlot, stage := .table }, reqOf (.txr 0) (.txTable 0 0 0 0) false 16, (waits (.txr 0)
    (.txTable 0 0 0 0) false 16 (ringed { txr0 with entries := [{ txe0 with bytes := tableSlot, stage := .table }] }
    rxr0 cq0)).setLeaf 0 node1, by decide +kernel⟩,
  ⟨answer 32, true, 0, 0, 1, txr0, reqOf (.txr 0) (.descReread 0 0 0) false 32, waits (.txr 0) (.descReread 0 0 0)
    false 32 (ringed txr0 rxr0 cq0), by decide +kernel⟩,
  ⟨answer 32, false, 0, 0, 1, { txr0 with entries := [txe0] }, reqOf (.txr 0) (.descReread 0 0 0) false 32, waits
    (.txr 0) (.descReread 0 0 0) false 32 (ringed { txr0 with entries := [txe0] } rxr0 cq0), by decide +kernel⟩,
  ⟨answer 32, 0, 0, 0, { txr0 with entries := [txeL] }, txeL, reqOf (.txr 0) (.txData 0 0 0) false 32, frameL,
    ((waits (.txr 0) (.txData 0 0 0) false 32 (ringed { txr0 with entries := [txeL] } rxr0 cq0)).setFrame 7
    frameL).setLeaf 0 node1, by decide +kernel⟩,
  ⟨false, 0, { txr0 with entries := [{ txe0 with bytes := slot0, lhost := 64, frags := [(0x1000, 64)] }] },
    { txe0 with bytes := slot0, lhost := 64, frags := [(0x1000, 64)] }, (ringed
    { txr0 with entries := [{ txe0 with bytes := slot0, lhost := 64, frags := [(0x1000, 64)] }] } rxr0 cq0).setLeaf
    0 node2, by decide +kernel⟩,
  ⟨0, { txr0 with entries := [{ txe0 with bytes := slot0, lhost := 64, frags := [(0x1000, 64)] }] },
    { txe0 with bytes := slot0, lhost := 64, frags := [(0x1000, 64)] }, (ringed
    { txr0 with entries := [{ txe0 with bytes := slot0, lhost := 64, frags := [(0x1000, 64)] }] } rxr0 cq0).setLeaf
    0 node1, by decide +kernel⟩,
  ⟨0, { txr0 with entries := [{ txe0 with stage := .retired, cqReq := true }, { txe0 with first := 1 }] }, cq0,
    ringed { txr0 with entries := [{ txe0 with stage := .retired, cqReq := true }, { txe0 with first := 1 }] } rxr0
    cq0, by decide +kernel⟩⟩

theorem test_DeliveriesAndCompletions :
    (∃ (a : Resp) (r : Fin 16384) (first : Nat) (n : Nat) (x : RxRing) (s : State), s.goodResp a (.rxEntries r
      first n) = true ∧ s.rxr? r = some x ∧ a.data.length = 16 * n ∧ x.resetting = false ∧ x.raw = [] ∧ first =
      idxAdd (s.rxCons r) x.bufs.length ∧ n ≤ 2 ^ 20) ∧
    (∃ (n : Nat) (x : RxRing) (bs : List RxBuf), takeBufs x.bufs n = some bs) ∧
    (∃ (n : Nat) (x : RxRing) (bs : List RxBuf), takeBufs x.bufs n = some bs ∧ bs ≠ []) ∧
    (∃ (r : Fin 16384) (x : RxRing) (k : Pkt) (rest : List Pkt) (s : State), s.bootU.asserted = false ∧ s.failed =
      false ∧ s.rxr? r = some x ∧ x.dq = k :: rest ∧ s.rxResetting r = false ∧ s.cqWait false r x.cq = false ∧
      takeBufs x.bufs (k.bytes ++ k.fcs).length = none) ∧
    (∃ (r : Fin 16384) (x : RxRing) (k : Pkt) (rest : List Pkt) (bs : List RxBuf) (s : State), s.bootU.asserted =
      false ∧ s.failed = false ∧ s.rxr? r = some x ∧ x.dq = k :: rest ∧ s.rxResetting r = false ∧ s.cqWait false r
      x.cq = false ∧ takeBufs x.bufs (k.bytes ++ k.fcs).length = some bs) ∧
    (∃ (a : Resp) (r : Fin 16384) (n : Nat) (x : RxRing) (d : Delivery) (c : CqCtx) (s : State), s.goodResp a
      (.rxData r n) = true ∧ s.rxr? r = some x ∧ x.active = d :: [] ∧ d.id = n ∧ s.cq? x.cq = some c ∧ x.resetting
      = false) ∧
    (∃ (q : Fin 4096) (c : CqCtx) (s : State), s.bootU.asserted = false ∧ s.failed = false ∧ s.cq? q = some c) ∧
    (∃ (q : Fin 4096) (k : Nat) (c : CqCtx) (s : State), s.bootU.asserted = false ∧ s.failed = false ∧ s.cq? q =
      some c ∧ 0 < s.cqRoom q k) ∧
    (∃ (z : Compl), z.port < 16 ∧ z.colour < 4) ∧
    (∃ (a : Resp) (q : Fin 4096) (r : Fin 16384) (c : CqCtx) (x : TxRing) (s : State), s.goodResp a (.cqWrite q
      [(true, r.val)]) = true ∧ s.cq? q = some c ∧ s.txr? r = some x) ∧
    (∃ (r : Fin 16384) (x : TxRing) (y : RxRing) (s : State), s.bootU.asserted = false ∧ s.failed = false ∧ s.txr?
      r = some x ∧ s.rxr? r = some y) ∧
    (∃ (a : Resp) (r : Fin 16384) (rx : Bool) (x : TxRing) (y : RxRing) (s : State), s.goodResp a (.shadow rx r) =
      true ∧ s.txr? r = some x ∧ s.rxr? r = some y) :=
  ⟨⟨{ answer 0 with data := leBytes 8 0x4000 ++ leBytes 8 64 }, 0, 0, 1, rxr0, waits (.rxr 0) (.rxEntries 0 0 1)
    false 16 (ringed txr0 rxr0 cq0), by decide +kernel⟩,
  ⟨65, { rxr0 with bufs := [rxb0, rxb0] }, [rxb0, rxb0], by decide +kernel⟩,
  ⟨65, { rxr0 with bufs := [rxb0, rxb0] }, [rxb0, rxb0], by decide +kernel⟩,
  ⟨0, { rxr0 with dq := [pkt0] }, pkt0, [], (ringed txr0 { rxr0 with dq := [pkt0] } cq0).setFrame 0 frame0,
    by decide +kernel⟩,
  ⟨0, { rxr0 with dq := [pkt0], bufs := [rxb0] }, pkt0, [], [rxb0], (ringed txr0
    { rxr0 with dq := [pkt0], bufs := [rxb0] } cq0).setFrame 0 frame0, by decide +kernel⟩,
  ⟨answer 0, 0, 7, { rxr0 with active := [del0] }, del0, cq0, waits (.rxr 0) (.rxData 0 7) true 2 (ringed txr0
    { rxr0 with active := [del0] } cq0), by decide +kernel⟩,
  ⟨0, { cq0 with due := [compl0] }, ringed txr0 rxr0 { cq0 with due := [compl0] }, by decide +kernel⟩,
  ⟨0, 1, { cq0 with due := [compl0] }, ringed txr0 rxr0 { cq0 with due := [compl0] }, by decide +kernel⟩,
  ⟨compl0, by decide +kernel⟩,
  ⟨answer 0, 0, 0, cq0, { txr0 with complOut := 1 }, waits (.cq 0) (.cqWrite 0 [(true, 0)]) true 32 ((ringed
    { txr0 with complOut := 1 } rxr0 cq0).rset .TXR_CTRL 0 0), by decide +kernel⟩,
  ⟨0, { txr0 with shadowEn := true, shadowDue := true }, rxr0, ringed
    { txr0 with shadowEn := true, shadowDue := true } rxr0 cq0, by decide +kernel⟩,
  ⟨answer 0, 0, true, txr0, { rxr0 with shadowOut := true }, waits (.rxr 0) (.shadow true 0) true 8 (ringed txr0
    { rxr0 with shadowOut := true } cq0), by decide +kernel⟩⟩

theorem test_FramesAndFragmentsEnter :
    (∃ (p : Fin 16) (x : RxFrame) (c : Nat) (s : State), s.bootU.asserted = false ∧ s.cleanRx p x = true ∧
      x.parity = [] ∧ x.same = false ∧ x.alloc = .clean ∧ isLpm x.bytes = false ∧ isCtl x.bytes = false ∧ s.sealEn
      = false ∧ c = (if s.sprayed p then pairCourse p + (s.mac p).nextSeq % 2 else portCourse p)) ∧
    (∃ (p : Fin 16) (x : RxFrame) (s : State), s.bootU.asserted = false ∧ s.portUp p = true ∧ x.start ≠ 0xD5 ∧
      s.preemptEn p = false ∧ s.portNear p = false) ∧
    (∃ (p : Fin 16) (s : State), s.bootU.asserted = false ∧ s.portUp p = false) ∧
    (∃ (p : Fin 16) (x : RxFrame) (s : State), s.bootU.asserted = false ∧ s.portUp p = true ∧ s.portNear p = false
      ∧ x.start = 0xD5 ∧ x.alloc = .clean ∧ s.rxHalted = false ∧ 64 ≤ x.bytes.length ∧ x.bytes.length ≤ s.maxFrame
      p ∧ isLpm x.bytes = false ∧ fcsGood x.bytes = false ∧ s.sealEn = false ∧ s.sprayed p = false ∧ s.fifoBytes
      (portCourse p) + x.bytes.length ≤ 65536 ∧ s.cellsFree (cellsOf x.bytes.length) = true) ∧
    (∃ (p : Fin 16) (i : Nat) (f : Frame) (s : State), s.bootU.asserted = false ∧ List.find? (fun (e : Nat ×
      Frame) => e.2.port == p.val && !e.2.host && !e.2.done) s.frames = some (i, f) ∧ s.frame? i = some f ∧
      s.failed = false ∧ f.stage ≠ .waitFcs) ∧
    (∃ (p : Fin 16) (i : Nat) (f : Frame) (nd : Node) (s : State), s.bootU.asserted = false ∧ List.find? (fun (e :
      Nat × Frame) => e.2.port == p.val && !e.2.host && !e.2.done) s.frames = some (i, f) ∧ s.frame? i = some f ∧
      s.failed = false ∧ f.stage = .waitFcs ∧ f.pendCopy = none ∧ f.pend ≠ none ∧ f.fate true = f.fate false ∧
      f.fate true ≠ .diag ∧ f.pendLeaf = true ∧ s.leaf? f.pendQ = some nd) ∧
    (∃ (p : Fin 16) (i : Nat) (f : Frame) (s : State), s.bootU.asserted = false ∧ List.find? (fun (e : Nat ×
      Frame) => e.2.port == p.val && !e.2.host && !e.2.done) s.frames = some (i, f) ∧ s.frame? i = some f ∧
      s.failed = false ∧ f.stage = .waitFcs ∧ f.pendCopy = none ∧ f.fate true = .free ∧ f.fate false ≠ .free ∧
      (f.pend ≠ none ∨ f.transit ≠ 0) ∧ f.refs = [f.cells]) ∧
    (∃ (p : Fin 16) (x : Fragment) (s : State), s.bootU.asserted = false ∧ s.portUp p = true ∧ s.portNear p =
      false ∧ s.preemptEn p = true ∧ x.cont = false ∧ (s.mac p).rxOpen = none ∧ x.final = false ∧ x.crcOk = true)
      ∧
    (∃ (p : Fin 16) (x : Fragment) (o : RxOpen) (s : State), s.bootU.asserted = false ∧ s.portUp p = true ∧
      s.portNear p = false ∧ s.preemptEn p = true ∧ x.cont = true ∧ (s.mac p).rxOpen = some o ∧ x.count.val =
      o.next ∧ x.frame.val = o.frame ∧ x.final = false ∧ x.crcOk = true) ∧
    (∃ (p : Fin 16) (x : Fragment) (o : RxOpen) (s : State), s.bootU.asserted = false ∧ s.portUp p = true ∧
      s.portNear p = false ∧ s.preemptEn p = true ∧ x.cont = true ∧ (s.mac p).rxOpen = some o ∧ x.count.val =
      o.next ∧ x.frame.val = o.frame ∧ x.final = true ∧ s.rxHalted = false ∧ o.bad = false ∧ o.parity = [] ∧ x.err
      = false ∧ x.fec = false ∧ x.parity = [] ∧ x.alloc = .clean ∧ 64 ≤ (o.bytes ++ x.data).length ∧ (o.bytes ++
      x.data).length ≤ o.first.cfg.max ∧ fcsGood (o.bytes ++ x.data) = true ∧ o.first.cfg.sealEn = false ∧ isLpm
      (o.bytes ++ x.data) = false ∧ isCtl (o.bytes ++ x.data) = false ∧ s.sprayed p = false ∧ s.fifoBytes
      (portCourse p) + (o.bytes ++ x.data).length ≤ 65536 ∧ s.cellsFree (cellsOf (o.bytes ++ x.data).length) =
      true) ∧
    (∃ (p : Fin 16) (x : Fragment) (s : State), s.bootU.asserted = false ∧ s.portUp p = true ∧ s.portNear p =
      false ∧ s.preemptEn p = true ∧ x.cont = true ∧ (s.mac p).rxOpen.all (fun z => z.next != x.count.val ||
      z.frame != x.frame.val) = true) :=
  ⟨⟨0, { bytes := good 60 [] }, 0, up, by decide +kernel⟩,
  ⟨0, { bytes := good 60 [], start := 0x55 }, up, by decide +kernel⟩,
  ⟨0, run, by decide +kernel⟩,
  ⟨0, { bytes := bytesAt 64 [(60, 1)] }, up, by decide +kernel⟩,
  ⟨0, 0, frame0, run.setFrame 0 frame0, by decide +kernel⟩,
  ⟨0, 0, frameW, node1, (run.setFrame 0 frameW).setLeaf 0 node1, by decide +kernel⟩,
  ⟨0, 0, { frameW with fcsBad := true }, run.setFrame 0 { frameW with fcsBad := true }, by decide +kernel⟩,
  ⟨0, { cont := false, count := 0, data := [1, 2], final := false }, preempt, by decide +kernel⟩,
  ⟨0, { cont := true, count := 3, data := [1, 2], final := false }, { bytes := [9], next := 3, frags := 1 }, macOf
    preempt fun m => { m with rxOpen := some { bytes := [9], next := 3, frags := 1 } }, by decide +kernel⟩,
  ⟨0, { cont := true, count := 3, data := (good 60 []).drop 30, final := true }, rxHalf, macOf preempt fun m =>
    { m with rxOpen := some rxHalf }, by decide +kernel⟩,
  ⟨0, { cont := true, count := 2, data := [1, 2], final := false }, macOf preempt fun m =>
    { m with rxOpen := some { bytes := [9], next := 3, frags := 1 } }, by decide +kernel⟩⟩

theorem test_PassesKeepOrder :
    (∃ (c : Fin 4) (i : Nat) (l : List Nat) (f : Frame) (s : State), s.bootU.asserted = false ∧ s.failed = false ∧
      s.boot = bRUNNING ∧ s.up (dCOURSE c) = true ∧ (s.course c).stalled = none ∧ (s.passNeeds i).all s.up = true
      ∧ s.frame? i = some f ∧ (s.course c).recirc = i :: l) ∧
    (∃ (c : Fin 4) (i : Nat) (l : List Nat) (f : Frame) (s : State), s.bootU.asserted = false ∧ s.failed = false ∧
      s.boot = bRUNNING ∧ s.up (dCOURSE c) = true ∧ (s.course c).stalled = none ∧ (s.passNeeds i).all s.up = true
      ∧ s.frame? i = some f ∧ (s.course c).recirc = [] ∧ (s.course c).fifo = i :: l) ∧
    (∃ (c : Fin 4) (i : Nat) (s : State), s.bootU.asserted = false ∧ s.failed = false ∧ s.boot = bRUNNING ∧ s.up
      (dCOURSE c) = true ∧ (s.course c).next = some i ∧ (s.passNeeds i).all s.up = false) ∧
    (∃ (c : Fin 4) (s : State), s.bootU.asserted = false ∧ s.failed = false ∧ (s.course c).next = none) ∧
    (∃ (c : Fin 4) (i : Nat) (s : State), s.bootU.asserted = false ∧ s.failed = false ∧ s.boot = bRUNNING ∧ s.up
      (dCOURSE c) = true ∧ (s.course c).stalled = some i) ∧
    (∃ (i : Nat) (f : Frame) (hi : Bool) (s : State), s.bootU.asserted = false ∧ s.failed = false ∧ s.sprayed (if
      hi then 8 else 0) = true ∧ (s.inStage (if hi then 8 else 0) (fun g => g.seq.isNone && g.course == (if hi
      then 2 else 0)) = some i ∨ (s.inStage (if hi then 8 else 0) (fun g => g.seq.isNone && g.course == (if hi
      then 2 else 0)) = none ∧ s.inStage (if hi then 8 else 0) (fun g => g.seq.isNone && g.course == (if hi then 3
      else 1)) = some i)) ∧ s.frame? i = some f ∧ f.port = (if hi then 8 else 0) ∧ f.seq = none ∧ (s.course (if hi
      then 2 else 0)).stalled ≠ some i ∧ (s.course (if hi then 3 else 1)).stalled ≠ some i) ∧
    (∃ (i : Nat) (f : Frame) (hi : Bool) (s : State), s.bootU.asserted = false ∧ s.failed = false ∧ s.sprayed (if
      hi then 8 else 0) = true ∧ s.inStage (if hi then 8 else 0) (fun g => g.seq.isNone) = none ∧ s.inStage (if hi
      then 8 else 0) (fun g => g.seq == some (s.mac (if hi then 8 else 0)).oldest) = some i ∧ s.frame? i = some f
      ∧ f.seq = some (s.mac (if hi then 8 else 0)).oldest ∧ f.port = (if hi then 8 else 0) ∧ (s.course (if hi then
      2 else 0)).stalled ≠ some i ∧ (s.course (if hi then 3 else 1)).stalled ≠ some i) ∧
    (∃ (hi : Bool) (s : State), s.bootU.asserted = false ∧ s.failed = false ∧ s.sprayed (if hi then 8 else 0) =
      true ∧ s.inStage (if hi then 8 else 0) (fun g => g.seq.isNone) = none ∧ s.inStage (if hi then 8 else 0) (fun
      g => g.seq == some (s.mac (if hi then 8 else 0)).oldest) = none ∧ (s.course (if hi then 2 else 0)).stalled =
      none ∧ (s.course (if hi then 3 else 1)).stalled = none) ∧
    (∃ (hi : Bool) (s : State), s.bootU.asserted = false ∧ s.failed = false ∧ s.sprayed (if hi then 8 else 0) =
      false) :=
  ⟨⟨0, 0, [], frame0, course0 [0] [] frame0, by decide +kernel⟩,
  ⟨0, 0, [], { frame0 with seq := some 1024 },
    { course0 [] [0] { frame0 with seq := some 1024 } with regs := spray.regs }, by decide +kernel⟩,
  ⟨0, 0, (course0 [0] [] { frame0 with bytes := good 60 [(12, 8), (13, 6)] }).fset .POWER_READY 0 fPOWER_READY_READY
    0x77FF, by decide +kernel⟩,
  ⟨0, run, by decide +kernel⟩,
  ⟨0, 0, run.setCourse 0 { run.course 0 with stalled := some 0 }, by decide +kernel⟩,
  ⟨0, { frame0 with stage := .reorder }, false, spray.setFrame 0 { frame0 with stage := .reorder },
    by decide +kernel⟩,
  ⟨0, { frame0 with seq := some 0, stage := .reorder }, false, spray.setFrame 0
    { frame0 with seq := some 0, stage := .reorder }, by decide +kernel⟩,
  ⟨false, spray.setFrame 0 { frame0 with seq := some 1, stage := .reorder }, by decide +kernel⟩,
  ⟨false, run, by decide +kernel⟩⟩

theorem test_AdmissionDecides :
    (∃ (c : Fin 4) (same : Bool) (i : Nat) (q : Nat) (l : List Nat) (f : Frame) (nd : Node) (hd : Bool) (s :
      State) (s0 : State), s.bootU.asserted = false ∧ s0 = (s.decCycle c same).leaveTransit i ∧ s.failed = false ∧
      (s.course c).dec = i :: l ∧ s.frame? i = some f ∧ f.res.mirror = none ∧ f.refs = [f.cells] ∧ f.done = true ∧
      f.fate true = .to { leaf := true, id := q } ∧ s.leaf? q = some nd ∧ s0.admission (acctOf f.port f.res.pri)
      { leaf := true, id := q } f.colour f.layout.length = .accepted hd) ∧
    (∃ (c : Fin 4) (same : Bool) (i : Nat) (q : Nat) (l : List Nat) (f : Frame) (nd : Node) (s : State) (s0 :
      State), s.bootU.asserted = false ∧ s0 = (s.decCycle c same).leaveTransit i ∧ s.failed = false ∧ (s.course
      c).dec = i :: l ∧ s.frame? i = some f ∧ f.res.mirror = none ∧ f.refs = [f.cells] ∧ f.done = true ∧ f.fate
      true = .to { leaf := true, id := q } ∧ s.leaf? q = some nd ∧ s0.admission (acctOf f.port f.res.pri)
      { leaf := true, id := q } f.colour f.layout.length = .queue) ∧
    (∃ (c : Fin 4) (same : Bool) (i : Nat) (l : List Nat) (f : Frame) (s : State) (s0 : State), s.bootU.asserted =
      false ∧ s0 = (s.decCycle c same).leaveTransit i ∧ s.failed = false ∧ (s.course c).dec = i :: l ∧ s.frame? i
      = some f ∧ f.res.mirror = none ∧ f.refs = [f.cells] ∧ f.done = true ∧ f.fate true = .drop) ∧
    (∃ (c : Fin 4) (same : Bool) (i : Nat) (l : List Nat) (f : Frame) (s : State) (s0 : State), s.bootU.asserted =
      false ∧ s0 = (s.decCycle c same).leaveTransit i ∧ s.failed = false ∧ (s.course c).dec = i :: l ∧ s.frame? i
      = some f ∧ f.res.mirror = none ∧ f.refs = [f.cells] ∧ f.done = true ∧ f.fate true = .free) ∧
    (∃ (c : Fin 4) (same : Bool) (i : Nat) (q : Nat) (l : List Nat) (f : Frame) (nd : Node) (hd : Bool) (s :
      State) (s0 : State), s.bootU.asserted = false ∧ s0 = (s.decCycle c same).leaveTransit i ∧ s.failed = false ∧
      (s.course c).dec = i :: l ∧ s.frame? i = some f ∧ f.res.mirror = none ∧ f.refs = [f.cells] ∧ f.done = false
      ∧ f.fate false = .to { leaf := true, id := q } ∧ s.leaf? q = some nd ∧ s0.admission (acctOf f.port
      f.res.pri) { leaf := true, id := q } f.colour f.layout.length = .accepted hd) :=
  ⟨⟨0, false, 0, 0, [], frameQ, node2, false, deciding frameQ node2, ((deciding frameQ node2).decCycle 0
    false).leaveTransit 0, by decide +kernel⟩,
  ⟨0, false, 0, 0, [], frameQ, node1, deciding frameQ node1, ((deciding frameQ node1).decCycle 0 false).leaveTransit
    0, by decide +kernel⟩,
  ⟨0, false, 0, [], { frameQ with res := {} }, deciding { frameQ with res := {} } node2, ((deciding
    { frameQ with res := {} } node2).decCycle 0 false).leaveTransit 0, by decide +kernel⟩,
  ⟨0, false, 0, [], { frameQ with fcsBad := true }, deciding { frameQ with fcsBad := true } node2, ((deciding
    { frameQ with fcsBad := true } node2).decCycle 0 false).leaveTransit 0, by decide +kernel⟩,
  ⟨0, false, 0, 0, [], { frameQ with done := false }, node2, false, deciding { frameQ with done := false } node2,
    ((deciding { frameQ with done := false } node2).decCycle 0 false).leaveTransit 0, by decide +kernel⟩⟩

theorem test_SchedulerSelects :
    (∃ (c : Fin 4) (p : Fin 16) (k : Pkt) (s0 : State) (s' : State) (nd : Node) (s : State), s.bootU.asserted =
      false ∧ s.failed = false ∧ s.boot = bRUNNING ∧ s.power.sleep = none ∧ s.up dSCHED = true ∧ s.reachSelect c
      (s.rising.length + 1) = some (s0, p.val, k, s') ∧ s0.up (dCOURSE c) = true ∧ s0.leaf? k.leaf = some nd ∧
      (k.prot && (!s0.sealEn || !s0.fbit .SEAL_PORT_CFG p fSEAL_PORT_CFG_TX_EN || !k.slotOk)) = false) ∧
    (∃ (c : Fin 4) (p : Fin 16) (k : Pkt) (s0 : State) (s' : State) (s : State), s.bootU.asserted = false ∧
      s.failed = false ∧ s.boot = bRUNNING ∧ s.power.sleep = none ∧ s.up dSCHED = true ∧ s.reachSelect c
      (s.rising.length + 1) = some (s0, p.val, k, s') ∧ s0.up (dCOURSE c) = true ∧ (k.prot && (!s0.sealEn ||
      !s0.fbit .SEAL_PORT_CFG p fSEAL_PORT_CFG_TX_EN || !k.slotOk)) = true) ∧
    (∃ (c : Fin 4) (p : Fin 16) (k : Pkt) (s0 : State) (s' : State) (s : State), s.bootU.asserted = false ∧
      s.failed = false ∧ s.boot = bRUNNING ∧ s.power.sleep = none ∧ s.up dSCHED = true ∧ s.reachSelect c
      (s.rising.length + 1) = some (s0, p.val, k, s') ∧ s0.up (dCOURSE c) = false) ∧
    (∃ (c : Fin 4) (s : State), s.bootU.asserted = false ∧ s.failed = false ∧ s.boot = bRUNNING ∧ s.power.sleep =
      none ∧ s.up dSCHED = true ∧ s.reachSelect c (s.rising.length + 1) = none) ∧
    (∃ (c : Fin 4) (p : Fin 16) (k : Pkt) (s0 : State) (s' : State) (s : State), s.bootU.asserted = false ∧
      s.reachSelect c (s.rising.length + 1) = some (s0, p.val, k, s')) ∧
    (∃ (lvl : Fin 3) (i : Nat) (nd : Node) (s : State), s.bootU.asserted = false ∧ lvl.val < 2 ∧ s.node? lvl i =
      some nd ∧ nd.shaped = true ∧ nd.blocked = true ∧ rateOk nd.rate = true) ∧
    (∃ (p : Fin 16) (s : State), s.bootU.asserted = false ∧ (s.mac p).paceWait = true ∧ s.portRate p ≠ 0) :=
  ⟨⟨0, 0, ((queued.reachSelect 0 (queued.rising.length + 1)).map (·.2.2.1)).getD pkt0, ((queued.reachSelect 0
    (queued.rising.length + 1)).map (·.1)).getD run, ((queued.reachSelect 0 (queued.rising.length + 1)).map
    (·.2.2.2)).getD run, (queued.leaf? 0).getD node0, queued, by decide +kernel⟩,
  ⟨0, 0, ((queuedP.reachSelect 0 (queuedP.rising.length + 1)).map (·.2.2.1)).getD pkt0, ((queuedP.reachSelect 0
    (queuedP.rising.length + 1)).map (·.1)).getD run, ((queuedP.reachSelect 0 (queuedP.rising.length + 1)).map
    (·.2.2.2)).getD run, queuedP, by decide +kernel⟩,
  ⟨0, 0, ((queuedD.reachSelect 0 (queuedD.rising.length + 1)).map (·.2.2.1)).getD pkt0, ((queuedD.reachSelect 0
    (queuedD.rising.length + 1)).map (·.1)).getD run, ((queuedD.reachSelect 0 (queuedD.rising.length + 1)).map
    (·.2.2.2)).getD run, queuedD, by decide +kernel⟩,
  ⟨0, run, by decide +kernel⟩,
  ⟨0, 0, ((queued.reachSelect 0 (queued.rising.length + 1)).map (·.2.2.1)).getD pkt0, ((queued.reachSelect 0
    (queued.rising.length + 1)).map (·.1)).getD run, ((queued.reachSelect 0 (queued.rising.length + 1)).map
    (·.2.2.2)).getD run, queued, by decide +kernel⟩,
  ⟨1, 0, { node1 with d0 := 0x8000000002020000, credit := -100, blocked := true }, run.setNode 1 0
    { node1 with d0 := 0x8000000002020000, credit := -100, blocked := true }, by decide +kernel⟩,
  ⟨0, macOf up fun m => { m with pace := -100, paceWait := true }, by decide +kernel⟩⟩

theorem test_FramesLeavePorts :
    (∃ (s : State), s.bootU.asserted = false) ∧
    (∃ (p : Fin 16) (k : Pkt) (l : List Pkt) (s : State), s.bootU.asserted = false ∧ s.macMay p = true ∧ (s.mac
      p).cur = none ∧ s.sealU.enNext = none ∧ s.sealEn = false ∧ s.sealU.tx = [] ∧ s.mReady p = false ∧ s.fcReady
      p = false ∧ s.lpmReady p = false ∧ s.preemptActive p = false ∧ (s.mac p).held = none ∧ (s.mac p).txBuf = k
      :: l ∧ k.prot = false ∧ (k.tsOp = 0 ∨ s.divisorPending = false)) ∧
    (∃ (p : Fin 16) (k : Pkt) (l : List Pkt) (s : State), s.bootU.asserted = false ∧ s.macMay p = true ∧ (s.mac
      p).cur = none ∧ s.sealU.enNext = none ∧ s.sealEn = false ∧ s.sealU.tx = [] ∧ s.mReady p = false ∧ s.fcReady
      p = false ∧ s.lpmReady p = false ∧ s.preemptActive p = false ∧ (s.mac p).held = none ∧ (s.mac p).txBuf = k
      :: l ∧ k.tsOp ≠ 0 ∧ s.divisorPending = true) ∧
    (∃ (p : Fin 16) (t : TxCur) (s : State), s.bootU.asserted = false ∧ s.macMay p = true ∧ (s.mac p).cur = none ∧
      s.sealU.enNext = none ∧ s.sealEn = false ∧ s.sealU.tx = [] ∧ s.mReady p = false ∧ s.fcReady p = false ∧
      s.lpmReady p = false ∧ (s.mac p).held = some t ∧ (s.mac p).txBuf.any (·.express) = false) ∧
    (∃ (p : Fin 16) (s : State), s.bootU.asserted = false ∧ s.macMay p = false ∧ s.goesOn p = false) ∧
    (∃ (p : Fin 16) (t : TxCur) (s : State), s.bootU.asserted = false ∧ s.macMay p = false ∧ s.goesOn p = true ∧
      s.sealU.tx = [] ∧ (s.mac p).cur = none ∧ (s.mac p).held = some t) ∧
    (∃ (p : Fin 16) (cut : Nat) (add : Nat) (n : Nat) (t : TxCur) (s : State), s.bootU.asserted = false ∧ s.failed
      = false ∧ s.sealEn = false ∧ s.preemptActive p = true ∧ s.sealU.tx = [] ∧ (s.mac p).cur = some t ∧
      t.pkt.express = false ∧ s.expressWaits p = true ∧ add = s.fget .PORT_PREEMPT_CFG p
      fPORT_PREEMPT_CFG_ADD_FRAG_SIZE ∧ fragPoint add t.frag t.pkt.bytes.length cut = some n ∧ t.number.isSome =
      true) ∧
    (∃ (p : Fin 16) (cut : Nat) (add : Nat) (t : TxCur) (s : State), s.bootU.asserted = false ∧ s.failed = false ∧
      s.sealEn = false ∧ s.preemptActive p = true ∧ s.sealU.tx = [] ∧ (s.mac p).cur = some t ∧ t.pkt.express =
      false ∧ s.expressWaits p = true ∧ add = s.fget .PORT_PREEMPT_CFG p fPORT_PREEMPT_CFG_ADD_FRAG_SIZE ∧
      (fragPoint add t.frag t.pkt.bytes.length cut = none ∨ t.number = none)) ∧
    (∃ (cut : Nat) (add : Nat) (sent : Nat) (total : Nat) (n : Nat) (s : State), s.bootU.asserted = false ∧
      fragPoint add sent total cut = some n) ∧
    (∃ (cut : Nat) (add : Nat) (sent : Nat) (total : Nat) (n : Nat) (s : State) (m : _), s.bootU.asserted = false
      ∧ fragPoint add sent total cut = some n ∧ cut ≤ m ∧ 64 * (1 + add) - 4 ≤ m ∧ (sent + m) % 8 = 0) ∧
    (∃ (p : Fin 16) (t : TxCur) (nd : Node) (s : State), s.bootU.asserted = false ∧ s.failed = false ∧ (s.mac
      p).cur = some t ∧ s.leaf? t.pkt.leaf = some nd ∧ nd.born = t.pkt.born) :=
  ⟨⟨run, by decide +kernel⟩,
  ⟨0, pkt0, [], macOf up fun m => { m with txBuf := [pkt0] }, by decide +kernel⟩,
  ⟨0, { pkt0 with tsOp := 1 }, [], stepHeld, by decide +kernel⟩,
  ⟨0, cur0, macOf up fun m => { m with held := some cur0 }, by decide +kernel⟩,
  ⟨0, run, by decide +kernel⟩,
  ⟨0, cur0, (macOf up fun m => { m with held := some cur0 }).fset .PORT_MAC_STAT 0 fPORT_MAC_STAT_RX_LF 1,
    by decide +kernel⟩,
  ⟨0, 0, 0, 64, curL, macOf (macOf preempt cutting) fun m => { m with cur := some curL }, by decide +kernel⟩,
  ⟨0, 0, 0, cur0, macOf preempt fun m => { m with cur := some cur0, txBuf := [{ pkt0 with express := true }] },
    by decide +kernel⟩,
  ⟨0, 0, 0, 200, 64, run, by decide +kernel⟩,
  ⟨0, 0, 0, 200, 64, run, 64, by decide +kernel⟩,
  ⟨0, cur0, node1, ((macOf up fun m => { m with cur := some cur0 }).setFrame 0 frame0).setLeaf 0 node1,
    by decide +kernel⟩⟩

theorem test_RidgeLockCarriesTime :
    (∃ (s : State), s.bootU.asserted = false ∧ s.power.sleep = none ∧ s.time.locked = false ∧ s.time.started =
      false) ∧
    (∃ (s : State), s.bootU.asserted = false ∧ s.power.sleep = none ∧ s.time.locked = false ∧ s.time.started =
      true) ∧
    (∃ (s : State), s.bootU.asserted = false ∧ s.time.locked = true) :=
  ⟨⟨State.reset, by decide +kernel⟩,
  ⟨{ run with time := { run.time with locked := false } }, by decide +kernel⟩,
  ⟨run, by decide +kernel⟩⟩

theorem test_TrainingFramesRoundTrip :
    ∃ (control : Nat) (status : Nat), control < 2 ^ 16 ∧ status < 2 ^ 16 :=
  ⟨0x8001, 5, by decide +kernel⟩

end Sys2Proof.Tests
end

section
/-! PROOFS. The register map: Reset values (R25), and the offsets of the registers' copies (R57, R58). -/

namespace Sys2Proof.Machine

theorem regIds_ctorIdx : regIds.map RegId.ctorIdx = List.range 296 := by decide +kernel

theorem RegId.mem_regIds (id : RegId) : id ∈ regIds := by
  have h : id.ctorIdx ∈ regIds.map RegId.ctorIdx := by
    rw [regIds_ctorIdx, List.mem_range]; cases id <;> decide
  obtain ⟨a, ha, e⟩ := List.mem_map.mp h
  exact RegId.ctorIdx_inj e ▸ ha

/-- What a Boolean check of the register tables shows of every register. -/
theorem RegId.of_all {p : RegId → Bool} (h : regIds.all p = true) (id : RegId) : p id = true :=
  List.all_eq_true.mp h id id.mem_regIds

-- Reset values

/-- A register's fields read their Reset columns in the sum of those columns. -/
def resetsFit (id : RegId) : Bool :=
  id.desc.fields.all fun f => (⟨f.lo, f.w⟩ : Field).get (BitVec.ofNat 64 (fieldsReset id.desc.fields)) == f.reset

theorem regIds_resetsFit : regIds.all resetsFit = true := by decide +kernel

theorem RegId.resetAt_field {id : RegId} (h : id ≠ .INTC_SRC) (i : Nat) {f : FieldDesc} (hf : f ∈ id.desc.fields) :
    (⟨f.lo, f.w⟩ : Field).get (id.resetAt i) = f.reset := by
  have e : id.resetAt i = BitVec.ofNat 64 (fieldsReset id.desc.fields) := by
    unfold RegId.resetAt; split
    · exact absurd rfl h
    · rfl
  rw [e]
  exact beq_iff_eq.mp (List.all_eq_true.mp (RegId.of_all regIds_resetsFit id) f hf)

/-- A state whose register map lists nothing reads every register at its Reset value. -/
theorem State.rget_of_regs_nil {s : State} (h : s.regs = []) (id : RegId) (i : Nat) : s.rget id i = id.resetAt i := by
  simp [State.rget, h, Store.get]

theorem RegId.resetAt_intcSrc_vector {i : Nat} :
    fINTC_SRC_VECTOR.get (RegId.resetAt .INTC_SRC i) = if i < 4096 then i else 0 := by
  simp only [RegId.resetAt, Field.get, fINTC_SRC_VECTOR]
  split
  · rw [BitVec.toNat_ofNat]; omega
  · rfl

theorem RegId.resetAt_intcSrc_en {i : Nat} : fINTC_SRC_EN.get (RegId.resetAt .INTC_SRC i) = 0 := by
  simp only [RegId.resetAt, Field.get, fINTC_SRC_EN]
  split
  · rw [BitVec.toNat_ofNat]; omega
  · rfl

end Sys2Proof.Machine

open Sys2Proof Sys2Proof.Machine

/-- Settles O3: the cold reset empties the list of registers that differ from their Reset values. -/
theorem resetLeavesResetValues : Obligations.ResetLeavesResetValues := by
  refine ⟨fun s id i _ hid f hf => ⟨⟨s.coldReset, rfl, ?_⟩, ?_⟩, fun s i _ => ⟨s.coldReset, rfl, ?_, ?_⟩⟩ <;>
    simp only [State.fget]
  · rw [State.rget_of_regs_nil (s := s.coldReset) rfl, RegId.resetAt_field hid i hf]
  · rw [State.rget_of_regs_nil (s := State.reset) rfl, RegId.resetAt_field hid i hf]
  · rw [State.rget_of_regs_nil (s := s.coldReset) rfl, RegId.resetAt_intcSrc_vector]
  · rw [State.rget_of_regs_nil (s := s.coldReset) rfl, RegId.resetAt_intcSrc_en]

namespace Sys2Proof.Machine

-- Offsets

/-- The greatest offset that lies on a copy, from the first one's. -/
def dimsTop : List (Nat × Nat) → Nat
  | [] => 0
  | (st, c) :: t => (c - 1) * st + dimsTop t

/-- How many copies there are. -/
def dimsCount (d : List (Nat × Nat)) : Nat := d.foldl (fun a d => a * d.2) 1

/-- Each index has copies, and those of the inner indices fit in its stride. -/
def dimsNest : List (Nat × Nat) → Bool
  | [] => true
  | (st, c) :: t => decide (0 < c) && decide (dimsTop t < st) && dimsNest t

/-- No copy of one register lies on a copy of another, which starts r bytes later: the second starts after the
last of the first, or the outer stride of the first divides that of the second and the two miss within a stride. -/
def apart (r : Nat) (da db : List (Nat × Nat)) : Bool :=
  decide (dimsTop da < r) ||
    match da with
    | [] => false
    | (st, _) :: ta =>
      (db.headD (0, 0)).1 % st == 0 && decide (r % st + dimsTop db.tail < st) && apart (r % st) ta db.tail

/-- No copy of b lies on one of a, and b starts where a does or later. -/
def clearOf (a b : RegId) : Bool :=
  decide (a.desc.base ≤ b.desc.base) && apart (b.desc.base - a.desc.base) a.desc.dims b.desc.dims

/-- Each register is clear of those listed before it. -/
def allClear : List RegId → Bool
  | [] => true
  | a :: t => t.all (clearOf a) && allClear t

/-- A register's copies nest, end inside the control space (R57) and are aligned to its width (R58). -/
def laidOut (id : RegId) : Bool :=
  dimsNest id.desc.dims && decide (id.desc.base + dimsTop id.desc.dims + id.desc.width / 8 ≤ 2 ^ 24) &&
    id.desc.base % (id.desc.width / 8) == 0 && id.desc.dims.all (fun d => d.1 % (id.desc.width / 8) == 0)

theorem regIds_allClear : allClear regIds = true := by decide +kernel

theorem regIds_laidOut : regIds.all laidOut = true := by decide +kernel

theorem foldl_mul_count (d : List (Nat × Nat)) (n : Nat) : d.foldl (fun a d => a * d.2) n = n * dimsCount d := by
  induction d generalizing n with
  | nil => simp [dimsCount]
  | cons e t ih =>
    have h : dimsCount (e :: t) = 1 * e.2 * dimsCount t := ih (1 * e.2)
    rw [List.foldl_cons, ih, h, Nat.one_mul, Nat.mul_assoc]

theorem dimsCount_cons (st c : Nat) (t : List (Nat × Nat)) : dimsCount ((st, c) :: t) = c * dimsCount t := by
  rw [dimsCount, List.foldl_cons, foldl_mul_count, Nat.one_mul]

theorem addrIn_cons (st c : Nat) (t : List (Nat × Nat)) (i : Nat) :
    addrIn ((st, c) :: t) i = i / dimsCount t % c * st + addrIn t (i % dimsCount t) := rfl

theorem indexIn_cons (st c : Nat) (t : List (Nat × Nat)) (r : Nat) :
    indexIn ((st, c) :: t) r =
      if r / st < c then (indexIn t (r % st)).map (fun x => (r / st * dimsCount t + x.1, x.2)) else none := rfl

theorem addrIn_le_top {d : List (Nat × Nat)} (h : dimsNest d = true) (i : Nat) : addrIn d i ≤ dimsTop d := by
  induction d generalizing i with
  | nil => exact Nat.le_refl 0
  | cons e t ih =>
    obtain ⟨st, c⟩ := e
    simp only [dimsNest, Bool.and_eq_true, decide_eq_true_eq] at h
    obtain ⟨⟨hc, _⟩, ht⟩ := h
    rw [addrIn_cons, dimsTop]
    have hq : i / dimsCount t % c ≤ c - 1 := Nat.le_sub_one_of_lt (Nat.mod_lt _ hc)
    exact Nat.add_le_add (Nat.mul_le_mul_right st hq) (ih ht _)

/-- A copy is found at its own offset. -/
theorem indexIn_addrIn {d : List (Nat × Nat)} (h : dimsNest d = true) {i : Nat} (hi : i < dimsCount d) :
    indexIn d (addrIn d i) = some (i, 0) := by
  induction d generalizing i with
  | nil => simp only [dimsCount, List.foldl_nil, Nat.lt_one_iff] at hi; subst hi; rfl
  | cons e t ih =>
    obtain ⟨st, c⟩ := e
    simp only [dimsNest, Bool.and_eq_true, decide_eq_true_eq] at h
    obtain ⟨⟨_, hst⟩, ht⟩ := h
    rw [dimsCount_cons] at hi
    have hn : 0 < dimsCount t := Nat.pos_of_mul_pos_left (Nat.zero_lt_of_lt hi)
    have hq : i / dimsCount t < c := (Nat.div_lt_iff_lt_mul hn).mpr hi
    have hx : addrIn t (i % dimsCount t) < st := Nat.lt_of_le_of_lt (addrIn_le_top ht _) hst
    have hdiv : (i / dimsCount t * st + addrIn t (i % dimsCount t)) / st = i / dimsCount t := by
      rw [Nat.add_comm, Nat.add_mul_div_right _ _ (Nat.zero_lt_of_lt hst), Nat.div_eq_of_lt hx, Nat.zero_add]
    have hmod : (i / dimsCount t * st + addrIn t (i % dimsCount t)) % st = addrIn t (i % dimsCount t) := by
      rw [Nat.add_comm, Nat.add_mul_mod_self_right, Nat.mod_eq_of_lt hx]
    rw [addrIn_cons, Nat.mod_eq_of_lt hq, indexIn_cons, hdiv, hmod, if_pos hq, ih ht (Nat.mod_lt _ hn)]
    simp only [Option.map_some, Nat.div_add_mod']

/-- Offsets beyond the last copy lie on none. -/
theorem indexIn_le_top {d : List (Nat × Nat)} {r j : Nat} (h : indexIn d r = some (j, 0)) : r ≤ dimsTop d := by
  induction d generalizing r j with
  | nil => simp only [indexIn, Option.some.injEq, Prod.mk.injEq] at h; exact Nat.le_of_eq h.2
  | cons e t ih =>
    obtain ⟨st, c⟩ := e
    rw [indexIn_cons] at h
    split at h
    · next hq =>
      obtain ⟨⟨k, m⟩, hk, e⟩ := Option.map_eq_some_iff.mp h
      obtain ⟨_, rfl⟩ := Prod.mk.inj e
      have hm := ih hk
      rw [dimsTop]
      calc r = r / st * st + r % st := (Nat.div_add_mod' r st).symm
        _ ≤ (c - 1) * st + dimsTop t := Nat.add_le_add (Nat.mul_le_mul_right st (Nat.le_sub_one_of_lt hq)) hm
    · cases h

theorem addrIn_mod {db : List (Nat × Nat)} (hb : dimsNest db = true) {st r : Nat} (hd : (db.headD (0, 0)).1 % st = 0)
    (hr : r % st + dimsTop db.tail < st) (i : Nat) :
    ∃ j, (r + addrIn db i) % st = r % st + addrIn db.tail j := by
  cases db with
  | nil => exact ⟨0, by simp [addrIn]⟩
  | cons e t =>
    obtain ⟨st', c'⟩ := e
    simp only [dimsNest, Bool.and_eq_true, decide_eq_true_eq] at hb
    simp only [List.headD_cons, List.tail_cons] at hd hr ⊢
    refine ⟨i % dimsCount t, ?_⟩
    have hx := addrIn_le_top hb.2 (i % dimsCount t)
    obtain ⟨m, hm⟩ := Nat.dvd_of_mod_eq_zero hd
    rw [addrIn_cons, hm, Nat.mul_left_comm, Nat.add_left_comm, Nat.mul_add_mod_self_left, Nat.add_mod,
      Nat.mod_eq_of_lt (a := addrIn t _) (by omega), Nat.mod_eq_of_lt (by omega)]

/-- `apart` is right: no copy of the second register is found among those of the first. -/
theorem indexIn_of_apart {da db : List (Nat × Nat)} {r : Nat} (hb : dimsNest db = true) (h : apart r da db = true)
    (i j : Nat) : indexIn da (r + addrIn db i) ≠ some (j, 0) := by
  intro hj
  induction da generalizing db r i j with
  | nil =>
    have := indexIn_le_top hj
    simp only [apart, Bool.or_false, decide_eq_true_eq] at h
    omega
  | cons e ta ih =>
    obtain ⟨st, c⟩ := e
    have top := indexIn_le_top hj
    unfold apart at h
    simp only [Bool.or_eq_true, decide_eq_true_eq, Bool.and_eq_true, beq_iff_eq] at h
    rcases h with h | ⟨⟨hd, hr⟩, h⟩
    · omega
    · obtain ⟨k, hk⟩ := addrIn_mod hb hd hr i
      rw [indexIn_cons, hk] at hj
      split at hj
      · obtain ⟨⟨m, _⟩, hm, e⟩ := Option.map_eq_some_iff.mp hj
        obtain ⟨_, rfl⟩ := Prod.mk.inj e
        have ht : dimsNest db.tail = true := by
          cases db with
          | nil => rfl
          | cons e t => simp only [dimsNest, Bool.and_eq_true] at hb; exact hb.2
        exact ih ht h _ _ hm
      · cases hj

/-- R57: what the layout check of a register shows. -/
theorem RegId.laidOut (id : RegId) :
    dimsNest id.desc.dims = true ∧ id.desc.base + dimsTop id.desc.dims + id.desc.width / 8 ≤ 2 ^ 24 ∧
      id.desc.base % (id.desc.width / 8) = 0 ∧ ∀ d ∈ id.desc.dims, d.1 % (id.desc.width / 8) = 0 := by
  have h := RegId.of_all regIds_laidOut id
  simp only [Machine.laidOut, Bool.and_eq_true, decide_eq_true_eq, beq_iff_eq, List.all_eq_true] at h
  obtain ⟨⟨⟨hn, ht⟩, hb⟩, hd⟩ := h
  exact ⟨hn, ht, hb, hd⟩

theorem regAtIn_addrOf {l : List RegId} (h : allClear l = true) {id : RegId} (hm : id ∈ l) {i : Nat} (hi : i < id.count) :
    regAtIn l (addrOf id i) = some (id, i) := by
  induction l with
  | nil => cases hm
  | cons a t ih =>
    simp only [allClear, Bool.and_eq_true, List.all_eq_true] at h
    unfold regAtIn
    by_cases e : id = a
    · subst e
      rw [if_pos (show id.desc.base ≤ addrOf id i from Nat.le_add_right ..), addrOf, Nat.add_sub_cancel_left, indexIn_addrIn id.laidOut.1 hi]
      rfl
    · have ht := (List.mem_cons.mp hm).resolve_left e
      have hc := h.1 id ht
      simp only [clearOf, Bool.and_eq_true, decide_eq_true_eq] at hc
      have hle : a.desc.base ≤ addrOf id i := Nat.le_add_right_of_le hc.1
      have hoff : addrOf id i - a.desc.base = id.desc.base - a.desc.base + addrIn id.desc.dims i := by
        unfold addrOf; omega
      rw [if_pos hle, hoff]
      split
      · next j hj => exact absurd hj (indexIn_of_apart id.laidOut.1 hc.2 i j)
      · exact ih h.2 ht

/-- R57, R58: a copy is found at its own offset. -/
theorem regAt_addrOf {id : RegId} {i : Nat} (hi : i < id.count) : regAt (addrOf id i) = some (id, i) :=
  regAtIn_addrOf regIds_allClear id.mem_regIds hi

theorem addrOf_fits (id : RegId) (i : Nat) : addrOf id i + id.desc.width / 8 ≤ 2 ^ 24 := by
  have := addrIn_le_top id.laidOut.1 i
  have := id.laidOut.2.1
  unfold addrOf; omega

theorem addrIn_aligned {n : Nat} {d : List (Nat × Nat)} (h : ∀ e ∈ d, e.1 % n = 0) (i : Nat) : addrIn d i % n = 0 := by
  induction d generalizing i with
  | nil => exact Nat.zero_mod n
  | cons e t ih =>
    obtain ⟨st, c⟩ := e
    rw [addrIn_cons, Nat.add_mod, Nat.mul_mod, h _ (List.mem_cons_self ..), ih fun e he => h e (List.mem_cons_of_mem _ he)]
    simp

theorem addrOf_aligned (id : RegId) (i : Nat) : addrOf id i % (id.desc.width / 8) = 0 := by
  obtain ⟨_, _, hb, hd⟩ := id.laidOut
  rw [addrOf, Nat.add_mod, hb, addrIn_aligned hd]
  simp

theorem addrOf_lt (id : RegId) (i : Nat) : addrOf id i < 2 ^ 24 := by
  have := addrOf_fits id i
  rcases id.width_cases with h | h <;> omega

theorem locate_addrOf {id : RegId} {i : Nat} (hi : i < id.count) : locate (addrOf id i) = some (id, i, false) := by
  simp [locate, regAt_addrOf hi]

/-- R12, R57: an access of a whole register at its offset is the access of that register. -/
theorem State.accessAny_addrOf {id : RegId} {i : Nat} (hi : i < id.count) (s : State) (port write : Bool) (v : Word) :
    s.accessAny port write (id.desc.width / 8) (addrOf id i) v =
      s.accessAt port write (id.desc.width / 8) (addrOf id i) (some (id, i, false)) v := by
  have ha := addrOf_aligned id i
  have hn : narrowAt (addrOf id i) = (id.desc.width == 32) := by simp [narrowAt, regAt_addrOf hi]
  unfold State.accessAny State.accessOne
  rw [locate_addrOf hi, hn]
  rcases id.width_cases with h | h <;> simp_all

theorem State.ctAccess_write {id : RegId} {i : Nat} (hi : i < id.count) (s : State) (v : Word) :
    s.ctAccess { write := true, size := id.desc.width / 8, offset := addrOf id i, data := v } = s.ctWrite id i v := by
  simp only [State.ctAccess, State.ctWrite, Nat.mod_eq_of_lt (addrOf_lt id i), State.accessAny_addrOf hi]

theorem State.ctAccess_read {id : RegId} {i : Nat} (hi : i < id.count) (s : State) :
    s.ctAccess { write := false, size := id.desc.width / 8, offset := addrOf id i, data := 0 } = s.ctRead id i := by
  simp only [State.ctAccess, State.ctRead, Nat.mod_eq_of_lt (addrOf_lt id i), State.accessAny_addrOf hi]

end Sys2Proof.Machine

/-- Settles O7: no two copies share an offset, so the register found at an offset is the one that lies there. -/
theorem registerMapAndWrites : Obligations.RegisterMapAndWrites := by
  refine ⟨fun id i hi => ⟨regAt_addrOf hi, addrOf_fits id i, addrOf_aligned id i⟩, fun id i v s hi _ => ?_⟩
  exact ⟨_, rfl, congrArg s.after (s.ctAccess_write hi v)⟩
end

section
/-! PROOFS. What follows from a command at once (`State.after`), step by step: beside the registers of `trailRegs` and the
parts that `State.unfollowed` blanks out it changes single fields only. -/

namespace Sys2Proof.Machine

/-- The registers of `afterRegs` that may change as a whole: all but the three of which only one field follows. -/
def trailRegs : List RegId :=
  afterRegs.filter fun id => !([.COURSE_SPRAY_STAT, .POWER_DOM_STAT, .POWER_READY] : List RegId).contains id

/-- From s to t by the steps that what follows from a command is made of. -/
inductive Trail : State → State → Prop
  | refl (s : State) : Trail s s
  | trans {s t u : State} : Trail s t → Trail t u → Trail s u
  | reg (s : State) (id : RegId) (i : Nat) (v : Word) : id ∈ trailRegs → Trail s (s.rset id i v)
  | spray (s : State) (i : Nat) (b : Bool) : Trail s (s.follow .COURSE_SPRAY_STAT i fCOURSE_SPRAY_STAT_ACTIVE b)
  | other {s t : State} : t.unfollowed = s.unfollowed → t.regs = s.regs → t.power = s.power → Trail s t
  | wake (s : State) (d : Nat) : Trail s (s.wake d)
  | watch (s : State) (st : Nat) : s.power.sleep.isSome = true → Trail s (s.setDom dWATCH st)

theorem Trail.rset {s t : State} {id : RegId} (i : Nat) (v : Word) (hid : id ∈ trailRegs) (h : Trail s t) :
    Trail s (t.rset id i v) := h.trans (.reg t id i v hid)

theorem Trail.fset {s t : State} {id : RegId} (i : Nat) (f : Field) (n : Nat) (hid : id ∈ trailRegs)
    (h : Trail s t) : Trail s (t.fset id i f n) := h.rset i _ hid

theorem Trail.ite {s t u : State} {c : Prop} [Decidable c] (h : c → Trail s t) (k : ¬c → Trail s u) :
    Trail s (if c then t else u) := by
  by_cases e : c
  · rw [if_pos e]; exact h e
  · rw [if_neg e]; exact k e

theorem Trail.forEach {α : Type} {s t : State} (l : List α) (f : State → α → State)
    (hf : ∀ u x, Trail u (f u x)) (h : Trail s t) : Trail s (t.forEach l f) := by
  induction l generalizing t with
  | nil => exact h
  | cons a l ih => exact ih (h.trans (hf t a))

theorem Trail.raw {s t u : State} (h : Trail s t) (hr : u.unfollowed = t.unfollowed) (hg : u.regs = t.regs)
    (hp : u.power = t.power := by rfl) : Trail s u := h.trans (.other hr hg hp)

theorem Trail.setMac {s t : State} (p : Nat) (m : MacPort) (h : Trail s t) : Trail s (t.setMac p m) := h.raw rfl rfl

theorem Trail.modMac {s t : State} (p : Nat) (f : MacPort → MacPort) (h : Trail s t) : Trail s (t.modMac p f) :=
  h.raw rfl rfl

theorem Trail.setTxr {s t : State} (r : Nat) (x : TxRing) (h : Trail s t) : Trail s (t.setTxr r x) := h.raw rfl rfl

theorem State.follow_trail (s : State) (id : RegId) (i : Nat) (f : Field) (b : Bool) (hid : id ∈ trailRegs) :
    Trail s (s.follow id i f b) := by
  unfold State.follow State.fsetB
  exact .ite (fun _ => .refl s) (fun _ => (Trail.refl s).fset i f _ hid)

theorem State.stat_trail (s : State) (p k n : Nat) : Trail s (s.stat p k n) := by
  unfold State.stat State.wrapAdd
  have h := (Trail.refl s).fset (id := .STATS_PORT) (p * 64 + k) fSTATS_PORT_COUNT
    (s.fget .STATS_PORT (p * 64 + k) fSTATS_PORT_COUNT + n) (by decide)
  exact .ite (fun _ => h.rset p _ (by decide)) (fun _ => h)

theorem State.clearOneStep_trail (s : State) (c : TxCur) : Trail s (s.clearOneStep c) := by
  unfold State.clearOneStep
  exact .ite (fun _ => (Trail.refl s).raw rfl rfl) (fun _ => .refl s)

theorem State.modTxr_trail (s : State) (r : Nat) (f : TxRing → TxRing) : Trail s (s.modTxr r f) := by
  unfold State.modTxr
  split
  · exact (Trail.refl s).setTxr r _
  · exact .refl s

theorem State.modEntry_trail (s : State) (r first : Nat) (f : TxEntry → TxEntry) : Trail s (s.modEntry r first f) :=
  s.modTxr_trail r _

theorem State.hostSent_trail (s : State) (p : Nat) (k : Pkt) (t : Int) (n : Nat) (b : Bool) :
    Trail s (s.hostSent p k t n b) := by
  unfold State.hostSent
  split
  · next r f _ =>
    have h : Trail s (s.txSent r f (stampOf t) n p) := (s.modTxr_trail r _).trans (State.modEntry_trail _ r f _)
    exact .ite (fun _ => h.trans (State.modEntry_trail _ r f _)) (fun _ => h)
  · exact .refl s

theorem State.unchargeLeaf_trail (s : State) (l c : Nat) : Trail s (s.unchargeLeaf l c) := by
  unfold State.unchargeLeaf
  split
  · exact (Trail.refl s).raw rfl rfl
  · exact .refl s

theorem State.fcPriority_trail (s : State) (p i : Nat) : Trail s (s.fcPriority p i) := by
  unfold State.fcPriority State.fcFall
  refine .ite (fun _ => .refl s) (fun _ => ?_)
  have h := (Trail.refl s).fset (id := .PORT_FC_TX_STAT) p fPORT_FC_TX_STAT_ASSERTED
    (s.fget .PORT_FC_TX_STAT p fPORT_FC_TX_STAT_ASSERTED ^^^ 2 ^ i) (by decide)
  exact .ite (fun _ => h.modMac p _) (fun _ => h)

theorem State.fcPause_trail (s : State) (p : Nat) : Trail s (s.fcPause p) := by
  unfold State.fcPause State.fcFall State.fsetB
  exact .ite
    (fun _ => .ite (fun _ => .refl s) (fun _ => ((Trail.refl s).fset p _ _ (by decide)).modMac p _))
    (fun _ => .ite (fun _ => (Trail.refl s).fset p _ _ (by decide)) (fun _ => .refl s))

theorem State.fcUpdate_trail (s : State) (p : Nat) : Trail s (s.fcUpdate p) :=
  (Trail.forEach _ _ (fun u i => u.fcPriority_trail p i) (.refl s)).trans (State.fcPause_trail _ p)

theorem State.unchargeSent_trail (s : State) (k : Pkt) : Trail s (s.unchargeSent k) := by
  unfold State.unchargeSent
  split
  · exact .ite (fun _ => s.unchargeLeaf_trail _ _) (fun _ => .refl s)
  · exact .refl s

theorem State.lagFree_trail (s : State) (n : Nat) : Trail s (s.lagFree n) := (Trail.refl s).raw rfl rfl

theorem State.unchargeIngress_trail (s : State) (a use head : Nat) : Trail s (s.unchargeIngress a use head) :=
  ((((Trail.refl s).fset a _ _ (by decide)).fset a _ _ (by decide)).trans (State.lagFree_trail _ _)).trans
    (State.fcUpdate_trail _ _)

theorem State.dropHost_trail (s : State) (n : Nat) : Trail s (s.dropHost n) :=
  ((Trail.refl s).fset 0 _ _ (by decide)).trans (State.lagFree_trail _ _)

theorem State.freeCells_trail (s : State) (f : Frame) (ids : List Nat) : Trail s (s.freeCells f ids) :=
  Trail.forEach _ _ (fun u _ => (Trail.refl u).raw rfl rfl) (.refl s)

theorem State.release_trail (s : State) (fid : Nat) (ids : List Nat) : Trail s (s.release fid ids) := by
  unfold State.release
  split
  · exact .refl s
  · exact .ite (fun _ => (State.freeCells_trail s _ ids).raw rfl rfl)
      (fun _ => (State.freeCells_trail s _ ids).raw rfl rfl)

theorem State.releasePkt_trail (s : State) (k : Pkt) : Trail s (s.releasePkt k) := by
  unfold State.releasePkt
  split
  · exact .refl s
  · next f _ =>
    refine Trail.trans ?_ (State.release_trail _ _ _)
    have h : Trail s (if k.copy then s else match f.acct with
        | some a => s.unchargeIngress a f.use f.head
        | none => if f.host then s.dropHost f.hostUse else s) := by
      refine .ite (fun _ => .refl s) (fun _ => ?_)
      split
      · exact s.unchargeIngress_trail _ _ _
      · exact .ite (fun _ => s.dropHost_trail _) (fun _ => .refl s)
    exact .ite (fun _ => h) (fun _ => h.raw rfl rfl)

theorem State.statCut_trail (s : State) (p n : Nat) : Trail s (s.statCut p n) := by
  have h := s.stat_trail p 45 1
  have g := State.stat_trail (s.stat p 45 1) p (47 + sizeBucket n) 1
  exact .ite (fun _ => h) (fun _ => h.trans g)

theorem State.cutLink_trail (s : State) (p : Nat) (c : TxCur) (n : Nat) : Trail s (s.cutLink p c n) := by
  unfold State.cutLink State.hostCut State.leavePort
  refine Trail.trans ?_ (State.releasePkt_trail _ _)
  refine Trail.trans ?_ (State.unchargeSent_trail _ _)
  refine Trail.modMac p _ ?_
  have h : Trail s (if s.portUsed p = true then s.statCut p n else s) :=
    .ite (fun _ => s.statCut_trail p n) (fun _ => .refl s)
  exact (h.trans (State.clearOneStep_trail _ c)).trans (State.hostSent_trail _ _ _ _ _ _)

theorem State.verifyStart_trail (s : State) (p : Nat) : Trail s (s.verifyStart p) := by
  unfold State.verifyStart State.verifySend State.setVerify
  have h := (Trail.refl s).modMac p (fun m => { m with verifyTries := 0, verifyEnd := none, verifyDue := false })
  exact .ite (fun _ => h.fset p _ _ (by decide))
    (fun _ => .ite (fun _ => (h.modMac p _).fset p _ _ (by decide)) (fun _ => h.fset p _ _ (by decide)))

theorem State.dropMarkers_trail (s : State) (p : Nat) : Trail s (s.dropMarkers p) := by
  unfold State.dropMarkers
  refine .ite (fun _ => .refl s) (fun _ => ?_)
  have h := Trail.forEach (s.portLanes p) (fun (s : State) n => s.follow .LANE_SKEW n fLANE_SKEW_VALID false)
    (fun u n => u.follow_trail _ n _ _ (by decide)) (.refl s)
  exact (h.trans (State.follow_trail _ _ p _ _ (by decide))).trans (State.follow_trail _ _ p _ _ (by decide))

theorem State.linkUp_trail (s : State) (p : Nat) : Trail s (s.linkUp p) := by
  unfold State.linkUp State.paceReset State.flag
  refine Trail.trans (Trail.modMac p _ (Trail.modMac p _ ?_)) (State.verifyStart_trail _ p)
  exact ((Trail.refl s).fset p _ _ (by decide)).fset p _ _ (by decide)

theorem State.cutIf_trail (s : State) (p : Nat) (o : Option TxCur) (n : TxCur → Nat) :
    Trail s (s.cutIf p o n) := by
  cases o with
  | none => exact .refl s
  | some c => exact s.cutLink_trail p c (n c)

theorem State.linkDown_trail (s : State) (p st : Nat) : Trail s (s.linkDown p st) := by
  unfold State.linkDown State.flag
  refine Trail.trans ?_ (State.verifyStart_trail _ p)
  have h := ((Trail.refl s).fset (id := .PORT_LINK_STAT) p fPORT_LINK_STAT_LINK_STATE st (by decide)).fset
    (id := .PORT_LINK_EVT) p fPORT_LINK_EVT_DOWN 1 (by decide)
  refine .ite (fun _ => ?_) (fun _ => Trail.trans ?_ (State.cutIf_trail _ p _ _)) <;>
    exact Trail.trans (h.setMac p _) (State.cutIf_trail _ p _ _)

theorem State.followLink_trail (s : State) (p : Nat) : Trail s (s.followLink p) := by
  unfold State.followLink
  have h := s.dropMarkers_trail p
  exact .ite (fun _ => h) (fun _ => .ite (fun _ => h.trans (State.linkUp_trail _ p))
    (fun _ => .ite (fun _ => h.trans (State.linkDown_trail _ p _)) (fun _ => h.fset p _ _ (by decide))))

theorem State.followFec_trail (s : State) (p : Nat) : Trail s (s.followFec p) := by
  unfold State.followFec State.fsetB State.flag
  refine .ite (fun _ => .refl s) (fun _ => ?_)
  have h := (Trail.refl s).fset (id := .PORT_FEC_STAT) p fPORT_FEC_STAT_LOCKED
    (s.portUsed p && s.portFec p && s.markerLock p).toNat (by decide)
  exact .ite (fun _ => h.fset p _ _ (by decide)) (fun _ => h)

theorem State.followSpray_trail (s : State) (p : Nat) : Trail s (s.followSpray p) := by
  unfold State.followSpray
  exact .ite (fun _ => .spray s _ _) (fun _ => .refl s)

theorem State.finish_trail (s : State) (p : Nat) : Trail s (s.finish p) := by
  unfold State.finish
  exact .ite (fun _ => (Trail.refl s).modMac p _) (fun _ => .refl s)

theorem State.onLine_trail (s : State) (p : Nat) (w : List Byte) (b : Bool) : Trail s (s.onLine p w b) := by
  unfold State.onLine
  exact .ite (fun _ => .refl s) (fun _ => (Trail.refl s).modMac p _)

theorem State.loopItem_trail (s : State) (p : Nat) (x : RxFrame ⊕ Fragment) : Trail s (s.loopItem p x) := by
  unfold State.loopItem
  exact .ite (fun _ => (Trail.refl s).modMac p _) (fun _ => .refl s)

theorem State.mSend_trail (s : State) (p : Nat) : Trail s (s.mSend p) := by
  have send (u : State) (b : Byte) : Trail u
      (((u.modMac p (fun m => { m with lastCtl := mPacket })).onLine p (preamble b ++ mPacket) false).loopItem p
        (.inl { bytes := mPacket, start := b })) :=
    (((Trail.refl u).modMac p _).trans (State.onLine_trail _ p _ _)).trans (State.loopItem_trail _ p _)
  unfold State.mSend
  refine .ite (fun _ => .refl s) (fun _ => ?_)
  have h : Trail s (if (s.mac p).respondDue then
      (((s.modMac p (fun m => { m with respondDue := false })).modMac p (fun m => { m with lastCtl := mPacket })).onLine p
        (preamble smdR ++ mPacket) false).loopItem p (.inl { bytes := mPacket, start := smdR }) else s) :=
    .ite (fun _ => ((Trail.refl s).modMac p _).trans (send _ smdR)) (fun _ => .refl s)
  exact .ite (fun _ => (h.modMac p _).trans (send _ smdV)) (fun _ => h)

theorem State.showPort_trail (s : State) (p : Nat) : Trail s (s.showPort p) := by
  unfold State.showPort
  refine Trail.trans ?_ (State.followSpray_trail _ p)
  refine Trail.trans ?_ (State.followFec_trail _ p)
  refine Trail.trans ?_ (State.mSend_trail _ p)
  refine Trail.trans ?_ (State.follow_trail _ _ p _ _ (by decide))
  refine Trail.trans ?_ (State.finish_trail _ p)
  exact ((s.follow_trail _ p _ _ (by decide)).trans (State.follow_trail _ _ p _ _ (by decide))).trans
    (State.follow_trail _ _ p _ _ (by decide))

theorem State.rclkFollow_trail (s : State) (k : Nat) : Trail s (s.rclkFollow k) := by
  unfold State.rclkFollow State.rclkSquelch State.flag
  have h : Trail s { s with time := { s.time with rclkClear := s.time.rclkClear.del k } } :=
    (Trail.refl s).raw rfl rfl
  exact .ite (fun _ => .ite (fun _ => h) (fun _ => (h.fset 0 _ _ (by decide)).fset 0 _ _ (by decide)))
    (fun _ => .ite (fun _ => (Trail.refl s).raw rfl rfl) (fun _ => .refl s))

theorem State.settle_trail (s : State) : Trail s s.settle := by
  unfold State.settle State.rclkFollowAll
  exact (((Trail.refl s).forEach _ _ (fun u p => u.followLink_trail p)).forEach _ _
    (fun u p => u.showPort_trail p)).trans ((State.rclkFollow_trail _ 0).trans (State.rclkFollow_trail _ 1))

theorem State.adminPost_trail (s : State) (c : AdminCompl) : Trail s (s.adminPost c) := by
  unfold State.adminPost State.flag
  have h : Trail s { s with adminDue := s.adminDue ++ [c] } := (Trail.refl s).raw rfl rfl
  exact .ite (fun _ => h.fset 0 _ _ (by decide)) (fun _ => h)

theorem State.lopFinal_trail (s : State) (k : Nat) (x : Lop) (st : Nat) : Trail s (s.lopFinal k x st) := by
  unfold State.lopFinal State.setLopState State.flag
  refine Trail.trans ?_ (State.adminPost_trail _ _)
  exact ((((((Trail.refl s).fset k _ _ (by decide)).fset k _ _ (by decide)).fset k _ _ (by decide)).fset k _ _
    (by decide)).rset k _ (by decide)).rset k _ (by decide)

theorem State.askLop_trail (s : State) (k : Nat) (x : Lop) (qs : List RafterReq) :
    Trail s ((s.setLop k x).enqueue qs) := (Trail.refl s).raw rfl rfl

theorem State.lopFinish_trail (s : State) (k : Nat) : Trail s (s.lopFinish k) := by
  unfold State.lopFinish
  split
  · exact .refl s
  · split
    · exact .refl s
    · refine .ite (fun _ => .refl s) (fun _ => .ite (fun _ => ?_) (fun _ => State.lopFinal_trail s k _ _))
      exact .ite (fun _ => (s.askLop_trail k _ _).trans (State.lopFinal_trail _ k _ _))
        (fun _ => s.askLop_trail k _ _)

theorem State.rehashEnd_trail (s : State) (t : Nat) : Trail s (s.rehashEnd t) := by
  unfold State.rehashEnd State.fsetB
  exact ((Trail.refl s).fset t _ _ (by decide)).fset 0 _ _ (by decide)

theorem State.lopEnd_trail (s : State) (k st : Nat) : Trail s (s.lopEnd k st) := by
  unfold State.lopEnd
  split
  · exact .refl s
  · next x _ =>
    refine Trail.trans ?_ (State.lopFinish_trail _ k)
    have h : Trail s (if cb x.bytes 0 1 == oBULK then s.fset .TABLE_GEN_STAT 0 fTABLE_GEN_STAT_BULK 0 else s) :=
      .ite (fun _ => (Trail.refl s).fset 0 _ _ (by decide)) (fun _ => .refl s)
    have k : Trail s (if cb x.bytes 0 1 == oREHASH then
        (if cb x.bytes 0 1 == oBULK then s.fset .TABLE_GEN_STAT 0 fTABLE_GEN_STAT_BULK 0 else s).rehashEnd
          (cb x.bytes 9 1)
        else if cb x.bytes 0 1 == oBULK then s.fset .TABLE_GEN_STAT 0 fTABLE_GEN_STAT_BULK 0 else s) :=
      .ite (fun _ => h.trans (State.rehashEnd_trail _ _)) (fun _ => h)
    exact k.raw rfl rfl

theorem State.eyeCheck_trail (s : State) : Trail s s.eyeCheck := by
  unfold State.eyeCheck
  exact Trail.forEach _ _ (fun u e => .ite
    (fun _ => ((Trail.refl u).fset e.1 _ _ (by decide)).trans (State.lopEnd_trail _ _ _)) (fun _ => .refl u)) (.refl s)

theorem State.genDone_trail (s : State) : Trail s s.genDone := by
  unfold State.genDone State.curDone State.shortDone
  split
  · refine .ite (fun _ => ?_) (fun _ => .refl s)
    split
    · exact Trail.trans (t := { s with adminCur := none }) ((Trail.refl s).raw rfl rfl)
        (State.adminPost_trail _ _)
    · exact .refl s
  · exact .refl s

theorem State.badOpcodes_trail (n : Nat) (s : State) : Trail s (s.badOpcodes n) := by
  induction n generalizing s with
  | zero => exact .refl s
  | succ n ih =>
    unfold State.badOpcodes
    split
    · refine .ite (fun _ => .refl s) (fun _ => Trail.trans ?_ (ih _))
      exact Trail.trans (t := s.popCmd) ((Trail.refl s).raw rfl rfl) (State.adminPost_trail _ _)
    · exact .refl s

theorem State.fenceCheck_trail (s : State) : Trail s s.fenceCheck := by
  unfold State.fenceCheck State.flag
  split
  · exact .ite (fun _ => (Trail.refl s).fset 0 _ _ (by decide)) (fun _ => .refl s)
  · exact .ite (fun _ => (Trail.refl s).fset 0 _ _ (by decide)) (fun _ => .refl s)

theorem State.followWork_trail (s : State) : Trail s s.followWork :=
  Trail.forEach _ _ (fun u d => .ite (fun _ => .refl u) (fun _ => .wake u d)) (.refl s)

theorem State.followWatch_trail (s : State) : Trail s s.followWatch := by
  unfold State.followWatch
  refine .ite (fun h => .watch s _ ?_) (fun _ => .refl s)
  simp only [Bool.and_eq_true, State.watchTime] at h
  cases hs : s.power.sleep <;> simp_all

/-- What follows from a command that frees no pads. -/
theorem State.after_trail (s t : State) (h : s.bootU.asserted = false) (hp : s.padsFreed t = t) :
    Trail t (s.after t) := by
  have k := (((t.eyeCheck_trail.trans (State.genDone_trail _)).trans
    (State.badOpcodes_trail t.eyeCheck.adminFifo.length _)).trans (State.fenceCheck_trail _)).trans
    (State.settle_trail _)
  have k := (k.trans (State.followWork_trail _)).trans (State.followWatch_trail _)
  unfold State.after
  rw [h, if_neg (by decide), hp]
  exact k.raw rfl rfl

-- What the steps keep

theorem Field.put_agree (f : Field) (v : Word) (n : Nat) (m : Word)
    (hm : BitVec.ofNat 64 ((2 ^ f.w - 1) <<< f.lo) = m) : f.put v n &&& ~~~ m = v &&& ~~~ m := by
  refine BitVec.eq_of_getLsbD_eq fun k hk => ?_
  subst hm
  simp only [BitVec.getLsbD_and, BitVec.getLsbD_not, BitVec.getLsbD_ofNat, hk, Field.getLsbD_put, decide_true,
    Bool.true_and, Nat.testBit_shiftLeft, Nat.testBit_two_pow_sub_one]
  split
  · next h => simp [h.1, show k - f.lo < f.w by omega]
  · rfl

theorem rget_rset_of_trailRegs (s : State) {id b : RegId} (j i : Nat) (v : Word) (hid : id ∈ trailRegs)
    (hb : b ∉ trailRegs) : (s.rset id j v).rget b i = s.rget b i := s.rget_rset_ne v (fun e => hb (e.1 ▸ hid))

/-- A trail changes no bit of COURSE_SPRAY_STAT but ACTIVE. -/
theorem Trail.sprayStat {s t : State} (h : Trail s t) (i : Nat) :
    t.rget .COURSE_SPRAY_STAT i &&& ~~~ 1 = s.rget .COURSE_SPRAY_STAT i &&& ~~~ 1 := by
  induction h with
  | refl => rfl
  | trans _ _ ih₁ ih₂ => exact ih₂.trans ih₁
  | reg s id j v hid => rw [rget_rset_of_trailRegs s j i v hid (by decide)]
  | spray s j b =>
    unfold State.follow State.fsetB State.fset
    split
    · rfl
    · rw [State.rget_rset]
      split
      · next e => rw [Field.put_agree _ _ _ _ (by decide), e.2]
      · rfl
  | other _ hr _ => rw [State.rget_congr hr]
  | wake s d => unfold State.wake; split <;> rfl
  | watch s st hs => simp [State.setDom, State.setReady, State.showBlock, State.fset, State.rget_rset, hs]

/-- A trail changes the state of no domain but WATCH. -/
theorem Trail.dom {s t : State} (h : Trail s t) {d : Nat} (hd : d ≠ dWATCH) : t.dom d = s.dom d := by
  unfold State.dom
  induction h with
  | refl => rfl
  | trans _ _ ih₁ ih₂ => exact ih₂.trans ih₁
  | reg s id j v hid => simp only [State.fget, rget_rset_of_trailRegs s j 0 v hid (b := .POWER_DOM_STAT) (by decide)]
  | spray s j b =>
    unfold State.follow State.fsetB
    split
    · rfl
    · exact s.fget_fset_reg _ _ _ (by simp)
  | other _ hr _ => simp only [State.fget, State.rget_congr hr]
  | wake s d => unfold State.wake; split <;> rfl
  | watch s st hs =>
    have e : (s.setDom dWATCH st).fget .POWER_DOM_STAT 0 (fPOWER_DOM_STAT_STATE d) =
        (s.fset .POWER_DOM_STAT 0 (fPOWER_DOM_STAT_STATE dWATCH) st).fget .POWER_DOM_STAT 0 (fPOWER_DOM_STAT_STATE d) := by
      simp [State.setDom, State.setReady, State.showBlock, State.fget, State.fset, State.rget_rset, hs]
    rw [e]
    refine s.fget_fset_field _ _ _ _ _ _ ?_
    simp only [fPOWER_DOM_STAT_STATE, dWATCH] at hd ⊢
    omega

/-- A domain that wakes goes on waking along a trail. -/
theorem Trail.waking {s t : State} (h : Trail s t) {d : Nat} (hd : d ∈ s.power.waking) : d ∈ t.power.waking := by
  induction h with
  | refl => exact hd
  | trans _ _ ih₁ ih₂ => exact ih₂ (ih₁ hd)
  | reg => exact hd
  | spray s j b => unfold State.follow State.fsetB; split <;> exact hd
  | other _ _ hp => rw [hp]; exact hd
  | wake s e =>
    unfold State.wake; split
    · exact List.mem_append_left _ hd
    · exact hd
  | watch s st hs => simpa [State.setDom, State.setReady, State.showBlock, State.fset, hs] using hd

end Sys2Proof.Machine
end

section
/-! PROOFS. The control port: writes and reads that it serves at once, and those that stall or fail (R13 to R24, R60). -/

namespace Sys2Proof.Machine

-- Commands and what follows from them

/-- A command with the effect u answers u and what follows from it. -/
theorem answers_done {c : Instr} {s u : State} {P : State → Prop} (he : exec c s = s.done u) (hP : P (s.after u)) :
    Answers c s P := ⟨_, he, hP⟩

theorem effect_done {c : Instr} {s u : State} {P : State → Prop} (he : exec c s = s.done u) (hP : P u) :
    Effect c s P := ⟨u, he, hP⟩

/-- What a command leaves alone, what follows from it leaves alone but for `afterRegs`. -/
theorem RegsKept.after {w : RegId → Nat → Bool} {s u : State} (hs : s.bootU.asserted = false) (hp : s.padsFreed u = u)
    (h : RegsKept w s u) : RegsKept (fun a j => afterRegs.contains a || w a j) s (s.after u) := by
  intro id i hid
  simp only [Bool.or_eq_false_iff] at hid
  have hn : id ∉ afterRegs := fun hc => by simp [hc] at hid
  rw [s.after_rget u hs hp id i hn, h id i hid.2]

theorem State.after_ctResp (s u : State) (hs : s.bootU.asserted = false) (hp : s.padsFreed u = u) :
    (s.after u).ctResp = u.ctResp := by
  have h := congrArg State.ctResp (s.after_follows u hs hp).rest
  exact h

-- Served writes

/-- An operation that sets no bit of GEN_ACC_ERR leaves FIRST_OFF as it is. -/
theorem State.tracked_of_accErr {s s' : State} (off : Nat) (h : s'.rget .GEN_ACC_ERR 0 = s.rget .GEN_ACC_ERR 0) :
    s.tracked off s' = s' := by
  have e : s'.accBits = s.accBits := by simp only [State.accBits, h]
  unfold State.tracked
  rw [e, if_neg (by simp)]

/-- A write of a whole register at its offset, served at once. -/
theorem exec_registerWrite {id : RegId} {i : Nat} (hi : i < id.count) (v : Word) (s : State) :
    exec (.registerWrite { write := true, size := id.desc.width / 8, offset := addrOf id i, data := v }) s =
      s.done (s.ctWrite id i v) := congrArg s.done (s.ctAccess_write hi v)

/-- A read of a whole register at its offset. -/
theorem exec_rcCounterRead {id : RegId} {i : Nat} (hi : i < id.count) (s : State) :
    exec (.rcCounterRead (addrOf id i) (id.desc.width / 8)) s = s.done (s.ctRead id i) :=
  congrArg s.done (s.ctAccess_read hi)

-- Event registers

/-- The event registers of the statement. -/
def eventRegs : List RegId :=
  [.LANE_EVENT, .LANE_CAL_EVENT, .PORT_MAC_EVT, .COURSE_PARSE_EVT, .TABLE_GEN_EVT, .SCHED_EVT, .LOFT_EVT, .SEAL_EVT,
    .DMA_CHAN_EVT, .GEN_INTEG_EVT, .POWER_EVT, .POWER_THERM_EVT, .POWER_LIG_EVT, .BOOT_EVT]

/-- Every field of the register is W1C, and they lie in the bits that a write carries. -/
def w1cOnly (id : RegId) : Bool :=
  typeMask .rw id.desc.fields == 0 && typeMask .w1s id.desc.fields == 0 && typeMask .rwsc id.desc.fields == 0 &&
    (id.desc.width == 64 || low32 (typeMask .w1c id.desc.fields) == typeMask .w1c id.desc.fields)

theorem eventRegs_w1cOnly : eventRegs.all w1cOnly = true := by decide +kernel

theorem low32_and (v m : Word) : low32 v &&& m = v &&& low32 m := by
  rw [low32, low32, BitVec.and_assoc, BitVec.and_comm 4294967295]

theorem writeTypes_w1cOnly {id : RegId} (h : w1cOnly id = true) (old v : Word) :
    writeTypes id.desc.fields old (carried id v) = old &&& ~~~ (v &&& typeMask .w1c id.desc.fields) := by
  simp only [w1cOnly, Bool.and_eq_true, Bool.or_eq_true, beq_iff_eq] at h
  obtain ⟨⟨⟨hrw, hs⟩, hc⟩, hw⟩ := h
  have e : carried id v &&& typeMask .w1c id.desc.fields = v &&& typeMask .w1c id.desc.fields := by
    unfold carried
    split
    · rfl
    · next hn => rw [low32_and, hw.resolve_left hn]
  have keep : old &&& ~~~(0 : Word) = old := BitVec.and_allOnes
  have none (x : Word) : x &&& (0 : Word) = 0 := BitVec.and_zero
  have with0 (x : Word) : x ||| (0 : Word) = x := BitVec.or_zero
  simp only [writeTypes, hrw, hs, hc, e, keep, none, with0]

/-- A write of an event register acts by its fields' types alone. -/
theorem State.writeReg_event {id : RegId} (h : id ∈ eventRegs) (s : State) (i : Nat) (v : Word) :
    s.writeReg id i v = s.plainWrite id i v := by
  fin_cases h <;> rfl

/-- A served write of an event register sets it to its value without the bits that the write carries. -/
theorem State.ctWrite_event {id : RegId} {i : Nat} {s : State} (hid : id ∈ eventRegs) (h : s.serves id i = true)
    (v : Word) :
    s.ctWrite id i v =
      { s.rset id i (s.rget id i &&& ~~~ (v &&& typeMask .w1c id.desc.fields)) with
        staged := s.staged.del (rkey id i)
        ctResp := some { err := false, data := 0 }
        ctOut := [{ err := false, data := 0 }]
        ctLast := some (addrOf id i % 16777216, s.mclk) } := by
  have hne : id ≠ .GEN_ACC_ERR := by rintro rfl; revert hid; decide
  have hw := List.all_eq_true.mp eventRegs_w1cOnly id hid
  have e : s.written id i v =
      { s.rset id i (s.rget id i &&& ~~~ (v &&& typeMask .w1c id.desc.fields)) with
        staged := s.staged.del (rkey id i) } := by
    rw [State.written, State.writeReg_event hid, State.plainWrite, writeTypes_w1cOnly hw]
    rfl
  have ha : (s.written id i v).rget .GEN_ACC_ERR 0 = s.rget .GEN_ACC_ERR 0 := by
    rw [e]
    exact s.rget_rset_ne _ (fun c => hne c.1)
  rw [State.ctWrite_serves v h, State.tracked_of_accErr _ ha, e]

end Sys2Proof.Machine

open Sys2Proof Sys2Proof.Machine

/-- Settles O8: the write acts by the fields' types alone, and every field of an event register is W1C. -/
theorem eventBitsClearByOne : Obligations.EventBitsClearByOne := by
  intro id i v s hi hs hid
  have ha := State.serves_asserted hs
  have hp : s.padsFreed (s.ctWrite id i v) = s.ctWrite id i v :=
    State.padsFreed_sleep (by rw [State.ctWrite_event hid hs]; rfl)
  have hn : id ∉ afterRegs := fun h => by revert hid h; cases id <;> decide
  refine answers_done (exec_registerWrite hi v s) ⟨?_, ?_, ?_⟩
  · rw [State.after_rget _ _ ha hp id i hn, State.ctWrite_event hid hs]
    exact s.rget_rset_same id i _
  · rw [State.after_ctResp _ _ ha hp, State.ctWrite_event hid hs]
  · refine RegsKept.after ha hp fun a j hj => ?_
    rw [State.ctWrite_event hid hs]
    refine s.rget_rset_ne _ fun e => ?_
    simp [e.1, e.2] at hj
end

section
/-! PROOFS. The SCHED, METER and STATS windows (R460, R472, R480 to R485, R773, R774). -/

namespace Sys2Proof.Machine

-- What registers and fields read after others were set

theorem State.fget_rset (s : State) (a b : RegId) (i j : Nat) (f : Field) (v : Word) :
    (s.rset a i v).fget b j f = if a = b ∧ i = j then f.get v else s.fget b j f := by
  simp only [State.fget, State.rget_rset]; split <;> rfl

theorem State.rget_fset (s : State) (a b : RegId) (i j : Nat) (f : Field) (n : Nat) :
    (s.fset a i f n).rget b j = if a = b ∧ i = j then f.put (s.rget b j) n else s.rget b j := by
  rw [State.fset, State.rget_rset]
  split
  · next h => rw [h.1, h.2]
  · rfl

theorem State.fget_fset (s : State) (a b : RegId) (i j : Nat) (f g : Field) (n : Nat) :
    (s.fset a i g n).fget b j f = if a = b ∧ i = j then f.get (g.put (s.rget b j) n) else s.fget b j f := by
  simp only [State.fget, State.rget_fset]; split <;> rfl

-- Nodes

/-- A write of a node is seen at that node (levels above 1 share one store), and nowhere else. -/
theorem State.node?_setNode_cases (s : State) (lvl i l j : Nat) (n : Node) :
    (s.setNode lvl i n).node? l j = s.node? l j ∨
      ((s.setNode lvl i n).node? l j = some n ∧ s.node? l j = s.node? lvl i) := by
  have two (lvl : Nat) : lvl = 0 ∨ lvl = 1 ∨ (lvl ≠ 0 ∧ lvl ≠ 1) := by omega
  rcases two lvl with rfl | rfl | ⟨h0, h1⟩ <;> rcases two l with rfl | rfl | ⟨k0, k1⟩ <;> by_cases e : j = i <;>
    simp [State.setNode, State.node?, Store.find?_put, *]

theorem State.node?_setNode (s : State) (lvl i : Nat) (n : Node) : (s.setNode lvl i n).node? lvl i = some n := by
  simp only [State.setNode, State.node?]
  split
  · simp
  · split <;> simp

/-- The parts of a node that a change of the active lists keeps: its record, its queue and its depth. -/
def Node.record (n : Node) : Word × Word × Word × List Pkt × Nat := (n.d0, n.d1, n.d2, n.fifo, n.depth)

/-- Every node has the same record, queue and depth in t as in s. -/
def RecordsKept (s t : State) : Prop := ∀ lvl i, (t.node? lvl i).map Node.record = (s.node? lvl i).map Node.record

theorem RecordsKept.refl (s : State) : RecordsKept s s := fun _ _ => rfl

theorem RecordsKept.trans {s t u : State} (h : RecordsKept s t) (k : RecordsKept t u) : RecordsKept s u :=
  fun lvl i => (k lvl i).trans (h lvl i)

theorem RecordsKept.setActive (s : State) (k : Nat) (l : List Nat) : RecordsKept s (s.setActive k l) := fun _ _ => rfl

theorem RecordsKept.rise (s : State) (lvl i : Nat) : RecordsKept s (s.rise lvl i) := fun _ _ => rfl

theorem RecordsKept.forEach {α : Type} (s : State) (l : List α) {f : State → α → State}
    (h : ∀ s x, RecordsKept s (f s x)) : RecordsKept s (s.forEach l f) := by
  induction l generalizing s with
  | nil => exact .refl s
  | cons x l ih => exact (h s x).trans (ih _)

theorem RecordsKept.setNode {s : State} {lvl i : Nat} {m : Node}
    (hm : (s.node? lvl i).map Node.record = some m.record) : RecordsKept s (s.setNode lvl i m) := by
  intro l j
  rcases s.node?_setNode_cases lvl i l j m with h | ⟨h, e⟩
  · rw [h]
  · rw [h, e, hm, Option.map_some]

theorem RecordsKept.ite {s t u : State} {c : Prop} [Decidable c] (h : RecordsKept s t) (k : RecordsKept s u) :
    RecordsKept s (if c then t else u) := by split <;> assumption

/-- A node leaves the lists of a parent at the priorities that `keep` does not name. -/
def State.unlist (s : State) (lvl parent i : Nat) (keep : Nat → Bool) : State :=
  s.forEach (List.range 8) fun s p =>
    if keep p then s else s.setActive (listKey lvl parent p) ((s.activeAt (listKey lvl parent p)).filter (· != i))

theorem State.unlist_records (s : State) (lvl parent i : Nat) (keep : Nat → Bool) :
    RecordsKept s (s.unlist lvl parent i keep) :=
  .forEach s _ fun s p => by
    split
    · exact .refl s
    · exact .setActive s _ _

theorem State.relist_records (s : State) (lvl i : Nat) : RecordsKept s (s.relist lvl i) := by
  unfold State.relist
  split
  · exact .refl s
  · next n hn =>
    have hu := s.unlist_records lvl n.parent i fun p => s.listable lvl i && p == n.prio
    exact hu.trans <| .ite (.ite (.refl _) (.setActive _ _ _)) <| .ite (.setNode (by rw [hu lvl i, hn]; rfl)) (.refl _)

theorem State.relistUp_records (s : State) (lvl i : Nat) : RecordsKept s (s.relistUp lvl i) := by
  have h := s.relist_records lvl i
  unfold State.relistUp
  dsimp only
  split
  · next n _ =>
    refine h.trans (RecordsKept.trans (State.relist_records _ 1 n.parent) ?_)
    split
    · next c _ => exact State.relist_records _ 2 c.parent
    · exact .refl _
  · next n _ => exact h.trans (State.relist_records _ 2 n.parent)
  · exact h

-- The SCHED window

/-- R482: an operation ends with its result, and BUSY clears. -/
def State.schedEnds (s : State) (r : Nat) : State :=
  (s.fset .SCHED_WIN_STAT 0 fSCHED_WIN_STAT_RESULT r).fset .SCHED_WIN_CMD 0 fSCHED_WIN_CMD_BUSY 0

/-- The window's data registers. -/
def State.schedData (s : State) (a b c d : Word) : State :=
  (((s.rset .SCHED_WIN_DATA_0 0 a).rset .SCHED_WIN_DATA_1 0 b).rset .SCHED_WIN_DATA_2 0 c).rset .SCHED_WIN_DATA_3 0 d

theorem State.schedEnds_busy (s : State) (r : Nat) :
    (s.schedEnds r).fbit .SCHED_WIN_CMD 0 fSCHED_WIN_CMD_BUSY = false := by
  simp [State.fbit, State.schedEnds, State.fget_fset_same _ .SCHED_WIN_CMD 0 fSCHED_WIN_CMD_BUSY 0 (by decide)]

theorem State.schedEnds_result (s : State) {r : Nat} (h : r < 8) :
    (s.schedEnds r).fget .SCHED_WIN_STAT 0 fSCHED_WIN_STAT_RESULT = r := by
  rw [State.schedEnds, State.fget_fset_reg _ _ _ _ (by decide), State.fget_fset_same _ _ _ _ _ (by decide)]
  exact Nat.mod_eq_of_lt h

theorem State.schedEnds_rget (s : State) (r : Nat) {id : RegId} (i : Nat) (h : id ≠ .SCHED_WIN_STAT ∧ id ≠ .SCHED_WIN_CMD) :
    (s.schedEnds r).rget id i = s.rget id i := by
  rw [State.schedEnds, State.rget_fset_ne _ _ _ fun e => h.2 e.1.symm, State.rget_fset_ne _ _ _ fun e => h.1 e.1.symm]

theorem State.schedEnds_nodes (s : State) (r : Nat) :
    (s.schedEnds r).leaves = s.leaves ∧ (s.schedEnds r).clients = s.clients ∧ (s.schedEnds r).groups = s.groups := by
  simp only [State.schedEnds, State.leaves_fset, State.clients_fset, State.groups_fset, and_self]

theorem State.schedEnds_node? (s : State) (r lvl i : Nat) : (s.schedEnds r).node? lvl i = s.node? lvl i := by
  obtain ⟨hl, hc, hg⟩ := s.schedEnds_nodes r
  rw [State.node?, State.node?, hl, hc, hg]

/-- A refused WRITE gives its result and changes no node. -/
theorem State.schedEnds_refused (s : State) {r : Nat} (h : r < 8) :
    (s.schedEnds r).fget .SCHED_WIN_STAT 0 fSCHED_WIN_STAT_RESULT = r ∧ (s.schedEnds r).leaves = s.leaves ∧
      (s.schedEnds r).clients = s.clients ∧ (s.schedEnds r).groups = s.groups :=
  ⟨s.schedEnds_result h, s.schedEnds_nodes r⟩

theorem State.schedData_nodes (s : State) (a b c d : Word) :
    (s.schedData a b c d).leaves = s.leaves ∧ (s.schedData a b c d).clients = s.clients ∧
      (s.schedData a b c d).groups = s.groups := by
  simp only [State.schedData, State.leaves_rset, State.clients_rset, State.groups_rset, and_self]

theorem State.schedData_rget (s : State) (a b c d : Word) :
    (s.schedData a b c d).rget .SCHED_WIN_DATA_0 0 = a ∧ (s.schedData a b c d).rget .SCHED_WIN_DATA_1 0 = b ∧
      (s.schedData a b c d).rget .SCHED_WIN_DATA_2 0 = c ∧ (s.schedData a b c d).rget .SCHED_WIN_DATA_3 0 = d := by
  simp [State.schedData, State.rget_rset]

/-- R482: a WRITE of the record that stands in the data registers. -/
def State.schedWrite (s : State) (lvl i : Nat) : Nat × State :=
  s.nodeWrite lvl i (s.rget .SCHED_WIN_DATA_0 0) (s.rget .SCHED_WIN_DATA_1 0) (s.rget .SCHED_WIN_DATA_2 0)
    (s.fbit .SCHED_WIN_CMD 0 fSCHED_WIN_CMD_FORGIVE)

/-- A READ's words are in the data registers when it has ended. -/
theorem State.schedRead_rget (s : State) (r : Nat) (a b c d : Word) :
    ((s.schedData a b c d).schedEnds r).rget .SCHED_WIN_DATA_0 0 = a ∧
      ((s.schedData a b c d).schedEnds r).rget .SCHED_WIN_DATA_1 0 = b ∧
      ((s.schedData a b c d).schedEnds r).rget .SCHED_WIN_DATA_2 0 = c ∧
      ((s.schedData a b c d).schedEnds r).rget .SCHED_WIN_DATA_3 0 = d := by
  iterate 4 rw [State.schedEnds_rget _ _ _ (by decide)]
  exact s.schedData_rget a b c d

theorem State.schedRead_nodes (s : State) (r : Nat) (a b c d : Word) :
    ((s.schedData a b c d).schedEnds r).leaves = s.leaves ∧ ((s.schedData a b c d).schedEnds r).clients = s.clients ∧
      ((s.schedData a b c d).schedEnds r).groups = s.groups := by
  obtain ⟨hl, hc, hg⟩ := (s.schedData a b c d).schedEnds_nodes r
  obtain ⟨kl, kc, kg⟩ := s.schedData_nodes a b c d
  exact ⟨hl.trans kl, hc.trans kc, hg.trans kg⟩

section
variable {s : State} {lvl i : Nat} (hb : s.fbit .SCHED_WIN_CMD 0 fSCHED_WIN_CMD_BUSY = true)
  (hl : s.fget .SCHED_WIN_ADDR 0 fSCHED_WIN_ADDR_LEVEL = lvl) (hi : s.fget .SCHED_WIN_ADDR 0 fSCHED_WIN_ADDR_INDEX = i)
include hb hl hi

theorem State.schedWin_read_words (ho : s.fget .SCHED_WIN_CMD 0 fSCHED_WIN_CMD_OP = 0) {r : Nat} {a b c d : Word}
    (h : s.nodeRead lvl i = (r, [a, b, c, d])) : s.schedWin 0 = (s.schedData a b c d).schedEnds r := by
  simp only [State.schedWin, hb, ho, hl, hi, h, beq_self_eq_true, Bool.and_self, if_true]
  rfl

theorem State.schedWin_read_bad (ho : s.fget .SCHED_WIN_CMD 0 fSCHED_WIN_CMD_OP = 0) {r : Nat}
    (h : s.nodeRead lvl i = (r, [])) : s.schedWin 0 = s.schedEnds r := by
  simp only [State.schedWin, hb, ho, hl, hi, h, beq_self_eq_true, Bool.and_self, if_true]
  rfl

theorem State.schedWin_write (ho : s.fget .SCHED_WIN_CMD 0 fSCHED_WIN_CMD_OP = 1) :
    s.schedWin 1 = (s.schedWrite lvl i).2.schedEnds (s.schedWrite lvl i).1 := by
  simp only [State.schedWin, hb, ho, hl, hi, beq_self_eq_true, Bool.and_self, if_true]
  rfl

end

theorem Node.refill_words (n : Node) (t : Nat) :
    (n.refill t).d0 = n.d0 ∧ (n.refill t).d1 = n.d1 ∧ (n.refill t).d2 = n.d2 ∧ (n.refill t).depth = n.depth ∧
      (n.refill t).shaped = n.shaped ∧ (n.refill t).fifo = n.fifo := by
  unfold Node.refill; split <;> exact ⟨rfl, rfl, rfl, rfl, rfl, rfl⟩

theorem Node.record_rewritten (n : Node) (t : Nat) (w0 w1 w2 : Word) (f : Bool) :
    (n.rewritten t w0 w1 w2 f).record = (w0, w1, w2, n.fifo, n.depth) := by
  obtain ⟨_, _, _, hd, _, hq⟩ := n.refill_words t
  unfold Node.rewritten
  dsimp only
  split <;> simp only [Node.record, hd, hq]

/-- The word of SCHED_WIN_DATA_3: credit, depth, backlog and eligibility. -/
def schedWord3 (credit depth : Nat) (backlog eligible : Bool) : Word :=
  BitVec.ofNat 64 (credit + depth * 2 ^ 32 + backlog.toNat * 2 ^ 50 + eligible.toNat * 2 ^ 51)

theorem schedWord3_credit {credit : Nat} (h : credit < 2 ^ 32) (depth : Nat) (b e : Bool) :
    fSCHED_WIN_DATA_3_CREDIT.get (schedWord3 credit depth b e) = credit := by
  simp only [Field.get, fSCHED_WIN_DATA_3_CREDIT, schedWord3, BitVec.toNat_ofNat, Nat.shiftRight_zero]
  omega

theorem schedWord3_eligible {credit depth : Nat} (h : credit < 2 ^ 32) (hd : depth < 2 ^ 18) (b e : Bool) :
    (fSCHED_WIN_DATA_3_ELIGIBLE.get (schedWord3 credit depth b e) != 0) = e := by
  have hv : fSCHED_WIN_DATA_3_ELIGIBLE.get (schedWord3 credit depth b e) = e.toNat := by
    simp only [Field.get, fSCHED_WIN_DATA_3_ELIGIBLE, schedWord3, BitVec.toNat_ofNat, Nat.shiftRight_eq_div_pow]
    have := b.toNat_le
    have := e.toNat_le
    omega
  rw [hv]
  cases e <;> rfl

theorem ofSigned_lt (w : Nat) (v : Int) : ofSigned w v < 2 ^ w := by
  have := Int.emod_lt_of_pos v (b := ((2 ^ w : Nat) : Int)) (by positivity)
  have := Int.emod_nonneg v (b := ((2 ^ w : Nat) : Int)) (by positivity)
  unfold ofSigned
  omega

/-- The credit that SCHED_WIN_DATA_3 gives. -/
def State.nodeCredit (s : State) (n : Node) : Nat :=
  if n.shaped then ofSigned 32 (wholeBytes (n.refill s.tick).credit) else 0

theorem State.nodeCredit_lt (s : State) (n : Node) : s.nodeCredit n < 2 ^ 32 := by
  unfold State.nodeCredit
  split
  · exact ofSigned_lt _ _
  · decide

theorem State.nodeRead_bad (s : State) {lvl i : Nat} (h : levelSize lvl ≤ i) : s.nodeRead lvl i = (nBAD_VALUE, []) := by
  rw [State.nodeRead, if_pos h]

theorem State.nodeRead_none {s : State} {lvl i : Nat} (h : ¬ levelSize lvl ≤ i) (hn : s.node? lvl i = none) :
    s.nodeRead lvl i =
      (nOK, [BitVec.ofNat 64 (recReset0 lvl), BitVec.ofNat 64 (recReset1 lvl), BitVec.ofNat 64 (recReset2 lvl), 0]) := by
  rw [State.nodeRead, if_neg h, hn]

theorem State.nodeRead_some {s : State} {lvl i : Nat} {n : Node} (h : ¬ levelSize lvl ≤ i) (hn : s.node? lvl i = some n) :
    s.nodeRead lvl i =
      (nOK, [n.d0, n.d1, n.d2, schedWord3 (s.nodeCredit n) n.depth (s.backlog lvl i) (s.eligibleNode lvl i)]) := by
  obtain ⟨h0, h1, h2, hd, hs, _⟩ := n.refill_words s.tick
  rw [State.nodeRead, if_neg h, hn]
  simp only [h0, h1, h2, hd, hs]
  rfl

theorem recReset0_exists (lvl : Nat) : fSCHED_WIN_DATA_0_EXISTS.get (BitVec.ofNat 64 (recReset0 lvl)) = 0 := by
  unfold recReset0; split <;> decide

/-- A refused WRITE changes no node. -/
theorem State.nodeWrite_bad {s : State} {lvl i : Nat} {w0 w1 w2 : Word} (f : Bool)
    (h : levelSize lvl ≤ i ∨ recBad lvl w0 w1 w2 = true) : s.nodeWrite lvl i w0 w1 w2 f = (nBAD_VALUE, s) := by
  rw [State.nodeWrite, if_pos (by simpa using h)]

section
variable {s : State} {lvl i : Nat} {w0 w1 w2 : Word} (h : ¬ (levelSize lvl ≤ i ∨ recBad lvl w0 w1 w2 = true))
include h

theorem State.nodeWrite_none (f : Bool) (hn : s.node? lvl i = none) :
    s.nodeWrite lvl i w0 w1 w2 f = (nNO_NODE, s) := by
  rw [State.nodeWrite, if_neg (by simpa using h), hn]

theorem State.nodeWrite_badParent (f : Bool) {n : Node} (hn : s.node? lvl i = some n) (hp : s.parentOk lvl w0 = false) :
    s.nodeWrite lvl i w0 w1 w2 f = (nBAD_PARENT, s) := by
  rw [State.nodeWrite, if_neg (by simpa using h), hn]
  simp [hp]

theorem State.nodeWrite_busy (f : Bool) {n : Node} (hn : s.node? lvl i = some n) (hp : s.parentOk lvl w0 = true)
    (hq : w0.toNat % 2 ^ 14 ≠ n.parent ∧ s.backlog lvl i = true) : s.nodeWrite lvl i w0 w1 w2 f = (nBUSY, s) := by
  have hq' : (w0.toNat % 2 ^ 14 != n.parent && s.backlog lvl i) = true := by
    rw [hq.2, Bool.and_true, bne_iff_ne]; exact hq.1
  rw [State.nodeWrite, if_neg (by simpa using h), hn]
  simp only [hp, hq', Bool.not_true, if_true, Bool.false_eq_true, if_false]

theorem State.nodeWrite_ok (f : Bool) {n : Node} (hn : s.node? lvl i = some n) (hp : s.parentOk lvl w0 = true)
    (hq : ¬ (w0.toNat % 2 ^ 14 ≠ n.parent ∧ s.backlog lvl i = true)) :
    (s.nodeWrite lvl i w0 w1 w2 f).1 = nOK ∧
      ((s.nodeWrite lvl i w0 w1 w2 f).2.node? lvl i).map Node.record =
        some ((w0 &&& recMask0 lvl) ||| 0x8000000000000000, w1 &&& recMask1 lvl, w2 &&& recMask2 lvl, n.fifo, n.depth) := by
  have hq' : (w0.toNat % 2 ^ 14 != n.parent && s.backlog lvl i) = false := by
    rw [Bool.eq_false_iff, Ne, Bool.and_eq_true, bne_iff_ne]; exact hq
  rw [State.nodeWrite, if_neg (by simpa using h), hn]
  simp only [hp, hq', Bool.not_true, Bool.false_eq_true, if_false, true_and]
  rw [State.relistUp_records _ lvl i lvl i, RecordsKept.ite (.rise _ lvl i) (.refl _) lvl i, State.node?_setNode,
    Option.map_some, Node.record_rewritten]

end

-- The METER window

/-- A meter's record in the window's data registers, BUSY clear. -/
def State.meterShown (s : State) (i : Nat) : State :=
  let m := (s.meter i).refill s.tick
  let t := s.fset .METER_WIN_CMD 0 fMETER_WIN_CMD_BUSY 0
  let t := ((t.rset .METER_WIN_DATA_0 0 m.d0).rset .METER_WIN_DATA_1 0 m.d1).rset .METER_WIN_DATA_2 0 m.d2
  ((t.rset .METER_WIN_DATA_3 0 (BitVec.ofNat 64 ((wholeBytes m.tc).toNat + (wholeBytes m.tp).toNat * 2 ^ 32))).rset
    .METER_WIN_DATA_4 0 (BitVec.ofNat 64 (m.green + m.yellow * 2 ^ 32))).rset .METER_WIN_DATA_5 0 (BitVec.ofNat 64 m.red)

theorem Meter.refill_words (m : Meter) (t : Nat) :
    (m.refill t).d0 = m.d0 ∧ (m.refill t).green = m.green ∧ (m.refill t).yellow = m.yellow ∧ (m.refill t).red = m.red :=
  ⟨rfl, rfl, rfl, rfl⟩

theorem State.meterShown_busy (s : State) (i : Nat) :
    (s.meterShown i).fbit .METER_WIN_CMD 0 fMETER_WIN_CMD_BUSY = false := by
  simp (disch := decide) [State.meterShown, State.fbit, State.fget_rset, State.fget_fset, Field.get_put_same]

theorem State.meterShown_data (s : State) (i : Nat) :
    (s.meterShown i).rget .METER_WIN_DATA_0 0 = (s.meter i).d0 ∧
      (s.meterShown i).rget .METER_WIN_DATA_3 0 =
        BitVec.ofNat 64 ((wholeBytes ((s.meter i).refill s.tick).tc).toNat +
          (wholeBytes ((s.meter i).refill s.tick).tp).toNat * 2 ^ 32) ∧
      (s.meterShown i).rget .METER_WIN_DATA_4 0 =
        BitVec.ofNat 64 ((s.meter i).green + (s.meter i).yellow * 2 ^ 32) ∧
      (s.meterShown i).rget .METER_WIN_DATA_5 0 = BitVec.ofNat 64 (s.meter i).red := by
  simp [State.meterShown, State.rget_rset, (s.meter i).refill_words s.tick]

@[simp] theorem State.meterShown_meters (s : State) (i : Nat) : (s.meterShown i).meters = s.meters := by
  rw [State.meterShown]
  iterate 6 rw [State.meters_rset]
  rw [State.meters_fset]

@[simp] theorem State.rget_meterClear (s : State) (m : Nat) (id : RegId) (i : Nat) :
    (s.meterClear m).rget id i = s.rget id i := rfl

@[simp] theorem State.meter_setMeter (s : State) (i : Nat) (m : Meter) : (s.setMeter i m).meter i = m :=
  Store.get_set_same _ _ _ _

/-- R472: a meter's record after a good WRITE, or WRITE_FILL, at a tick. -/
def Meter.written (m : Meter) (t : Nat) (w0 w1 w2 : Word) (fill : Bool) : Meter :=
  let n := { m.refill t with d0 := w0 &&& 0x7F, d1 := w1, d2 := w2 }
  if fill then { n with tc := n.cbs, tp := n.pbs } else { n with tc := min n.tc n.cbs, tp := min n.tp n.pbs }

theorem Meter.written_keep (m : Meter) (t : Nat) (w0 w1 w2 : Word) :
    (m.written t w0 w1 w2 false).d1 = w1 ∧
      (m.written t w0 w1 w2 false).tc = min (m.refill t).tc (m.written t w0 w1 w2 false).cbs ∧
      (m.written t w0 w1 w2 false).tp = min (m.refill t).tp (m.written t w0 w1 w2 false).pbs := by
  simp [Meter.written, Meter.cbs, Meter.pbs]

theorem Meter.written_fill (m : Meter) (t : Nat) (w0 w1 w2 : Word) :
    (m.written t w0 w1 w2 true).d2 = w2 ∧ (m.written t w0 w1 w2 true).tc = (m.written t w0 w1 w2 true).cbs ∧
      (m.written t w0 w1 w2 true).tp = (m.written t w0 w1 w2 true).pbs := by
  simp [Meter.written, Meter.cbs, Meter.pbs]

/-- A write of the window ends: BUSY clears, and BAD_VALUE tells whether the record was bad. -/
def State.meterEnds (s : State) (ms : Store Meter) (bad : Bool) : State :=
  ({ s.fset .METER_WIN_CMD 0 fMETER_WIN_CMD_BUSY 0 with meters := ms } : State).fsetB .METER_WIN_STAT 0
    fMETER_WIN_STAT_BAD_VALUE bad

theorem State.meterEnds_busy (s : State) (ms : Store Meter) (bad : Bool) :
    (s.meterEnds ms bad).fbit .METER_WIN_CMD 0 fMETER_WIN_CMD_BUSY = false := by
  rw [State.fbit, State.meterEnds, State.fsetB, State.fget_fset_reg _ _ _ _ (by decide)]
  exact bne_eq_false_iff_eq.mpr (s.fget_fset_same .METER_WIN_CMD 0 fMETER_WIN_CMD_BUSY 0 (by decide))

theorem State.meterEnds_meters (s : State) (ms : Store Meter) (bad : Bool) : (s.meterEnds ms bad).meters = ms := by
  rw [State.meterEnds, State.fsetB, State.meters_fset]

theorem State.meterEnds_meter (s : State) (i : Nat) (m : Meter) (bad : Bool) :
    (s.meterEnds (s.setMeter i m).meters bad).meter i = m := by
  rw [State.meter, State.meterEnds_meters]
  exact s.meter_setMeter i m

theorem State.meterEnds_bad (s : State) (ms : Store Meter) (bad : Bool) :
    (s.meterEnds ms bad).fbit .METER_WIN_STAT 0 fMETER_WIN_STAT_BAD_VALUE = bad := by
  rw [State.fbit, State.meterEnds, State.fsetB, State.fget_fset_same _ _ _ _ _ (by decide)]
  cases bad <;> rfl

section
variable {s : State} {i op : Nat} (hb : s.fbit .METER_WIN_CMD 0 fMETER_WIN_CMD_BUSY = true)
  (hi : s.fget .METER_WIN_ADDR 0 fMETER_WIN_ADDR_METER = i) (ho : s.fget .METER_WIN_CMD 0 fMETER_WIN_CMD_OP = op)
include hb hi ho

theorem State.meterWin_read (h : op = 0) : s.meterWin op = s.meterShown i := by
  subst h
  simp only [State.meterWin, hb, hi, ho, beq_self_eq_true, Bool.and_self, if_true]
  rfl

theorem State.meterWin_readClear (h : op = 1) : s.meterWin op = (s.meterShown i).meterClear i := by
  subst h
  simp only [State.meterWin, hb, hi, ho, beq_self_eq_true, Bool.and_self, if_true]
  rfl

theorem State.meterWin_badWrite (h : ¬ op < 2)
    (he : meterBad (s.rget .METER_WIN_DATA_0 0) (s.rget .METER_WIN_DATA_1 0) (s.rget .METER_WIN_DATA_2 0) = true) :
    s.meterWin op = s.meterEnds s.meters true := by
  have hk {id : RegId} (hd : id ≠ .METER_WIN_CMD) (k : Nat) := s.rget_fset_ne (j := k) fMETER_WIN_CMD_BUSY 0
    (fun e => hd e.1.symm : ¬ (RegId.METER_WIN_CMD = id ∧ 0 = k))
  simp only [State.meterWin, hb, hi, ho, beq_self_eq_true, Bool.and_self, if_true, if_neg h, ne_eq, reduceCtorEq,
    not_false_eq_true, hk, State.meterWrite, he]
  rfl

theorem State.meterWin_goodWrite (h : ¬ op < 2)
    (he : meterBad (s.rget .METER_WIN_DATA_0 0) (s.rget .METER_WIN_DATA_1 0) (s.rget .METER_WIN_DATA_2 0) = false) :
    s.meterWin op = s.meterEnds (s.setMeter i ((s.meter i).written s.tick (s.rget .METER_WIN_DATA_0 0)
      (s.rget .METER_WIN_DATA_1 0) (s.rget .METER_WIN_DATA_2 0) (op == 3))).meters false := by
  have hk {id : RegId} (hd : id ≠ .METER_WIN_CMD) (k : Nat) := s.rget_fset_ne (j := k) fMETER_WIN_CMD_BUSY 0
    (fun e => hd e.1.symm : ¬ (RegId.METER_WIN_CMD = id ∧ 0 = k))
  simp only [State.meterWin, hb, hi, ho, beq_self_eq_true, Bool.and_self, if_true, if_neg h, ne_eq, reduceCtorEq,
    not_false_eq_true, hk, State.meterWrite, he]
  rfl

end

-- The STATS window

/-- R773: the window's operation ends with a result and a record's words. -/
def State.statsEnds (s : State) (r : Nat) (ws : List Nat) : State :=
  ((s.forEach (List.range 4) fun s k => s.rset .STATS_WIN_DATA k (BitVec.ofNat 64 (ws.getD k 0))).fset .STATS_WIN_STAT 0
    fSTATS_WIN_STAT_RESULT r).fset .STATS_WIN_CMD 0 fSTATS_WIN_CMD_BUSY 0

theorem State.statsEnds_busy (s : State) (r : Nat) (ws : List Nat) :
    (s.statsEnds r ws).fbit .STATS_WIN_CMD 0 fSTATS_WIN_CMD_BUSY = false := by
  simp [State.fbit, State.statsEnds, State.fget_fset_same _ .STATS_WIN_CMD 0 fSTATS_WIN_CMD_BUSY 0 (by decide)]

theorem State.statsEnds_result (s : State) {r : Nat} (h : r < 4) (ws : List Nat) :
    (s.statsEnds r ws).fget .STATS_WIN_STAT 0 fSTATS_WIN_STAT_RESULT = r := by
  rw [State.statsEnds, State.fget_fset_reg _ _ _ _ (by decide), State.fget_fset_same _ _ _ _ _ (by decide)]
  exact Nat.mod_eq_of_lt h

theorem State.statsEnds_data (s : State) (r : Nat) (ws : List Nat) :
    ((List.range 4).all fun k => (s.statsEnds r ws).rget .STATS_WIN_DATA k == BitVec.ofNat 64 (ws.getD k 0)) = true := by
  simp [State.statsEnds, State.forEach, List.range_succ, State.rget_fset, State.rget_rset]

/-- The registers that hold counters of a STATS record. -/
def recordRegs : List RegId :=
  [.STATS_PORT, .LANE_TRAIN_CNT, .LANE_PATTERN_ERR, .LANE_CAL_CNT, .LANE_PF, .TABLE_EM_CNT, .TABLE_EM_ERR]

theorem State.statsEnds_rget (s : State) (r : Nat) (ws : List Nat) {id : RegId} (h : id ∈ recordRegs) (i : Nat) :
    (s.statsEnds r ws).rget id i = s.rget id i := by
  fin_cases h <;> simp [State.statsEnds, State.forEach, List.range_succ, State.rget_fset, State.rget_rset]

theorem State.statRecord_congr {s t : State} (h : ∀ id ∈ recordRegs, ∀ i, t.rget id i = s.rget id i)
    (hx : t.txrs = s.txrs) (hr : t.rxrs = s.rxrs) (hl : t.leaves = s.leaves) (hm : t.meters = s.meters) (g i : Nat) :
    t.statRecord g i = s.statRecord g i := by
  unfold State.statRecord
  simp only [recordRegs, List.forall_mem_cons] at h
  obtain ⟨h0, h1, h2, h3, h4, h5, h6, _⟩ := h
  simp only [State.fget, State.txr?, State.rxr?, State.leaf?, State.meter, h0, h1, h2, h3, h4, h5, h6, hx, hr, hl, hm]

theorem State.statsEnds_record (s : State) (r : Nat) (ws : List Nat) (g i : Nat) :
    (s.statsEnds r ws).statRecord g i = s.statRecord g i :=
  State.statRecord_congr (fun _ hid j => s.statsEnds_rget r ws hid j) rfl rfl rfl rfl g i

/-- R773: a cleared record reads zero. -/
theorem State.statClear_record {s : State} {g i : Nat} (hg : g ≠ 0) {ws : List Nat} (h : s.statRecord g i = some ws) :
    (s.statClear g i).statRecord g i = some (ws.map fun _ => 0) := by
  have reset0 : RegId.resetAt .LANE_TRAIN_CNT i = 0 ∧ RegId.resetAt .LANE_PATTERN_ERR i = 0 ∧
      RegId.resetAt .LANE_CAL_CNT i = 0 ∧ RegId.resetAt .TABLE_EM_CNT i = 0 ∧ RegId.resetAt .TABLE_EM_ERR i = 0 :=
    ⟨rfl, rfl, rfl, rfl, rfl⟩
  match g, hg with
  | 1, _ =>
    obtain rfl := Option.some.inj h
    simp (disch := decide) [State.statClear, State.statRecord, State.rreset, State.rget_fset, State.rget_rset,
      State.fget_fset, Field.get_put_same, reset0]
  | 2, _ =>
    obtain rfl := Option.some.inj h
    simp [State.statClear, State.statRecord, State.rreset, State.rget_rset, reset0]
  | 3, _ =>
    obtain ⟨x, hx, rfl⟩ := Option.map_eq_some_iff.mp h
    have ht : s.statClear 3 i = s.setTxr i { x with bytes := 0, frames := 0, drops := 0 } := by
      rw [State.statClear, State.modTxr, hx]
    rw [ht, State.statRecord, State.txr?, State.setTxr, Store.find?_put_same]
    simp [ringWords]
  | 4, _ =>
    obtain ⟨x, hx, rfl⟩ := Option.map_eq_some_iff.mp h
    have ht : s.statClear 4 i = s.setRxr i { x with bytes := 0, frames := 0, drops := 0 } := by
      rw [State.statClear, State.modRxr, hx]
    rw [ht, State.statRecord, State.rxr?, State.setRxr, Store.find?_put_same]
    simp [ringWords]
  | 5, _ =>
    obtain ⟨x, hx, rfl⟩ := Option.map_eq_some_iff.mp h
    have ht : s.statClear 5 i = s.setLeaf i { x with bytes := 0, frames := 0, drops := 0 } := by
      rw [State.statClear, hx]
    rw [ht, State.statRecord, State.leaf?, State.setLeaf, Store.find?_put_same]
    simp [ringWords]
  | 6, _ =>
    obtain rfl := Option.some.inj h
    simp [State.statClear, State.meterClear, State.statRecord]
  | n + 7, _ => cases h

section
variable {s : State} {g i op : Nat} (hb : s.fbit .STATS_WIN_CMD 0 fSTATS_WIN_CMD_BUSY = true)
  (hg : s.fget .STATS_WIN_ADDR 0 fSTATS_WIN_ADDR_GROUP = g) (hi : s.fget .STATS_WIN_ADDR 0 fSTATS_WIN_ADDR_INDEX = i)
  (ho : s.fget .STATS_WIN_CMD 0 fSTATS_WIN_CMD_OP = op)
include hb hg hi ho

theorem State.statsWin_bad (h : g = 0 ∨ statCount g ≤ i) : s.statsWin op = s.statsEnds 1 [] := by
  simp only [State.statsWin, hb, hg, hi, ho, beq_self_eq_true, Bool.and_self, if_true]
  rw [if_pos (by simpa using h)]
  rfl

variable (hd : s.rests (statDom g i) = false) (hh : s.rests dHOSTIF = false)
include hd hh

theorem State.statsWin_none (h : ¬ (g = 0 ∨ statCount g ≤ i)) (hr : s.statRecord g i = none) :
    s.statsWin op = s.statsEnds 2 [] := by
  simp only [State.statsWin, hb, hg, hi, ho, beq_self_eq_true, Bool.and_self, if_true]
  rw [if_neg (by simpa using h), hd, hh, hr]
  rfl

theorem State.statsWin_some (h : ¬ (g = 0 ∨ statCount g ≤ i)) {ws : List Nat} (hr : s.statRecord g i = some ws) :
    s.statsWin op = (if op = 0 then s.statClear g i else s).statsEnds 0 ws := by
  simp only [State.statsWin, hb, hg, hi, ho, beq_self_eq_true, Bool.and_self, if_true]
  rw [if_neg (by simpa using h), hd, hh, hr]
  rfl

end

-- The commands

theorem exec_schedWinRead (s : State) : exec .schedWinRead s = s.done (s.schedWin 0) := rfl
theorem exec_schedWinWrite (s : State) : exec .schedWinWrite s = s.done (s.schedWin 1) := rfl
theorem exec_meterWinRead (s : State) : exec .meterWinRead s = s.done (s.meterWin 0) := rfl
theorem exec_meterWinReadClear (s : State) : exec .meterWinReadClear s = s.done (s.meterWin 1) := rfl
theorem exec_meterWinWrite (s : State) : exec .meterWinWrite s = s.done (s.meterWin 2) := rfl
theorem exec_meterWinWriteFill (s : State) : exec .meterWinWriteFill s = s.done (s.meterWin 3) := rfl
theorem exec_statsWinRead (s : State) : exec .statsWinRead s = s.done (s.statsWin 0) := rfl
theorem exec_statsWinPeek (s : State) : exec .statsWinPeek s = s.done (s.statsWin 1) := rfl

end Sys2Proof.Machine
open Sys2Proof Sys2Proof.Machine

/-- Settles O37: each window is served by what its operation does to the records, and ends with BUSY clear. -/
theorem nodeMeterAndStatsWindows : Obligations.NodeMeterAndStatsWindows := by
  refine ⟨fun lvl i n s _ => ⟨fun hb hl hi => ⟨fun ho => ?_, fun ho => ?_⟩, fun hb hi =>
    ⟨fun ho => ?_, fun ho => ?_, fun ho => ?_, fun ho hm => ?_⟩⟩, fun g i ws s _ hb hg hi hd hh =>
    ⟨fun h0 hc hr => ⟨fun ho => ?_, fun ho => ?_⟩, fun ho hr => ?_⟩⟩
  · refine effect_done (exec_schedWinRead s) ?_
    by_cases hs : levelSize lvl ≤ i
    · rw [State.schedWin_read_bad hb hl hi ho (s.nodeRead_bad hs)]
      obtain ⟨hr, hl, hc, hg⟩ := s.schedEnds_refused (r := nBAD_VALUE) (by decide)
      rw [if_pos hs]
      exact ⟨s.schedEnds_busy _, hl, hc, hg, hr⟩
    · cases hn : s.node? lvl i with
      | none =>
        rw [State.schedWin_read_words hb hl hi ho (State.nodeRead_none hs hn)]
        obtain ⟨h0, h1, h2, h3⟩ := s.schedRead_rget nOK (BitVec.ofNat 64 (recReset0 lvl)) (BitVec.ofNat 64 (recReset1 lvl))
          (BitVec.ofNat 64 (recReset2 lvl)) 0
        obtain ⟨hl, hc, hg⟩ := s.schedRead_nodes nOK (BitVec.ofNat 64 (recReset0 lvl)) (BitVec.ofNat 64 (recReset1 lvl))
          (BitVec.ofNat 64 (recReset2 lvl)) 0
        refine ⟨State.schedEnds_busy _ _, hl, hc, hg, ?_⟩
        rw [if_neg hs]
        refine ⟨State.schedEnds_result _ (by decide), (fun h => nomatch h), fun _ => ⟨?_, h0, h1, h2, h3⟩⟩
        rw [State.fbit, State.fget, h0, recReset0_exists]
        rfl
      | some m =>
        rw [State.schedWin_read_words hb hl hi ho (State.nodeRead_some hs hn)]
        obtain ⟨h0, h1, h2, h3⟩ := s.schedRead_rget nOK m.d0 m.d1 m.d2
          (schedWord3 (s.nodeCredit m) m.depth (s.backlog lvl i) (s.eligibleNode lvl i))
        obtain ⟨hl, hc, hg⟩ := s.schedRead_nodes nOK m.d0 m.d1 m.d2
          (schedWord3 (s.nodeCredit m) m.depth (s.backlog lvl i) (s.eligibleNode lvl i))
        refine ⟨State.schedEnds_busy _ _, hl, hc, hg, ?_⟩
        rw [if_neg hs]
        refine ⟨State.schedEnds_result _ (by decide), fun h => ?_, (fun h => nomatch h)⟩
        obtain rfl := Option.some.inj h
        refine ⟨h0, h1, h2, ?_, fun hd => ?_⟩
        · rw [State.fget, h3, schedWord3_credit (s.nodeCredit_lt m)]
          rfl
        · rw [State.fbit, State.fget, h3, schedWord3_eligible (s.nodeCredit_lt m) hd]
  · refine effect_done (exec_schedWinWrite s) ?_
    rw [State.schedWin_write hb hl hi ho, State.schedWrite]
    refine ⟨State.schedEnds_busy _ _, ?_⟩
    split
    · next hs =>
      rw [State.nodeWrite_bad _ hs]
      exact s.schedEnds_refused (r := nBAD_VALUE) (by decide)
    next hs =>
    split
    · next hn =>
      rw [State.nodeWrite_none hs _ hn]
      exact s.schedEnds_refused (r := nNO_NODE) (by decide)
    next hn =>
    intro hn
    split
    · next hp =>
      rw [State.nodeWrite_badParent hs _ hn hp]
      exact s.schedEnds_refused (r := nBAD_PARENT) (by decide)
    next hp =>
    have hp := Bool.eq_true_of_not_eq_false hp
    split
    · next hq =>
      rw [State.nodeWrite_busy hs _ hn hp hq]
      exact s.schedEnds_refused (r := nBUSY) (by decide)
    · next hq =>
      obtain ⟨hr, hm⟩ := State.nodeWrite_ok hs (s.fbit .SCHED_WIN_CMD 0 fSCHED_WIN_CMD_FORGIVE) hn hp hq
      rw [hr]
      exact ⟨State.schedEnds_result _ (by decide), by rw [State.schedEnds_node?]; exact hm⟩
  · refine effect_done (exec_meterWinRead s) ?_
    rw [State.meterWin_read hb hi ho rfl]
    obtain ⟨d0, d3, _, d5⟩ := s.meterShown_data i
    exact ⟨s.meterShown_busy i, s.meterShown_meters i, d0, d3, d5⟩
  · refine effect_done (exec_meterWinReadClear s) ?_
    rw [State.meterWin_readClear hb hi ho rfl]
    obtain ⟨_, _, d4, d5⟩ := s.meterShown_data i
    have hm : (s.meterShown i).meter i = s.meter i := congrArg (Store.get _ · i) (s.meterShown_meters i)
    refine ⟨?_, ?_, ?_, by rw [State.meterClear, State.meter_setMeter, hm]⟩
    · rw [State.fbit, State.fget, State.rget_meterClear]
      exact s.meterShown_busy i
    · rw [State.rget_meterClear, d4]
    · rw [State.rget_meterClear, d5]
  · refine effect_done (exec_meterWinWrite s) ?_
    cases hm : meterBad (s.rget .METER_WIN_DATA_0 0) (s.rget .METER_WIN_DATA_1 0) (s.rget .METER_WIN_DATA_2 0)
    · rw [State.meterWin_goodWrite hb hi ho (by decide) hm]
      refine ⟨State.meterEnds_busy _ _ _, State.meterEnds_bad _ _ _, ?_⟩
      rw [if_neg (by decide), State.meterEnds_meter, show (2 == 3) = false from rfl]
      exact (s.meter i).written_keep s.tick _ _ _
    · rw [State.meterWin_badWrite hb hi ho (by decide) hm]
      exact ⟨State.meterEnds_busy _ _ _, State.meterEnds_bad _ _ _, by rw [if_pos rfl, State.meterEnds_meters]⟩
  · refine effect_done (exec_meterWinWriteFill s) ?_
    rw [State.meterWin_goodWrite hb hi ho (by decide) hm]
    refine ⟨State.meterEnds_bad _ _ _, ?_⟩
    rw [State.meterEnds_meter, show (3 == 3) = true from rfl]
    exact (s.meter i).written_fill s.tick _ _ _
  · refine effect_done (exec_statsWinRead s) ?_
    rw [State.statsWin_some hb hg hi ho hd hh (by omega) hr, if_pos rfl]
    exact ⟨State.statsEnds_busy _ _ _, State.statsEnds_result _ (by decide) _, State.statsEnds_data _ _ _,
      by rw [State.statsEnds_record, State.statClear_record h0 hr]⟩
  · refine effect_done (exec_statsWinPeek s) ?_
    rw [State.statsWin_some hb hg hi ho hd hh (by omega) hr, if_neg (by decide)]
    exact ⟨State.statsEnds_busy _ _ _, State.statsEnds_result _ (by decide) _, State.statsEnds_data _ _ _,
      by rw [State.statsEnds_record, hr]⟩
  · refine effect_done (exec_statsWinPeek s) ?_
    by_cases h : g = 0 ∨ statCount g ≤ i
    · rw [State.statsWin_bad hb hg hi ho h, if_pos h]
      exact ⟨State.statsEnds_result _ (by decide) _, State.statsEnds_data _ _ _⟩
    · rw [State.statsWin_none hb hg hi ho hd hh h hr, if_neg h]
      exact ⟨State.statsEnds_result _ (by decide) _, State.statsEnds_data _ _ _⟩
end

section
/-! PROOFS. What the parts of a command leave alone: registers, and the spine of the block's state. -/

namespace Sys2Proof.Machine

/-- The parts of a state that few commands change: its time, the boot engine, the seal port and the sleep state. -/
def State.spine (s : State) : Nat × BootUnit × SealUnit × Option SleepEntry := (s.now, s.bootU, s.sealU, s.power.sleep)

/-- t has the spine of s, and every register outside R. -/
structure Keeps (R : List RegId) (s t : State) : Prop where
  spine : t.spine = s.spine
  regs : ∀ id, id ∉ R → ∀ i, t.rget id i = s.rget id i

namespace Keeps

variable {R : List RegId} {s t u : State}

theorem refl (s : State) : Keeps R s s := ⟨rfl, fun _ _ _ => rfl⟩

theorem trans (h : Keeps R s t) (k : Keeps R t u) : Keeps R s u :=
  ⟨k.spine.trans h.spine, fun id hid i => (k.regs id hid i).trans (h.regs id hid i)⟩

theorem mono {R' : List RegId} (h : Keeps R s t) (hR : R ⊆ R') : Keeps R' s t :=
  ⟨h.spine, fun id hid => h.regs id fun hc => hid (hR hc)⟩

theorem rset {id : RegId} (i : Nat) (v : Word) (hid : id ∈ R) (h : Keeps R s t) : Keeps R s (t.rset id i v) :=
  h.trans ⟨rfl, fun _ hb _ => t.rget_rset_ne v fun e => hb (e.1 ▸ hid)⟩

theorem fset {id : RegId} (i : Nat) (f : Field) (n : Nat) (hid : id ∈ R) (h : Keeps R s t) :
    Keeps R s (t.fset id i f n) := h.rset i _ hid

theorem flag {id : RegId} (i : Nat) (f : Field) (hid : id ∈ R) (h : Keeps R s t) : Keeps R s (t.flag id i f) :=
  h.rset i _ hid

theorem count {id : RegId} (i : Nat) (f : Field) (hid : id ∈ R) (h : Keeps R s t) : Keeps R s (t.count id i f) :=
  h.rset i _ hid

theorem ite {c : Prop} [Decidable c] (h : Keeps R s t) (k : Keeps R s u) : Keeps R s (if c then t else u) := by
  split <;> assumption

theorem raw (h : Keeps R s t) (hs : u.spine = t.spine) (hr : u.regs = t.regs) : Keeps R s u :=
  h.trans ⟨hs, fun id _ i => State.rget_congr hr id i⟩

theorem forEach {α : Type} (l : List α) {f : State → α → State} (hf : ∀ u x, Keeps R u (f u x)) (h : Keeps R s t) :
    Keeps R s (t.forEach l f) := by
  induction l generalizing t with
  | nil => exact h
  | cons x l ih => exact ih (h.trans (hf t x))

theorem setMac (p : Nat) (m : MacPort) (h : Keeps R s t) : Keeps R s (t.setMac p m) := h.raw rfl rfl

theorem modMac (p : Nat) (f : MacPort → MacPort) (h : Keeps R s t) : Keeps R s (t.modMac p f) := h.setMac p _

theorem setCourse (c : Nat) (x : CourseSt) (h : Keeps R s t) : Keeps R s (t.setCourse c x) := h.raw rfl rfl

theorem setFrame (i : Nat) (f : Frame) (h : Keeps R s t) : Keeps R s (t.setFrame i f) := h.raw rfl rfl

theorem setLane (n : Nat) (l : Lane) (h : Keeps R s t) : Keeps R s (t.setLane n l) := h.raw rfl rfl

theorem faultAt (x : Option Nat) (h : Keeps R s t) : Keeps R s { t with faultAt := x } := h.raw rfl rfl

theorem now (h : Keeps R s t) : t.now = s.now := congrArg (·.1) h.spine

theorem bootU (h : Keeps R s t) : t.bootU = s.bootU := congrArg (·.2.1) h.spine

theorem sealU (h : Keeps R s t) : t.sealU = s.sealU := congrArg (·.2.2.1) h.spine

theorem sleep (h : Keeps R s t) : t.power.sleep = s.power.sleep := congrArg (·.2.2.2) h.spine

theorem fget (h : Keeps R s t) {id : RegId} (hid : id ∉ R) (i : Nat) (f : Field) : t.fget id i f = s.fget id i f := by
  rw [State.fget, State.fget, h.regs id hid]

theorem fbit (h : Keeps R s t) {id : RegId} (hid : id ∉ R) (i : Nat) (f : Field) : t.fbit id i f = s.fbit id i f := by
  rw [State.fbit, State.fbit, h.fget hid]

/-- What follows from a command keeps what the command's own effect has left, but for `afterRegs`. -/
theorem of_follows (h : Follows s t) : Keeps afterRegs s t := by
  refine ⟨?_, fun id hid i => h.regs id hid i⟩
  have hn := congrArg State.now h.rest
  have hb := congrArg State.bootU h.rest
  have hs := congrArg State.sealU h.rest
  have hp := congrArg (fun u => u.power.sleep) h.rest
  exact Prod.ext hn (Prod.ext hb (Prod.ext hs hp))

theorem after (hs : s.bootU.asserted = false) (hp : u.power.sleep = s.power.sleep) : Keeps afterRegs u (s.after u) :=
  of_follows (s.after_follows u hs (State.padsFreed_sleep hp))

end Keeps

-- Fail-stop

theorem State.onLine_keeps (R : List RegId) (s : State) (p : Nat) (w : List Byte) (b : Bool) :
    Keeps R s (s.onLine p w b) := .ite (.refl s) ((Keeps.refl s).modMac p _)

theorem State.stat_keeps {R : List RegId} (h : .STATS_PORT ∈ R ∧ .STATS_HALF ∈ R) (s : State) (p k n : Nat) :
    Keeps R s (s.stat p k n) := by
  have h1 := (Keeps.refl s).fset (p * 64 + k) fSTATS_PORT_COUNT (s.fget .STATS_PORT (p * 64 + k) fSTATS_PORT_COUNT + n) h.1
  exact .ite (h1.rset _ _ h.2) h1

theorem State.statCut_keeps {R : List RegId} (h : .STATS_PORT ∈ R ∧ .STATS_HALF ∈ R) (s : State) (p n : Nat) :
    Keeps R s (s.statCut p n) := .ite (s.stat_keeps h p _ _) ((s.stat_keeps h p _ _).trans (State.stat_keeps h _ p _ _))

theorem State.cutPort_keeps {R : List RegId} (h : .STATS_PORT ∈ R ∧ .STATS_HALF ∈ R) (s : State) (p : Nat) :
    Keeps R s (s.cutPort p) := by
  unfold State.cutPort
  refine .ite (.refl s) ?_
  have h1 := (Keeps.refl (R := R) s).setMac p { s.mac p with cur := none, held := none, wireErr := true }
  dsimp only
  have cur (c : TxCur) : Keeps R s (((s.setMac p { s.mac p with cur := none, held := none, wireErr := true }).onLine p
      (c.head ++ (c.pkt.bytes.take (s.cutAt p c)).drop c.frag) true).statCut p (s.cutAt p c)) :=
    (h1.trans (State.onLine_keeps R _ p _ _)).trans (State.statCut_keeps h _ p _)
  cases (s.mac p).cur <;> cases (s.mac p).held
  · exact h1
  · exact h1.trans (State.statCut_keeps h _ p _)
  · exact cur _
  · exact (cur _).trans (State.statCut_keeps h _ p _)

theorem State.faultRecord_keeps (s : State) (c : Cause) (info addr : Nat) (copy : List Byte) :
    Keeps failRegs s (s.faultRecord c info addr copy) := by
  refine .forEach _ (fun u i => (Keeps.refl u).rset i _ (by decide)) ?_
  exact (((Keeps.refl s).fset 0 _ _ (by decide)).rset 0 _ (by decide)).rset 0 _ (by decide)

/-- The fault record's status word: the cause alone changes. -/
theorem State.faultRecord_stat (s : State) (c : Cause) (info addr : Nat) (copy : List Byte) :
    (s.faultRecord c info addr copy).rget .GEN_FAULT_STAT 0 =
      fGEN_FAULT_STAT_CAUSE.put (s.rget .GEN_FAULT_STAT 0) c.code := by
  have h (u : State) : Keeps [.GEN_FAULT_COPY] u (u.faultCopy copy) :=
    .forEach _ (fun u i => (Keeps.refl u).rset i _ (by decide)) (.refl u)
  rw [State.faultRecord, (h _).regs .GEN_FAULT_STAT (by decide)]
  simp [State.rget_rset, State.rget_fset]

/-- The entry into fail-stop before the ports' frames are cut. -/
def State.failEntry (s : State) (c : Cause) (info addr : Nat) (copy : List Byte) : State :=
  let s := (s.flag .GEN_FAULT_STAT 0 fGEN_FAULT_STAT_ACTIVE).flag .GEN_FAULT_STAT 0 fGEN_FAULT_STAT_VALID
  let s := (s.fset .GEN_FAULT_STAT 0 fGEN_FAULT_STAT_MORE 0).count .GEN_FAULT_STAT 0 fGEN_FAULT_STAT_ENTRIES
  let s := (s.faultRecord c info addr copy).rset .GEN_FAULT_TIME 0 (BitVec.ofNat 64 s.blockTime.stamp)
  { s.flag .GEN_INTEG_EVT 0 fGEN_INTEG_EVT_FAULT with faultAt := some s.mclk }

theorem State.failStop_eq {s : State} (hf : s.failed = false) (c : Cause) (info addr : Nat) (copy : List Byte) :
    s.failStop c info addr copy = (s.failEntry c info addr copy).forEach (List.range 16) State.cutPort := by
  rw [State.failStop, if_neg (by simp [hf])]
  rfl

theorem State.failEntry_keeps (s : State) (c : Cause) (info addr : Nat) (copy : List Byte) :
    Keeps failRegs s (s.failEntry c info addr copy) := by
  have h := ((((Keeps.refl (R := failRegs) s).flag (id := .GEN_FAULT_STAT) 0 fGEN_FAULT_STAT_ACTIVE (by decide)).flag
    (id := .GEN_FAULT_STAT) 0 fGEN_FAULT_STAT_VALID (by decide)).fset (id := .GEN_FAULT_STAT) 0 fGEN_FAULT_STAT_MORE 0
    (by decide)).count (id := .GEN_FAULT_STAT) 0 fGEN_FAULT_STAT_ENTRIES (by decide)
  unfold State.failEntry
  dsimp only
  refine Keeps.faultAt _ (Keeps.flag 0 _ (by decide) (Keeps.rset 0 _ (by decide) ?_))
  exact h.trans (State.faultRecord_keeps _ c info addr copy)

theorem State.failEntry_stat (s : State) (c : Cause) (info addr : Nat) (copy : List Byte) :
    (s.failEntry c info addr copy).failed = true ∧
      (s.failEntry c info addr copy).fget .GEN_FAULT_STAT 0 fGEN_FAULT_STAT_CAUSE = c.code := by
  let t := ((s.flag .GEN_FAULT_STAT 0 fGEN_FAULT_STAT_ACTIVE).flag .GEN_FAULT_STAT 0 fGEN_FAULT_STAT_VALID).fset
    .GEN_FAULT_STAT 0 fGEN_FAULT_STAT_MORE 0
  have h : (s.failEntry c info addr copy).rget .GEN_FAULT_STAT 0 =
      fGEN_FAULT_STAT_CAUSE.put ((t.count .GEN_FAULT_STAT 0 fGEN_FAULT_STAT_ENTRIES).rget .GEN_FAULT_STAT 0) c.code := by
    rw [← State.faultRecord_stat _ c info addr copy]
    exact ((((Keeps.refl (R := [.GEN_FAULT_TIME, .GEN_INTEG_EVT]) _).rset 0 _ (by decide)).flag 0 _ (by decide)).faultAt
      _).regs .GEN_FAULT_STAT (by decide) 0
  constructor
  · rw [State.failed, State.fbit, State.fget, h, Field.get_put_ne _ _ _ _ (by decide)]
    simp (disch := decide) [t, State.count, State.satAdd, State.flag, State.rget_fset, Field.get_put_ne,
      Field.get_put_same]
  · rw [State.fget, h, Field.get_put_same _ _ _ (by decide)]
    cases c <;> rfl

/-- R761 to R768: entering fail-stop records its cause. -/
theorem State.failStop_stat {s : State} (hf : s.failed = false) (c : Cause) (info addr : Nat) (copy : List Byte) :
    Keeps failRegs s (s.failStop c info addr copy) ∧ (s.failStop c info addr copy).failed = true ∧
      (s.failStop c info addr copy).fget .GEN_FAULT_STAT 0 fGEN_FAULT_STAT_CAUSE = c.code := by
  rw [State.failStop_eq hf]
  have hc {R : List RegId} (h : .STATS_PORT ∈ R ∧ .STATS_HALF ∈ R) :
      Keeps R (s.failEntry c info addr copy) ((s.failEntry c info addr copy).forEach (List.range 16) State.cutPort) :=
    .forEach _ (fun u p => State.cutPort_keeps h u p) (.refl _)
  have hs := hc (R := [.STATS_PORT, .STATS_HALF]) (by decide)
  obtain ⟨ha, he⟩ := s.failEntry_stat c info addr copy
  exact ⟨(s.failEntry_keeps c info addr copy).trans (hc (by decide)), (hs.fbit (by decide) 0 _).trans ha,
    (hs.fget (by decide) 0 _).trans he⟩

-- Time, the active lists, and frames that enter the loft

/-- The passage of time moves TIME_SLEW_REM at most, and the time. -/
theorem State.elapse_keeps (s : State) (n : Nat) :
    Keeps [.TIME_SLEW_REM] { s with now := s.now + n } (s.elapse n) := by
  unfold State.elapse
  dsimp only
  split
  · unfold State.showSlew
    split
    · exact (Keeps.refl _).raw rfl rfl
    · exact Keeps.fset 0 _ _ (by decide) ((Keeps.refl _).raw rfl rfl)
  · split
    · exact (Keeps.refl _).raw rfl rfl
    · exact (Keeps.refl _).raw rfl rfl

theorem State.elapseTo_keeps (s : State) (d : Nat) :
    Keeps [.TIME_SLEW_REM] { s with now := max s.now d } (s.elapseTo d) := by
  have h : max s.now d = s.now + (d - s.now) := by omega
  rw [h]
  exact s.elapse_keeps _

theorem State.relist_keeps (R : List RegId) (s : State) (lvl i : Nat) : Keeps R s (s.relist lvl i) := by
  have setNode (u : State) (m : Node) : Keeps R u (u.setNode lvl i m) := by
    unfold State.setNode
    exact .ite ((Keeps.refl u).raw rfl rfl) (.ite ((Keeps.refl u).raw rfl rfl) ((Keeps.refl u).raw rfl rfl))
  have setActive (u : State) (k : Nat) (l : List Nat) : Keeps R u (u.setActive k l) := (Keeps.refl u).raw rfl rfl
  unfold State.relist
  split
  · exact .refl s
  · next n _ =>
    have hu : Keeps R s (s.unlist lvl n.parent i fun p => s.listable lvl i && p == n.prio) :=
      .forEach _ (fun u p => .ite (.refl u) (setActive u _ _)) (.refl s)
    exact hu.trans <| .ite (.ite (.refl _) (setActive _ _ _)) <| .ite (setNode _ _) (.refl _)

theorem State.relistUp_keeps (R : List RegId) (s : State) (lvl i : Nat) : Keeps R s (s.relistUp lvl i) := by
  have h := s.relist_keeps R lvl i
  unfold State.relistUp
  dsimp only
  split
  · next n _ =>
    refine h.trans ((State.relist_keeps R _ 1 n.parent).trans ?_)
    split
    · exact State.relist_keeps R _ _ _
    · exact .refl _
  · exact h.trans (State.relist_keeps R _ _ _)
  · exact h

theorem State.relistLeaves_keeps (R : List RegId) (s : State) (l : List Nat) : Keeps R s (s.relistLeaves l) :=
  .forEach _ (fun u i => u.relistUp_keeps R 0 i) (.refl s)

theorem State.allocBanks_keeps (R : List RegId) (s : State) (b n : Nat) : Keeps R s (s.allocBanks b n).2 := by
  induction n generalizing s b with
  | zero => exact .refl s
  | succ n ih =>
    have h : Keeps R s (s.setBank (s.nextBank b) (s.bankUsed (s.nextBank b) + 1)) := (Keeps.refl s).raw rfl rfl
    exact h.trans (ih _ _)

/-- What a frame that enters or misses its ingress FIFO writes. -/
def fifoRegs : List RegId :=
  [.COURSE_RX_OVERRUN, .COURSE_SPRAY_CNT, .COURSE_SPRAY_STAT, .LOFT_DROP, .LOFT_EVT, .LOFT_USE]

theorem State.holdCycles_keeps (s : State) (b : Nat) : Keeps fifoRegs s (s.holdCycles b) := by
  unfold State.holdCycles
  dsimp only
  split
  · exact .refl s
  · exact .fset _ _ _ (by decide) (.forEach _ (fun u c => (Keeps.refl u).setCourse _ _) (.refl s))

theorem State.unstall_keeps (s : State) (p : Nat) : Keeps fifoRegs s (s.unstall p) := by
  have enter (u : State) (i : Nat) (f : Frame) (n : Nat) : Keeps fifoRegs u (u.enterStage i f n) :=
    ((Keeps.refl u).setFrame i _).fset _ _ _ (by decide)
  unfold State.unstall
  refine .fset _ _ _ (by decide) (.forEach _ (fun u c => ?_) (s.holdCycles_keeps _))
  have on := (Keeps.refl (R := fifoRegs) u).setCourse c { u.course c with stalled := none, stallAt := 0 }
  dsimp only
  split
  · exact .refl u
  · split
    · exact on
    · exact .ite (.refl u) (on.trans (enter _ _ _ _))

theorem State.holeAt_keeps (s : State) (p : Nat) (seq : Option Nat) : Keeps fifoRegs s (s.holeAt p seq) := by
  unfold State.holeAt State.markSeq
  have h := (Keeps.refl (R := fifoRegs) s).count (id := .COURSE_SPRAY_CNT) (pairCourse p) fCOURSE_SPRAY_CNT_HOLES
    (by decide)
  refine .ite (h.trans ?_) (.refl s)
  cases seq with
  | none => exact .refl _
  | some n => exact ((Keeps.refl _).modMac p _).trans (State.unstall_keeps _ p)

theorem State.enterFifo_keeps (s : State) (f : Frame) : Keeps fifoRegs s (s.enterFifo f) := by
  unfold State.enterFifo
  refine .ite (((Keeps.refl s).count _ _ (by decide)).trans (State.holeAt_keeps _ _ _)) (.ite ?_ ?_)
  · exact (((Keeps.refl s).count _ _ (by decide)).flag _ _ (by decide)).trans (State.holeAt_keeps _ _ _)
  · refine Keeps.setCourse _ _ (Keeps.fset _ _ _ (by decide) (Keeps.setFrame _ _ ?_))
    exact (s.allocBanks_keeps _ (s.course f.course).lastBank (cellsOf f.len)).raw rfl rfl

-- What a port sends of its own

theorem State.loopItem_keeps (R : List RegId) (s : State) (p : Nat) (x : RxFrame ⊕ Fragment) :
    Keeps R s (s.loopItem p x) := .ite ((Keeps.refl s).modMac p _) (.refl s)

/-- What the frames of a port's own write as they are sent. -/
def ownRegs : List RegId := [.STATS_PORT, .STATS_HALF, .LANE_CAL_CNT, .PORT_LPM_CNT, .TIME_SLEW_REM]

theorem State.statTx_keeps (s : State) (p : Nat) (b : List Byte) (n : Nat) : Keeps ownRegs s (s.statTx p b n) := by
  have h (u : State) (k n : Nat) : Keeps ownRegs u (u.stat p k n) := u.stat_keeps (by decide) p k n
  have h3 := ((h s 32 1).trans (h _ 33 n)).trans (h _ (47 + sizeBucket n) 1)
  unfold State.statTx
  exact .ite (h3.trans (h _ _ _)) (.ite (h3.trans (h _ _ _)) h3)

theorem State.ctlSent_keeps (s : State) (p : Nat) (b : List Byte) : Keeps ownRegs s (s.ctlSent p b) := by
  unfold State.ctlSent
  exact ((((Keeps.refl s).modMac p _).trans (State.onLine_keeps _ _ p _ _)).trans (State.loopItem_keeps _ _ p _)).trans
    (State.statTx_keeps _ _ _ _)

theorem State.mSend_keeps (s : State) (p : Nat) : Keeps ownRegs s (s.mSend p) := by
  have send (u : State) (b : Byte) : Keeps ownRegs u
      (((u.modMac p (fun m => { m with lastCtl := mPacket })).onLine p (preamble b ++ mPacket) false).loopItem p
        (.inl { bytes := mPacket, start := b })) :=
    (((Keeps.refl u).modMac p _).trans (State.onLine_keeps _ _ p _ _)).trans (State.loopItem_keeps _ _ p _)
  unfold State.mSend
  have h : Keeps ownRegs s (if (s.mac p).respondDue then
      (((s.modMac p (fun m => { m with respondDue := false })).modMac p (fun m => { m with lastCtl := mPacket })).onLine p
        (preamble smdR ++ mPacket) false).loopItem p (.inl { bytes := mPacket, start := smdR }) else s) :=
    .ite (((Keeps.refl s).modMac p _).trans (send _ smdR)) (.refl s)
  exact .ite (.refl s) (.ite ((h.modMac p _).trans (send _ smdV)) h)

theorem State.fcSend_keeps (s : State) (p : Nat) : Keeps ownRegs s (s.fcSend p) := by
  have h (u : State) (k n : Nat) : Keeps ownRegs u (u.stat p k n) := u.stat_keeps (by decide) p k n
  have sent (f : MacPort → MacPort) : Keeps ownRegs s ((s.modMac p f).ctlSent p (s.fcBytes p (s.fcNext p))) :=
    ((Keeps.refl s).modMac p f).trans (State.ctlSent_keeps _ p _)
  unfold State.fcSend
  dsimp only
  exact .ite (.refl s) (.ite ((sent _).trans (h _ _ _)) (.forEach _ (fun u e => h u _ _) (sent _)))

theorem State.lpmSend_keeps {s : State} {p : Nat} (h : s.lpmReady p = true) : Keeps ownRegs s (s.lpmSend p) := by
  have last : Keeps ownRegs s (match (s.mac p).lpmLast with | some d => s.elapseTo (d + msCycles) | none => s) := by
    unfold State.lpmReady at h
    cases hd : (s.mac p).lpmLast with
    | none => exact .refl s
    | some d =>
      rw [hd] at h
      simp only [Bool.and_eq_true, decide_eq_true_eq] at h
      have hn : max s.now (d + msCycles) = s.now := Nat.max_eq_left h.2
      have k := (s.elapseTo_keeps (d + msCycles)).mono (R' := ownRegs) (by decide)
      rw [hn] at k
      exact k
  unfold State.lpmSend
  refine .ite (Keeps.count _ _ (by decide) (.trans ?_ (State.stat_keeps (by decide) _ p _ _))) (.refl s)
  refine .trans (.forEach _ (fun u n => ?_) (last.modMac p _)) (State.ctlSent_keeps _ p _)
  exact Keeps.setLane n _ (.ite ((Keeps.refl u).count n _ (by decide)) (.refl u))

theorem State.ownSend_keeps (s : State) (p : Nat) : Keeps ownRegs s (s.ownSend p) := by
  have h := (s.mSend_keeps p).trans (State.fcSend_keeps _ p)
  unfold State.ownSend
  dsimp only
  split
  · next hr => exact h.trans (State.lpmSend_keeps hr)
  · exact h

end Sys2Proof.Machine
end

section
/-! PROOFS. The seal port (R621 to R642). -/

namespace Sys2Proof.Machine

-- EN

theorem Field.get_low32 (f : Field) (v : Word) (h : f.lo + f.w ≤ 32) : f.get (low32 v) = f.get v := by
  refine Nat.eq_of_testBit_eq fun k => ?_
  rw [Field.testBit_get, Field.testBit_get]
  by_cases hk : k < f.w
  · have hm : (4294967295 : Word).getLsbD (f.lo + k) = true := by
      have e : (4294967295 : Word) = BitVec.ofNat 64 (2 ^ 32 - 1) := rfl
      rw [e, BitVec.getLsbD_ofNat, Nat.testBit_two_pow_sub_one]
      simp; omega
    simp only [low32, BitVec.getLsbD_and, hm, Bool.and_true]
  · simp [hk]

/-- The word that a write of EN carries to SEAL_CFG. -/
def State.sealEnWord (s : State) (en : Bool) : Word := carried .SEAL_CFG (fSEAL_CFG_EN.put (s.rget .SEAL_CFG 0) en.toNat)

theorem State.sealEnWord_get (s : State) (en : Bool) :
    fSEAL_CFG_EN.get (s.sealEnWord en) = en.toNat ∧
      fSEAL_CFG_TX_DELAY.get (s.sealEnWord en) = s.fget .SEAL_CFG 0 fSEAL_CFG_TX_DELAY ∧
      fSEAL_CFG_RX_MAX.get (s.sealEnWord en) = s.fget .SEAL_CFG 0 fSEAL_CFG_RX_MAX := by
  have hc (v : Word) : carried .SEAL_CFG v = low32 v := rfl
  refine ⟨?_, ?_, ?_⟩ <;> rw [State.sealEnWord, hc, Field.get_low32 _ _ (by decide)]
  · rw [Field.get_put_same _ _ _ (by decide)]
    cases en <;> rfl
  · exact Field.get_put_ne _ _ _ _ (by decide)
  · exact Field.get_put_ne _ _ _ _ (by decide)

theorem State.writeReg_sealEn {u : State} {v : Word} {en : Bool} (he : fSEAL_CFG_EN.get v = en.toNat)
    (hd : fSEAL_CFG_TX_DELAY.get v = u.fget .SEAL_CFG 0 fSEAL_CFG_TX_DELAY)
    (hm : fSEAL_CFG_RX_MAX.get v = u.fget .SEAL_CFG 0 fSEAL_CFG_RX_MAX)
    (h1 : 8 ≤ u.fget .SEAL_CFG 0 fSEAL_CFG_TX_DELAY) (h2 : u.fget .SEAL_CFG 0 fSEAL_CFG_TX_DELAY ≤ 96)
    (h3 : 64 ≤ u.fget .SEAL_CFG 0 fSEAL_CFG_RX_MAX) : u.writeReg .SEAL_CFG 0 v = u.sealEnWrite en := by
  have hb : u.encBad .SEAL_CFG 0 v = [] := by
    simp [State.encBad, badFields, outside, atLeast, hd, hm, Nat.not_lt.mpr h1, Nat.not_lt.mpr h2, Nat.not_lt.mpr h3]
  have hn : (en.toNat == 1) = en := by cases en <;> rfl
  rw [State.writeReg_ok _ _ _ _ hb, State.actWrite, State.sealCfgWrite, he, hd, hm, hn]
  exact if_pos (by simp [hd, hm, State.fget])

/-- A write of EN alone leaves SEAL_CFG as it is, and EN pending. -/
theorem State.written_sealEn {s : State} (en : Bool) (h1 : 8 ≤ s.fget .SEAL_CFG 0 fSEAL_CFG_TX_DELAY)
    (h2 : s.fget .SEAL_CFG 0 fSEAL_CFG_TX_DELAY ≤ 96) (h3 : 64 ≤ s.fget .SEAL_CFG 0 fSEAL_CFG_RX_MAX) :
    s.written .SEAL_CFG 0 (fSEAL_CFG_EN.put (s.rget .SEAL_CFG 0) en.toNat) =
      ({ s with staged := s.staged.del (rkey .SEAL_CFG 0) } : State).sealEnWrite en :=
  have ⟨he, hd, hm⟩ := s.sealEnWord_get en
  State.writeReg_sealEn he hd hm h1 h2 h3

theorem State.sealEnApply_sleep (s : State) : s.sealEnApply.power.sleep = s.power.sleep := by
  unfold State.sealEnApply
  split
  · split <;> rfl
  · rfl

/-- A served write leaves the seal port and the sleep state as the write of the register does. -/
theorem State.ctWrite_kept {s : State} {id : RegId} {i : Nat} (v : Word) (h : s.serves id i = true) :
    (s.ctWrite id i v).sealU = (s.written id i v).sealU ∧
      (s.ctWrite id i v).power.sleep = (s.written id i v).power.sleep := by
  have e := State.ctWrite_rest v h
  have hs := congrArg State.sealU e
  have hp := congrArg (fun u => u.power.sleep) e
  exact ⟨hs, hp⟩

theorem State.sealEnApply_ended {s : State} {v : Bool} (h : s.sealU.enNext = some v)
    (ht : s.sealU.tx.all (·.ended) = true) : s.sealEnApply.sealEn = v ∧ s.sealEnApply.sealU.enNext = none := by
  rw [State.sealEnApply, h]
  simp only [ht, if_true]
  refine ⟨?_, rfl⟩
  rw [State.sealEn, State.fbit, State.fsetB, State.fget_fset_same _ _ _ _ _ (by decide)]
  cases v <;> rfl

theorem State.sealEnApply_waits {s : State} (ht : ¬ s.sealU.tx.all (·.ended) = true) : s.sealEnApply = s := by
  unfold State.sealEnApply
  split
  · rw [if_neg ht]
  · rfl

-- Counters

theorem State.fget_count (s : State) (id : RegId) (i : Nat) (f : Field) (h : f.lo + f.w ≤ 64) :
    (s.count id i f).fget id i f = min (2 ^ f.w - 1) (s.fget id i f + 1) := by
  rw [State.count, State.satAdd, State.fget_fset_same _ _ _ _ _ h, Nat.mod_eq_of_lt]
  have := Nat.two_pow_pos f.w
  omega

theorem State.fget_portCount {s : State} {p : Nat} (hp : s.portUsed p = true) (id : RegId) (i : Nat) (f : Field)
    (h : f.lo + f.w ≤ 64) : (s.portCount id p i f).fget id i f = min (2 ^ f.w - 1) (s.fget id i f + 1) := by
  rw [State.portCount, if_pos hp, State.fget_count _ _ _ _ h]

theorem State.portCount_keeps {R : List RegId} {id : RegId} (h : id ∈ R) (s : State) (p i : Nat) (f : Field) :
    Keeps R s (s.portCount id p i f) := .ite ((Keeps.refl s).count i f h) (.refl s)

theorem Keeps.portUsed {R : List RegId} {s t : State} (h : Keeps R s t) (hm : .COURSE_PORT_MAP ∉ R)
    (hd : .POWER_DOM_STAT ∉ R) (p : Nat) : t.portUsed p = s.portUsed p := by
  have hp : t.paired (p / 4) = s.paired (p / 4) := by rw [State.paired, State.portMap, h.regs _ hm]; rfl
  have hl : t.portLanes p = s.portLanes p := by rw [State.portLanes, hp, State.portMap, h.regs _ hm]; rfl
  have hs : t.portSpeed p = s.portSpeed p := by rw [State.portSpeed, hp, State.portMap, h.regs _ hm]; rfl
  have hq (d : Nat) : t.dom d = s.dom d := h.fget hd 0 _
  simp only [State.portUsed, hl, hs, hq]

theorem Keeps.failed {R : List RegId} {s t : State} (h : Keeps R s t) (hf : .GEN_FAULT_STAT ∉ R) :
    t.failed = s.failed := h.fbit hf 0 _

-- Transmit responses

section
variable {s : State} {o : SealOut} {ch : Nat} {x : SealResp}

theorem firstBy_one (i : SealOut → Nat) {p : SealOut → Bool} (h : p o = true) : firstBy i p [o] = some o := by
  simp [firstBy, h]

theorem State.putSeal_one (h : s.sealU.tx = [o]) (o' : SealOut) :
    s.putSeal o o' = s.setSealTx (if o'.ended && o'.tx.isNone then [] else [o']) := by
  rw [State.putSeal, h]
  simp [replaceFirst]

/-- What a returned transmit segment counts and flags, its record set aside. -/
def State.sealCounted (s : State) (o o' : SealOut) (r : SealResp) : State :=
  let s := if (o.badAt r).isSome then s.poisoned else s
  if o'.ended && !o.bypass && o'.status == 0 then s.portCount .SEAL_PORT_CNT o.port o.port fSEAL_PORT_CNT_TX_PROT else s

theorem State.sealCounted_keeps (s : State) (o o' : SealOut) (r : SealResp) :
    Keeps [.GEN_INTEG_EVT, .SEAL_PORT_CNT] s (s.sealCounted o o' r) := by
  have h : Keeps [.GEN_INTEG_EVT, .SEAL_PORT_CNT] s (if (o.badAt r).isSome then s.poisoned else s) :=
    .ite ((Keeps.refl s).flag 0 _ (by decide)) (.refl s)
  exact .ite (h.trans (State.portCount_keeps (by decide) _ _ _ _)) h

theorem State.sealCounted_count (s : State) {o o' : SealOut} (r : SealResp)
    (he : o'.ended = true) (hb : o.bypass = false) (hs : o'.status = 0) (hp : s.portUsed o.port = true) :
    (s.sealCounted o o' r).fget .SEAL_PORT_CNT o.port fSEAL_PORT_CNT_TX_PROT =
      min (2 ^ 32 - 1) (s.fget .SEAL_PORT_CNT o.port fSEAL_PORT_CNT_TX_PROT + 1) := by
  have h : Keeps [.GEN_INTEG_EVT] s (if (o.badAt r).isSome then s.poisoned else s) :=
    .ite ((Keeps.refl s).flag 0 _ (by decide)) (.refl s)
  have hu := (h.portUsed (by decide) (by decide) o.port).trans hp
  rw [State.sealCounted, if_pos (by simp [he, hb, hs]), State.fget_portCount hu _ _ _ (by decide),
    h.fget (by decide)]
  rfl

variable (ht : s.sealU.tx = [o]) (hc : o.chan = ch) (hw : o.waits = true) (hf : s.failed = false)
include ht hc hw hf

theorem State.sealTxResponse_good (hs : o.susp = []) (hb : o.back = 0) (hid : x.fid.val = o.fid) (h1 : x.sof = true)
    (h2 : x.eof = true) (h3 : x.susp = false) (h4 : x.resume = false) (h5 : x.status = 0) (h6 : x.late = false)
    (h7 : x.cpar = false) :
    s.sealTxResponse ch x =
      (s.setSealTx (if o.tx.isSome then [o.take x] else [])).sealCounted o (o.take x) x := by
  have hfw : firstWait (fun o => o.chan == ch && o.waits) s.sealU.tx = some o := by
    rw [ht]; exact firstBy_one _ (by simp [hc, hw])
  have he : (o.take x).ended = true := h2
  have htx : (o.take x).tx = o.tx := rfl
  rw [State.sealTxResponse, hfw]
  simp only [hf, hs, hb, hid, h1, h2, h3, h4, h5, h6, h7, State.putSeal_one ht, he, htx]
  cases o.tx <;> simp [State.sealCounted, he]

theorem State.sealTxResponse_wrongFid (hid : x.fid.val ≠ o.fid) :
    s.sealTxResponse ch x = s.sealViolation ch false x.fid.val 1 := by
  have hfw : firstWait (fun o => o.chan == ch && o.waits) s.sealU.tx = some o := by
    rw [ht]; exact firstBy_one _ (by simp [hc, hw])
  rw [State.sealTxResponse, hfw]
  simp [hf, hid]

end

-- Release

section
variable {s : State} {o : SealOut} {ch : Nat} {c : TxCur}

/-- R630: a whole returned frame is released: its record goes, and the MAC starts it. -/
theorem State.releaseSeg_whole (ht : s.sealU.tx = [o]) (hr : o.released = 0) (hs : o.status = 0) (hcut : o.cut = none)
    (he : o.ended = true) (hn : o.ends = [o.out.length]) (hu : o.susp = []) (hp : s.portUp o.port = true) :
    s.releaseSeg o c =
      (s.setSealTx []).modMac o.port fun m => { m with cur := some { c with pkt := { c.pkt with bytes := o.out } } } := by
  have hend : s.endSeal o = s.setSealTx [] := by
    rw [State.endSeal, State.putSeal_one ht, if_pos (by simp [he])]
  simp only [State.releaseSeg, hr, hs, hcut, hn, hu, hp]
  simp
  rw [hend]

theorem State.elapse_macs (s : State) (n : Nat) : (s.elapse n).macs = s.macs := by
  unfold State.elapse State.showSlew
  dsimp only
  split
  · split
    · rfl
    · rw [State.macs_fset]
  · split <;> rfl

theorem State.sealTxRelease_eq (ht : s.sealU.tx = [o]) (hc : o.chan = ch) (hf : s.failed = false) (hb : o.back = 1)
    (hr : o.released = 0) (hl : o.times.length = 1) (hx : o.tx = some c) (hm : (s.mac o.port).cur = none) :
    s.sealTxRelease ch =
      ((s.elapseTo (o.dueFrom + s.fget .SEAL_CFG 0 fSEAL_CFG_TX_DELAY * s.power.cclk)).ownSend o.port).releaseSeg o c := by
  have hd : o.due = true := by simp [SealOut.due, hx, hr, hl]
  have hfs (p : SealOut → Bool) (h : p o = true) : firstSeg p s.sealU.tx = some o := by
    rw [ht]; exact firstBy_one _ h
  have hmac (d : Nat) : ((s.elapseTo d).mac o.port).cur = none := by
    rw [State.mac, State.elapseTo, State.elapse_macs]; exact hm
  rw [State.sealTxRelease, hfs _ (by simp [hc, hd])]
  dsimp only
  rw [hfs _ (by simp [hd])]
  simp [hf, hb, hr, hx, hmac]

end

theorem State.mac_modMac_same (s : State) (p : Nat) (f : MacPort → MacPort) : (s.modMac p f).mac p = f (s.mac p) := by
  rw [State.modMac, State.mac_setMac, if_pos rfl]

theorem State.modMac_setSealTx (s : State) (l : List SealOut) (p : Nat) (f : MacPort → MacPort) :
    ((s.setSealTx l).modMac p f).sealU.tx = l ∧ ((s.setSealTx l).modMac p f).now = s.now := ⟨rfl, rfl⟩

-- Receive

theorem State.sealViolation_stat {s : State} (hf : s.failed = false) (ch : Nat) (rx : Bool) (fid v : Nat) :
    Keeps failRegs s (s.sealViolation ch rx fid v) ∧ (s.sealViolation ch rx fid v).failed = true ∧
      (s.sealViolation ch rx fid v).fget .GEN_FAULT_STAT 0 fGEN_FAULT_STAT_CAUSE = 4 :=
  State.failStop_stat hf .sealProtocol _ _ _

section
variable {s : State} {o : SealOut} {ch : Nat} {x : SealResp}
  (ht : s.sealU.rx = [o]) (hc : o.chan = ch) (he : o.ended = false) (hf : s.failed = false)
include ht hc he hf

theorem State.sealRxResponse_good {f : Frame} (hx : o.rx = some f) (hid : x.fid.val = o.fid)
    (h1 : x.sof = true) (h2 : x.eof = true) (h3 : x.susp = false) (h4 : x.resume = false) (h6 : x.late = false)
    (h7 : x.cpar = false) :
    s.sealRxResponse ch x = ({ s with sealU := { s.sealU with rx := [] } } : State).sealResult f x := by
  have ho : s.sealOut ch true = [o] := by simp [State.sealOut, ht, hc, he]
  rw [State.sealRxResponse, ho]
  simp [hf, hid, h1, h2, h3, h4, h6, h7, hx, ht]

theorem State.sealRxTimeout_one :
    s.sealRxTimeout ch =
      (s.elapseTo (o.times.headD 0 + (s.fget .SEAL_CFG 0 fSEAL_CFG_RX_MAX + 1) * s.power.cclk)).sealViolation ch true
        o.fid 5 := by
  have ho : s.sealOut ch true = [o] := by simp [State.sealOut, ht, hc, he]
  rw [State.sealRxTimeout, ho]
  simp [hf]

end

/-- R638: a good frame is counted and enters the ingress FIFO. -/
theorem State.sealResult_good {s : State} {f : Frame} {x : SealResp} (h : f.trunc = false) (hs : x.status = 0) :
    Keeps (.SEAL_PORT_CNT :: .GEN_INTEG_EVT :: fifoRegs) s (s.sealResult f x) ∧
      (s.portUsed f.port = true →
        (s.sealResult f x).fget .SEAL_PORT_CNT f.port fSEAL_PORT_CNT_RX_PROT =
          min (2 ^ 32 - 1) (s.fget .SEAL_PORT_CNT f.port fSEAL_PORT_CNT_RX_PROT + 1)) := by
  let t := s.portCount .SEAL_PORT_CNT f.port f.port fSEAL_PORT_CNT_RX_PROT
  have hk : Keeps [.SEAL_PORT_CNT] s t := State.portCount_keeps (by decide) _ _ _ _
  obtain ⟨b, g, he⟩ : ∃ (b : Bool) (g : Frame), s.sealResult f x = (if b then t.poisoned else t).enterFifo g := by
    rw [State.sealResult, h, hs]
    exact ⟨_, _, rfl⟩
  have hb : Keeps [.GEN_INTEG_EVT] t (if b then t.poisoned else t) :=
    .ite ((Keeps.refl t).flag 0 _ (by decide)) (.refl t)
  have hn := State.enterFifo_keeps (if b then t.poisoned else t) g
  rw [he]
  refine ⟨(hk.mono (by decide)).trans ((hb.mono (by decide)).trans (hn.mono (by decide))), fun hp => ?_⟩
  rw [hn.fget (by decide), hb.fget (by decide), State.fget_portCount hp _ _ _ (by decide)]
  rfl

-- Alarms and the hold sweep

theorem State.fbit_flag_same (s : State) (id : RegId) (i : Nat) (f : Field) (h : f.lo + f.w ≤ 64) (hw : 0 < f.w) :
    (s.flag id i f).fbit id i f = true := by
  have h1 : 1 < 2 ^ f.w := Nat.one_lt_two_pow (Nat.ne_of_gt hw)
  rw [State.fbit, State.flag, State.fget_fset_same _ _ _ _ _ h, Nat.mod_eq_of_lt h1]
  rfl

theorem State.fbit_clear_same (s : State) (id : RegId) (i : Nat) (f : Field) (h : f.lo + f.w ≤ 64) :
    (s.fset id i f 0).fbit id i f = false := by
  rw [State.fbit, State.fget_fset_same _ _ _ _ _ h, Nat.zero_mod]
  rfl

/-- Marking ports as swept leaves their hold as it is. -/
theorem State.fbit_hold_sweeps (s : State) (ps : List Nat) (q : Nat) :
    (s.forEach ps fun s p => s.flag .SEAL_PORT_STAT p fSEAL_PORT_STAT_SWEEP).fbit .SEAL_PORT_STAT q fSEAL_PORT_STAT_HOLD =
      s.fbit .SEAL_PORT_STAT q fSEAL_PORT_STAT_HOLD := by
  induction ps generalizing s with
  | nil => rfl
  | cons p ps ih =>
    refine (ih _).trans ?_
    dsimp only
    rw [State.fbit, State.fbit, State.flag, State.fget_fset_field _ _ _ _ _ _ _ (by decide)]

/-- The end of the sweep clears the hold of the ports that it covers. -/
theorem State.fbit_hold_released (s : State) (ps : List Nat) (q : Nat) :
    (s.forEach ps fun s p => (s.fset .SEAL_PORT_STAT p fSEAL_PORT_STAT_HOLD 0).fset .SEAL_PORT_STAT p
      fSEAL_PORT_STAT_SWEEP 0).fbit .SEAL_PORT_STAT q fSEAL_PORT_STAT_HOLD =
      (!ps.contains q && s.fbit .SEAL_PORT_STAT q fSEAL_PORT_STAT_HOLD) := by
  induction ps generalizing s with
  | nil => rfl
  | cons p ps ih =>
    refine (ih _).trans ?_
    have hf : ((s.fset .SEAL_PORT_STAT p fSEAL_PORT_STAT_HOLD 0).fset .SEAL_PORT_STAT p fSEAL_PORT_STAT_SWEEP 0).fbit
        .SEAL_PORT_STAT q fSEAL_PORT_STAT_HOLD = (!(q == p) && s.fbit .SEAL_PORT_STAT q fSEAL_PORT_STAT_HOLD) := by
      rw [State.fbit, State.fget_fset_field _ _ _ _ _ _ _ (by decide), ← State.fbit]
      by_cases e : q = p
      · subst e
        rw [State.fbit_clear_same _ _ _ _ (by decide), beq_self_eq_true]
        rfl
      · rw [State.fbit, State.fget_fset_reg _ _ _ _ (fun h => e h.2.symm), beq_eq_false_iff_ne.mpr e]
        rfl
    rw [hf, List.contains_cons]
    cases (q == p) <;> cases ps.contains q <;> rfl

theorem State.heldPorts_congr {s t : State}
    (h : ∀ q, t.fbit .SEAL_PORT_STAT q fSEAL_PORT_STAT_HOLD = s.fbit .SEAL_PORT_STAT q fSEAL_PORT_STAT_HOLD) :
    t.heldPorts = s.heldPorts := List.filter_congr fun q _ => h q

/-- R640: port p enters seal hold. -/
theorem State.heldPorts_hold (s : State) (p : Nat) :
    (s.flag .SEAL_PORT_STAT p fSEAL_PORT_STAT_HOLD).heldPorts =
      (List.range 16).filter fun q => q == p || s.heldPorts.contains q := by
  refine List.filter_congr fun q hq => ?_
  have hc : s.heldPorts.contains q = s.fbit .SEAL_PORT_STAT q fSEAL_PORT_STAT_HOLD := by
    rw [Bool.eq_iff_iff, List.contains_iff_mem, State.heldPorts, List.mem_filter]
    exact ⟨fun h => h.2, fun h => ⟨hq, h⟩⟩
  rw [hc]
  by_cases e : q = p
  · subst e
    rw [State.fbit_flag_same _ _ _ _ (by decide) (by decide), beq_self_eq_true]
    rfl
  · rw [State.fbit, State.flag, State.fget_fset_reg _ _ _ _ (fun h => e h.2.symm), beq_eq_false_iff_ne.mpr e]
    rfl

/-- R640: the log of an alarm and the hold of its port. -/
def State.alarmLogged (s : State) (p slot : Nat) : State :=
  let s := s.fset .SEAL_SLOT slot fSEAL_SLOT_VALID 0
  let s := (s.fset .SEAL_ALARM_LOG 0 fSEAL_ALARM_LOG_PORT p).fset .SEAL_ALARM_LOG 0 fSEAL_ALARM_LOG_SLOT slot
  (s.count .SEAL_ALARM_LOG 0 fSEAL_ALARM_LOG_COUNT).flag .SEAL_EVT 0 fSEAL_EVT_ALARM

/-- R641: the sweep of the ports in hold starts. -/
def State.sweepStarts (s : State) : State :=
  let t := s.forEach s.heldPorts fun s p => s.flag .SEAL_PORT_STAT p fSEAL_PORT_STAT_SWEEP
  { t with sealU := { t.sealU with sweep := s.heldPorts, sweepAt := t.now } }

theorem State.sealAlarm_eq {s : State} (h : s.sealEn = true) (p slot : Nat) :
    ∃ ls, s.sealAlarm p slot false =
      (((s.alarmLogged p slot).flag .SEAL_PORT_STAT p fSEAL_PORT_STAT_HOLD).sweepStarts).relistLeaves ls := by
  rw [State.sealAlarm, h]
  exact ⟨_, rfl⟩

theorem State.alarmLogged_stat (s : State) {p slot : Nat} (hp : p < 16) (hs : slot < 4096) :
    (s.alarmLogged p slot).fbit .SEAL_SLOT slot fSEAL_SLOT_VALID = false ∧
      (s.alarmLogged p slot).fget .SEAL_ALARM_LOG 0 fSEAL_ALARM_LOG_PORT = p ∧
      (s.alarmLogged p slot).fget .SEAL_ALARM_LOG 0 fSEAL_ALARM_LOG_SLOT = slot ∧
      (s.alarmLogged p slot).fbit .SEAL_EVT 0 fSEAL_EVT_ALARM = true := by
  have hp : p % 2 ^ fSEAL_ALARM_LOG_PORT.w = p := Nat.mod_eq_of_lt hp
  have hs : slot % 2 ^ fSEAL_ALARM_LOG_SLOT.w = slot := Nat.mod_eq_of_lt hs
  refine ⟨?_, ?_, ?_, State.fbit_flag_same _ _ _ _ (by decide) (by decide)⟩ <;>
    simp (disch := decide) [State.alarmLogged, State.fbit, State.count, State.satAdd, State.flag, State.fget_fset,
      State.rget_fset, Field.get_put_same, Field.get_put_ne, hp, hs]

theorem State.alarmLogged_keeps (s : State) (p slot : Nat) :
    Keeps [.SEAL_SLOT, .SEAL_ALARM_LOG, .SEAL_EVT] s (s.alarmLogged p slot) := by
  unfold State.alarmLogged
  exact ((((Keeps.refl s).fset _ _ _ (by decide)).fset _ _ _ (by decide)).fset _ _ _ (by decide)).count _ _ (by decide)
    |>.flag _ _ (by decide)

theorem State.sweepStarts_stat (s : State) :
    (∀ id ≠ .SEAL_PORT_STAT, ∀ i, s.sweepStarts.rget id i = s.rget id i) ∧
      (∀ q, s.sweepStarts.fbit .SEAL_PORT_STAT q fSEAL_PORT_STAT_HOLD = s.fbit .SEAL_PORT_STAT q fSEAL_PORT_STAT_HOLD) ∧
      s.sweepStarts.sealU.sweep = s.heldPorts ∧ s.sweepStarts.power.sleep = s.power.sleep := by
  have h : Keeps [.SEAL_PORT_STAT] s
      (s.forEach s.heldPorts fun s p => s.flag .SEAL_PORT_STAT p fSEAL_PORT_STAT_SWEEP) :=
    .forEach _ (fun u p => (Keeps.refl u).flag _ _ (by decide)) (.refl s)
  exact ⟨fun id hid => h.regs id (by simpa using hid), s.fbit_hold_sweeps s.heldPorts, rfl, h.sleep⟩

theorem State.setBinds_eq (s : State) (ls : List Nat) (f : State → Nat → Nat) :
    ∃ b, (s.forEach ls fun s l => s.setBind l (f s l)) = { s with sealU := { s.sealU with binds := b } } := by
  induction ls generalizing s with
  | nil => exact ⟨s.sealU.binds, rfl⟩
  | cons l ls ih =>
    obtain ⟨b, hb⟩ := ih (s.setBind l (f s l))
    exact ⟨b, hb⟩

/-- R641: the ports of the sweep leave their hold. -/
def State.sweepDone (s : State) (ps : List Nat) : State :=
  let t := s.forEach ps fun s p => (s.fset .SEAL_PORT_STAT p fSEAL_PORT_STAT_HOLD 0).fset .SEAL_PORT_STAT p
    fSEAL_PORT_STAT_SWEEP 0
  ({ t with sealU := { t.sealU with sweep := [], sweepAt := 0 } } : State).flag .SEAL_EVT 0 fSEAL_EVT_HOLD_DONE

theorem State.sealSweepEnd_eq {s : State} (h : s.sealU.sweep ≠ []) :
    ∃ (b : Store Nat) (ls : List Nat), s.sealSweepEnd =
      (({ s.elapseTo (s.sealU.sweepAt + 16384 * s.power.cclk) with
          sealU := { (s.elapseTo (s.sealU.sweepAt + 16384 * s.power.cclk)).sealU with binds := b } } : State).sweepDone
        s.sealU.sweep).relistLeaves ls := by
  let t := s.elapseTo (s.sealU.sweepAt + 16384 * s.power.cclk)
  obtain ⟨b, hb⟩ := t.setBinds_eq (t.protLeaves s.sealU.sweep) fun s l => s.bind l ||| 2
  refine ⟨b, t.protLeaves s.sealU.sweep, ?_⟩
  rw [State.sealSweepEnd]
  split
  · next e => exact absurd e h
  · exact congrArg (fun u => (State.sweepDone u s.sealU.sweep).relistLeaves (t.protLeaves s.sealU.sweep)) hb

theorem State.sweepDone_stat (s : State) (ps : List Nat) :
    (s.sweepDone ps).sealU.sweep = [] ∧ (s.sweepDone ps).fbit .SEAL_EVT 0 fSEAL_EVT_HOLD_DONE = true ∧
      (s.sweepDone ps).now = s.now ∧ (s.sweepDone ps).power.sleep = s.power.sleep ∧
      ∀ q ∈ ps, (s.sweepDone ps).fbit .SEAL_PORT_STAT q fSEAL_PORT_STAT_HOLD = false := by
  have h : Keeps [.SEAL_PORT_STAT] s (s.forEach ps fun s p => (s.fset .SEAL_PORT_STAT p fSEAL_PORT_STAT_HOLD 0).fset
      .SEAL_PORT_STAT p fSEAL_PORT_STAT_SWEEP 0) :=
    .forEach _ (fun u p => ((Keeps.refl u).fset _ _ _ (by decide)).fset _ _ _ (by decide)) (.refl s)
  refine ⟨rfl, State.fbit_flag_same _ _ _ _ (by decide) (by decide), h.now, h.sleep, fun q hq => ?_⟩
  have hc : ps.contains q = true := List.contains_iff_mem.mpr hq
  refine Eq.trans ?_ ((s.fbit_hold_released ps q).trans (by rw [hc]; rfl))
  have k {u : State} : Keeps [.SEAL_EVT] u (u.flag .SEAL_EVT 0 fSEAL_EVT_HOLD_DONE) :=
    (Keeps.refl u).flag 0 _ (by decide)
  exact k.fbit (by decide) q _

-- Bindings

theorem State.bind_setBind (s : State) (leaf v : Nat) : (s.setBind leaf v).bind leaf = v :=
  Store.get_set_same _ _ _ _

theorem State.sealBindWin_read {s : State} (hb : s.fbit .SEAL_BIND_CMD 0 fSEAL_BIND_CMD_BUSY = true)
    (ho : s.fget .SEAL_BIND_CMD 0 fSEAL_BIND_CMD_OP = 0) :
    s.sealBindWin 0 = (s.fset .SEAL_BIND_CMD 0 fSEAL_BIND_CMD_BUSY 0).rset .SEAL_BIND_DATA 0
      (BitVec.ofNat 64 (s.bind (s.fget .SEAL_BIND_ADDR 0 fSEAL_BIND_ADDR_LEAF))) := by
  rw [State.sealBindWin, hb, ho]
  rfl

theorem State.sealBindWin_write {s : State} (hb : s.fbit .SEAL_BIND_CMD 0 fSEAL_BIND_CMD_BUSY = true)
    (ho : s.fget .SEAL_BIND_CMD 0 fSEAL_BIND_CMD_OP = 1) :
    s.sealBindWin 1 = ((s.fset .SEAL_BIND_CMD 0 fSEAL_BIND_CMD_BUSY 0).bindWrite
      (s.fget .SEAL_BIND_ADDR 0 fSEAL_BIND_ADDR_LEAF) ((s.rget .SEAL_BIND_DATA 0).toNat % 2 ^ 14)).2 := by
  rw [State.sealBindWin, hb, ho]
  simp only [beq_self_eq_true, Bool.and_self, if_true, Nat.one_ne_zero, if_false,
    State.rget_fset_ne _ _ _ (show ¬ (RegId.SEAL_BIND_CMD = .SEAL_BIND_DATA ∧ 0 = 0) by decide)]

theorem bitOf_held (v : Word) : bitOf (v.toNat % 2 ^ 14) fSEAL_BIND_DATA_HELD.lo = (fSEAL_BIND_DATA_HELD.get v != 0) := by
  simp only [bitOf, fSEAL_BIND_DATA_HELD, Field.get, Nat.testBit_eq_decide_div_mod_eq, Nat.shiftRight_eq_div_pow,
    Nat.pow_one]
  have h : v.toNat % 2 ^ 14 / 2 % 2 = v.toNat / 2 % 2 := by omega
  rw [h]
  rcases Nat.mod_two_eq_zero_or_one (v.toNat / 2) with e | e <;> rw [e] <;> rfl

theorem State.tracked_keeps (s : State) (off : Nat) (t : State) : Keeps [.GEN_ACC_ERR] t (s.tracked off t) :=
  .ite ((Keeps.refl t).fset _ _ _ (by decide)) (.refl t)

theorem State.rsvdEnc_keeps (s : State) : Keeps [.GEN_ACC_ERR] s s.rsvdEnc := (Keeps.refl s).flag 0 _ (by decide)

theorem State.tracked_fbit (s : State) (off : Nat) (t : State) (f : Field)
    (h : f.lo + f.w ≤ fGEN_ACC_ERR_FIRST_OFF.lo ∨ fGEN_ACC_ERR_FIRST_OFF.lo + fGEN_ACC_ERR_FIRST_OFF.w ≤ f.lo) :
    (s.tracked off t).fbit .GEN_ACC_ERR 0 f = t.fbit .GEN_ACC_ERR 0 f := by
  unfold State.tracked
  split
  · rw [State.fbit, State.fget_fset_field _ _ _ _ _ _ _ h]; rfl
  · rfl

section
variable (s : State) (leaf v : Nat)

theorem State.bindWrite_refused (h : s.sealU.sweep ≠ []) :
    (s.bindWrite leaf v).2 = s.flag .SEAL_EVT 0 fSEAL_EVT_BIND_REFUSED := by
  rw [State.bindWrite, if_pos (by simpa using h)]

theorem State.bindWrite_held (h : s.sealU.sweep = []) (hv : bitOf v fSEAL_BIND_DATA_HELD.lo = true) :
    (s.bindWrite leaf v).2 =
      ((s.setBind leaf (v - 2 + (bitOf (s.bind leaf) 1).toNat * 2)).relistUp 0 leaf).tracked (addrOf .SEAL_BIND_CMD 0)
        ((s.setBind leaf (v - 2 + (bitOf (s.bind leaf) 1).toNat * 2)).relistUp 0 leaf).rsvdEnc := by
  rw [State.bindWrite, if_neg (by simp [h]), if_pos hv]

theorem State.bindWrite_good (h : s.sealU.sweep = []) (hv : bitOf v fSEAL_BIND_DATA_HELD.lo = false) :
    (s.bindWrite leaf v).2 = (s.setBind leaf v).relistUp 0 leaf := by
  rw [State.bindWrite, if_neg (by simp [h]), if_neg (by simp [hv])]

end

-- The commands whose effects reach several units

theorem sealAlarm_answers (p : Fin 16) (slot : Fin 4096) {s : State} (ha : s.bootU.asserted = false)
    (hen : s.sealEn = true) :
    Answers (.sealAlarm p slot false) s fun t =>
      t.fbit .SEAL_SLOT slot fSEAL_SLOT_VALID = false ∧ t.fget .SEAL_ALARM_LOG 0 fSEAL_ALARM_LOG_PORT = p.val ∧
      t.fget .SEAL_ALARM_LOG 0 fSEAL_ALARM_LOG_SLOT = slot.val ∧ t.fbit .SEAL_EVT 0 fSEAL_EVT_ALARM = true ∧
      t.fbit .SEAL_PORT_STAT p fSEAL_PORT_STAT_HOLD = true ∧ t.sealU.sweep = t.heldPorts ∧
      t.heldPorts = (List.range 16).filter (fun q => q == p.val || s.heldPorts.contains q) := by
  obtain ⟨ls, hls⟩ := State.sealAlarm_eq hen p.val slot.val
  refine answers_done (u := s.sealAlarm p slot false) rfl ?_
  rw [hls]
  obtain ⟨h1, h2, h3, h4⟩ := s.alarmLogged_stat p.isLt slot.isLt
  have kl := s.alarmLogged_keeps p slot
  have kh := (Keeps.refl (R := [.SEAL_PORT_STAT]) (s.alarmLogged p slot)).flag (id := .SEAL_PORT_STAT) p
    fSEAL_PORT_STAT_HOLD (by decide)
  obtain ⟨w1, w2, w3, w4⟩ := ((s.alarmLogged p slot).flag .SEAL_PORT_STAT p fSEAL_PORT_STAT_HOLD).sweepStarts_stat
  have kr := State.relistLeaves_keeps afterRegs
    ((s.alarmLogged p slot).flag .SEAL_PORT_STAT p fSEAL_PORT_STAT_HOLD).sweepStarts ls
  have k := kr.trans (Keeps.after ha (kr.sleep.trans (w4.trans (kh.sleep.trans kl.sleep))))
  have reg {id : RegId} (hid : id ∉ afterRegs) (hp : id ≠ .SEAL_PORT_STAT) (i : Nat) :=
    (k.regs id hid i).trans ((w1 id hp i).trans (kh.regs id (by simpa using hp) i))
  have hold (q : Nat) := (k.fbit (id := .SEAL_PORT_STAT) (by decide) q fSEAL_PORT_STAT_HOLD).trans (w2 q)
  have held := State.heldPorts_congr hold
  refine ⟨?_, ?_, ?_, ?_, ?_, ?_, ?_⟩
  · rw [State.fbit, State.fget, reg (by decide) (by decide)]; exact h1
  · rw [State.fget, reg (by decide) (by decide)]; exact h2
  · rw [State.fget, reg (by decide) (by decide)]; exact h3
  · rw [State.fbit, State.fget, reg (by decide) (by decide)]; exact h4
  · rw [hold]; exact State.fbit_flag_same _ _ _ _ (by decide) (by decide)
  · rw [k.sealU, w3, held]
  · rw [held, State.heldPorts_hold, State.heldPorts_congr fun q => kl.fbit (by decide) q _]

theorem sealHoldSweepEnd_answers {s : State} (ha : s.bootU.asserted = false) (hs : s.sealU.sweep ≠ []) :
    Answers .sealHoldSweepEnd s fun t =>
      t.sealU.sweep = [] ∧ t.fbit .SEAL_EVT 0 fSEAL_EVT_HOLD_DONE = true ∧
      t.now = max s.now (s.sealU.sweepAt + 16384 * s.power.cclk) ∧
      s.sealU.sweep.all (fun q => !t.fbit .SEAL_PORT_STAT q fSEAL_PORT_STAT_HOLD) = true := by
  obtain ⟨b, ls, he⟩ := State.sealSweepEnd_eq hs
  have kt := s.elapseTo_keeps (s.sealU.sweepAt + 16384 * s.power.cclk)
  obtain ⟨h1, h2, h3, h4, h5⟩ := State.sweepDone_stat ({ s.elapseTo (s.sealU.sweepAt + 16384 * s.power.cclk) with
    sealU := { (s.elapseTo (s.sealU.sweepAt + 16384 * s.power.cclk)).sealU with binds := b } }) s.sealU.sweep
  refine answers_done (u := s.sealSweepEnd) rfl ?_
  rw [he]
  have kl := State.relistLeaves_keeps [] (State.sweepDone { s.elapseTo (s.sealU.sweepAt + 16384 * s.power.cclk) with
    sealU := { (s.elapseTo (s.sealU.sweepAt + 16384 * s.power.cclk)).sealU with binds := b } } s.sealU.sweep) ls
  have k := Keeps.after ha (kl.sleep.trans (h4.trans kt.sleep))
  have k := (kl.mono (List.nil_subset _)).trans k
  refine ⟨by rw [k.sealU, h1], (k.fbit (by decide) 0 _).trans h2, k.now.trans (h3.trans kt.now), ?_⟩
  rw [List.all_eq_true]
  exact fun q hq => by rw [k.fbit (by decide), h5 q hq]; rfl

theorem sealBindWrite_answers {s : State} (ha : s.bootU.asserted = false)
    (hb : s.fbit .SEAL_BIND_CMD 0 fSEAL_BIND_CMD_BUSY = true) (ho : s.fget .SEAL_BIND_CMD 0 fSEAL_BIND_CMD_OP = 1) :
    Answers .sealBindWrite s fun t =>
      t.fbit .SEAL_BIND_CMD 0 fSEAL_BIND_CMD_BUSY = false ∧
      if s.sealU.sweep = [] then
        if s.fbit .SEAL_BIND_DATA 0 fSEAL_BIND_DATA_HELD = true then
          t.fbit .GEN_ACC_ERR 0 fGEN_ACC_ERR_RSVD_ENC = true ∧
          t.bind (s.fget .SEAL_BIND_ADDR 0 fSEAL_BIND_ADDR_LEAF) =
            (s.rget .SEAL_BIND_DATA 0).toNat % 2 ^ 14 - 2 +
              2 * (bitOf (s.bind (s.fget .SEAL_BIND_ADDR 0 fSEAL_BIND_ADDR_LEAF)) 1).toNat
        else t.bind (s.fget .SEAL_BIND_ADDR 0 fSEAL_BIND_ADDR_LEAF) = (s.rget .SEAL_BIND_DATA 0).toNat % 2 ^ 14
      else t.fbit .SEAL_EVT 0 fSEAL_EVT_BIND_REFUSED = true ∧ t.sealU.binds = s.sealU.binds := by
  refine answers_done (u := s.sealBindWin 1) rfl ?_
  rw [State.sealBindWin_write hb ho]
  have hbz := State.fbit_clear_same s .SEAL_BIND_CMD 0 fSEAL_BIND_CMD_BUSY (by decide)
  have hheld : _ = s.fbit .SEAL_BIND_DATA 0 fSEAL_BIND_DATA_HELD := bitOf_held (s.rget .SEAL_BIND_DATA 0)
  generalize s.fget .SEAL_BIND_ADDR 0 fSEAL_BIND_ADDR_LEAF = leaf
  generalize hv : (s.rget .SEAL_BIND_DATA 0).toNat % 2 ^ 14 = v at hheld ⊢
  generalize hz : s.fset .SEAL_BIND_CMD 0 fSEAL_BIND_CMD_BUSY 0 = z at hbz ⊢
  have hzu : z.sealU = s.sealU := by rw [← hz]; rfl
  have hzb : z.bind leaf = s.bind leaf := by rw [State.bind, State.bind, hzu]
  have hzp : z.power.sleep = s.power.sleep := by rw [← hz]; rfl
  split
  · next hs =>
    have hs' : z.sealU.sweep = [] := by rw [hzu, hs]
    have kr (b : Nat) := State.relistUp_keeps afterRegs (z.setBind leaf b) 0 leaf
    have hbind (b : Nat) {u : State} (k : u.sealU = (z.setBind leaf b).sealU) : u.bind leaf = b := by
      rw [State.bind, k]; exact z.bind_setBind leaf b
    rw [← hheld]
    cases hh : bitOf v fSEAL_BIND_DATA_HELD.lo
    · rw [State.bindWrite_good _ _ _ hs' hh]
      have k := (kr v).trans (Keeps.after ha ((kr v).sleep.trans hzp))
      exact ⟨(k.fbit (by decide) 0 _).trans hbz, by rw [if_neg (by decide)]; exact hbind v k.sealU⟩
    · rw [State.bindWrite_held _ _ _ hs' hh, hzb, Nat.mul_comm _ 2]
      generalize v - 2 + 2 * (bitOf (s.bind leaf) 1).toNat = b
      have kt := (State.rsvdEnc_keeps ((z.setBind leaf b).relistUp 0 leaf)).trans
        (State.tracked_keeps ((z.setBind leaf b).relistUp 0 leaf) (addrOf .SEAL_BIND_CMD 0) _)
      have ka := Keeps.after ha (kt.sleep.trans ((kr b).sleep.trans hzp))
      refine ⟨?_, ?_⟩
      · rw [ka.fbit (by decide), kt.fbit (by decide), (kr b).fbit (by decide)]
        exact hbz
      · rw [if_pos rfl]
        refine ⟨(ka.fbit (by decide) 0 _).trans ((State.tracked_fbit _ _ _ _ (by decide)).trans ?_),
          hbind b (ka.sealU.trans (kt.sealU.trans (kr b).sealU))⟩
        exact State.fbit_flag_same _ _ _ _ (by decide) (by decide)
  · next hs =>
    rw [State.bindWrite_refused _ _ _ (by rw [hzu]; exact hs)]
    have kf := (Keeps.refl (R := [.SEAL_EVT]) z).flag (id := .SEAL_EVT) 0 fSEAL_EVT_BIND_REFUSED (by decide)
    have k := Keeps.after ha (kf.sleep.trans hzp)
    refine ⟨?_, (k.fbit (by decide) 0 _).trans (State.fbit_flag_same _ _ _ _ (by decide) (by decide)), ?_⟩
    · rw [k.fbit (by decide), kf.fbit (by decide), hbz]
    · rw [k.sealU, kf.sealU, hzu]

end Sys2Proof.Machine

open Sys2Proof Sys2Proof.Machine

/-- Settles O33: what each command of the seal port does to the records of its frames and to its registers; what follows
from a command keeps both. -/
theorem sealPortRules : Obligations.SealPortRules := by
  refine ⟨fun en s => ⟨fun hs h1 h2 h3 => ?_, fun ha hn => ?_⟩, fun ch x o s ha hf hc =>
    ⟨fun ht hw hu hb => ⟨fun hid g1 g2 g3 g4 g5 g6 g7 => ?_, fun hid => ?_⟩, ?_, ?_, ?_⟩, fun p slot s ha =>
    ⟨?_, ?_, ?_, ?_, ?_⟩⟩
  · -- a write of EN
    have ha := State.serves_asserted hs
    have hw := State.written_sealEn en h1 h2 h3
    obtain ⟨hu, hp⟩ := State.ctWrite_kept (fSEAL_CFG_EN.put (s.rget .SEAL_CFG 0) en.toNat) hs
    have k := Keeps.after ha (hp.trans (by rw [hw]; rfl))
    refine answers_done rfl ⟨?_, ?_⟩
    · rw [k.sealU, hu, hw]
      simp only [State.sealEnWrite, beq_iff_eq]
      rfl
    · rw [k.regs _ (by decide), State.ctWrite_rget _ hs _ _ (by decide), hw]
      rfl
  · -- EN takes effect
    obtain ⟨v, hv⟩ := Option.isSome_iff_exists.mp hn
    have k := Keeps.after (u := s.sealEnApply) ha (State.sealEnApply_sleep s)
    have ke : (s.after s.sealEnApply).sealEn = s.sealEnApply.sealEn := k.fbit (by decide) 0 _
    refine answers_done rfl ?_
    rw [k.sealU, ke]
    split
    · next hall =>
      obtain ⟨he, hz⟩ := State.sealEnApply_ended hv hall
      exact ⟨hv.trans (congrArg some he.symm), hz⟩
    · next hall =>
      rw [State.sealEnApply_waits hall]
      exact ⟨rfl, rfl⟩
  · -- a good transmit segment
    refine answers_done (u := s.sealTxResponse ch x) rfl ?_
    rw [State.sealTxResponse_good ht hc hw hf hu hb hid g1 g2 g3 g4 g5 g6 g7]
    have kc := (s.setSealTx (if o.tx.isSome then [o.take x] else [])).sealCounted_keeps o (o.take x) x
    have k := Keeps.after ha (kc.sleep.trans rfl)
    refine ⟨by rw [k.sealU, kc.sealU]; rfl, fun hby hst hp => ?_⟩
    have hst' : (o.take x).status = 0 := by simp [SealOut.take, hst, g5]
    rw [k.fget (by decide)]
    exact State.sealCounted_count _ x g2 hby hst' hp
  · -- a wrong identifier
    refine answers_done (u := s.sealTxResponse ch x) rfl ?_
    rw [State.sealTxResponse_wrongFid ht hc hw hf hid]
    obtain ⟨k, h1, h2⟩ := State.sealViolation_stat hf ch false x.fid.val 1
    have ka := Keeps.after ha k.sleep
    exact ⟨(ka.failed (by decide)).trans h1, (ka.fget (by decide) 0 _).trans h2⟩
  · -- a release
    intro ht hu hb hr hp hs hcut he hl hn hx hup hm
    obtain ⟨c, hx⟩ := Option.isSome_iff_exists.mp hx
    refine effect_done (u := s.sealTxRelease ch) rfl ?_
    have kt := s.elapseTo_keeps (o.dueFrom + s.fget .SEAL_CFG 0 fSEAL_CFG_TX_DELAY * s.power.cclk)
    have ko := State.ownSend_keeps (s.elapseTo (o.dueFrom + s.fget .SEAL_CFG 0 fSEAL_CFG_TX_DELAY * s.power.cclk)) o.port
    have k := (kt.mono (by decide)).trans ko
    have hup' := (congrArg (· == 3) (k.fget (id := .PORT_LINK_STAT) (by decide) o.port _)).trans hup
    rw [State.sealTxRelease_eq ht hc hf hb hr hl hx hm,
      State.releaseSeg_whole ((congrArg SealUnit.tx k.sealU).trans ht) hr hs hcut he hn hu hup']
    obtain ⟨h1, h2⟩ := State.modMac_setSealTx ((s.elapseTo (o.dueFrom + s.fget .SEAL_CFG 0 fSEAL_CFG_TX_DELAY *
      s.power.cclk)).ownSend o.port) [] o.port fun m => { m with cur := some { c with pkt := { c.pkt with bytes := o.out } } }
    refine ⟨h1, h2.trans k.now, ?_⟩
    rw [State.mac_modMac_same, hx]
    rfl
  · -- a good received frame
    intro ht he hx hid g1 g2 g3 g4 g5 g6 g7
    cases hr : o.rx with
    | none => rw [hr] at hx; exact absurd hx (by decide)
    | some f =>
      rw [hr] at hx
      obtain ⟨kr, hn⟩ := State.sealResult_good (s := { s with sealU := { s.sealU with rx := [] } }) (x := x)
        (f := f) (by simpa using hx) g7
      refine answers_done (u := s.sealRxResponse ch x) rfl ?_
      rw [State.sealRxResponse_good ht hc he hf hr hid g1 g2 g3 g4 g5 g6]
      have k := Keeps.after ha (kr.sleep.trans rfl)
      refine ⟨by rw [k.sealU, kr.sealU], ?_⟩
      rw [Option.all_some, k.fget (by decide)]
      cases hp : s.portUsed f.port
      · rfl
      · rw [hn hp]
        exact beq_self_eq_true _
  · -- a late received frame
    intro ht he
    have kt := s.elapseTo_keeps (o.times.headD 0 + (s.fget .SEAL_CFG 0 fSEAL_CFG_RX_MAX + 1) * s.power.cclk)
    obtain ⟨kv, h1, h2⟩ := State.sealViolation_stat ((kt.failed (by decide)).trans hf) ch true o.fid 5
    refine answers_done (u := s.sealRxTimeout ch) rfl ?_
    rw [State.sealRxTimeout_one ht hc he hf]
    have k := Keeps.after ha (kv.sleep.trans kt.sleep)
    exact ⟨(k.failed (by decide)).trans h1, (k.fget (by decide) 0 _).trans h2, k.now.trans (kv.now.trans kt.now)⟩
  · exact sealAlarm_answers p slot ha
  · -- an alarm with bad parity
    intro hen hf
    obtain ⟨kv, h1, h2⟩ := State.sealViolation_stat hf 0 false 0 7
    have hv : s.sealAlarm p slot true = s.sealViolation 0 false 0 7 := by rw [State.sealAlarm, hen]; rfl
    refine answers_done (u := s.sealAlarm p slot true) rfl ?_
    rw [hv]
    have k := Keeps.after ha kv.sleep
    exact ⟨(k.failed (by decide)).trans h1, (k.fget (by decide) 0 _).trans h2⟩
  · exact fun hs _ => sealHoldSweepEnd_answers ha hs
  · -- a READ of a binding
    intro hb ho
    refine answers_done (u := s.sealBindWin 0) rfl ?_
    rw [State.sealBindWin_read hb ho]
    have k := Keeps.after (u := (s.fset .SEAL_BIND_CMD 0 fSEAL_BIND_CMD_BUSY 0).rset .SEAL_BIND_DATA 0
      (BitVec.ofNat 64 (s.bind (s.fget .SEAL_BIND_ADDR 0 fSEAL_BIND_ADDR_LEAF)))) ha rfl
    refine ⟨(k.regs _ (by decide) 0).trans (State.rget_rset_same _ _ _ _), (k.fbit (by decide) 0 _).trans ?_⟩
    rw [State.fbit, State.fget_rset, if_neg (by decide)]
    exact State.fbit_clear_same _ _ _ _ (by decide)
  · exact sealBindWrite_answers ha
end

section
/-! PROOFS. The cold reset, INIT and SELECT (R720 to R749, R799). -/

namespace Sys2Proof.Machine

-- Lanes that go to OFF

/-- What a lane writes as it goes to OFF. -/
def offRegs : List RegId := rxRegs ++ trainRegs ++ [.LANE_QUAD_STAT]

theorem Keeps.modLane {R : List RegId} {s t : State} (n : Nat) (f : Lane → Lane) (h : Keeps R s t) :
    Keeps R s (t.modLane n f) := h.setLane n _

theorem State.startAdapt_keeps (s : State) (n : Nat) : Keeps offRegs s (s.startAdapt n) := by
  unfold State.startAdapt State.showRx
  dsimp only
  iterate 2 refine .fset _ _ _ (by decide) ?_
  iterate 5 refine .rset _ _ (by decide) ?_
  iterate 2 refine .fset _ _ _ (by decide) ?_
  exact .refl s

theorem State.leaveData_keeps (s : State) (n : Nat) : Keeps offRegs s (s.leaveData n) := by
  have h (f : Lane → Lane) : Keeps offRegs s (((((s.startAdapt n).modLane n f).fset .LANE_CAL_STAT n
      fLANE_CAL_STAT_TX_PEND 0).fset .LANE_CAL_STAT n fLANE_CAL_STAT_RX_PEND 0).fset .LANE_CAL_STAT n
      fLANE_CAL_STAT_REQ_OUT 0) := by
    iterate 3 refine .fset _ _ _ (by decide) ?_
    exact (s.startAdapt_keeps n).modLane n f
  unfold State.leaveData
  exact .ite (.ite ((h _).fset n _ _ (by decide)) (h _)) (.refl s)

theorem State.rxOff_keeps (s : State) (n : Nat) : Keeps offRegs s (s.rxOff n) := by
  unfold State.rxOff
  dsimp only
  refine .modLane _ _ ?_
  iterate 5 refine .fset _ _ _ (by decide) ?_
  exact .refl s

theorem State.setPll_keeps (s : State) (q : Nat) (b : Bool) : Keeps offRegs s (s.setPll q b) :=
  .forEach _ (fun u _ => (Keeps.refl u).fset _ _ _ (by decide)) ((Keeps.refl s).fset _ _ _ (by decide))

theorem State.laneDisable_keeps (s : State) (n : Nat) : Keeps offRegs s (s.laneDisable n) := by
  have h := ((Keeps.refl (R := offRegs) s).fset (id := .LANE_CTRL) n fLANE_CTRL_EN 0 (by decide)).fset (id := .LANE_CTRL) n
    fLANE_CTRL_RESTART 0 (by decide)
  have k := ((h.trans (State.leaveData_keeps _ n)).trans (State.rxOff_keeps _ n)).fset (id := .LANE_STAT) n
    fLANE_STAT_STATE lOFF (by decide)
  unfold State.laneDisable
  exact .ite h (.ite k (k.trans (State.setPll_keeps _ _ _)))

theorem State.laneToOff_keeps (s : State) (n : Nat) : Keeps offRegs s (s.laneToOff n) :=
  (s.laneDisable_keeps n).fset n _ _ (by decide)

-- SAFE

theorem State.rget_modBoot (s : State) (f : BootUnit → BootUnit) (id : RegId) (i : Nat) :
    (s.modBoot f).rget id i = s.rget id i := rfl

theorem State.fget_modBoot (s : State) (f : BootUnit → BootUnit) (id : RegId) (i : Nat) (g : Field) :
    (s.modBoot f).fget id i g = s.fget id i g := rfl

theorem State.lanesToOff_keeps (s : State) : Keeps offRegs s (s.forEach (List.range 16) State.laneToOff) :=
  .forEach _ (fun u n => u.laneToOff_keeps n) (.refl s)

/-- SAFE's entry before the lanes go to OFF. -/
def State.safeEntry (s : State) : State :=
  ((s.setBoot bSAFE).flag .BOOT_EVT 0 fBOOT_EVT_SAFE).modBoot fun u => { u with load := none, warm := false, wasRun := [] }

theorem State.enterSafe_eq (s : State) : s.enterSafe = s.safeEntry.forEach (List.range 16) State.laneToOff := rfl

theorem State.safeEntry_stat (s : State) :
    s.safeEntry.boot = bSAFE ∧ s.safeEntry.fbit .BOOT_EVT 0 fBOOT_EVT_SAFE = true ∧
      s.safeEntry.bootU = { s.bootU with load := none, warm := false, wasRun := [] } ∧
      s.safeEntry.power.sleep = s.power.sleep := by
  refine ⟨?_, ?_, rfl, rfl⟩
  · rw [State.boot, State.safeEntry, State.fget_modBoot, State.flag, State.fget_fset_reg _ _ _ _ (by decide),
      State.setBoot, State.fget_fset_same _ _ _ _ _ (by decide)]
    rfl
  · rw [State.fbit, State.safeEntry, State.fget_modBoot]
    exact State.fbit_flag_same _ _ _ _ (by decide) (by decide)

/-- R741: SAFE is entered with its event, and no load. -/
theorem State.enterSafe_stat (s : State) :
    s.enterSafe.boot = bSAFE ∧ s.enterSafe.fbit .BOOT_EVT 0 fBOOT_EVT_SAFE = true ∧
      s.enterSafe.bootU = { s.bootU with load := none, warm := false, wasRun := [] } ∧
      s.enterSafe.power.sleep = s.power.sleep := by
  have h := s.safeEntry.lanesToOff_keeps
  obtain ⟨h1, h2, h3, h4⟩ := s.safeEntry_stat
  rw [State.enterSafe_eq]
  exact ⟨(h.fget (by decide) 0 _).trans h1, (h.fbit (by decide) 0 _).trans h2, h.bootU.trans h3, h.sleep.trans h4⟩

-- The cold reset's release

theorem State.setDom_keeps (s : State) (d st : Nat) :
    Keeps [.POWER_DOM_STAT, .POWER_READY, .POWER_STAT] s (s.setDom d st) := by
  have h : Keeps [.POWER_DOM_STAT, .POWER_READY, .POWER_STAT] s
      ((s.fset .POWER_DOM_STAT 0 (fPOWER_DOM_STAT_STATE d) st).setReady d (st == 0)) := by
    iterate 2 refine .fset _ _ _ (by decide) ?_
    exact .refl s
  exact .ite h (h.fset 0 _ _ (by decide))

theorem fieldState_apart {d e : Nat} (h : e ≠ d) :
    (fPOWER_DOM_STAT_STATE e).lo + (fPOWER_DOM_STAT_STATE e).w ≤ (fPOWER_DOM_STAT_STATE d).lo ∨
      (fPOWER_DOM_STAT_STATE d).lo + (fPOWER_DOM_STAT_STATE d).w ≤ (fPOWER_DOM_STAT_STATE e).lo := by
  simp only [fPOWER_DOM_STAT_STATE]
  omega

theorem State.dom_setDom (s : State) (d st e : Nat) (hd : d < 32) (hs : st < 4) :
    (s.setDom d st).dom e = if e = d then st else s.dom e := by
  have h : Keeps [.POWER_READY, .POWER_STAT] (s.fset .POWER_DOM_STAT 0 (fPOWER_DOM_STAT_STATE d) st) (s.setDom d st) := by
    have h1 := (Keeps.refl (R := [.POWER_READY, .POWER_STAT]) (s.fset .POWER_DOM_STAT 0 (fPOWER_DOM_STAT_STATE d) st))
    unfold State.setDom State.setReady State.showBlock
    exact .ite (h1.fset _ _ _ (by decide)) ((h1.fset _ _ _ (by decide)).fset _ _ _ (by decide))
  rw [State.dom, h.fget (by decide)]
  split
  · next e => 
    subst e
    rw [State.fget_fset_same _ _ _ _ _ (by simp only [fPOWER_DOM_STAT_STATE]; omega)]
    exact Nat.mod_eq_of_lt hs
  · next e => rw [State.fget_fset_field _ _ _ _ _ _ _ (fieldState_apart e)]; rfl

theorem State.strapFence_keeps (s : State) (q : Nat) :
    Keeps [.POWER_DOM_STAT, .POWER_READY, .POWER_STAT, .POWER_PAD] s (s.strapFence q) :=
  (((s.setDom_keeps (dQUAD q) 3).trans (State.setDom_keeps _ (dCOURSE q) 3)).mono (by decide)).fset _ _ _ (by decide)

/-- R690, R708: a strap fences its quad and its course, and holds the quad's pads. -/
theorem State.strapFence_stat (s : State) {q : Nat} (hq : q < 4) :
  (∀ d, (s.strapFence q).dom d = if d = dQUAD q ∨ d = dCOURSE q then 3 else s.dom d) ∧
      (s.strapFence q).fget .POWER_PAD 0 fPOWER_PAD_HELD = s.fget .POWER_PAD 0 fPOWER_PAD_HELD ||| 2 ^ (3 + q) := by
  have k := (s.setDom_keeps (dQUAD q) 3).trans (State.setDom_keeps _ (dCOURSE q) 3)
  refine ⟨fun d => ?_, ?_⟩
  · have hp : ((s.strapFence q).dom d) = (((s.setDom (dQUAD q) 3).setDom (dCOURSE q) 3).dom d) :=
      State.fget_fset_reg _ _ _ _ (by decide)
    rw [hp, State.dom_setDom _ _ _ _ (by simp only [dCOURSE]; omega) (by decide),
      State.dom_setDom _ _ _ _ (by simp only [dQUAD]; omega) (by decide)]
    by_cases h1 : d = dCOURSE q <;> by_cases h2 : d = dQUAD q <;> simp [h1, h2]
  · rw [State.strapFence, State.fget_fset_same _ _ _ _ _ (by decide), k.fget (by decide)]
    refine Nat.mod_eq_of_lt (Nat.or_lt_two_pow (Field.get_lt _ _) ?_)
    exact Nat.pow_lt_pow_right (by decide) (show 3 + q < 7 by omega)

/-- R690, R708: quad q and its course are fenced, and the quad's pads are held. -/
def State.fencedQuad (s : State) (q : Nat) : Bool :=
  s.dom (dQUAD q) == 3 && s.dom (dCOURSE q) == 3 && bitOf (s.fget .POWER_PAD 0 fPOWER_PAD_HELD) (3 + q)

theorem State.strapFence_fenced (s : State) {q : Nat} (hq : q < 4) (r : Nat) (h : r = q ∨ s.fencedQuad r = true) :
    (s.strapFence q).fencedQuad r = true := by
  obtain ⟨hd, hh⟩ := s.strapFence_stat hq
  simp only [State.fencedQuad, hd, hh, bitOf, Nat.testBit_or, Nat.testBit_two_pow, Bool.and_eq_true, beq_iff_eq,
    Bool.or_eq_true, decide_eq_true_eq] at h ⊢
  rcases h with rfl | ⟨⟨h1, h2⟩, h3⟩
  · simp
  · simp [h1, h2, h3]

theorem State.strapFences_fenced (s : State) (l : List Nat) (hl : ∀ q ∈ l, q < 4) (r : Nat)
    (h : r ∈ l ∨ s.fencedQuad r = true) : (s.forEach l State.strapFence).fencedQuad r = true := by
  induction l generalizing s with
  | nil => exact h.resolve_left (List.not_mem_nil)
  | cons q l ih =>
    refine ih _ (fun x hx => hl x (List.mem_cons_of_mem _ hx)) ?_
    rcases h with h | h
    · rcases List.mem_cons.mp h with h | h
      · exact .inr (s.strapFence_fenced (hl q List.mem_cons_self) r (.inl h))
      · exact .inl h
    · exact .inr (s.strapFence_fenced (hl q List.mem_cons_self) r (.inr h))

/-- R736: the straps are sampled and INIT begins, before the fences are set. -/
def State.strapsTaken (s : State) (fence mode : Nat) (trim : BitVec 40) : State :=
  let s := s.modBoot fun u => { u with asserted := false, mode := mode, trim := trim, xspiAt := s.now, mbist := false }
  let s := ((s.fset .POWER_FENCE 0 fPOWER_FENCE_QUAD fence).fset .POWER_FENCE 0 fPOWER_FENCE_COURSE fence).fset
    .POWER_FENCE 0 fPOWER_FENCE_STRAP fence
  (s.setBoot bINIT).fset .BOOT_XSPI_CFG 0 fBOOT_XSPI_CFG_PROTO mode

theorem State.coldRelease_eq {s : State} (h : s.bootU.asserted = true) (fence mode : Nat) (trim : BitVec 40) :
    s.coldRelease fence mode trim =
      (s.strapsTaken fence mode trim).forEach ((List.range 4).filter (bitOf fence)) State.strapFence := if_pos h

theorem State.strapsTaken_bootU (s : State) (fence mode : Nat) (trim : BitVec 40) :
    (s.strapsTaken fence mode trim).bootU =
      { s.bootU with asserted := false, mode := mode, trim := trim, xspiAt := s.now, mbist := false } := rfl

theorem State.strapsTaken_regs (s : State) {fence mode : Nat} (hf : fence < 16) (hm : mode < 4) (trim : BitVec 40) :
    (s.strapsTaken fence mode trim).boot = bINIT ∧
      (s.strapsTaken fence mode trim).fget .BOOT_XSPI_CFG 0 fBOOT_XSPI_CFG_PROTO = mode ∧
      (s.strapsTaken fence mode trim).fget .POWER_FENCE 0 fPOWER_FENCE_STRAP = fence ∧
      (s.strapsTaken fence mode trim).fget .POWER_FENCE 0 fPOWER_FENCE_QUAD = fence ∧
      (s.strapsTaken fence mode trim).fget .POWER_FENCE 0 fPOWER_FENCE_COURSE = fence := by
  have h1 : mode % 2 ^ fBOOT_XSPI_CFG_PROTO.w = mode := Nat.mod_eq_of_lt hm
  have h2 : fence % 2 ^ fPOWER_FENCE_STRAP.w = fence := Nat.mod_eq_of_lt hf
  have h3 : fence % 2 ^ fPOWER_FENCE_QUAD.w = fence := Nat.mod_eq_of_lt hf
  have h4 : fence % 2 ^ fPOWER_FENCE_COURSE.w = fence := Nat.mod_eq_of_lt hf
  have h5 : bINIT % 2 ^ fBOOT_STAT_STATE.w = bINIT := rfl
  simp (disch := decide) [State.strapsTaken, State.boot, State.setBoot, State.fget_fset, State.rget_fset,
    Field.get_put_same, Field.get_put_ne, h1, h2, h3, h4, h5]

/-- R690, R720, R736: the release of the cold reset. -/
theorem State.coldRelease_stat {s : State} (h : s.bootU.asserted = true) (fence mode : Nat) (trim : BitVec 40) :
    Keeps [.POWER_DOM_STAT, .POWER_READY, .POWER_STAT, .POWER_PAD] (s.strapsTaken fence mode trim)
        (s.coldRelease fence mode trim) ∧
      ∀ q < 4, bitOf fence q = true → (s.coldRelease fence mode trim).fencedQuad q = true := by
  rw [State.coldRelease_eq h]
  constructor
  · exact .forEach _ (fun u q => u.strapFence_keeps q) (.refl _)
  · intro q hq hb
    refine State.strapFences_fenced _ _ (fun x hx => List.mem_range.mp (List.mem_of_mem_filter hx)) q (.inl ?_)
    exact List.mem_filter.mpr ⟨List.mem_range.mpr hq, hb⟩

-- INIT

/-- R721: SELECT begins. -/
def State.initSelect (s : State) : State :=
  (((s.setBoot bSELECT).rreset .BOOT_APPLY_ERR 0).fset .BOOT_CNT 0 fBOOT_CNT_APPLY_ERRS 0).modBoot fun u =>
    { u with flash := [] }

theorem State.initSelect_regs (s : State) :
    s.initSelect.boot = bSELECT ∧ s.initSelect.rget .BOOT_APPLY_ERR 0 = 0 ∧
      s.initSelect.fget .BOOT_CNT 0 fBOOT_CNT_APPLY_ERRS = 0 := by
  have h1 : bSELECT % 2 ^ fBOOT_STAT_STATE.w = bSELECT := rfl
  have h2 : RegId.resetAt .BOOT_APPLY_ERR 0 = 0 := rfl
  simp (disch := decide) [State.initSelect, State.boot, State.setBoot, State.rreset, State.fget_modBoot,
    State.rget_modBoot, State.fget_fset, State.fget_rset, State.rget_fset, State.rget_rset, Field.get_put_same, h1, h2]

-- SELECT

theorem Field.get_bit (k : Nat) (v : Word) : (⟨k, 1⟩ : Field).get v = (v.getLsbD k).toNat := by
  have h := Field.testBit_get ⟨k, 1⟩ v 0
  have hl := Field.get_lt ⟨k, 1⟩ v
  simp only [Nat.add_zero, Nat.lt_one_iff, decide_true, Bool.true_and, Nat.testBit_zero, Nat.pow_one] at h hl
  cases hb : v.getLsbD k <;> simp_all <;> omega

/-- R749: BOOT_IMG shows whether the copy is a candidate. -/
theorem imgWord_cand (h : List Byte) (c : Bool) : fBOOT_IMG_A_CAND.get (imgWord h c) = c.toNat := by
  rw [fBOOT_IMG_A_CAND, Field.get_bit]
  simp only [imgWord, BitVec.getLsbD_or, Field.at, Field.getLsbD_put _ _ _ 57 (by decide)]
  cases c <;> simp [fBOOT_IMG_A_SEQ, fBOOT_IMG_A_LENGTH, fBOOT_IMG_A_CAND]

theorem State.flashReads_eq (s : State) (l : List Nat) (a : Nat → Nat) (dummy len div : Nat) :
    ∃ fl, (s.forEach l fun s c => s.flashRead (a c) dummy len div) = s.modBoot fun u => { u with flash := fl } := by
  induction l generalizing s with
  | nil => exact ⟨s.bootU.flash, rfl⟩
  | cons c l ih =>
    obtain ⟨fl, h⟩ := ih (s.flashRead (a c) dummy len div)
    exact ⟨fl, h⟩

/-- SELECT's reads change the flash's transactions alone. -/
theorem State.selectReads_eq (s : State) (copies : List Nat) (hdr : Nat → List Byte) :
    ∃ fl, s.selectReads copies hdr = s.modBoot fun u => { u with flash := fl } := by
  obtain ⟨f1, h1⟩ := s.flashReads_eq copies copyBase (modeDummy s.bootU.mode) 64 8
  obtain ⟨f2, h2⟩ := (s.modBoot fun u => { u with flash := f1 }).flashReads_eq (copies.filter fun c => headerOk (hdr c))
    (fun c => copyBase c + cb (hdr c) 12 4 - 16) (modeDummy s.bootU.mode) 16 8
  refine ⟨f2, ?_⟩
  rw [State.selectReads, h1, h2]
  rfl

/-- R749: the images' registers after the copies in `l` have been read. -/
def State.imagesShown (s : State) (l : List Nat) (w : Nat → Word) : State := s.forEach l fun s c => s.rset (imgReg c) 0 (w c)

theorem State.imagesShown_keeps (s : State) (l : List Nat) (w : Nat → Word) :
    Keeps [.BOOT_IMG_A, .BOOT_IMG_B] s (s.imagesShown l w) :=
  .forEach _ (fun u c => (Keeps.refl u).rset 0 _ (by unfold imgReg; split <;> decide)) (.refl s)

theorem State.imagesShown_one (s : State) (c : Nat) (w : Nat → Word) :
    (s.imagesShown [c] w).rget (imgReg c) 0 = w c := State.rget_rset_same _ _ _ _

theorem State.imagesShown_both (s : State) {c : Nat} (hc : c = 1 ∨ c = 2) (w : Nat → Word) :
    (s.imagesShown [1, 2] w).rget (imgReg c) 0 = w c := by
  rcases hc with rfl | rfl
  · exact (State.rget_rset_ne _ _ (by decide)).trans (State.rget_rset_same _ _ _ _)
  · exact State.rget_rset_same _ _ _ _

/-- R733: LOAD begins with a copy, and the read of its records. -/
theorem State.loadStart_stat (s : State) (c : Nat) (h : List Byte) (next : List (Nat × List Byte)) :
    (s.loadStart c h next).boot = bLOAD ∧ (s.loadStart c h next).bootU.load.map (·.copy) = some c ∧
      (s.loadStart c h next).bootU.load.map (·.next) = some next ∧
      (s.loadStart c h next).fbit (imgReg c) 0 fBOOT_IMG_A_TRIED = true ∧
      (s.loadStart c h next).fbit (imgReg c) 0 fBOOT_IMG_A_CAND = s.fbit (imgReg c) 0 fBOOT_IMG_A_CAND ∧
      (s.bootU.mode = 0 →
        (s.loadStart c h next).bootU.flash.getLast?.map (·.sent) = some (0x0C :: beBytes 4 (copyBase c + 64))) ∧
      (s.loadStart c h next).power.sleep = s.power.sleep := by
  have hi : imgReg c ≠ .BOOT_STAT ∧ imgReg c ≠ .BOOT_PROG := by unfold imgReg; split <;> decide
  have hr (id : RegId) (i : Nat) : (s.loadStart c h next).rget id i =
      (((s.setBoot bLOAD).flag (imgReg c) 0 fBOOT_IMG_A_TRIED).rreset .BOOT_PROG 0).rget id i := rfl
  have hf (f : Field) : (s.loadStart c h next).fget (imgReg c) 0 f =
      ((s.setBoot bLOAD).flag (imgReg c) 0 fBOOT_IMG_A_TRIED).fget (imgReg c) 0 f := by
    rw [State.fget, hr, State.rreset, State.rget_rset_ne _ _ fun e => hi.2 e.1.symm]
    rfl
  refine ⟨?_, rfl, rfl, ?_, ?_, fun hm => ?_, rfl⟩
  · rw [State.boot, State.fget, hr, State.rreset, State.rget_rset_ne _ _ (by decide), State.flag,
      State.rget_fset_ne _ _ _ fun e => hi.1 e.1]
    exact State.fget_fset_same _ _ _ _ _ (by decide)
  · rw [State.fbit, hf]
    exact State.fbit_flag_same _ _ _ _ (by decide) (by decide)
  · rw [State.fbit, hf, State.flag, State.fget_fset_field _ _ _ _ _ _ _ (by decide), State.setBoot,
      State.fget_fset_reg _ _ _ _ fun e => hi.1 e.1.symm]
    rfl
  · have he : (s.loadStart c h next).bootU.flash = s.bootU.flash ++ [{
        sent := (if s.bootU.mode = 0 then [0x0C] else if s.bootU.mode = 1 then [0xEC] else [0xEE, 0x11]) ++
          beBytes 4 (copyBase c + 64), dummy := cb h 25 1, len := 0, div := cb h 24 1 }] := rfl
    rw [he, if_pos hm, List.getLast?_concat]
    rfl

section
variable (hA mA hB mB : List Byte)

/-- R732: whether a copy is a candidate, by its number; its header. -/
def candOf (c : Nat) : Bool := if c = 2 then candidate hB mB else candidate hA mA
def hdrOf (c : Nat) : List Byte := if c = 2 then hB else hA

/-- R744: after a re-thatch without RESELECT only the copy chosen before is read. -/
def State.onlyChosen (s : State) : Bool := s.bootU.warm && !s.bootU.reselect

/-- The copies that SELECT reads, and those of them to load, in order. -/
def State.selectRead (s : State) : List Nat := if s.onlyChosen then [s.fget .BOOT_STAT 0 fBOOT_STAT_CHOSEN] else [1, 2]
def State.selectOrder (s : State) : List Nat :=
  if s.onlyChosen then s.selectRead.filter (candOf hA mA hB mB) else tryOrder hA mA hB mB

/-- The state when SELECT has read the copies. -/
def State.selected (s : State) : State :=
  (s.selectReads s.selectRead (hdrOf hA hB)).imagesShown s.selectRead fun c =>
    imgWord (hdrOf hA hB c) (candOf hA mA hB mB c)

theorem tryOrder_eq : tryOrder hA mA hB mB =
    if candidate hA mA = true ∧ candidate hB mB = true then
      (if seqNewer (cb hB 8 4) (cb hA 8 4) then [2, 1] else [1, 2])
    else if candidate hA mA = true then [1] else if candidate hB mB = true then [2] else [] := by
  unfold tryOrder
  cases candidate hA mA <;> cases candidate hB mB <;> simp

theorem mem_tryOrder {c : Nat} (h : c ∈ tryOrder hA mA hB mB) : (c = 1 ∨ c = 2) ∧ candOf hA mA hB mB c = true := by
  rw [tryOrder_eq] at h
  unfold candOf
  cases ha : candidate hA mA <;> cases hb : candidate hB mB <;> cases hs : seqNewer (cb hB 8 4) (cb hA 8 4) <;>
    simp [ha, hb, hs] at h ⊢ <;> omega

variable {hA mA hB mB}

/-- A copy to load was read, and its register shows it as a candidate. -/
theorem State.selected_cand {s : State} {c : Nat} (h : c ∈ s.selectOrder hA mA hB mB) :
    (s.selected hA mA hB mB).fbit (imgReg c) 0 fBOOT_IMG_A_CAND = true := by
  have cand (hw : (s.selected hA mA hB mB).rget (imgReg c) 0 = imgWord (hdrOf hA hB c) (candOf hA mA hB mB c))
      (hc : candOf hA mA hB mB c = true) : (s.selected hA mA hB mB).fbit (imgReg c) 0 fBOOT_IMG_A_CAND = true := by
    rw [State.fbit, State.fget, hw, imgWord_cand, hc]
    rfl
  unfold State.selectOrder at h
  split at h
  · next ho =>
    obtain ⟨hm, hc⟩ := List.mem_filter.mp h
    rw [State.selectRead, if_pos ho] at hm
    obtain rfl := List.mem_singleton.mp hm
    refine cand ?_ hc
    rw [State.selected, State.selectRead, if_pos ho, State.imagesShown_one]
  · next ho =>
    obtain ⟨hm, hc⟩ := mem_tryOrder hA mA hB mB h
    refine cand ?_ hc
    rw [State.selected, State.selectRead, if_neg ho, State.imagesShown_both _ hm]

theorem State.selected_bootU (s : State) :
    ∃ fl, (s.selected hA mA hB mB).bootU = { s.bootU with flash := fl } ∧
      (s.selected hA mA hB mB).power.sleep = s.power.sleep := by
  obtain ⟨fl, h⟩ := s.selectReads_eq s.selectRead (hdrOf hA hB)
  have k := State.imagesShown_keeps (s.selectReads s.selectRead (hdrOf hA hB)) s.selectRead fun c =>
    imgWord (hdrOf hA hB c) (candOf hA mA hB mB c)
  exact ⟨fl, k.bootU.trans (by rw [h]; rfl), k.sleep.trans (by rw [h]; rfl)⟩

theorem State.selectEnd_cons {s : State} (hw : s.bootWorks = true) (hb : s.boot = bSELECT) {c : Nat} {next : List Nat}
    (ho : s.selectOrder hA mA hB mB = c :: next) :
    s.selectEnd hA mA hB mB =
      (s.selected hA mA hB mB).loadStart c (hdrOf hA hB c) (next.map fun c => (c, hdrOf hA hB c)) := by
  rw [State.selectEnd, if_pos (by simp [hw, hb])]
  dsimp only
  split
  · next h =>
    obtain ⟨rfl, rfl⟩ := List.cons.inj (ho.symm.trans h)
    rfl
  · next h => cases ho.symm.trans h

theorem State.selectEnd_nil {s : State} (hw : s.bootWorks = true) (hb : s.boot = bSELECT)
    (ho : s.selectOrder hA mA hB mB = []) :
    s.selectEnd hA mA hB mB =
      if s.onlyChosen then (s.selected hA mA hB mB).setBoot bCLEAR else (s.selected hA mA hB mB).enterSafe := by
  rw [State.selectEnd, if_pos (by simp [hw, hb])]
  dsimp only
  split
  · next h => cases ho.symm.trans h
  · rfl

end

end Sys2Proof.Machine

open Sys2Proof Sys2Proof.Machine

/-- Settles O28: the release and SELECT by what each of their steps writes; what follows keeps the registers, the boot
engine and the domains that the straps fence. -/
theorem coldResetAndBootSelect : Obligations.ColdResetAndBootSelect := by
  refine ⟨fun fence mode trim bad s => ⟨⟨_, rfl, rfl⟩, fun ha => ⟨?_, ?_, fun hm => ?_⟩, fun ha => ?_⟩,
    fun hA mA hB mB l s ha => ⟨fun hx => ?_, fun hx => ?_, fun hf hb => ⟨fun hl hd => ?_, fun hn => ?_⟩,
      fun hf hb hl => ?_, tryOrder_eq hA mA hB mB⟩⟩
  · -- the release
    have he : exec (.coldResetRelease fence mode trim) s = .next (s.coldRelease fence mode trim).settle :=
      congrArg Host.Outcome.next (if_pos ha)
    refine ⟨_, he, ?_⟩
    obtain ⟨kc, hq⟩ := State.coldRelease_stat ha fence mode trim
    obtain ⟨h1, h2, h3, h4, h5⟩ := s.strapsTaken_regs fence.isLt mode.isLt trim
    have kf := Keeps.of_follows (s.coldRelease fence mode trim).settle_follows
    have k := (kc.mono (R' := .POWER_STAT :: .POWER_PAD :: afterRegs) (by decide)).trans (kf.mono (by decide))
    have hbu := k.bootU.trans (s.strapsTaken_bootU fence mode trim)
    refine ⟨by rw [hbu], by rw [hbu], by rw [hbu], (k.fget (by decide) 0 _).trans h1, by rw [hbu], by rw [hbu],
      (k.fget (by decide) 0 _).trans h2, (k.fget (by decide) 0 _).trans h3, (k.fget (by decide) 0 _).trans h4,
      (k.fget (by decide) 0 _).trans h5, ?_⟩
    rw [List.all_eq_true]
    intro q hqr
    have hq4 := List.mem_range.mp hqr
    have hd {d : Nat} (h : d ≠ dWATCH) := (s.coldRelease fence mode trim).settle_trail.dom h
    cases hbit : bitOf fence q
    · rfl
    · have hfq := hq q hq4 hbit
      rw [State.fencedQuad] at hfq
      rw [hd (by simp only [dQUAD, dWATCH]; omega), hd (by simp only [dCOURSE, dWATCH]; omega), kf.fget (by decide), hfq]
      rfl
  · exact ⟨_, rfl, if_pos ha⟩
  · exact ⟨_, rfl, if_pos (by simp [ha, hm])⟩
  · exact ⟨congrArg Host.Outcome.next (if_neg (by simp [ha])), congrArg Host.Outcome.next (if_neg (by simp [ha])),
      congrArg Host.Outcome.next (if_neg (by simp [ha]))⟩
  · -- xspi_rst_n_o rises
    have kt := s.elapseTo_keeps (s.bootU.xspiAt + 50 * usCycles)
    have he : s.xspiResetEnd =
        (s.elapseTo (s.bootU.xspiAt + 50 * usCycles)).modBoot fun u => { u with xspiRst := true } :=
      if_neg (by simp [ha, hx])
    refine answers_done (u := s.xspiResetEnd) rfl ?_
    have k := Keeps.after (u := s.xspiResetEnd) ha (by rw [he]; exact kt.sleep)
    exact ⟨by rw [k.bootU, he]; rfl, by rw [k.now, he]; exact kt.now⟩
  · exact effect_done rfl (if_pos (by simp [hx]))
  · -- INIT ends
    have hg : (s.bootWorks && s.boot == bINIT && (s.time.locked || s.bootU.warm) &&
        (List.range 15).all (fun d => s.dom d != 0 || s.ready d)) = true := by
      simp only [State.bootWorks, hf, ha, hb, hd]
      rcases hl with hl | hl <;> simp [hl]
    refine answers_done (u := s.initEnd) rfl ?_
    rw [State.initEnd, if_pos hg]
    split
    · next hm =>
      obtain ⟨h1, h2, h3, h4⟩ := s.enterSafe_stat
      rw [if_pos (by simp [hm])]
      have k := Keeps.after ha h4
      exact ⟨(k.fget (by decide) 0 _).trans h1, (k.fbit (by decide) 0 _).trans h2⟩
    · next hm =>
      rw [if_neg (by simpa using hm)]
      have h0 : (s.setBoot bSELECT).bootU = s.bootU ∧ (s.setBoot bSELECT).power.sleep = s.power.sleep := ⟨rfl, rfl⟩
      have k := Keeps.after (s := s) (u := s.initSelect) ha rfl
      obtain ⟨h1, h2, h3⟩ := s.initSelect_regs
      exact ⟨(k.fget (by decide) 0 _).trans h1, (k.regs _ (by decide) 0).trans h2, (k.fget (by decide) 0 _).trans h3⟩
  · -- INIT goes on
    refine effect_done (u := s.initEnd) rfl (if_neg ?_)
    rcases hn with ⟨h1, h2⟩ | hn
    · simp [h1, h2]
    · have hd : (List.range 15).all (fun d => s.dom d != 0 || s.ready d) = false := by
        rw [Bool.eq_false_iff, Ne, List.all_eq_true]
        obtain ⟨d, hd, h⟩ := List.any_eq_true.mp hn
        intro hall
        have := hall d hd
        revert h this
        simp only [bne]
        cases s.dom d == 0 <;> cases s.ready d <;> decide
      simp [hd]
  · -- SELECT ends
    have hw : s.bootWorks = true := by simp [State.bootWorks, hf, ha]
    have hlo : l = s.selectOrder hA mA hB mB := by
      rw [hl, State.selectOrder, State.selectRead, State.onlyChosen]
      split <;> rfl
    obtain ⟨fl, hbu, hsl⟩ := State.selected_bootU (hA := hA) (mA := mA) (hB := hB) (mB := mB) s
    refine answers_done (u := s.selectEnd hA mA hB mB) rfl ?_
    cases l with
    | nil =>
      rw [State.selectEnd_nil hw hb hlo.symm, if_pos rfl]
      cases ho : s.onlyChosen
      · obtain ⟨h1, _, h3, h4⟩ := (s.selected hA mA hB mB).enterSafe_stat
        have k := Keeps.after ha (h4.trans hsl)
        rw [State.onlyChosen] at ho
        rw [ho, if_neg (by decide), if_neg (by decide), if_neg (by decide)]
        exact ⟨by rw [k.bootU, h3], (k.fget (by decide) 0 _).trans h1⟩
      · have k := Keeps.after (s := s) (u := (s.selected hA mA hB mB).setBoot bCLEAR) ha hsl
        rw [State.onlyChosen] at ho
        have hld := congrArg BootUnit.load hbu
        rw [ho, if_pos rfl, if_pos rfl, if_pos rfl]
        refine ⟨by rw [k.bootU]; exact hld, (k.fget (by decide) 0 _).trans ?_⟩
        exact State.fget_fset_same _ _ _ _ _ (by decide)
    | cons c next =>
      rw [State.selectEnd_cons hw hb hlo.symm, if_neg (List.cons_ne_nil _ _)]
      have hc := State.selected_cand (hA := hA) (mA := mA) (hB := hB) (mB := mB) (s := s) (c := c)
        (hlo ▸ List.mem_cons_self)
      obtain ⟨h1, h2, h3, h4, h5, h6, h7⟩ := (s.selected hA mA hB mB).loadStart_stat c (hdrOf hA hB c)
        (next.map fun c => (c, hdrOf hA hB c))
      have k := Keeps.after ha (h7.trans hsl)
      have hi : imgReg c ∉ afterRegs := by unfold imgReg; split <;> decide
      refine ⟨(k.fget (by decide) 0 _).trans h1, by rw [k.bootU]; exact h2, ?_, (k.fbit hi 0 _).trans h4,
        (k.fbit hi 0 _).trans (h5.trans hc), fun hm => ?_⟩
      · rw [k.bootU]
        have e := congrArg (Option.map (List.map Prod.fst)) h3
        simpa [Function.comp_def] using e
      · rw [k.bootU]
        exact h6 (by rw [hbu]; exact hm)
end

section
/-! PROOFS. The parts of the state that belong to the control port alone: no work of a write or read touches them. -/

namespace Sys2Proof.Machine

/-- R24, R60, R61: the access that stalls, those held back behind it, and the staging latches. -/
@[irreducible] def State.ctPart (s : State) : Option Access × List Access × Store Word :=
  (s.ctStall, s.ctQueue, s.staged)

theorem State.ctPart_congr {s t : State} (hs : t.ctStall = s.ctStall) (hq : t.ctQueue = s.ctQueue)
    (hg : t.staged = s.staged) : t.ctPart = s.ctPart := by
  unfold State.ctPart
  rw [hs, hq, hg]

/-- An update of other fields keeps what a step before it kept. -/
theorem State.ctPart_raw {s t u : State} (h : t.ctPart = s.ctPart) (hs : u.ctStall = t.ctStall := by rfl)
    (hq : u.ctQueue = t.ctQueue := by rfl) (hg : u.staged = t.staged := by rfl) : u.ctPart = s.ctPart :=
  (State.ctPart_congr hs hq hg).trans h

@[simp] theorem State.ctPart_ite (c : Prop) [Decidable c] (s t : State) :
    (if c then s else t).ctPart = if c then s.ctPart else t.ctPart := apply_ite _ _ _ _

@[simp] theorem State.ctPart_forEach {α : Type} {s : State} {l : List α} {f : State → α → State}
    (h : ∀ s x, (f s x).ctPart = s.ctPart) : (s.forEach l f).ctPart = s.ctPart := by
  induction l generalizing s with
  | nil => rfl
  | cons x xs ih => exact (ih (s := f s x)).trans (h s x)

@[simp] theorem State.ctPart_rset (s : State) (id : RegId) (i : Nat) (v : Word) :
    (s.rset id i v).ctPart = s.ctPart := State.ctPart_congr rfl rfl rfl

@[simp] theorem State.ctPart_fset (s : State) (id : RegId) (i : Nat) (f : Field) (n : Nat) :
    (s.fset id i f n).ctPart = s.ctPart := by simp [State.fset]

@[simp] theorem State.ctPart_fsetB (s : State) (id : RegId) (i : Nat) (f : Field) (b : Bool) :
    (s.fsetB id i f b).ctPart = s.ctPart := by simp [State.fsetB]

@[simp] theorem State.ctPart_flag (s : State) (id : RegId) (i : Nat) (f : Field) :
    (s.flag id i f).ctPart = s.ctPart := by simp [State.flag]

@[simp] theorem State.ctPart_rreset (s : State) (id : RegId) (i : Nat) :
    (s.rreset id i).ctPart = s.ctPart := by simp [State.rreset]

@[simp] theorem State.ctPart_satAdd (s : State) (id : RegId) (i : Nat) (f : Field) (n : Nat) :
    (s.satAdd id i f n).ctPart = s.ctPart := by simp [State.satAdd]

@[simp] theorem State.ctPart_count (s : State) (id : RegId) (i : Nat) (f : Field) :
    (s.count id i f).ctPart = s.ctPart := by simp [State.count]

@[simp] theorem State.ctPart_wrapAdd (s : State) (id : RegId) (i : Nat) (f : Field) (n : Nat) :
    (s.wrapAdd id i f n).ctPart = s.ctPart := by simp [State.wrapAdd]

@[simp] theorem State.ctPart_draw (s : State) (k : Nat) : (s.draw k).2.ctPart = s.ctPart :=
  State.ctPart_congr rfl rfl rfl

-- Lanes, ports and courses

@[simp] theorem State.ctPart_setLane (s : State) (n : Nat) (l : Lane) :
    (s.setLane n l).ctPart = s.ctPart := State.ctPart_congr rfl rfl rfl

@[simp] theorem State.ctPart_modLane (s : State) (n : Nat) (f : Lane → Lane) :
    (s.modLane n f).ctPart = s.ctPart := by simp [State.modLane]

@[simp] theorem State.ctPart_setMac (s : State) (p : Nat) (m : MacPort) :
    (s.setMac p m).ctPart = s.ctPart := State.ctPart_congr rfl rfl rfl

@[simp] theorem State.ctPart_modMac (s : State) (p : Nat) (f : MacPort → MacPort) :
    (s.modMac p f).ctPart = s.ctPart := by simp [State.modMac]

@[simp] theorem State.ctPart_setCourse (s : State) (c : Nat) (x : CourseSt) :
    (s.setCourse c x).ctPart = s.ctPart := State.ctPart_congr rfl rfl rfl

@[simp] theorem State.ctPart_onLine (s : State) (p : Nat) (w : List Byte) (err : Bool) :
    (s.onLine p w err).ctPart = s.ctPart := by simp [State.onLine]

-- Time

@[simp] theorem State.ctPart_showSlew (s : State) : s.showSlew.ctPart = s.ctPart := by
  unfold State.showSlew
  split <;> simp

@[simp] theorem State.ctPart_elapse (s : State) (n : Nat) : (s.elapse n).ctPart = s.ctPart := by
  simp only [State.elapse, State.ctPart_ite, State.ctPart_showSlew]
  split
  · exact State.ctPart_congr rfl rfl rfl
  · split <;> exact State.ctPart_congr rfl rfl rfl

@[simp] theorem State.ctPart_loadGo (s : State) (mode : Nat) : (s.loadGo mode).ctPart = s.ctPart := by
  simp only [State.loadGo, State.ctPart_ite, State.ctPart_flag, State.ctPart_fset]
  split
  · rfl
  · refine .trans (State.ctPart_congr (s := (s.fset .TIME_LOAD_CTRL 0 fTIME_LOAD_CTRL_MODE mode).flag .TIME_LOAD_CTRL 0
      fTIME_LOAD_CTRL_GO) rfl rfl rfl) ?_
    simp

@[simp] theorem State.ctPart_endSlew (s : State) : s.endSlew.ctPart = s.ctPart := by
  simp only [State.endSlew, State.ctPart_fset]
  exact State.ctPart_congr rfl rfl rfl

@[simp] theorem State.ctPart_loadCancel (s : State) : s.loadCancel.ctPart = s.ctPart := by simp [State.loadCancel]

@[simp] theorem State.ctPart_slewStart (s : State) : s.slewStart.ctPart = s.ctPart := by
  simp only [State.slewStart, State.ctPart_showSlew, State.ctPart_flag]
  exact State.ctPart_congr rfl rfl rfl

@[simp] theorem State.ctPart_slewCancel (s : State) : s.slewCancel.ctPart = s.ctPart := by simp [State.slewCancel]

@[simp] theorem State.ctPart_addendWrite (s : State) (v : Nat) : (s.addendWrite v).ctPart = s.ctPart :=
  State.ctPart_raw (s.ctPart_fset .TIME_ADDEND 0 fTIME_ADDEND_ADDEND v)

@[simp] theorem State.ctPart_timeCapture (s : State) : s.timeCapture.ctPart = s.ctPart := by simp [State.timeCapture]

@[simp] theorem State.ctPart_ppsLatch (s : State) : s.ppsLatch.ctPart = s.ctPart := by simp [State.ppsLatch]

@[simp] theorem State.ctPart_ppsLow (s : State) : s.ppsLow.ctPart = s.ctPart := State.ctPart_congr rfl rfl rfl

@[simp] theorem State.ctPart_rclkSquelch (s : State) (k : Nat) : (s.rclkSquelch k).ctPart = s.ctPart := by
  simp only [State.rclkSquelch, State.ctPart_ite, State.ctPart_flag, ite_self]
  exact State.ctPart_congr rfl rfl rfl

@[simp] theorem State.ctPart_rclkWrite (s : State) (k : Nat) (old : Word) :
    (s.rclkWrite k old).ctPart = s.ctPart := by simp [State.rclkWrite]

-- Fail-stop

@[simp] theorem State.ctPart_stat (s : State) (p k n : Nat) : (s.stat p k n).ctPart = s.ctPart := by simp [State.stat]

@[simp] theorem State.ctPart_faultCopy (s : State) (copy : List Byte) :
    (s.faultCopy copy).ctPart = s.ctPart := by simp [State.faultCopy]

@[simp] theorem State.ctPart_faultRecord (s : State) (c : Cause) (info addr : Nat) (copy : List Byte) :
    (s.faultRecord c info addr copy).ctPart = s.ctPart := by simp [State.faultRecord]

@[simp] theorem State.ctPart_statCut (s : State) (p n : Nat) :
    (s.statCut p n).ctPart = s.ctPart := by simp [State.statCut]

@[simp] theorem State.ctPart_cutPort (s : State) (p : Nat) : (s.cutPort p).ctPart = s.ctPart := by
  unfold State.cutPort
  dsimp only
  split
  · rfl
  · cases (s.mac p).held <;> cases (s.mac p).cur <;> simp

@[simp] theorem State.ctPart_failStop (s : State) (c : Cause) (info addr : Nat) (copy : List Byte) :
    (s.failStop c info addr copy).ctPart = s.ctPart := by
  simp only [State.failStop, State.ctPart_ite, State.ctPart_faultRecord, State.ctPart_flag, ite_self,
    State.ctPart_forEach State.ctPart_cutPort]
  split
  · rfl
  · refine .trans (State.ctPart_congr (s := State.flag _ .GEN_INTEG_EVT 0 fGEN_INTEG_EVT_FAULT) rfl rfl rfl) ?_
    simp

-- Power

@[simp] theorem State.ctPart_wake (s : State) (d : Nat) : (s.wake d).ctPart = s.ctPart := by
  unfold State.wake
  split
  · exact State.ctPart_congr rfl rfl rfl
  · rfl

@[simp] theorem State.ctPart_showBlock (s : State) : s.showBlock.ctPart = s.ctPart := by simp [State.showBlock]

@[simp] theorem State.ctPart_setReady (s : State) (d : Nat) (b : Bool) :
    (s.setReady d b).ctPart = s.ctPart := by simp [State.setReady]

@[simp] theorem State.ctPart_setDom (s : State) (d st : Nat) :
    (s.setDom d st).ctPart = s.ctPart := by simp [State.setDom]

@[simp] theorem State.ctPart_wakeCause (s : State) (w : WakeSrc) (abort : Bool) :
    (s.wakeCause w abort).ctPart = s.ctPart := by simp [State.wakeCause]

@[simp] theorem State.ctPart_finishCur (s : State) (status detail res0 res1 : Nat) :
    (s.finishCur status detail res0 res1).ctPart = s.ctPart := by
  unfold State.finishCur
  split
  · rfl
  · exact State.ctPart_congr rfl rfl rfl

@[simp] theorem State.ctPart_abortSleep (s : State) (w : WakeSrc) : (s.abortSleep w).ctPart = s.ctPart := by
  simp only [State.abortSleep, State.ctPart_showBlock, State.ctPart_ite, State.ctPart_finishCur, State.ctPart_wakeCause,
    State.ctPart_flag, State.ctPart_fset, ite_self]
  exact State.ctPart_congr rfl rfl rfl

@[simp] theorem State.ctPart_fireWake (s : State) (w : WakeSrc) : (s.fireWake w).ctPart = s.ctPart := by
  unfold State.fireWake
  split
  · simp
  · simp only [State.ctPart_ite, State.ctPart_abortSleep, ite_eq_left_iff]
    intros
    exact State.ctPart_congr rfl rfl rfl

@[simp] theorem State.ctPart_fireAbort (s : State) (w : WakeSrc) :
    (s.fireAbort w).ctPart = s.ctPart := by simp [State.fireAbort]

@[simp] theorem State.ctPart_unenter (s : State) (d : Nat) : (s.unenter d).ctPart = s.ctPart := by
  rw [State.unenter, State.ctPart_setDom]
  exact State.ctPart_congr rfl rfl rfl

@[simp] theorem State.ctPart_access (s : State) (d : Nat) : (s.access d).ctPart = s.ctPart := by simp [State.access]

-- Interrupts

@[simp] theorem State.ctPart_setTimer (s : State) (v : Nat) (t : VecTimer) : (s.setTimer v t).ctPart = s.ctPart := by
  simp only [State.setTimer, State.ctPart_fsetB]
  exact State.ctPart_congr rfl rfl rfl

@[simp] theorem State.ctPart_loadTimer (s : State) (v : Nat) :
    (s.loadTimer v).ctPart = s.ctPart := by simp [State.loadTimer]

@[simp] theorem State.ctPart_pendNormal (s : State) (v : Nat) :
    (s.pendNormal v).ctPart = s.ctPart := by simp [State.pendNormal]

@[simp] theorem State.ctPart_moderate (s : State) (v : Nat) :
    (s.moderate v).ctPart = s.ctPart := by simp [State.moderate]

@[simp] theorem State.ctPart_arriveNormal (s : State) (v n : Nat) : (s.arriveNormal v n).ctPart = s.ctPart := by
  unfold State.arriveNormal
  split <;> simp

@[simp] theorem State.ctPart_arriveFast (s : State) (v : Nat) : (s.arriveFast v).ctPart = s.ctPart := by
  unfold State.arriveFast
  split <;> simp

@[simp] theorem State.ctPart_arrive (s : State) (q n : Nat) :
    (s.arrive q n).ctPart = s.ctPart := by simp [State.arrive]

@[simp] theorem State.ctPart_srcWritten (s : State) (q : Nat) (old : Word) :
    (s.srcWritten q old).ctPart = s.ctPart := by simp [State.srcWritten]

@[simp] theorem State.ctPart_vecWritten (s : State) (v : Nat) :
    (s.vecWritten v).ctPart = s.ctPart := by simp [State.vecWritten]

@[simp] theorem State.ctPart_activate (s : State) (v : Nat) :
    (s.activate v).ctPart = s.ctPart := by simp [State.activate]

@[simp] theorem State.ctPart_claim (s : State) (n : Nat) : (s.claim n).2.ctPart = s.ctPart := by
  unfold State.claim
  split <;> simp

@[simp] theorem State.ctPart_endNormal (s : State) (v : Nat) :
    (s.endNormal v).ctPart = s.ctPart := by simp [State.endNormal]

@[simp] theorem State.ctPart_eoi (s : State) (n v : Nat) : (s.eoi n v).ctPart = s.ctPart := by simp [State.eoi]

@[simp] theorem State.ctPart_fclaim (s : State) (n : Nat) : (s.fclaim n).2.ctPart = s.ctPart := by
  unfold State.fclaim
  split <;> simp

@[simp] theorem State.ctPart_feoi (s : State) (n v : Nat) : (s.feoi n v).ctPart = s.ctPart := by simp [State.feoi]

-- DMA channels

@[simp] theorem State.ctPart_enqueue (s : State) (qs : List RafterReq) :
    (s.enqueue qs).ctPart = s.ctPart := State.ctPart_congr rfl rfl rfl

@[simp] theorem State.ctPart_setChan (s : State) (k : Nat) (c : DmaChan) :
    (s.setChan k c).ctPart = s.ctPart := State.ctPart_congr rfl rfl rfl

@[simp] theorem State.ctPart_modChan (s : State) (k : Nat) (f : DmaChan → DmaChan) :
    (s.modChan k f).ctPart = s.ctPart := by simp [State.modChan]

@[simp] theorem State.ctPart_setChanState (s : State) (k st : Nat) :
    (s.setChanState k st).ctPart = s.ctPart := by simp [State.setChanState]

@[simp] theorem State.ctPart_charge (s : State) (k : Nat) (write : Bool) (n : Nat) :
    (s.charge k write n).ctPart = s.ctPart := by simp [State.charge]

@[simp] theorem State.ctPart_chanStart (s : State) (k : Nat) :
    (s.chanStart k).ctPart = s.ctPart := by simp [State.chanStart]

@[simp] theorem State.ctPart_chanStop (s : State) (k : Nat) :
    (s.chanStop k).ctPart = s.ctPart := by simp [State.chanStop]

@[simp] theorem State.ctPart_chanRing (s : State) (k : Nat) :
    (s.chanRing k).ctPart = s.ctPart := by simp [State.chanRing]

-- Tables

@[simp] theorem State.ctPart_setGen (s : State) (st cur other : Nat) :
    (s.setGen st cur other).ctPart = s.ctPart := by simp [State.setGen]

@[simp] theorem State.ctPart_setEntry (s : State) (t loc : Nat) (e : Entry) :
    (s.setEntry t loc e).ctPart = s.ctPart := by
  simp only [State.setEntry, State.ctPart_fset]
  exact State.ctPart_congr rfl rfl rfl

@[simp] theorem State.ctPart_unmix (s : State) (t : Nat) : (s.unmix t).ctPart = s.ctPart := by simp [State.unmix]

@[simp] theorem State.ctPart_runMoves (s : State) (t : Nat) (l : List Nat) : (s.runMoves t l).ctPart = s.ctPart := by
  induction s, l using State.runMoves.induct t with
  | case1 s f g rest e s1 s2 ih =>
    exact ih.trans ((State.ctPart_setEntry s1 _ _ _).trans (State.ctPart_setEntry s _ _ _))
  | case2 s l h => simp [State.runMoves]

@[simp] theorem State.ctPart_place (s : State) (t : Nat) (e : Entry) : (s.place t e).2.ctPart = s.ctPart := by
  unfold State.place
  split <;> simp

@[simp] theorem State.ctPart_openGen (s : State) : s.openGen.ctPart = s.ctPart := by simp [State.openGen]

@[simp] theorem State.ctPart_placeNew (s : State) (t : Nat) (e : Entry) (image : Bool) :
    (s.placeNew t e image).2.ctPart = s.ctPart := State.ctPart_place _ _ _

theorem State.ctPart_of_placeNew {s u : State} {t : Nat} {e : Entry} {image : Bool} {o : Option (Nat × Nat)}
    (h : s.placeNew t e image = (o, u)) : u.ctPart = s.ctPart := by
  rw [← s.ctPart_placeNew t e image, h]

@[simp] theorem State.ctPart_edit (s : State) (op t : Nat) (genSel : Bool) (loc : Nat) (r : List Byte)
    (early image bulk : Bool) : (s.edit op t genSel loc r early image bulk).2.ctPart = s.ctPart := by
  unfold State.edit
  dsimp only
  have opened : (if ((op == 1 || op == 2 || op == 3) && !image) = true then s.openGen else s).ctPart = s.ctPart := by
    simp
  generalize (if ((op == 1 || op == 2 || op == 3) && !image) = true then s.openGen else s) = u at opened ⊢
  repeat' split
  all_goals try simp [opened]
  all_goals
    rename_i placed
    simp [State.ctPart_of_placeNew placed, opened]

@[simp] theorem State.ctPart_serveTableWin (s : State) : s.serveTableWin.ctPart = s.ctPart := by
  unfold State.serveTableWin
  split
  · dsimp only
    refine State.ctPart_raw (t := State.fset _ .TABLE_WIN_CMD 0 fTABLE_WIN_CMD_BUSY 0) ?_
    simp only [State.ctPart_fset, State.ctPart_ite, ite_self]
    split <;> simp
  · rfl

@[simp] theorem State.ctPart_markEarly (s : State) : s.markEarly.ctPart = s.ctPart := by
  unfold State.markEarly
  split
  · exact State.ctPart_congr rfl rfl rfl
  · rfl

@[simp] theorem State.ctPart_genRefused (s : State) : s.genRefused.ctPart = s.ctPart := by simp [State.genRefused]

@[simp] theorem State.ctPart_genOpen (s : State) : s.genOpen.ctPart = s.ctPart := by simp [State.genOpen]

@[simp] theorem State.ctPart_genCommit (s : State) : s.genCommit.ctPart = s.ctPart := by simp [State.genCommit]

@[simp] theorem State.ctPart_genAbort (s : State) : s.genAbort.ctPart = s.ctPart := by
  simp only [State.genAbort, State.ctPart_ite, State.ctPart_genRefused]
  split
  · refine .trans (State.ctPart_congr (s := State.markEarly _) rfl rfl rfl) ?_
    simp
  · rfl

@[simp] theorem State.ctPart_tableCfg (s : State) (t : Nat) (v : Word) :
    (s.tableCfg t v).ctPart = s.ctPart := by simp [State.tableCfg]

@[simp] theorem State.ctPart_tableSeed (s : State) (t : Nat) (v : Word) :
    (s.tableSeed t v).ctPart = s.ctPart := by simp [State.tableSeed]

@[simp] theorem State.ctPart_rehashEnd (s : State) (t : Nat) :
    (s.rehashEnd t).ctPart = s.ctPart := by simp [State.rehashEnd]

-- The loft and flow control

@[simp] theorem State.ctPart_poolWrite (s : State) (id : RegId) (i : Nat) (v : Word) :
    (s.poolWrite id i v).ctPart = s.ctPart := by simp [State.poolWrite]

@[simp] theorem State.ctPart_setBank (s : State) (b n : Nat) :
    (s.setBank b n).ctPart = s.ctPart := State.ctPart_congr rfl rfl rfl

@[simp] theorem State.ctPart_setFrame (s : State) (f : Nat) (x : Frame) :
    (s.setFrame f x).ctPart = s.ctPart := State.ctPart_congr rfl rfl rfl

@[simp] theorem State.ctPart_freeCells (s : State) (f : Frame) (ids : List Nat) :
    (s.freeCells f ids).ctPart = s.ctPart :=
  State.ctPart_forEach fun s _ => s.ctPart_setBank _ _

@[simp] theorem State.ctPart_release (s : State) (fid : Nat) (ids : List Nat) :
    (s.release fid ids).ctPart = s.ctPart := by
  unfold State.release
  split
  · rfl
  · simp only [State.ctPart_ite, State.ctPart_setFrame, State.ctPart_freeCells, ite_eq_right_iff]
    intros
    exact State.ctPart_raw (s.ctPart_freeCells _ ids)

@[simp] theorem State.ctPart_fcFall (s : State) (p i : Nat) (on : Bool) :
    (s.fcFall p i on).ctPart = s.ctPart := by simp [State.fcFall]

@[simp] theorem State.ctPart_fcPriority (s : State) (p i : Nat) :
    (s.fcPriority p i).ctPart = s.ctPart := by simp [State.fcPriority]

@[simp] theorem State.ctPart_fcPause (s : State) (p : Nat) :
    (s.fcPause p).ctPart = s.ctPart := by simp [State.fcPause]

@[simp] theorem State.ctPart_fcUpdate (s : State) (p : Nat) :
    (s.fcUpdate p).ctPart = s.ctPart := by simp [State.fcUpdate]

@[simp] theorem State.ctPart_lagFree (s : State) (n : Nat) :
    (s.lagFree n).ctPart = s.ctPart := State.ctPart_congr rfl rfl rfl

@[simp] theorem State.ctPart_dropIngress (s : State) (a use head : Nat) :
    (s.dropIngress a use head).ctPart = s.ctPart := by simp [State.dropIngress]

@[simp] theorem State.ctPart_unchargeIngress (s : State) (a use head : Nat) :
    (s.unchargeIngress a use head).ctPart = s.ctPart := by simp [State.unchargeIngress]

@[simp] theorem State.ctPart_setHostUse (s : State) (n : Nat) :
    (s.setHostUse n).ctPart = s.ctPart := by simp [State.setHostUse]

@[simp] theorem State.ctPart_dropHost (s : State) (n : Nat) :
    (s.dropHost n).ctPart = s.ctPart := by simp [State.dropHost]

-- Rings and queues

@[simp] theorem State.ctPart_setRxr (s : State) (r : Nat) (x : RxRing) :
    (s.setRxr r x).ctPart = s.ctPart := State.ctPart_congr rfl rfl rfl

@[simp] theorem State.ctPart_setTxr (s : State) (r : Nat) (x : TxRing) :
    (s.setTxr r x).ctPart = s.ctPart := State.ctPart_congr rfl rfl rfl

@[simp] theorem State.ctPart_markFreed (s : State) (ring first : Nat) :
    (s.markFreed ring first).ctPart = s.ctPart := by
  unfold State.markFreed
  split <;> simp

@[simp] theorem State.ctPart_releasePkt (s : State) (k : Pkt) : (s.releasePkt k).ctPart = s.ctPart := by
  unfold State.releasePkt
  split
  · rfl
  · rename_i f _
    cases f.acct <;> simp

@[simp] theorem State.ctPart_paceReset (s : State) (p : Nat) :
    (s.paceReset p).ctPart = s.ctPart := by simp [State.paceReset]

@[simp] theorem State.ctPart_qwCfg (s : State) (v : Word) : (s.qwCfg v).ctPart = s.ctPart := by
  simp only [State.qwCfg, State.ctPart_ite, State.ctPart_flag, State.ctPart_fsetB, State.ctPart_fset, State.ctPart_rset,
    ite_self, ite_eq_left_iff, ite_eq_right_iff]
  intros
  refine .trans (State.ctPart_congr (s := ((s.rset .QW_CFG 0 v).fset .QW_PROD 0 fQW_PROD_PROD 0).fset .QW_CONS 0
    fQW_CONS_CONS 0) rfl rfl rfl) ?_
  simp

@[simp] theorem State.ctPart_setCq (s : State) (q : Nat) (c : CqCtx) :
    (s.setCq q c).ctPart = s.ctPart := State.ctPart_congr rfl rfl rfl

@[simp] theorem State.ctPart_modTxr (s : State) (r : Nat) (f : TxRing → TxRing) :
    (s.modTxr r f).ctPart = s.ctPart := by
  unfold State.modTxr
  split <;> simp

@[simp] theorem State.ctPart_modRxr (s : State) (r : Nat) (f : RxRing → RxRing) :
    (s.modRxr r f).ctPart = s.ctPart := by
  unfold State.modRxr
  split <;> simp

@[simp] theorem State.ctPart_malformed (s : State) (kind ring reason addr : Nat) (copy : List Byte) (pos : Nat) :
    (s.malformed kind ring reason addr copy pos).ctPart = s.ctPart := by simp [State.malformed]

@[simp] theorem State.ctPart_txDoorbell (s : State) (r v : Nat) : (s.txDoorbell r v).ctPart = s.ctPart := by
  unfold State.txDoorbell
  split <;> simp

@[simp] theorem State.ctPart_rxDoorbell (s : State) (r v : Nat) : (s.rxDoorbell r v).ctPart = s.ctPart := by
  unfold State.rxDoorbell
  split <;> simp

@[simp] theorem State.ctPart_complDue (s : State) (q : Nat) (c : Compl) : (s.complDue q c).ctPart = s.ctPart := by
  unfold State.complDue
  split <;> simp

@[simp] theorem State.ctPart_modEntry (s : State) (r first : Nat) (f : TxEntry → TxEntry) :
    (s.modEntry r first f).ctPart = s.ctPart := by simp [State.modEntry]

@[simp] theorem State.ctPart_entryReady (s : State) (r first : Nat) (frags : List (Nat × Nat)) :
    (s.entryReady r first frags).ctPart = s.ctPart := by
  unfold State.entryReady
  split <;> simp

@[simp] theorem State.ctPart_unreadLength (s : State) : s.unreadLength.2.ctPart = s.ctPart := s.ctPart_draw 13

@[simp] theorem State.ctPart_unreadFreed (s : State) (r first : Nat) : (s.unreadFreed r first).ctPart = s.ctPart := by
  simp [State.unreadFreed]

@[simp] theorem State.ctPart_txTakeOne (s : State) (r : Nat) : (s.txTakeOne r).2.ctPart = s.ctPart := by
  unfold State.txTakeOne
  dsimp only
  repeat' split
  all_goals simp

@[simp] theorem State.ctPart_txTake (s : State) (r n : Nat) : (s.txTake r n).ctPart = s.ctPart := by
  induction n generalizing s with
  | zero => rfl
  | succ n ih =>
    have h := s.ctPart_txTakeOne r
    unfold State.txTake
    split <;> simp_all

@[simp] theorem State.ctPart_txTakeCq (s : State) (q : Nat) : (s.txTakeCq q).ctPart = s.ctPart :=
  State.ctPart_forEach fun s r => s.ctPart_txTake r takeFuel

@[simp] theorem State.ctPart_rxConsMoved (s : State) (r : Nat) :
    (s.rxConsMoved r).ctPart = s.ctPart := by simp [State.rxConsMoved]

@[simp] theorem State.ctPart_txDisable (s : State) (r : Nat) :
    (s.txDisable r).ctPart = s.ctPart := by simp [State.txDisable]

@[simp] theorem State.ctPart_txEnable (s : State) (r : Nat) :
    (s.txEnable r).ctPart = s.ctPart := by simp [State.txEnable]

@[simp] theorem State.ctPart_rxAbort (s : State) (r : Nat) : (s.rxAbort r).ctPart = s.ctPart := by
  unfold State.rxAbort
  split <;> simp

@[simp] theorem State.ctPart_unchargeRing (s : State) (r c : Nat) :
    (s.unchargeRing r c).ctPart = s.ctPart := by simp [State.unchargeRing]

@[simp] theorem State.ctPart_rxReset (s : State) (r : Nat) : (s.rxReset r).ctPart = s.ctPart := by
  unfold State.rxReset
  split <;> simp

@[simp] theorem State.ctPart_rxEnable (s : State) (r : Nat) :
    (s.rxEnable r).ctPart = s.ctPart := by simp [State.rxEnable]

@[simp] theorem State.ctPart_cqDoorbell (s : State) (q v : Nat) : (s.cqDoorbell q v).ctPart = s.ctPart := by
  unfold State.cqDoorbell
  split <;> simp

-- The lanes as they train

@[simp] theorem State.ctPart_setTaps (s : State) (n : Nat) (t : Taps) :
    (s.setTaps n t).ctPart = s.ctPart := by simp [State.setTaps]

@[simp] theorem State.ctPart_showRx (s : State) (n : Nat) : (s.showRx n).ctPart = s.ctPart := by simp [State.showRx]

@[simp] theorem State.ctPart_startAdapt (s : State) (n : Nat) :
    (s.startAdapt n).ctPart = s.ctPart := by simp [State.startAdapt]

@[simp] theorem State.ctPart_setLaneState (s : State) (n st : Nat) :
    (s.setLaneState n st).ctPart = s.ctPart := by simp [State.setLaneState]

@[simp] theorem State.ctPart_lpmTouch (s : State) (n : Nat) : (s.lpmTouch n).ctPart = s.ctPart := by
  unfold State.lpmTouch
  split <;> simp

@[simp] theorem State.ctPart_leaveData (s : State) (n : Nat) :
    (s.leaveData n).ctPart = s.ctPart := by simp [State.leaveData]

@[simp] theorem State.ctPart_rxOff (s : State) (n : Nat) : (s.rxOff n).ctPart = s.ctPart := by simp [State.rxOff]

@[simp] theorem State.ctPart_beginFrame (s : State) (n : Nat) :
    (s.beginFrame n).ctPart = s.ctPart := by simp [State.beginFrame]

@[simp] theorem State.ctPart_enterBlind (s : State) (n : Nat) :
    (s.enterBlind n).ctPart = s.ctPart := by simp [State.enterBlind]

@[simp] theorem State.ctPart_enterData (s : State) (n : Nat) :
    (s.enterData n).ctPart = s.ctPart := by simp [State.enterData]

@[simp] theorem State.ctPart_pllGo (s : State) (n : Nat) : (s.pllGo n).ctPart = s.ctPart := by simp [State.pllGo]

@[simp] theorem State.ctPart_setPll (s : State) (q : Nat) (b : Bool) :
    (s.setPll q b).ctPart = s.ctPart := by simp [State.setPll]

@[simp] theorem State.ctPart_laneStart (s : State) (n : Nat) :
    (s.laneStart n).ctPart = s.ctPart := by simp [State.laneStart]

@[simp] theorem State.ctPart_laneEnable (s : State) (n : Nat) :
    (s.laneEnable n).ctPart = s.ctPart := by simp [State.laneEnable]

@[simp] theorem State.ctPart_laneDisable (s : State) (n : Nat) :
    (s.laneDisable n).ctPart = s.ctPart := by simp [State.laneDisable]

@[simp] theorem State.ctPart_laneRestart (s : State) (n : Nat) :
    (s.laneRestart n).ctPart = s.ctPart := by simp [State.laneRestart]

@[simp] theorem State.ctPart_rsvdEnc (s : State) : s.rsvdEnc.ctPart = s.ctPart := by simp [State.rsvdEnc]

@[simp] theorem State.ctPart_txFixedWrite (s : State) (n : Nat) (v : Word) :
    (s.txFixedWrite n v).ctPart = s.ctPart := by simp [State.txFixedWrite]

@[simp] theorem State.ctPart_loopWrite (s : State) (n : Nat) (v : Word) :
    (s.loopWrite n v).ctPart = s.ctPart := by simp [State.loopWrite]

@[simp] theorem State.ctPart_patternWrite (s : State) (n : Nat) (v : Word) :
    (s.patternWrite n v).ctPart = s.ctPart := by simp [State.patternWrite]

@[simp] theorem State.ctPart_laneCtrlWrite (s : State) (n : Nat) (v : Word) :
    (s.laneCtrlWrite n v).ctPart = s.ctPart := by simp [State.laneCtrlWrite]

@[simp] theorem State.ctPart_quadCfgWrite (s : State) (q : Nat) (v : Word) :
    (s.quadCfgWrite q v).ctPart = s.ctPart := by simp [State.quadCfgWrite]

@[simp] theorem State.ctPart_calTxWrite (s : State) (n : Nat) (v : Word) : (s.calTxWrite n v).ctPart = s.ctPart := by
  unfold State.calTxWrite
  dsimp only
  split
  · split
    · rw [State.ctPart_flag, State.ctPart_modLane, State.ctPart_rset]
    · rw [State.ctPart_flag, State.ctPart_rset]
  · exact s.ctPart_rsvdEnc

@[simp] theorem State.ctPart_ctleWrite (s : State) (n : Nat) (v : Word) :
    (s.ctleWrite n v).ctPart = s.ctPart := by simp [State.ctleWrite]

-- Ports and courses

@[simp] theorem State.ctPart_holdCycles (s : State) (b : Nat) : (s.holdCycles b).ctPart = s.ctPart := by
  unfold State.holdCycles
  dsimp only
  split <;> simp

@[simp] theorem State.ctPart_sealEnWrite (s : State) (v : Bool) :
    (s.sealEnWrite v).ctPart = s.ctPart := State.ctPart_congr rfl rfl rfl

@[simp] theorem State.ctPart_showPause (s : State) (p : Nat) :
    (s.showPause p).ctPart = s.ctPart := by simp [State.showPause]

@[simp] theorem State.ctPart_setVerify (s : State) (p v : Nat) :
    (s.setVerify p v).ctPart = s.ctPart := by simp [State.setVerify]

@[simp] theorem State.ctPart_verifySend (s : State) (p : Nat) :
    (s.verifySend p).ctPart = s.ctPart := by simp [State.verifySend]

@[simp] theorem State.ctPart_verifyStart (s : State) (p : Nat) :
    (s.verifyStart p).ctPart = s.ctPart := by simp [State.verifyStart]

@[simp] theorem State.ctPart_copyParse (s : State) (c : Nat) :
    (s.copyParse c).ctPart = s.ctPart := by simp [State.copyParse]

@[simp] theorem State.ctPart_fecClear (s : State) (p : Nat) :
    (s.fecClear p).ctPart = s.ctPart := by simp [State.fecClear]

@[simp] theorem State.ctPart_portGone (s : State) (p : Nat) :
    (s.portGone p).ctPart = s.ctPart := by simp [State.portGone]

@[simp] theorem State.ctPart_fecWidth (s : State) (p : Nat) :
    (s.fecWidth p).ctPart = s.ctPart := by simp [State.fecWidth]

@[simp] theorem State.ctPart_portMapWrite (s : State) (c : Nat) (w : Word) :
    (s.portMapWrite c w).ctPart = s.ctPart := by simp [State.portMapWrite]

@[simp] theorem State.ctPart_leaveTest (s : State) (p : Nat) :
    (s.leaveTest p).ctPart = s.ctPart := by simp [State.leaveTest]

@[simp] theorem State.ctPart_portModeWrite (s : State) (p : Nat) (v : Word) :
    (s.portModeWrite p v).ctPart = s.ctPart := by simp [State.portModeWrite]

-- Fences and the re-thatch

@[simp] theorem State.ctPart_keepRegs (s : State) (which : RegId → Nat → Bool) (keep : RegId → Nat → FieldDesc
    → Bool) :
    (s.keepRegs which keep).ctPart = s.ctPart :=
  State.ctPart_forEach fun s e => by
    split
    · rfl
    · simp

@[simp] theorem State.ctPart_modPower (s : State) (f : PowerUnit → PowerUnit) :
    (s.modPower f).ctPart = s.ctPart := State.ctPart_congr rfl rfl rfl

@[simp] theorem State.ctPart_thermUnlock (s : State) : s.thermUnlock.ctPart = s.ctPart := by simp [State.thermUnlock]

@[simp] theorem State.ctPart_rethatchTake (s : State) : s.rethatchTake.ctPart = s.ctPart := by
  rw [State.rethatchTake, State.ctPart_fset]
  refine State.ctPart_raw (State.ctPart_forEach (s := s) (l := List.range 64) State.ctPart_chanStop) ?_ ?_ ?_ <;>
    dsimp only

@[simp] theorem State.ctPart_rethatchRequest (s : State) : s.rethatchRequest.ctPart = s.ctPart := by
  unfold State.rethatchRequest
  split
  · simp
  · split
    · exact State.ctPart_raw (s.ctPart_access dHOSTIF)
    · split
      · split
        · simp
        · exact State.ctPart_raw (s.ctPart_fireWake { code := 1 })
      · simp

@[simp] theorem State.ctPart_domPower (s : State) (d : Nat) :
    (s.domPower d).ctPart = s.ctPart := by simp [State.domPower]

@[simp] theorem State.ctPart_fenceDom (s : State) (d : Nat) :
    (s.fenceDom d).ctPart = s.ctPart := by simp [State.fenceDom]

@[simp] theorem State.ctPart_fenceQuad (s : State) (q : Nat) :
    (s.fenceQuad q).ctPart = s.ctPart := by simp [State.fenceQuad]

@[simp] theorem State.ctPart_unfenceQuad (s : State) (q : Nat) :
    (s.unfenceQuad q).ctPart = s.ctPart := by simp [State.unfenceQuad]

@[simp] theorem State.ctPart_fenceWrite (s : State) (v : Word) :
    (s.fenceWrite v).ctPart = s.ctPart := by simp [State.fenceWrite]

@[simp] theorem State.ctPart_padRelease (s : State) (g : Nat) :
    (s.padRelease g).ctPart = s.ctPart := by simp [State.padRelease]

@[simp] theorem State.ctPart_padWrite (s : State) (mask : Nat) :
    (s.padWrite mask).ctPart = s.ctPart := by simp [State.padWrite]

-- Admin

@[simp] theorem State.ctPart_adminIndices (s : State) : s.adminIndices.ctPart = s.ctPart := by
  refine .trans (State.ctPart_congr (s := (((s.rreset .ADMIN_ASQ_PROD 0).rreset .ADMIN_ASQ_CONS 0).rreset
    .ADMIN_ACQ_PROD 0).rreset .ADMIN_ACQ_CONS 0) rfl rfl rfl) ?_
  simp

@[simp] theorem State.ctPart_adminCfgWrite (s : State) (v : Word) :
    (s.adminCfgWrite v).ctPart = s.ctPart := by simp [State.adminCfgWrite]

@[simp] theorem State.ctPart_adminBase (s : State) (id : RegId) (v : Word) :
    (s.adminBase id v).ctPart = s.ctPart := by simp [State.adminBase]

@[simp] theorem State.ctPart_adminRefused (s : State) :
    s.adminRefused.ctPart = s.ctPart := by simp [State.adminRefused]

@[simp] theorem State.ctPart_asqDoorbell (s : State) (v : Nat) :
    (s.asqDoorbell v).ctPart = s.ctPart := by simp [State.asqDoorbell]

@[simp] theorem State.ctPart_acqConsWrite (s : State) (v : Nat) :
    (s.acqConsWrite v).ctPart = s.ctPart := by simp [State.acqConsWrite]

@[simp] theorem State.ctPart_adminPost (s : State) (c : AdminCompl) : (s.adminPost c).ctPart = s.ctPart := by
  simp only [State.adminPost, State.ctPart_ite, State.ctPart_flag, ite_self]
  exact State.ctPart_congr rfl rfl rfl

@[simp] theorem State.ctPart_setLop (s : State) (k : Nat) (x : Lop) :
    (s.setLop k x).ctPart = s.ctPart := State.ctPart_congr rfl rfl rfl

@[simp] theorem State.ctPart_setLopState (s : State) (k st : Nat) :
    (s.setLopState k st).ctPart = s.ctPart := by simp [State.setLopState]

@[simp] theorem State.ctPart_lopFree (s : State) (k : Nat) : (s.lopFree k).ctPart = s.ctPart := by
  apply State.ctPart_congr <;> simp [State.lopFree, State.rreset]

@[simp] theorem State.ctPart_lopRead (s : State) (k : Nat) : (s.lopRead k).ctPart = s.ctPart := by
  unfold State.lopRead
  split <;> simp

@[simp] theorem State.ctPart_lopFinal (s : State) (k : Nat) (x : Lop) (st : Nat) :
    (s.lopFinal k x st).ctPart = s.ctPart := by simp [State.lopFinal]

@[simp] theorem State.ctPart_lopFinish (s : State) (k : Nat) : (s.lopFinish k).ctPart = s.ctPart := by
  unfold State.lopFinish
  split
  · rfl
  · split
    · rfl
    · dsimp only
      split
      · rfl
      · split <;> simp

@[simp] theorem State.ctPart_lopEnd (s : State) (k st : Nat) : (s.lopEnd k st).ctPart = s.ctPart := by
  unfold State.lopEnd
  split <;> simp

@[simp] theorem State.ctPart_lopHold (s : State) (k : Nat) : (s.lopHold k).ctPart = s.ctPart := by
  unfold State.lopHold
  split
  · rfl
  · rw [State.ctPart_setLop]
    exact State.ctPart_congr rfl rfl rfl

theorem State.ctPart_lopAsk {s u : State} {k what : Nat} {b : Bool} (h : s.lopAsk k what = some (b, u)) :
    u.ctPart = s.ctPart := by
  unfold State.lopAsk at h
  dsimp only at h
  repeat' split at h
  all_goals try cases h
  all_goals simp

@[simp] theorem State.ctPart_lopFollow (s : State) (k what : Nat) (now : Bool) :
    (s.lopFollow k what now).ctPart = s.ctPart := by
  unfold State.lopFollow
  split <;> simp

@[simp] theorem State.ctPart_lopRefused (s : State) : s.lopRefused.ctPart = s.ctPart := by simp [State.lopRefused]

@[simp] theorem State.ctPart_lopReg (s : State) (k what : Nat) : (s.lopReg k what).ctPart = s.ctPart := by
  unfold State.lopReg
  split
  · simp
  · split
    · simp
    · rename_i h
      simp [State.ctPart_lopAsk h]

@[simp] theorem State.ctPart_lopRelease (s : State) (k : Nat) :
    (s.lopRelease k).ctPart = s.ctPart := by simp [State.lopRelease]

-- Reads and writes of a register

@[simp] theorem State.ctPart_plainWrite (s : State) (id : RegId) (i : Nat) (v : Word) :
    (s.plainWrite id i v).ctPart = s.ctPart := by simp [State.plainWrite]

@[simp] theorem State.ctPart_clearRc (s : State) (id : RegId) (i : Nat) :
    (s.clearRc id i).ctPart = s.ctPart := by simp [State.clearRc]

@[simp] theorem State.ctPart_laneLat (s : State) (rx : Bool) (n k : Nat) : (s.laneLat rx n k).2.ctPart = s.ctPart :=
  s.ctPart_draw k

@[simp] theorem State.ctPart_readReg (s : State) (id : RegId) (i : Nat) : (s.readReg id i).2.ctPart = s.ctPart := by
  unfold State.readReg
  split
  all_goals try simp
  split <;> simp

@[simp] theorem State.ctPart_loadCtrlWrite (s : State) (v : Word) :
    (s.loadCtrlWrite v).ctPart = s.ctPart := by simp [State.loadCtrlWrite]

@[simp] theorem State.ctPart_timeGuard (s : State) (busy : Field) (id : RegId) (v : Word) :
    (s.timeGuard busy id v).ctPart = s.ctPart := by simp [State.timeGuard]

@[simp] theorem State.ctPart_preemptCfg (s : State) (p : Nat) (v : Word) :
    (s.preemptCfg p v).ctPart = s.ctPart := by simp [State.preemptCfg]

@[simp] theorem State.ctPart_parseWrite (s : State) (id : RegId) (i n : Nat) (v : Word) :
    (s.parseWrite id i n v).ctPart = s.ctPart := by simp [State.parseWrite]

@[simp] theorem State.ctPart_genCtrlWrite (s : State) (v : Word) :
    (s.genCtrlWrite v).ctPart = s.ctPart := by simp [State.genCtrlWrite]

@[simp] theorem State.ctPart_sealCfgWrite (s : State) (v : Word) :
    (s.sealCfgWrite v).ctPart = s.ctPart := by simp [State.sealCfgWrite]

@[simp] theorem State.ctPart_rxCtrlWrite (s : State) (r : Nat) (v : Word) :
    (s.rxCtrlWrite r v).ctPart = s.ctPart := by simp [State.rxCtrlWrite]

@[simp] theorem State.ctPart_chanCtrlWrite (s : State) (k : Nat) (v : Word) :
    (s.chanCtrlWrite k v).ctPart = s.ctPart := by simp [State.chanCtrlWrite]

@[simp] theorem State.ctPart_lopCtrlWrite (s : State) (k : Nat) (v : Word) :
    (s.lopCtrlWrite k v).ctPart = s.ctPart := by simp [State.lopCtrlWrite]

@[simp] theorem State.ctPart_resetWrite (s : State) (v : Word) :
    (s.resetWrite v).ctPart = s.ctPart := by simp [State.resetWrite]

@[simp] theorem State.ctPart_rafterEvtWrite (s : State) (p : Nat) (v : Word) :
    (s.rafterEvtWrite p v).ctPart = s.ctPart := by simp [State.rafterEvtWrite]

@[simp] theorem State.ctPart_bootRelease (s : State) (chosen : Nat) :
    (s.bootRelease chosen).ctPart = s.ctPart := by simp [State.bootRelease]

@[simp] theorem State.ctPart_bootHostStart (s : State) :
    s.bootHostStart.ctPart = s.ctPart := by simp [State.bootHostStart]

@[simp] theorem State.ctPart_xspiCmdWrite (s : State) (v : Word) : (s.xspiCmdWrite v).ctPart = s.ctPart := by
  unfold State.xspiCmdWrite
  dsimp only
  split
  · simp
  · simp only [State.ctPart_ite, State.ctPart_flag, State.ctPart_plainWrite, ite_self, ite_eq_right_iff]
    intros
    refine State.ctPart_raw (t := State.flag _ .BOOT_XSPI_CMD 0 fBOOT_XSPI_CMD_BUSY) ?_
    simp

@[simp] theorem State.ctPart_actWrite (s : State) (id : RegId) (i : Nat) (v : Word) :
    (s.actWrite id i v).ctPart = s.ctPart := by
  unfold State.actWrite
  dsimp only
  split
  all_goals try simp
  split <;> simp

@[simp] theorem State.ctPart_writeReg (s : State) (id : RegId) (i : Nat) (v : Word) :
    (s.writeReg id i v).ctPart = s.ctPart := by simp [State.writeReg]

end Sys2Proof.Machine
end

section
/-! PROOFS. Accesses that the control port answers at once, and those that stall (R13 to R16, R58 to R61, R739). -/

namespace Sys2Proof.Machine

-- Accesses answered at once

/-- R13: the size and the offset of an access fit. -/
def shaped (a : Access) : Bool := (a.size == 4 || a.size == 8) && a.offset % a.size == 0

/-- What the control port makes of an access as a whole. -/
def State.carriedOut (s : State) (a : Access) : Bool × Word × State :=
  s.accessAny true a.write a.size (a.offset % 2 ^ 24) a.data

/-- The state with the response to an access (R784). -/
def State.responded (s : State) (a : Access) (r : Bool × Word × State) : State :=
  { r.2.2 with
    ctResp := some { err := r.1, data := r.2.1 }
    ctOut := [{ err := r.1, data := r.2.1 }]
    ctLast := some (a.offset % 2 ^ 24, s.mclk) }

theorem State.responded_keeps (s : State) (a : Access) (r : Bool × Word × State) : Keeps [] r.2.2 (s.responded a r) :=
  ⟨rfl, fun _ _ _ => rfl⟩

theorem State.ctAccess_answered {s : State} {a : Access} (ha : s.bootU.asserted = false) (hn : s.ctStall = none)
    (hp : a.parityOk = true) (h : shaped a = false ∨ s.stalls a.offset = false) :
    s.ctAccess a = s.responded a (s.carriedOut a) := by
  have hc : (!(a.size == 4 || a.size == 8) || a.offset % a.size != 0 || !s.stalls a.offset) = true := by
    rcases h with h | h
    · unfold shaped at h
      cases h1 : (a.size == 4 || a.size == 8) <;> simp_all
    · simp [h]
  rw [State.ctAccess, State.ctAccessBy, if_neg (by simp [ha]), if_neg (by simp [hn]), State.ctServeBy,
    if_neg (by simp [hp]), if_pos hc]
  rfl

/-- After an access answered at once: its response, and the registers as the access left them but for `afterRegs`. -/
theorem State.ctAccess_after {s t : State} {a : Access} {e : Bool} {w : Word} {R : List RegId}
    (ha : s.bootU.asserted = false) (hn : s.ctStall = none) (hp : a.parityOk = true)
    (h : shaped a = false ∨ s.stalls a.offset = false) (hr : s.carriedOut a = (e, w, t)) (k : Keeps R s t) :
    (s.after (s.ctAccess a)).ctResp = some { err := e, data := w } ∧ Keeps afterRegs t (s.after (s.ctAccess a)) := by
  have hu := s.responded_keeps a (e, w, t)
  have hs : (s.responded a (e, w, t)).power.sleep = s.power.sleep := hu.sleep.trans k.sleep
  rw [State.ctAccess_answered ha hn hp h, hr]
  exact ⟨State.after_ctResp s _ ha (State.padsFreed_sleep hs), (hu.mono (List.nil_subset _)).trans (Keeps.after ha hs)⟩

/-- A command that is the access a, answered at once, answers what the access leaves and what follows from it. -/
theorem answers_access {c : Instr} {s t : State} {a : Access} {e : Bool} {w : Word} {R : List RegId} {P : State → Prop}
    (hc : exec c s = s.done (s.ctAccess a)) (ha : s.bootU.asserted = false) (hn : s.ctStall = none)
    (hp : a.parityOk = true) (h : shaped a = false ∨ s.stalls a.offset = false) (hr : s.carriedOut a = (e, w, t))
    (k : Keeps R s t) (hP : ∀ u, u.ctResp = some { err := e, data := w } → Keeps afterRegs t u → P u) :
    Answers c s P := by
  obtain ⟨hq, ka⟩ := State.ctAccess_after ha hn hp h hr k
  exact answers_done hc (hP _ hq ka)

-- Where an access fails or reads 0

theorem State.carriedOut_misshaped {s : State} {a : Access} (hb : a.offset < 2 ^ 24) (h : shaped a = false) :
    s.carriedOut a = (true, 0, s.tracked a.offset (s.flag .GEN_ACC_ERR 0 fGEN_ACC_ERR_SHAPE)) := by
  have hc : (!(a.size == 4 || a.size == 8) || a.offset % a.size != 0) = true := by
    unfold shaped at h
    cases h1 : (a.size == 4 || a.size == 8) <;> simp_all
  rw [State.carriedOut, Nat.mod_eq_of_lt hb, State.accessAny, if_pos hc]

/-- R14: an aligned access of four bytes is an access of whatever lies at its offset. -/
theorem State.carriedOut_four {s : State} {a : Access} (hb : a.offset < 2 ^ 24) (hs : a.size = 4)
    (ho : a.offset % 4 = 0) :
    s.carriedOut a = s.accessAt true a.write 4 a.offset (locate a.offset) a.data := by
  rw [State.carriedOut, Nat.mod_eq_of_lt hb, hs, State.accessAny, if_neg (by simp [ho]), if_neg (by simp)]
  rfl

/-- The registers that an access writes to report on itself. -/
def reportRegs : List RegId := [.GEN_ACC_ERR, .BOOT_EVT, .BOOT_XSPI_CMD]

theorem State.heldWrite_keeps (s : State) (x : Option (RegId × Nat × Bool)) (v : Word) :
    Keeps reportRegs s (s.heldWrite x v) := by
  have h : Keeps reportRegs s (s.flag .BOOT_EVT 0 fBOOT_EVT_WR_REFUSED) := (Keeps.refl s).flag 0 _ (by decide)
  unfold State.heldWrite
  dsimp only
  split
  · exact .ite (h.flag 0 _ (by decide)) h
  · exact h

theorem State.heldWrite_refused (s : State) (x : Option (RegId × Nat × Bool)) (v : Word) :
    (s.heldWrite x v).fbit .BOOT_EVT 0 fBOOT_EVT_WR_REFUSED = true := by
  have h : (s.flag .BOOT_EVT 0 fBOOT_EVT_WR_REFUSED).fbit .BOOT_EVT 0 fBOOT_EVT_WR_REFUSED = true :=
    State.fbit_flag_same s .BOOT_EVT 0 _ (by decide) (by decide)
  have k (t : State) : Keeps [.BOOT_XSPI_CMD] t (t.flag .BOOT_XSPI_CMD 0 fBOOT_XSPI_CMD_ERR) :=
    (Keeps.refl t).flag 0 _ (by decide)
  unfold State.heldWrite
  dsimp only
  split
  · split
    · rw [(k _).fbit (by decide), h]
    · exact h
  · exact h

theorem State.accErr_keeps (s t : State) (off : Nat) (f : Field) :
    Keeps [.GEN_ACC_ERR] t (s.tracked off (t.flag .GEN_ACC_ERR 0 f)) :=
  ((Keeps.refl t).flag 0 f (by decide)).trans (State.tracked_keeps _ _ _)

theorem State.accErr_fbit (s t : State) (off : Nat) (f : Field) (hw : 0 < f.w)
    (h : f.lo + f.w ≤ fGEN_ACC_ERR_FIRST_OFF.lo) :
    (s.tracked off (t.flag .GEN_ACC_ERR 0 f)).fbit .GEN_ACC_ERR 0 f = true := by
  have hb : f.lo + f.w ≤ 64 := h.trans (by decide)
  rw [State.tracked_fbit _ _ _ _ (.inl h), State.fbit_flag_same t _ _ f hb hw]

/-- R691: an access of a fenced domain. -/
theorem State.accessAt_fenced {s : State} {write : Bool} {size off d : Nat} {x : Option (RegId × Nat × Bool)} {v : Word}
    (hd : regionDom off = some d) (hf : s.dom d = 3) :
    ∃ t, Keeps reportRegs s t ∧ s.accessAt true write size off x v =
      (true, 0, t.tracked off (t.flag .GEN_ACC_ERR 0 fGEN_ACC_ERR_FENCED)) := by
  refine ⟨if write && true && s.writeHeld off then s.heldWrite x v else s, .ite (s.heldWrite_keeps x v) (.refl s), ?_⟩
  simp only [State.accessAt, hd, hf, beq_self_eq_true, if_true]

/-- R739: a write that is held until boot has ended. -/
theorem State.accessAt_held {s : State} {size off d : Nat} (x : Option (RegId × Nat × Bool)) (v : Word)
    (hd : regionDom off = some d) (hf : s.dom d ≠ 3) (hh : s.writeHeld off = true) :
    ∃ t, Keeps reportRegs s t ∧ t.fbit .BOOT_EVT 0 fBOOT_EVT_WR_REFUSED = true ∧
      s.accessAt true true size off x v = (false, 0, t) := by
  have k := s.heldWrite_keeps x v
  have hb := s.heldWrite_refused x v
  have he : (s.dom d == 3) = false := by simpa using hf
  simp only [State.accessAt, hd, hh, he, Bool.and_self, if_true]
  cases x with
  | none =>
    have ka := (s.heldWrite none v).accErr_keeps (s.heldWrite none v) off fGEN_ACC_ERR_RSVD_OFF
    exact ⟨_, k.trans (ka.mono (by decide)), (ka.fbit (by decide) 0 _).trans hb, rfl⟩
  | some y => exact ⟨_, k, hb, rfl⟩

theorem State.stalls_fenced {s : State} {off d : Nat} (hd : regionDom off = some d) (hf : s.dom d = 3) :
    s.stalls off = false := by simp [State.stalls, hd, hf]

/-- What an access reports on itself, and what follows from it, leave the other registers. -/
theorem reported {s t u : State} (k : Keeps reportRegs s t) (ka : Keeps afterRegs t u) {id : RegId} {i : Nat}
    (h : ([.GEN_ACC_ERR, .BOOT_EVT, .BOOT_XSPI_CMD].contains id || afterRegs.contains id) = false) :
    u.rget id i = s.rget id i := by
  simp only [Bool.or_eq_false_iff] at h
  rw [ka.regs id (by simpa using h.2), k.regs id (by simpa [reportRegs] using h.1)]

-- Accesses that stall

theorem State.ctResp_wake (s : State) (d : Nat) : (s.wake d).ctResp = s.ctResp := by
  unfold State.wake
  split <;> rfl

theorem State.wake_keeps (s : State) (d : Nat) : Keeps [] s (s.wake d) := .ite ⟨rfl, fun _ _ _ => rfl⟩ (.refl s)

/-- R60, R686: an access of a domain in DOZE stalls and wakes it. -/
theorem State.ctAccess_dozing {s : State} {a : Access} {d : Nat} (ha : s.bootU.asserted = false) (hn : s.ctStall = none)
    (hp : a.parityOk = true) (h : shaped a = true) (hd : regionDom a.offset = some d) (hdom : s.dom d = 1)
    (hr : s.ready d = false) (hz : s.power.dozed.contains (d, s.mclk) = false) :
    s.ctAccess a = { s.wake d with ctStall := some a, ctOut := [] } := by
  have hc : (!(a.size == 4 || a.size == 8) || a.offset % a.size != 0 || !s.stalls a.offset) = false := by
    simp only [shaped, Bool.and_eq_true, beq_iff_eq] at h
    have hst : s.stalls a.offset = true := by simp [State.stalls, hd, hdom, hr]
    rw [h.1, hst, h.2]
    rfl
  have hw : s.access d = s.wake d := by
    rw [State.access, if_neg (by simp [hdom]), if_neg (by rw [hz]; simp)]
  rw [State.ctAccess, State.ctAccessBy, if_neg (by simp [ha]), if_neg (by simp [hn]), State.ctServeBy,
    if_neg (by simp [hp]), if_neg (by rw [hc]; simp), hd]
  simp only [hw]

theorem State.wake_waking {s : State} {d : Nat} (hdom : s.dom d = 1) : d ∈ (s.wake d).power.waking := by
  have hself : d ∈ wokenWith d := by unfold wokenWith; split_ifs <;> simp_all
  unfold State.wake
  rw [if_pos (by simp [hdom])]
  by_cases hw : d ∈ s.power.waking
  · exact List.mem_append_left _ hw
  · refine List.mem_append_right _ (List.mem_filter.mpr ⟨hself, ?_⟩)
    simp [hdom, hw]

-- The access that stalled, once its domain is ready

theorem State.ctPart_fields {s t : State} (h : t.ctPart = s.ctPart) :
    t.ctStall = s.ctStall ∧ t.ctQueue = s.ctQueue ∧ t.staged = s.staged := by
  unfold State.ctPart at h
  exact ⟨congrArg (·.1) h, congrArg (·.2.1) h, congrArg (·.2.2) h⟩

/-- R61: t has the stalled access of s and those held back behind it. -/
def HeldKept (s t : State) : Prop := t.ctStall = s.ctStall ∧ t.ctQueue = s.ctQueue

theorem HeldKept.trans {s t u : State} (h : HeldKept s t) (k : HeldKept t u) : HeldKept s u :=
  ⟨k.1.trans h.1, k.2.trans h.2⟩

theorem State.after_heldKept (s u : State) (hs : s.bootU.asserted = false) (hp : s.padsFreed u = u) :
    HeldKept u (s.after u) := by
  have hst := congrArg State.ctStall (s.after_follows u hs hp).rest
  have hq := congrArg State.ctQueue (s.after_follows u hs hp).rest
  exact ⟨hst, hq⟩

theorem HeldKept.of_ctPart {s t : State} (h : t.ctPart = s.ctPart) : HeldKept s t :=
  ⟨(State.ctPart_fields h).1, (State.ctPart_fields h).2.1⟩

@[simp] theorem State.ctPart_tracked (s t : State) (off : Nat) : (s.tracked off t).ctPart = t.ctPart := by
  simp [State.tracked]

@[simp] theorem State.ctPart_heldWrite (s : State) (x : Option (RegId × Nat × Bool)) (v : Word) :
    (s.heldWrite x v).ctPart = s.ctPart := by
  unfold State.heldWrite
  dsimp only
  split <;> simp

@[simp] theorem State.ctPart_latchUpper (s : State) (id : RegId) (i : Nat) (v : Word) :
    (s.latchUpper id i v).ctPart = s.ctPart := State.ctPart_congr rfl rfl rfl

@[simp] theorem State.ctPart_readAt (s : State) (id : RegId) (i : Nat) (upper : Bool) (size : Nat) :
    (s.readAt id i upper size).2.ctPart = s.ctPart := by
  unfold State.readAt
  split <;> simp

theorem State.writeAt_heldKept (s : State) (id : RegId) (i : Nat) (upper : Bool) (size : Nat) (v : Word) :
    HeldKept s (s.writeAt id i upper size v) := by
  unfold State.writeAt
  split
  · exact ⟨rfl, rfl⟩
  · exact HeldKept.trans (t := { s with staged := s.staged.del (rkey id i) }) ⟨rfl, rfl⟩
      (.of_ctPart (State.ctPart_writeReg _ id i _))

theorem State.accessAt_heldKept (s : State) (port write : Bool) (size off : Nat) (x : Option (RegId × Nat × Bool))
    (v : Word) : HeldKept s (s.accessAt port write size off x v).2.2 := by
  unfold State.accessAt
  split
  · exact .of_ctPart (by simp)
  · dsimp only
    split
    · exact .of_ctPart (by simp)
    · split
      · exact .of_ctPart (by simp)
      · split
        · exact .of_ctPart (by simp)
        · split
          · exact (s.writeAt_heldKept _ _ _ _ _).trans (.of_ctPart (State.ctPart_tracked s _ off))
          · exact .of_ctPart (by simp)

theorem State.accessAny_heldKept (s : State) (port write : Bool) (size off : Nat) (v : Word) :
    HeldKept s (s.accessAny port write size off v).2.2 := by
  unfold State.accessAny
  split
  · exact .of_ctPart (by simp)
  · split
    · dsimp only
      have h := (s.accessAt_heldKept port write 4 off (locate off) (low32 v)).trans
        (State.accessAt_heldKept _ port write 4 (off + 4) (locate (off + 4)) (v >>> 32))
      split <;> exact h
    · exact s.accessAt_heldKept _ _ _ _ _ _

theorem State.stallServed_alone {s : State} {a : Access} (ha : s.bootU.asserted = false) (hp : a.parityOk = true)
    (hst : s.ctStall = some a) (hq : s.ctQueue = []) (hr : s.stalls a.offset = false) :
    s.stallServed = ({ s with ctStall := none } : State).ctAccess a ∧
      (({ s with ctStall := none } : State).ctAccess a).ctStall = none := by
  have he : ({ s with ctStall := none } : State).ctServe a = ({ s with ctStall := none } : State).ctAccess a := by
    rw [State.ctAccess, State.ctAccessBy, if_neg (by simp [ha]), if_neg (by simp)]
    rfl
  have hk := State.accessAny_heldKept { s with ctStall := none } true a.write a.size (a.offset % 2 ^ 24) a.data
  have hu := State.ctAccess_answered (s := { s with ctStall := none }) ha rfl hp (.inr hr)
  have hs : (({ s with ctStall := none } : State).ctAccess a).ctStall = none := by rw [hu]; exact hk.1
  have hn : (({ s with ctStall := none } : State).ctAccess a).ctQueue = [] := by rw [hu]; exact hk.2.trans hq
  refine ⟨?_, hs⟩
  rw [State.stallServed, hst]
  dsimp only
  rw [if_neg (by simp [hr]), he, hn]
  rfl

end Sys2Proof.Machine

open Sys2Proof Sys2Proof.Machine

/-- Settles O10, access by access: what `accessAt` answers, and that no write of a register touches the accesses that
the control port holds back. -/
theorem accessesStallOrFail : Obligations.AccessesStallOrFail := by
  intro a d s ha hp
  have four (hs : a.size = 4) (ho : a.offset % 4 = 0) : shaped a = true := by simp [shaped, hs, ho]
  refine ⟨fun hn hb => ⟨fun h => ?_, fun hs ho hd hf => ?_, fun hs ho hd hf hst hh => ?_, fun hs ho hd => ?_,
    fun hs ho hd h1 hr hz => ?_⟩, fun hst hl => ?_, fun hst hq hr => ?_⟩
  · -- R13: a wrong shape
    have hb' : shaped { a with write := true } = false := by
      unfold shaped
      rcases h with ⟨h4, h8⟩ | h <;> simp_all
    have k := s.accErr_keeps s a.offset fGEN_ACC_ERR_SHAPE
    refine answers_access (a := { a with write := true }) rfl ha hn hp (.inl hb') (State.carriedOut_misshaped hb hb') k
      fun u hc ka => ⟨hc, ?_, fun id i hid => ?_⟩
    · rw [ka.fbit (by decide), State.accErr_fbit _ _ _ _ (by decide) (by decide)]
    · simp only [Bool.or_eq_false_iff, beq_eq_false_iff_ne] at hid
      rw [ka.regs _ (by simpa using hid.1), k.regs _ (by simpa using hid.2)]
  · -- R691: a fenced domain
    obtain ⟨t, kt, ht⟩ := State.accessAt_fenced (write := true) (size := 4) (x := locate a.offset) (v := a.data) hd hf
    have k := kt.trans ((t.accErr_keeps t a.offset fGEN_ACC_ERR_FENCED).mono (by decide))
    have hr := (State.carriedOut_four (s := s) (a := { a with write := true }) hb hs ho).trans ht
    refine answers_access (a := { a with write := true }) rfl ha hn hp (.inr (State.stalls_fenced hd hf)) hr k
      fun u hc ka => ⟨hc, ?_, fun id i hid => ?_⟩
    · rw [ka.fbit (by decide), State.accErr_fbit _ _ _ _ (by decide) (by decide)]
    · exact reported k ka hid
  · -- R739: a write that is held
    obtain ⟨t, k, hbit, ht⟩ := State.accessAt_held (size := 4) (locate a.offset) a.data hd hf hh
    have hr := (State.carriedOut_four (s := s) (a := { a with write := true }) hb hs ho).trans ht
    refine answers_access (a := { a with write := true }) rfl ha hn hp (.inr hst) hr k
      fun u hc ka => ⟨hc, (ka.fbit (by decide) 0 _).trans hbit, fun id i hid => reported k ka hid⟩
  · -- R58: no region
    have k := s.accErr_keeps s a.offset fGEN_ACC_ERR_RSVD_OFF
    have hst : s.stalls a.offset = false := by simp [State.stalls, hd]
    have hr : s.carriedOut { write := false, size := 4, offset := a.offset, data := 0 } =
        (false, 0, s.tracked a.offset (s.flag .GEN_ACC_ERR 0 fGEN_ACC_ERR_RSVD_OFF)) := by
      rw [State.carriedOut_four (a := { write := false, size := 4, offset := a.offset, data := 0 }) hb rfl ho,
        State.accessAt, hd]
    refine answers_access (a := { write := false, size := 4, offset := a.offset, data := 0 }) rfl ha hn rfl (.inr hst)
      hr k fun u hc ka => ⟨hc, ?_, fun id i hid => ?_⟩
    · rw [ka.fbit (by decide), State.accErr_fbit _ _ _ _ (by decide) (by decide)]
    · simp only [Bool.or_eq_false_iff, beq_eq_false_iff_ne] at hid
      rw [ka.regs _ (by simpa using hid.1), k.regs _ (by simpa using hid.2)]
  · -- R60: a domain in DOZE
    have hu := State.ctAccess_dozing (a := { a with write := true }) ha hn hp (four hs ho) hd h1 hr hz
    have k := s.wake_keeps d
    have hsl : (s.ctAccess { a with write := true }).power.sleep = s.power.sleep := by rw [hu]; exact k.sleep
    have hpf := State.padsFreed_sleep hsl
    have kt := State.after_trail s _ ha hpf
    have kf := s.after_follows _ ha hpf
    refine answers_done (u := s.ctAccess { a with write := true }) rfl ⟨?_, ?_, ?_, fun id i hid => ?_⟩
    · rw [(State.after_heldKept s _ ha hpf).1, hu]
    · have h : d.val ∈ (s.ctAccess { a with write := true }).power.waking := by rw [hu]; exact State.wake_waking h1
      simpa using kt.waking h
    · rw [State.after_ctResp _ _ ha hpf, hu, State.ctResp_wake]
    · rw [kf.regs id (by simpa using hid), hu]
      exact k.regs id (by simp) i
  · -- R61, R788: behind an access that stalls
    have hu : s.ctAccess { a with write := true } =
        { s with ctQueue := s.ctQueue ++ [{ a with write := true }], ctOut := [] } := by
      rw [State.ctAccess, State.ctAccessBy, if_neg (by simp [ha]), if_pos hst, if_pos (by simp [State.ctReady, ha, hl])]
    have hpf := State.padsFreed_sleep (s := s) (t := s.ctAccess { a with write := true }) (by rw [hu])
    refine answers_done (u := s.ctAccess { a with write := true }) rfl ⟨?_, ?_, ?_⟩
    · rw [(State.after_heldKept s _ ha hpf).2, hu]
    · rw [(State.after_heldKept s _ ha hpf).1, hu]
    · rw [State.after_ctResp _ _ ha hpf, hu]
  · obtain ⟨he, hs⟩ := State.stallServed_alone ha hp hst hq hr
    refine effect_done (u := s.stallServed) rfl ⟨by rw [he, hs], ?_, he⟩
    rw [he, State.ctAccess_answered (s := { s with ctStall := none }) ha rfl hp (.inr hr)]
    rfl
end

section
/-! PROOFS. The halves of the 64-bit registers (R14, R22 to R24) and the registers that count (R18, R20). -/

namespace Sys2Proof.Machine

-- Where the halves lie (R57, R58)

/-- A copy found among those of a register lies where it was found. -/
theorem addrIn_of_indexIn {d : List (Nat × Nat)} {r j : Nat} (h : indexIn d r = some (j, 0)) (hn : dimsNest d = true) :
    addrIn d j = r ∧ j < dimsCount d := by
  induction d generalizing r j with
  | nil =>
    simp only [indexIn, Option.some.injEq, Prod.mk.injEq] at h
    exact ⟨h.2.symm, by simp [← h.1, dimsCount]⟩
  | cons e t ih =>
    obtain ⟨st, c⟩ := e
    simp only [dimsNest, Bool.and_eq_true, decide_eq_true_eq] at hn
    rw [indexIn_cons] at h
    split at h
    · next hc =>
      obtain ⟨⟨m, x⟩, hm, e⟩ := Option.map_eq_some_iff.mp h
      obtain ⟨rfl, rfl⟩ := Prod.mk.inj e
      obtain ⟨ha, hlt⟩ := ih hm hn.2
      have hd : (r / st * dimsCount t + m) / dimsCount t = r / st := by
        rw [Nat.add_comm, Nat.add_mul_div_right _ _ (by omega), Nat.div_eq_of_lt hlt, Nat.zero_add]
      have hr : (r / st * dimsCount t + m) % dimsCount t = m := by
        rw [Nat.add_comm, Nat.add_mul_mod_self_right, Nat.mod_eq_of_lt hlt]
      rw [addrIn_cons, hd, hr, ha, Nat.mod_eq_of_lt hc, dimsCount_cons]
      refine ⟨Nat.div_add_mod' r st, ?_⟩
      calc r / st * dimsCount t + m < r / st * dimsCount t + dimsCount t := by omega
        _ = (r / st + 1) * dimsCount t := by rw [Nat.add_mul, Nat.one_mul]
        _ ≤ c * dimsCount t := Nat.mul_le_mul_right _ hc
    · cases h

/-- No copy of b lies on the upper half of a copy of a. -/
def upperClear (a b : RegId) : Bool :=
  if b.desc.base ≤ a.desc.base + 4 then apart (a.desc.base + 4 - b.desc.base) b.desc.dims a.desc.dims
  else apart (b.desc.base - (a.desc.base + 4)) a.desc.dims b.desc.dims

theorem regIds_upperClear :
    (regIds.filter fun id => id.desc.width = 64).all (fun a => regIds.all (upperClear a)) = true := by decide +kernel

theorem regAtIn_some {l : List RegId} {off j : Nat} {b : RegId} (h : regAtIn l off = some (b, j)) :
    b.desc.base ≤ off ∧ indexIn b.desc.dims (off - b.desc.base) = some (j, 0) := by
  induction l with
  | nil => cases h
  | cons a t ih =>
    unfold regAtIn at h
    split at h
    · next ha =>
      split at h
      · next k hk =>
        obtain ⟨rfl, rfl⟩ := Prod.mk.inj (Option.some.inj h)
        exact ⟨ha, hk⟩
      · exact ih h
    · cases h

theorem regAt_upper {id : RegId} {i : Nat} (hi : i < id.count) (hw : id.desc.width = 64) :
    regAt (addrOf id i + 4) = none := by
  by_contra hc
  obtain ⟨⟨b, j⟩, hb⟩ := Option.ne_none_iff_exists'.mp hc
  obtain ⟨hle, hx⟩ := regAtIn_some hb
  have hm := List.all_eq_true.mp regIds_upperClear id (by simp [id.mem_regIds, hw])
  have hcl := List.all_eq_true.mp hm b b.mem_regIds
  unfold upperClear at hcl
  have ha : addrOf id i = id.desc.base + addrIn id.desc.dims i := rfl
  split at hcl
  · next hbase =>
    refine indexIn_of_apart id.laidOut.1 hcl i j ?_
    rw [← hx]
    congr 1
    omega
  · next hbase =>
    obtain ⟨hj, _⟩ := addrIn_of_indexIn hx b.laidOut.1
    refine indexIn_of_apart b.laidOut.1 hcl j i ?_
    rw [← indexIn_addrIn id.laidOut.1 hi]
    congr 1
    omega

/-- The offset of a half of a 64-bit register. -/
def halfOff (id : RegId) (i : Nat) (upper : Bool) : Nat := addrOf id i + bif upper then 4 else 0

section
variable {id : RegId} {i : Nat} (hw : id.desc.width = 64)
include hw

theorem addrOf_mod_eight : addrOf id i % 8 = 0 := by
  have h := addrOf_aligned id i
  rwa [hw] at h

theorem halfOff_lt (upper : Bool) : halfOff id i upper < 2 ^ 24 := by
  have h := addrOf_fits id i
  rw [hw] at h
  cases upper <;> simp only [halfOff, cond_true, cond_false] <;> omega

theorem halfOff_mod_four (upper : Bool) : halfOff id i upper % 4 = 0 := by
  have h := addrOf_mod_eight (i := i) hw
  cases upper <;> simp only [halfOff, cond_true, cond_false] <;> omega

theorem locate_half (hi : i < id.count) (upper : Bool) : locate (halfOff id i upper) = some (id, i, upper) := by
  cases upper with
  | false => exact locate_addrOf hi
  | true =>
    have h8 := addrOf_mod_eight (i := i) hw
    have h4 : (addrOf id i + 4) % 8 = 4 := by omega
    simp only [halfOff, cond_true, locate, regAt_upper hi hw, h4, Nat.add_sub_cancel, regAt_addrOf hi, hw, if_true]

/-- Both halves lie in one domain. -/
theorem regionDom_half (upper : Bool) : regionDom (halfOff id i upper) = regionDom (addrOf id i) := by
  cases upper with
  | false => rfl
  | true =>
    have h8 := addrOf_mod_eight (i := i) hw
    have lt (k : Nat) (hk : k % 8 = 0) : (addrOf id i + 4 < k) = (addrOf id i < k) := propext (by omega)
    have le (k : Nat) (hk : k % 8 = 0) : (k ≤ addrOf id i + 4) = (k ≤ addrOf id i) := propext (by omega)
    have div (k : Nat) (hk : k % 0x10000 = 0) : (addrOf id i + 4 - k) / 0x10000 = (addrOf id i - k) / 0x10000 := by
      omega
    unfold halfOff regionDom regDomain
    rw [cond_true, div 0x040000 rfl, div 0x080000 rfl, div 0x0C0000 rfl]
    simp [lt, le]

end

-- Accesses of a half that the port serves

theorem State.serves_parts {s : State} {id : RegId} {i : Nat} (h : s.serves id i = true) :
    s.ctStall = none ∧ (∀ off, s.writeHeld off = false) ∧
      ∃ d, regionDom (addrOf id i) = some d ∧ s.dom d ≠ 3 ∧ s.ready d = true := by
  simp only [State.serves, Bool.and_eq_true, Option.isNone_iff_eq_none, Bool.or_eq_true, beq_iff_eq] at h
  obtain ⟨⟨⟨_, hn⟩, hb⟩, hd⟩ := h
  refine ⟨hn, fun off => ?_, ?_⟩
  · rcases hb with hb | hb <;> simp [State.writeHeld, hb, bRUNNING, bSAFE]
  · split at hd
    · next d e =>
      simp only [Bool.and_eq_true, bne_iff_ne, ne_eq] at hd
      exact ⟨d, e, hd⟩
    · cases hd

/-- R14: a served access of four bytes at a half of a 64-bit register. -/
theorem State.ctAccess_half {s : State} {id : RegId} {i : Nat} {upper : Bool} {a : Access} (hi : i < id.count)
    (hw : id.desc.width = 64) (hs : s.serves id i = true) (hp : a.parityOk = true) (h4 : a.size = 4)
    (ho : a.offset = halfOff id i upper) :
    s.ctAccess a = s.responded a
      (if a.write then (false, 0, s.tracked (halfOff id i upper) (s.writeAt id i upper 4 a.data))
       else (false, s.readAt id i upper 4)) := by
  obtain ⟨hn, hh, d, hd, hf, hr⟩ := State.serves_parts hs
  have hdom : regionDom (halfOff id i upper) = some d := (regionDom_half hw upper).trans hd
  have hst : s.stalls a.offset = false := by simp [State.stalls, ho, hdom, hr]
  rw [State.ctAccess_answered (State.serves_asserted hs) hn hp (.inr hst),
    State.carriedOut_four (ho ▸ halfOff_lt hw upper) h4 (ho ▸ halfOff_mod_four hw upper), ho, locate_half hw hi,
    State.accessAt, hdom]
  simp [hh, hf]

-- Reads that clear

section
variable (s : State) (id : RegId) (i : Nat)

theorem State.clearRc_rget_ne {a : RegId} {j : Nat} (h : ¬ (id = a ∧ i = j)) :
    (s.clearRc id i).rget a j = s.rget a j := by
  unfold State.clearRc
  dsimp only
  split
  · rfl
  · exact s.rget_rset_ne _ h

theorem State.clearRc_rget {m : Word} (hm : typeMask .rc id.desc.fields = m) (h : m ≠ 0) :
    (s.clearRc id i).rget id i = s.rget id i &&& ~~~ m := by
  subst hm
  rw [State.clearRc, if_neg (by simpa using h), s.rget_rset_same]

theorem State.clearRc_keeps : Keeps [id] s (s.clearRc id i) := .ite (.refl s) ((Keeps.refl s).rset i _ (by simp))

end

/-- R22: the reads of the lower halves that do more than return a value keep the sleep under way. -/
theorem State.readReg_sleep {id : RegId} (hw : id.desc.width = 64) (s : State) (i : Nat) :
    (s.readReg id i).2.power.sleep = s.power.sleep := by
  unfold State.readReg
  split
  · have h := s.elapse_keeps 32
    have k : Keeps [.TIME_SLEW_REM, .TIME_NOW_L, .TIME_NOW_H] { s with now := s.now + 32 } s.timeCapture := by
      unfold State.timeCapture
      dsimp only
      iterate 3 refine .fset _ _ _ (by decide) ?_
      exact h.mono (by decide)
    exact k.sleep
  · rfl
  · dsimp only
    split <;> rfl
  · dsimp only
    refine (State.clearRc_keeps _ _ i).sleep.trans ?_
    split
    · exact (s.holdCycles_keeps i).sleep
    · rfl
  · exact absurd hw (by decide)
  · exact absurd hw (by decide)
  · exact (s.clearRc_keeps _ i).sleep

-- The two halves (R22 to R24)

/-- R22, R265: a read of a lower half returns it and latches the upper half. -/
theorem State.readAt_lower {id : RegId} {i : Nat} (hw : id.desc.width = 64) (hi : i < id.count) (s : State) :
    (s.readAt id i false 4).1 = low32 (s.readReg id i).1 ∧
      (s.readAt id i false 4).2.readLatch id i = (s.readReg id i).1 >>> 32 ∧
      (s.readAt id i false 4).2.power.sleep = s.power.sleep := by
  have same (u : State) (v : Word) : (u.latchUpper id i v).readLatch id i = v >>> 32 := Store.get_set_same _ _ _ _
  unfold State.readAt
  by_cases hid : id = .TIME_NOW_L
  · subst hid
    have hne : rkey .TIME_NOW_L i ≠ rkey .TIME_NOW_H 0 := fun e => by simpa using rkey_inj.mp e
    refine ⟨rfl, ?_, State.readReg_sleep hw s i⟩
    exact (Store.get_set_ne _ _ _ _ hne).trans (same _ _)
  · simp only [hw, hid]
    exact ⟨rfl, same _ _, State.readReg_sleep hw s i⟩

theorem State.latch_after {s u : State} (hs : s.bootU.asserted = false) (hp : s.padsFreed u = u) (id : RegId)
    (i : Nat) : (s.after u).readLatch id i = u.readLatch id i := by
  have h := congrArg State.latch (s.after_follows u hs hp).rest
  exact congrArg (fun l => Store.get (id.resetAt i >>> 32) l (rkey id i)) h

theorem State.staged_after {s u : State} (hs : s.bootU.asserted = false) (hp : s.padsFreed u = u) :
    (s.after u).staged = u.staged := by
  have h := congrArg State.staged (s.after_follows u hs hp).rest
  exact h

theorem low32_setWidth (v : BitVec 32) : low32 (v.setWidth 64) = v.setWidth 64 := by
  have hm : (0xFFFFFFFF : Word) = (BitVec.allOnes 32).setWidth 64 := by decide
  rw [low32, hm, ← BitVec.setWidth_and, BitVec.and_allOnes]

theorem halves_join (v w : BitVec 32) : (low32 (w.setWidth 64) <<< 32) ||| v.setWidth 64 = w ++ v := by
  rw [low32_setWidth]
  refine BitVec.eq_of_getLsbD_eq fun k hk => ?_
  rw [BitVec.getLsbD_append]
  by_cases h : k < 32
  · simp [h, hk]
  · simp [h, hk, BitVec.getLsbD_of_ge v k (by omega)]

/-- R24: the write of an upper half writes both, and empties the staging latch. -/
theorem State.writeAt_upper {s : State} {id : RegId} {i : Nat} (hw : id.desc.width = 64) {v : BitVec 32} (w : BitVec 32)
    (hv : s.stagedLow id i = some (v.setWidth 64)) :
    s.writeAt id i true 4 (w.setWidth 64) = s.written id i (w ++ v) := by
  have hc : carried id (w ++ v) = w ++ v := if_pos hw
  rw [State.writeAt, if_neg (by simp), hv, State.written, hc, ← halves_join]
  rfl

theorem State.written_stagedLow (s : State) (id : RegId) (i : Nat) (v : Word) :
    (s.written id i v).stagedLow id i = none := by
  have h := (State.ctPart_fields (State.ctPart_writeReg { s with staged := s.staged.del (rkey id i) } id i
    (carried id v))).2.2
  rw [State.stagedLow, State.written, h]
  exact s.staged.find?_del_same _

section
variable {s : State} {id : RegId} {i : Nat} (hi : i < id.count) (hs : s.serves id i = true) (hw : id.desc.width = 64)
include hi hs hw

theorem lowerHalfRead_answers :
    Answers (.lowerHalfRead (addrOf id i)) s fun t =>
      t.ctResp = some { err := false, data := low32 (s.readReg id i).1 } ∧
      t.readLatch id i = (s.readReg id i).1 >>> 32 := by
  have ha := State.serves_asserted hs
  have hu := State.ctAccess_half (upper := false) (a := { write := false, size := 4, offset := addrOf id i, data := 0 })
    hi hw hs rfl rfl rfl
  obtain ⟨hv, hl, hp⟩ := State.readAt_lower hw hi s
  have hpf := State.padsFreed_sleep (t := s.ctAccess { write := false, size := 4, offset := addrOf id i, data := 0 })
    ((congrArg (·.power.sleep) hu).trans hp)
  refine answers_done (u := s.ctAccess { write := false, size := 4, offset := addrOf id i, data := 0 }) rfl ⟨?_, ?_⟩
  · rw [State.after_ctResp _ _ ha hpf, hu, ← hv]
    rfl
  · rw [State.latch_after ha hpf, hu, ← hl]
    rfl

theorem upperHalfRead_answers :
    Answers (.lowerHalfRead (addrOf id i + 4)) s fun t =>
      t.ctResp = some { err := false, data := s.readLatch id i } ∧ t.staged = s.staged ∧
      RegsKept (fun a _ => afterRegs.contains a) s t := by
  have ha := State.serves_asserted hs
  have hu := State.ctAccess_half (upper := true)
    (a := { write := false, size := 4, offset := addrOf id i + 4, data := 0 }) hi hw hs rfl rfl rfl
  have hpf := State.padsFreed_sleep (s := s)
    (t := s.ctAccess { write := false, size := 4, offset := addrOf id i + 4, data := 0 }) (by rw [hu]; rfl)
  refine answers_done (u := s.ctAccess { write := false, size := 4, offset := addrOf id i + 4, data := 0 }) rfl
    ⟨?_, ?_, fun a j haj => ?_⟩
  · rw [State.after_ctResp _ _ ha hpf, hu]
    rfl
  · rw [State.staged_after ha hpf, hu]
    rfl
  · rw [State.after_rget _ _ ha hpf a j (by simpa using haj), hu]
    rfl

theorem lowerHalfWrite_answers (v : BitVec 32) :
    Answers (.lowerHalfWrite (addrOf id i) v) s fun t =>
      t.stagedLow id i = some (v.setWidth 64) ∧ t.ctResp = some { err := false, data := 0 } ∧
      RegsKept (fun a _ => afterRegs.contains a) s t := by
  have ha := State.serves_asserted hs
  have hput : s.tracked (halfOff id i false) (s.writeAt id i false 4 (v.setWidth 64)) =
      { s with staged := s.staged.put (rkey id i) (v.setWidth 64) } := by
    have e : s.writeAt id i false 4 (v.setWidth 64) =
        { s with staged := s.staged.put (rkey id i) (v.setWidth 64) } := by
      rw [State.writeAt, if_pos (by simp [hw]), low32_setWidth]
    rw [e]
    exact State.tracked_of_accErr _ rfl
  have hu := State.ctAccess_half (upper := false)
    (a := { write := true, size := 4, offset := addrOf id i, data := v.setWidth 64 }) hi hw hs rfl rfl rfl
  rw [if_pos rfl, hput] at hu
  have hpf := State.padsFreed_sleep (s := s)
    (t := s.ctAccess { write := true, size := 4, offset := addrOf id i, data := v.setWidth 64 }) (by rw [hu]; rfl)
  refine answers_done (u := s.ctAccess { write := true, size := 4, offset := addrOf id i, data := v.setWidth 64 }) rfl
    ⟨?_, ?_, fun a j haj => ?_⟩
  · rw [State.stagedLow, State.staged_after ha hpf, hu]
    exact s.staged.find?_put_same _ _
  · rw [State.after_ctResp _ _ ha hpf, hu]
    rfl
  · rw [State.after_rget _ _ ha hpf a j (by simpa using haj), hu]
    rfl

theorem upperHalfWrite_effect (v w : BitVec 32) (hv : s.stagedLow id i = some (v.setWidth 64)) :
    Effect (.upperHalfWrite (addrOf id i + 4) w) s fun u =>
      u.stagedLow id i = none ∧ u.ctResp = some { err := false, data := 0 } ∧
      RegsKept (fun a _ => a == .GEN_ACC_ERR) (s.ctWrite id i (w ++ v)) u := by
  have hu := State.ctAccess_half (upper := true)
    (a := { write := true, size := 4, offset := addrOf id i + 4, data := w.setWidth 64 }) hi hw hs rfl rfl rfl
  rw [if_pos rfl, State.writeAt_upper hw w hv] at hu
  refine effect_done (u := s.ctAccess { write := true, size := 4, offset := addrOf id i + 4, data := w.setWidth 64 })
    rfl ⟨?_, ?_, fun a j haj => ?_⟩
  · have h := s.written_stagedLow id i (w ++ v)
    have k := (State.ctPart_fields (State.ctPart_tracked s (s.written id i (w ++ v)) (halfOff id i true))).2.2
    rw [hu, State.stagedLow]
    exact (congrArg (fun l => Store.find? l (rkey id i)) k).trans h
  · rw [hu]
    rfl
  · have hne : a ≠ .GEN_ACC_ERR := by simpa using haj
    rw [State.ctWrite_rget _ hs _ _ hne, hu]
    exact State.tracked_rget s _ _ a j hne

end

-- Registers that count (R18, R20)

/-- The registers with RC fields whose reads return the register itself. -/
def countRegs : List RegId :=
  regIds.filter fun id => typeMask .rc id.desc.fields != 0 &&
    !([.INTC_CLAIM, .INTC_FCLAIM, .COURSE_SPRAY_STAT, .COURSE_SPRAY_CNT] : List RegId).contains id

theorem countRegs_eq : countRegs =
    [.GEN_INTEG_CORR, .GEN_INTEG_POISON, .RAFTER_ERR, .INTC_MSG_CNT, .TIME_ONESTEP_SKIP, .LANE_TRAIN_CNT,
      .LANE_PATTERN_ERR, .LANE_PF, .LANE_CAL_CNT, .PORT_DIAG_CNT, .PORT_FEC_CNT, .PORT_FEC_SYM, .PORT_FEC_LANE,
      .PORT_FEC_HIST, .PORT_ADM_DROP, .PORT_LPM_CNT, .COURSE_RX_OVERRUN, .COURSE_SLOW_CNT, .COURSE_SLOW_DROP,
      .COURSE_PARSE_CNT, .TABLE_EM_CNT, .TABLE_EM_ERR, .TABLE_RECIRC_CNT, .TABLE_ACT_CNT, .TABLE_MIRROR_CNT, .QW_CNT,
      .SCHED_PORT_CNT, .LOFT_DROP, .LOFT_ECC, .LOFT_HOST_WAIT, .DMA_CHAN_BYTES, .SEAL_ALARM_LOG, .SEAL_PORT_CNT,
      .SEAL_PORT_ERR] := by decide +kernel

theorem countRegs_followed : ∀ id ∈ countRegs, id ∉ afterRegs := by
  rw [countRegs_eq]
  decide

theorem State.readReg_count {id : RegId} (h : id ∈ countRegs) (s : State) (i : Nat) :
    s.readReg id i = (s.rget id i, s.clearRc id i) := by
  rw [countRegs_eq] at h
  fin_cases h <;> rfl

/-- A read of a whole register other than TIME_NOW_L latches nothing. -/
theorem State.readAt_whole {id : RegId} (h : id ≠ .TIME_NOW_L) (s : State) (i : Nat) :
    s.readAt id i false (id.desc.width / 8) = s.readReg id i := by
  unfold State.readAt
  rcases id.width_cases with hw | hw <;> simp [hw, h]

/-- A served read of a register that counts. -/
theorem countRead_answers {id : RegId} {i : Nat} {s : State} (hi : i < id.count) (hs : s.serves id i = true)
    (hid : id ∈ countRegs) :
    Answers (.rcCounterRead (addrOf id i) (id.desc.width / 8)) s fun t =>
      t.ctResp = some { err := false, data := s.rget id i } ∧
      t.rget id i = s.rget id i &&& ~~~(typeMask .rc id.desc.fields) ∧
      RegsKept (fun a j => afterRegs.contains a || (a == id && j == i)) s t := by
  have ha := State.serves_asserted hs
  have hm : typeMask .rc id.desc.fields ≠ 0 := by
    have h := (List.mem_filter.mp hid).2
    simp only [Bool.and_eq_true, bne_iff_ne] at h
    exact h.1
  have hl : id ≠ .TIME_NOW_L := by rintro rfl; exact absurd rfl hm
  have hn := countRegs_followed id hid
  have hu := State.ctRead_serves hs
  rw [State.readAt_whole hl, State.readReg_count hid] at hu
  have hpf := State.padsFreed_sleep (s := s) (t := s.ctRead id i) (by rw [hu]; exact (s.clearRc_keeps id i).sleep)
  refine answers_done (exec_rcCounterRead hi s) ⟨?_, ?_, RegsKept.after ha hpf fun a j haj => ?_⟩
  · rw [State.after_ctResp _ _ ha hpf, hu]
  · rw [State.after_rget _ _ ha hpf id i hn, hu]
    exact s.clearRc_rget id i rfl hm
  · rw [hu]
    exact s.clearRc_rget_ne id i fun e => by simp [e.1, e.2] at haj

-- The spray registers (R338, R344)

theorem Keeps.sprayed {R : List RegId} {s t : State} (h : Keeps R s t) (hm : .COURSE_PORT_MAP ∉ R) (p : Nat) :
    t.sprayed p = s.sprayed p := by
  have hp : t.paired (p / 4) = s.paired (p / 4) := by rw [State.paired, State.portMap, h.regs _ hm]; rfl
  rw [State.sprayed, State.portSpeed, hp, State.portMap, h.regs _ hm]
  rfl

/-- What a read of a spray register brings up to date first. -/
def State.sprayNow (s : State) (id : RegId) (c : Nat) : State :=
  if id = .COURSE_SPRAY_CNT ∧ c % 2 = 0 then s.holdCycles c else s

theorem State.sprayNow_keeps (s : State) (id : RegId) (c : Nat) : Keeps fifoRegs s (s.sprayNow id c) :=
  .ite (s.holdCycles_keeps c) (.refl s)

theorem State.readReg_spray {id : RegId} (h : id = .COURSE_SPRAY_STAT ∨ id = .COURSE_SPRAY_CNT) (s : State) (c : Nat) :
    s.readReg id c =
      (if c % 2 = 0 ∧ s.sprayed (4 * c) = true then (s.sprayNow id c).rget id c else 0,
        (s.sprayNow id c).clearRc id c) := by
  have hk := (s.sprayNow_keeps id c).sprayed (by decide) (4 * c)
  rcases h with rfl | rfl
  · have e : s.sprayNow .COURSE_SPRAY_STAT c = s := if_neg (by simp)
    simp [State.readReg, State.view, e]
  · have e : (if (c % 2 == 0) = true then s.holdCycles c else s) = s.sprayNow .COURSE_SPRAY_CNT c := by
      simp [State.sprayNow]
    simp only [State.readReg, e, State.view, hk]
    simp

theorem and_not_and (v m : Word) : v &&& ~~~ m &&& m = 0 := by
  rw [BitVec.and_assoc, BitVec.and_comm (~~~ m), BitVec.and_not_self]
  exact BitVec.and_zero

theorem sprayRead_answers {id : RegId} {c : Nat} {s : State} (hi : c < id.count) (hs : s.serves id c = true)
    (hid : id = .COURSE_SPRAY_STAT ∨ id = .COURSE_SPRAY_CNT) :
    Answers (.rcCounterRead (addrOf id c) (id.desc.width / 8)) s fun t =>
      t.ctResp = some { err := false, data :=
        if c % 2 = 0 ∧ s.sprayed (4 * c) = true then (s.sprayNow id c).rget id c else 0 } ∧
      t.rget id c &&& typeMask .rc id.desc.fields = 0 := by
  have ha := State.serves_asserted hs
  have hl : id ≠ .TIME_NOW_L := by rintro rfl; simp at hid
  have hu := State.ctRead_serves hs
  rw [State.readAt_whole hl, State.readReg_spray hid] at hu
  have k := s.sprayNow_keeps id c
  have hpf := State.padsFreed_sleep (s := s) (t := s.ctRead id c)
    (by rw [hu]; exact (State.clearRc_keeps _ id c).sleep.trans k.sleep)
  have hm : typeMask .rc id.desc.fields ≠ 0 := by rcases hid with rfl | rfl <;> decide
  have hclear : (s.ctRead id c).rget id c &&& typeMask .rc id.desc.fields = 0 := by
    have h : (s.ctRead id c).rget id c = ((s.sprayNow id c).clearRc id c).rget id c := by rw [hu]; rfl
    rw [h, State.clearRc_rget _ _ _ rfl hm, and_not_and]
  refine answers_done (exec_rcCounterRead hi s) ⟨?_, ?_⟩
  · rw [State.after_ctResp _ _ ha hpf, hu]
  · rcases hid with rfl | rfl
    · have h := (State.after_trail s _ ha hpf).sprayStat c
      have hmask : typeMask .rc RegId.COURSE_SPRAY_STAT.desc.fields =
          ~~~ 1 &&& typeMask .rc RegId.COURSE_SPRAY_STAT.desc.fields := by decide
      rw [hmask, ← BitVec.and_assoc] at hclear ⊢
      rw [h, hclear]
    · rw [State.after_rget _ _ ha hpf _ _ (by decide), hclear]

end Sys2Proof.Machine

open Sys2Proof Sys2Proof.Machine

/-- Settles O9: a served read is `readReg` and clears what counts; the halves of a register are found at its offset and
four bytes behind it, and no write of a register touches the staging latches. -/
theorem countersClearAndHalvesLatch : Obligations.CountersClearAndHalvesLatch := by
  refine ⟨fun id i s hi hs hm h1 h2 h3 h4 => ?_, fun id c s hs hid => ?_, fun id i v w s hi hs hw => ?_⟩
  · refine countRead_answers hi hs (List.mem_filter.mpr ⟨id.mem_regIds, ?_⟩)
    simpa [h1, h2, h3, h4] using hm
  · have hi : c.val < id.count := by rcases hid with rfl | rfl <;> exact c.isLt
    obtain ⟨t, he, hr, hc⟩ := sprayRead_answers hi hs hid
    refine ⟨t, he, hr.trans ?_, hc⟩
    by_cases h : c.val % 2 = 0 ∧ s.sprayed (4 * c) = true
    · rcases hid with rfl | rfl <;> simp [h, State.sprayNow]
    · simp [h]
  · exact ⟨lowerHalfRead_answers hi hs hw, upperHalfRead_answers hi hs hw, lowerHalfWrite_answers hi hs hw v,
      upperHalfWrite_effect hi hs hw v w⟩
end

section
/-! PROOFS. What the parts of a command leave alone beside the registers: everything but the MACs and the record of
fail-stop. -/

namespace Sys2Proof.Machine

/-- All of a state but its registers, its MACs and the time of the last entry into fail-stop. -/
def State.core (s : State) : State := { s with regs := [], macs := [], faultAt := none }

theorem State.core_part {β : Type} {s t : State} (h : t.core = s.core) (π : State → β)
    (hπ : ∀ u, π u.core = π u := by intro; rfl) : π t = π s := by
  rw [← hπ t, h, hπ s]

@[simp] theorem State.core_rset (s : State) (id : RegId) (i : Nat) (v : Word) : (s.rset id i v).core = s.core := (rfl)

@[simp] theorem State.core_fset (s : State) (id : RegId) (i : Nat) (f : Field) (n : Nat) :
    (s.fset id i f n).core = s.core := (rfl)

@[simp] theorem State.core_flag (s : State) (id : RegId) (i : Nat) (f : Field) : (s.flag id i f).core = s.core := (rfl)

@[simp] theorem State.core_count (s : State) (id : RegId) (i : Nat) (f : Field) : (s.count id i f).core = s.core := (rfl)

theorem State.core_forEach {α : Type} {f : State → α → State} (hf : ∀ u x, (f u x).core = u.core) (s : State)
    (l : List α) : (s.forEach l f).core = s.core := by
  induction l generalizing s with
  | nil => rfl
  | cons x l ih => exact (ih _).trans (hf s x)

theorem State.core_ite {c : Prop} [Decidable c] {s t u : State} (ht : t.core = s.core) (hu : u.core = s.core) :
    (if c then t else u).core = s.core := by split <;> assumption

theorem State.core_stat (s : State) (p k n : Nat) : (s.stat p k n).core = s.core := by
  unfold State.stat
  exact State.core_ite rfl rfl

theorem State.core_statCut (s : State) (p n : Nat) : (s.statCut p n).core = s.core := by
  unfold State.statCut
  exact State.core_ite (s.core_stat p 45 1) ((State.core_stat _ p _ 1).trans (s.core_stat p 45 1))

theorem State.core_onLine (s : State) (p : Nat) (w : List Byte) (b : Bool) : (s.onLine p w b).core = s.core := by
  unfold State.onLine
  exact State.core_ite rfl rfl

theorem State.core_cutPort (s : State) (p : Nat) : (s.cutPort p).core = s.core := by
  have hs (u : State) (c : TxCur) (n : Nat) (w : List Byte) : ((u.onLine p w true).statCut p n).core = u.core :=
    (State.core_statCut _ p n).trans (u.core_onLine p w true)
  unfold State.cutPort
  refine State.core_ite rfl ?_
  dsimp only
  cases (s.mac p).cur <;> cases (s.mac p).held
  · rfl
  · exact State.core_statCut _ p _
  · exact hs _ ‹_› _ _
  · exact (State.core_statCut _ p _).trans (hs _ ‹_› _ _)

theorem State.core_faultRecord (s : State) (c : Cause) (info addr : Nat) (copy : List Byte) :
    (s.faultRecord c info addr copy).core = s.core := by
  have h (u : State) : (u.faultCopy copy).core = u.core := State.core_forEach (fun u i => u.core_rset _ i _) u _
  simp [State.faultRecord, h]

/-- R761 to R768: fail-stop changes the registers and cuts the frames of the MACs. -/
theorem State.core_failStop (s : State) (c : Cause) (info addr : Nat) (copy : List Byte) :
    (s.failStop c info addr copy).core = s.core := by
  cases hf : s.failed with
  | true =>
    rw [State.failStop, if_pos hf]
    exact State.core_ite ((State.core_faultRecord _ _ _ _ _).trans (s.core_flag _ _ _)) (s.core_flag _ _ _)
  | false =>
    rw [State.failStop_eq hf, State.core_forEach State.core_cutPort]
    have h (u : State) (x : Option Nat) : ({ u with faultAt := x } : State).core = u.core := rfl
    simp [State.failEntry, h, State.core_faultRecord]

/-- A fatal cause, found first or later, leaves the block in fail-stop; beside its record and its event it writes the
counters of the frames cut. -/
theorem State.failStop_failed (s : State) (c : Cause) (info addr : Nat) (copy : List Byte) :
    Keeps failRegs s (s.failStop c info addr copy) ∧ (s.failStop c info addr copy).failed = true := by
  cases hf : s.failed with
  | false => exact ⟨(State.failStop_stat hf c info addr copy).1, (State.failStop_stat hf c info addr copy).2.1⟩
  | true =>
    have hk : Keeps failRegs s (s.flag .GEN_FAULT_STAT 0 fGEN_FAULT_STAT_MORE) := (Keeps.refl s).flag 0 _ (by decide)
    have hm : (s.flag .GEN_FAULT_STAT 0 fGEN_FAULT_STAT_MORE).failed = true := by
      rw [← hf, State.failed, State.failed, State.fbit, State.fbit, State.flag,
        State.fget_fset_field _ _ _ _ _ _ _ (by decide)]
    have hr (u : State) (hu : u.failed = true) : (u.faultRecord c info addr copy).failed = true := by
      rw [← hu, State.failed, State.failed, State.fbit, State.fbit, State.fget, State.fget, State.faultRecord_stat,
        Field.get_put_ne _ _ _ _ (by decide)]
    rw [State.failStop, if_pos hf]
    dsimp only
    split
    · exact ⟨hk.trans (State.faultRecord_keeps _ _ _ _ _), hr _ hm⟩
    · exact ⟨hk, hm⟩

end Sys2Proof.Machine
end

section
/-! PROOFS. The ridge PLL and block time (R55, R256, R300 to R303). -/

namespace Sys2Proof.Machine

/-- The passage of time ends that many cycles later, and a counter that has started stays so. -/
theorem State.elapse_stat (s : State) (n : Nat) :
    (s.elapse n).now = s.now + n ∧ (s.elapse n).time.started = s.time.started := by
  unfold State.elapse State.showSlew
  dsimp only
  split
  · split <;> exact ⟨rfl, rfl⟩
  · split <;> exact ⟨rfl, rfl⟩

/-- R256: the first lock starts the counter. -/
theorem State.ridgeLock_first {s : State} (hl : s.time.locked = false) (hs : s.time.started = false) :
    s.ridgeLock = { s with time := { s.time with locked := true, started := true } } := by
  rw [State.ridgeLock, hl, hs]
  rfl

/-- R302: a later lock loads the counter from the coarse counter, at the next edge of refclk_a_i. -/
theorem State.ridgeLock_again {s : State} (hl : s.time.locked = false) (hs : s.time.started = true) :
    s.ridgeLock.time.locked = true ∧
      s.ridgeLock.time.t = (s.elapse (32 - s.now % 32)).time.coarse.add staticPhase ∧ s.ridgeLock.now % 32 = 0 ∧
      s.ridgeLock.fbit .TIME_STAT 0 fTIME_STAT_HOLDOVER = false ∧
      s.ridgeLock.fbit .TIME_EVT 0 fTIME_EVT_RESYNC = true := by
  have hn : (s.elapse (32 - s.now % 32)).now % 32 = 0 := by
    rw [(s.elapse_stat _).1]
    omega
  rw [State.ridgeLock, hl, hs]
  refine ⟨rfl, rfl, hn, ?_, State.fbit_flag_same _ _ _ _ (by decide) (by decide)⟩
  exact (((Keeps.refl (R := [.TIME_EVT]) _).flag 0 fTIME_EVT_RESYNC (by decide)).fbit (by decide) 0 _).trans
    (State.fbit_clear_same _ _ _ _ (by decide))

/-- R303: what a loss of lock shows where TIME is in RUN. -/
def State.holdoverShown (s : State) (time : Bool) : State :=
  if time then (s.flag .TIME_EVT 0 fTIME_EVT_HOLDOVER).flag .TIME_STAT 0 fTIME_STAT_SUSPECT else s

theorem State.ridgeLost_eq {s : State} (hl : s.time.locked = true) :
    s.ridgeLost =
      if (List.range 15).any (fun d => 2 ≤ d && s.dom d ≤ 1) then
        (s.ridgeStop.holdoverShown (s.dom dTIME == 0)).failStop .ridgePll 0 0
      else s.ridgeStop.holdoverShown (s.dom dTIME == 0) := by
  rw [State.ridgeLost, hl]
  rfl

theorem State.holdoverShown_time (s : State) (b : Bool) : (s.holdoverShown b).time = s.time := by cases b <;> rfl

theorem State.holdoverShown_holdover (s : State) (b : Bool) :
    (s.ridgeStop.holdoverShown b).fbit .TIME_STAT 0 fTIME_STAT_HOLDOVER = true := by
  have h : s.ridgeStop.fbit .TIME_STAT 0 fTIME_STAT_HOLDOVER = true :=
    State.fbit_flag_same _ _ _ _ (by decide) (by decide)
  cases b with
  | false => exact h
  | true =>
    have ht : (s.ridgeStop.flag .TIME_EVT 0 fTIME_EVT_HOLDOVER).fbit .TIME_STAT 0 fTIME_STAT_HOLDOVER = true :=
      (((Keeps.refl (R := [.TIME_EVT]) _).flag 0 _ (by decide)).fbit (by decide) 0 _).trans h
    rw [State.holdoverShown, if_pos rfl, State.fbit, State.flag, State.fget_fset_field _ _ _ _ _ _ _ (by decide)]
    exact ht

theorem State.holdoverShown_run (s : State) :
    (s.holdoverShown true).fbit .TIME_EVT 0 fTIME_EVT_HOLDOVER = true ∧
      (s.holdoverShown true).fbit .TIME_STAT 0 fTIME_STAT_SUSPECT = true :=
  ⟨(((Keeps.refl (R := [.TIME_STAT]) _).flag 0 _ (by decide)).fbit (by decide) 0 _).trans
      (State.fbit_flag_same _ _ _ _ (by decide) (by decide)),
    State.fbit_flag_same _ _ _ _ (by decide) (by decide)⟩

/-- R55, R303: a loss of lock leaves time to the coarse counter. -/
theorem State.ridgeLost_time {s : State} (hl : s.time.locked = true) :
    s.ridgeLost.time = { s.time with locked := false } ∧
      s.ridgeLost.fbit .TIME_STAT 0 fTIME_STAT_HOLDOVER = true := by
  let t := s.ridgeStop.holdoverShown (s.dom dTIME == 0)
  have ht : t.time = { s.time with locked := false } := State.holdoverShown_time _ _
  have hh := s.holdoverShown_holdover (s.dom dTIME == 0)
  rw [State.ridgeLost_eq hl]
  split
  · obtain ⟨hk, -⟩ := t.failStop_failed .ridgePll 0 0 []
    exact ⟨(State.core_part (t.core_failStop .ridgePll 0 0 []) (·.time)).trans ht, (hk.fbit (by decide) 0 _).trans hh⟩
  · exact ⟨ht, hh⟩

/-- R55, R303: where TIME is in RUN, the loss of lock is fatal and shows. -/
theorem State.ridgeLost_run {s : State} (hl : s.time.locked = true) (hd : s.dom dTIME = 0) :
    s.ridgeLost.fbit .TIME_EVT 0 fTIME_EVT_HOLDOVER = true ∧
      s.ridgeLost.fbit .TIME_STAT 0 fTIME_STAT_SUSPECT = true ∧ s.ridgeLost.failed = true := by
  have hr : (List.range 15).any (fun d => 2 ≤ d && s.dom d ≤ 1) = true :=
    List.any_eq_true.mpr ⟨dTIME, by decide, by rw [hd]; rfl⟩
  obtain ⟨he, hs⟩ := s.ridgeStop.holdoverShown_run
  obtain ⟨hk, hf⟩ := (s.ridgeStop.holdoverShown true).failStop_failed .ridgePll 0 0 []
  rw [State.ridgeLost_eq hl, if_pos hr, hd]
  exact ⟨(hk.fbit (by decide) 0 _).trans he, (hk.fbit (by decide) 0 _).trans hs, hf⟩

theorem State.ridgeLocks_awake {s : State} (ha : s.bootU.asserted = false) (hp : s.power.sleep = none) :
    s.ridgeLocks = s.ridgeLock := by
  rw [State.ridgeLocks, hp, ha]
  rfl

end Sys2Proof.Machine

open Sys2Proof Sys2Proof.Machine

/-- Settles O59: R55, R256, R300, R302, R303. The ridge PLL's first lock, a later one, and the loss of lock. -/
theorem ridgeLockCarriesTime : Obligations.RidgeLockCarriesTime := by
  unfold Obligations.RidgeLockCarriesTime
  intro s ha
  have lock (hp : s.power.sleep = none) : exec .ridgePllLock s = s.done s.ridgeLock :=
    congrArg s.done (State.ridgeLocks_awake ha hp)
  refine ⟨fun hp hl hs => effect_done (lock hp) ?_, fun hp hl hs => effect_done (lock hp) (State.ridgeLock_again hl hs),
    fun hl => effect_done rfl ?_⟩
  · rw [State.ridgeLock_first hl hs]
    exact ⟨rfl, rfl, rfl⟩
  · obtain ⟨ht, hh⟩ := State.ridgeLost_time hl
    exact ⟨by rw [ht], by rw [ht], by rw [ht], hh, State.ridgeLost_run hl⟩
end

section
/-! PROOFS. Operating points, the regulator and the surge governor (R49, R287, R693 to R701). -/

namespace Sys2Proof.Machine

-- What follows from a command leaves the power controller as the command has left it

section
variable {s t : State} (h : Follows s t)
include h

theorem Follows.part {β : Type} (π : State → β) (hπ : ∀ u, π u.unfollowed = π u := by intro; rfl) : π t = π s := by
  rw [← hπ t, h.rest, hπ s]

theorem Follows.now : t.now = s.now := h.part (·.now)

theorem Follows.change : t.power.change = s.power.change := h.part (·.power.change)

theorem Follows.voltReq : t.power.voltReq = s.power.voltReq := h.part (·.power.voltReq)

theorem Follows.cclk : t.power.cclk = s.power.cclk := h.part (·.power.cclk)

theorem Follows.surge : t.power.surge = s.power.surge := h.part (·.power.surge)

theorem Follows.surgeCur : t.power.surgeCur = s.power.surgeCur := h.part (·.power.surgeCur)

theorem Follows.bucketAt : t.power.bucketAt = s.power.bucketAt := h.part (·.power.bucketAt)

theorem Follows.fget {id : RegId} (hid : id ∉ afterRegs) (i : Nat) (f : Field) : t.fget id i f = s.fget id i f := by
  rw [State.fget, State.fget, h.regs id hid]

theorem Follows.fbit {id : RegId} (hid : id ∉ afterRegs) (i : Nat) (f : Field) : t.fbit id i f = s.fbit id i f := by
  rw [State.fbit, State.fbit, h.fget hid]

theorem Follows.opp : t.opp = s.opp := h.fget (by decide) 0 _

theorem Follows.temp : t.temp = s.temp := congrArg (toSigned 16) (h.fget (by decide) 0 _)

theorem Follows.lockLow : t.lockLow = s.lockLow := h.fbit (by decide) 0 _

theorem Follows.surgePermit : t.surgePermit = s.surgePermit := h.fbit (by decide) 0 _

end

theorem State.after_follows_sleep {s u : State} (hs : s.bootU.asserted = false)
    (hp : u.power.sleep = s.power.sleep) : Follows u (s.after u) :=
  s.after_follows u hs (State.padsFreed_sleep hp)

-- The passage of time, and the spans of frames

/-- All of a state but what the passage of time moves: the counter, and TIME_SLEW_REM among the registers. -/
def State.untimed (s : State) : State := { s with now := 0, time := {}, regs := [] }

theorem State.untimed_elapse (s : State) (n : Nat) : (s.elapse n).untimed = s.untimed := by
  unfold State.elapse State.showSlew
  dsimp only
  split
  · split <;> rfl
  · split <;> rfl

theorem State.elapse_part {β : Type} (π : State → β) (s : State) (n : Nat)
    (hπ : ∀ u, π u.untimed = π u := by intro; rfl) : π (s.elapse n) = π s := by
  rw [← hπ, s.untimed_elapse, hπ]

theorem State.elapseTo_power (s : State) (d : Nat) : (s.elapseTo d).power = s.power := State.elapse_part (·.power) s _

theorem State.elapseTo_adminCur (s : State) (d : Nat) : (s.elapseTo d).adminCur = s.adminCur :=
  State.elapse_part (·.adminCur) s _

theorem State.elapseTo_now (s : State) (d : Nat) : (s.elapseTo d).now = max s.now d := (s.elapseTo_keeps d).now

theorem State.elapseTo_fget (s : State) (d : Nat) {id : RegId} (h : id ∉ [RegId.TIME_SLEW_REM]) (i : Nat) (f : Field) :
    (s.elapseTo d).fget id i f = s.fget id i f := (s.elapseTo_keeps d).fget h i f

/-- What an operation keeps of a state at each element of a list, it keeps over the list. -/
theorem State.forEach_same {α β : Type} {π : State → β} {f : State → α → State} (hf : ∀ u x, π (f u x) = π u) (s : State)
    (l : List α) : π (s.forEach l f) = π s := by
  induction l generalizing s with
  | nil => rfl
  | cons x l ih => exact (ih _).trans (hf s x)

/-- All of a state but its MACs and the seal port, where the frames launched are. -/
def State.unlaunched (s : State) : State := { s with macs := [], sealU := {} }

theorem State.unlaunched_modLaunched (s : State) (f : TxCur → TxCur) : (s.modLaunched f).unlaunched = s.unlaunched := by
  have sealed (u : State) (l : List SealOut) : (u.setSealTx l).unlaunched = u.unlaunched := rfl
  unfold State.modLaunched
  refine (sealed _ _).trans ?_
  refine State.forEach_same (π := State.unlaunched) (fun u p => ?_) s _
  rfl

theorem State.modLaunched_part {β : Type} (π : State → β) (s : State) (f : TxCur → TxCur)
    (hπ : ∀ u, π u.unlaunched = π u := by intro; rfl) : π (s.modLaunched f) = π s := by
  rw [← hπ, s.unlaunched_modLaunched, hπ]

-- Changes of the operating point


/-- R694: the change is over. -/
def State.changeEnded (s : State) : State :=
  (s.modPower fun p => { p with change := none }).fset .POWER_STAT 0 fPOWER_STAT_CHANGING 0

/-- R695: the command that waits for a change that fails completes. -/
def State.cmdFailed (s : State) (ch : OppChange) (ok : Bool) : State :=
  if ch.cmd && !ok && s.powerCmd.isSome then s.endDoze.finishCur aFailed 1 0 0 else s

/-- R695: the former request of a raise that fails returns. -/
def State.raiseUndone (s : State) (ch : OppChange) (ok : Bool) : State :=
  if ch.raising && !ok then s.voltReturn ch.former else s

theorem State.oppEnd_eq (s : State) (ch : OppChange) (ok : Bool) :
    s.oppEnd ch ok = ((s.changeEnded.cmdFailed ch ok).raiseUndone ch ok).ceilingGo.powerGo := rfl

theorem State.powerCmd_congr {s t : State} (h : t.adminCur = s.adminCur) : t.powerCmd = s.powerCmd := by
  rw [State.powerCmd, State.powerCmd, h]

theorem State.voltReturn_same (s : State) (v : Nat) :
    (s.voltReturn v).adminCur = s.adminCur ∧ (s.voltReturn v).power.ceiling = s.power.ceiling := by
  unfold State.voltReturn
  split <;> exact ⟨rfl, rfl⟩

/-- The end of a change where no command and no ceiling waits for it. -/
theorem State.oppEnd_quiet {s : State} (hc : s.powerCmd = none) (hl : s.power.ceiling = none) (ch : OppChange)
    (ok : Bool) : s.oppEnd ch ok = s.changeEnded.raiseUndone ch ok := by
  have quiet {u : State} (ha : u.adminCur = s.adminCur) (hu : u.power.ceiling = none) : u.ceilingGo.powerGo = u := by
    have hg : u.ceilingGo = u := by rw [State.ceilingGo, hu]
    have hp : u.powerCmd = none := (State.powerCmd_congr ha).trans hc
    rw [hg, State.powerGo, hp]
  have hf : s.changeEnded.cmdFailed ch ok = s.changeEnded := by
    have hp : s.changeEnded.powerCmd = none := hc
    simp [State.cmdFailed, hp]
  rw [State.oppEnd_eq, hf]
  unfold State.raiseUndone
  split
  · exact quiet (State.voltReturn_same _ _).1 ((State.voltReturn_same _ _).2.trans hl)
  · exact quiet rfl hl

theorem State.changeEnded_now (s : State) : s.changeEnded.now = s.now := rfl

theorem State.changeEnded_power (s : State) : s.changeEnded.power = { s.power with change := none } := rfl

theorem State.changeEnded_stat (s : State) :
    s.changeEnded.fbit .POWER_STAT 0 fPOWER_STAT_CHANGING = false ∧ s.changeEnded.opp = s.opp :=
  ⟨State.fbit_clear_same _ _ _ _ (by decide), State.fget_fset_field _ _ _ _ _ _ _ (by decide)⟩

/-- R695: the former request returns, and its handshake follows. -/
theorem State.voltReturn_stat {s : State} (hc : s.power.change = none) (v : Nat)
    (hb : s.fbit .POWER_STAT 0 fPOWER_STAT_CHANGING = false) :
    (s.voltReturn v).power.change = (if s.power.voltReq = v then none else some
        { target := s.opp, former := s.power.voltReq, raising := false, step := .ack, cmd := false, start := s.now }) ∧
      (s.voltReturn v).fbit .POWER_STAT 0 fPOWER_STAT_CHANGING = (s.voltReturn v).power.change.isSome ∧
      (s.voltReturn v).power.voltReq = v ∧ (s.voltReturn v).now = s.now ∧
      Keeps [.POWER_STAT] s (s.voltReturn v) := by
  unfold State.voltReturn
  by_cases hv : s.power.voltReq = v
  · rw [if_pos (beq_iff_eq.mpr hv), if_pos hv, hb, hc]
    exact ⟨rfl, rfl, hv, rfl, .refl s⟩
  · rw [if_neg (by simpa using hv), if_neg hv]
    exact ⟨rfl, State.fbit_flag_same _ _ _ _ (by decide) (by decide), rfl, rfl,
      ((Keeps.refl s).raw (u := s.modPower _) rfl rfl).flag 0 _ (by decide)⟩

theorem State.oppEnd_done {s : State} (hc : s.powerCmd = none) (hl : s.power.ceiling = none) (ch : OppChange)
    : s.oppEnd ch true = s.changeEnded := by
  rw [State.oppEnd_quiet hc hl, State.raiseUndone, Bool.not_true, Bool.and_false]
  rfl

/-- R695: what becomes of a change whose handshake is late. -/
theorem State.raiseUndone_stat {s : State} (ch : OppChange) (hc : s.power.change = none)
    (hb : s.fbit .POWER_STAT 0 fPOWER_STAT_CHANGING = false) :
    (s.raiseUndone ch false).power.change =
        ((some ch).filter fun c => c.raising && s.power.voltReq != c.former).map (fun _ =>
          { target := s.opp, former := s.power.voltReq, raising := false, step := .ack, cmd := false, start := s.now }) ∧
      (s.raiseUndone ch false).fbit .POWER_STAT 0 fPOWER_STAT_CHANGING =
        (s.raiseUndone ch false).power.change.isSome ∧
      (s.raiseUndone ch false).power.voltReq = (if ch.raising then ch.former else s.power.voltReq) ∧
      Keeps [.POWER_STAT] s (s.raiseUndone ch false) := by
  cases hr : ch.raising with
  | false =>
    have h : s.raiseUndone ch false = s := by rw [State.raiseUndone, hr]; rfl
    rw [h, hb, hc]
    exact ⟨by simp [Option.filter, hr], rfl, rfl, .refl s⟩
  | true =>
    obtain ⟨h1, h2, h3, -, hk⟩ := State.voltReturn_stat hc ch.former hb
    rw [State.raiseUndone, hr]
    refine ⟨?_, h2, h3, hk⟩
    rw [Bool.not_false, Bool.and_self, if_pos rfl, h1]
    by_cases hv : s.power.voltReq = ch.former <;> simp [Option.filter, hr, hv]

section
variable {s : State} {ch : OppChange} (hc : s.power.change = some ch)
include hc

/-- R694: the handshake of a rising change lets its divisor go. -/
theorem State.voltAck_rising (hs : ch.step = .ack) (hr : ch.raising = true) :
    s.voltAck = s.modPower fun p => { p with change := some { ch with step := .divisor } } := by
  rw [State.voltAck, hc]
  simp only [hs, hr, if_true]

theorem State.voltAck_falling (hs : ch.step = .ack) (hr : ch.raising = false) : s.voltAck = s.oppEnd ch true := by
  rw [State.voltAck, hc]
  simp only [hs, hr, if_true, Bool.false_eq_true, if_false]

theorem State.vregTimeout_eq (hs : ch.step = .ack) :
    s.vregTimeout = ((s.elapseTo (ch.start + s.fget .POWER_CFG 0 fPOWER_CFG_VREG_TIMEOUT * usCycles)).flag .POWER_EVT 0
      fPOWER_EVT_VREG_TIMEOUT).oppEnd ch false := by
  rw [State.vregTimeout, hc]
  simp only [hs, if_true]

end

/-- R694: the divisor and POWER_STAT.OPP take the values of point o. -/
def State.redivided (s : State) (o : Nat) : State :=
  ((s.setDivisor (oppDiv o)).fset .POWER_STAT 0 fPOWER_STAT_OPP o).fset .TIME_STAT 0 fTIME_STAT_CCLK_HOLD 0

/-- R287: the spans of the frames that are not one-step contain the change, once those of one-step frames have ended. -/
def State.spansCrossed (s : State) : State :=
  let s := s.elapseTo s.spansEnd
  s.modLaunched (fun c => if !c.one && c.inSpan s.now then { c with crossed := true } else c)

/-- R694: the handshake of a falling change begins. -/
def State.fallingAck (s : State) (ch : OppChange) : State :=
  s.modPower fun p =>
    { p with voltReq := oppVolt ch.target, change := some { ch with step := .ack, start := s.now } }

theorem State.fallingAck_now (s : State) (ch : OppChange) : (s.fallingAck ch).now = s.now := rfl

theorem State.fallingAck_opp (s : State) (ch : OppChange) : (s.fallingAck ch).opp = s.opp := rfl

theorem State.fallingAck_power (s : State) (ch : OppChange) :
    (s.fallingAck ch).power =
      { s.power with voltReq := oppVolt ch.target, change := some { ch with step := .ack, start := s.now } } := rfl

theorem State.divisorChange_eq {s : State} {ch : OppChange} (hc : s.power.change = some ch) (hs : ch.step = .divisor) :
    s.divisorChange =
      if ch.raising then (s.spansCrossed.redivided ch.target).oppEnd ch true
      else (s.spansCrossed.redivided ch.target).fallingAck ch := by
  rw [State.divisorChange, hc]
  simp only [hs, if_true]
  rfl

theorem State.spansCrossed_stat (s : State) :
    s.spansCrossed.now = max s.now s.spansEnd ∧ s.spansCrossed.power = s.power ∧
      s.spansCrossed.adminCur = s.adminCur :=
  ⟨(State.modLaunched_part (·.now) _ _).trans (s.elapseTo_now _),
    (State.modLaunched_part (·.power) _ _).trans (s.elapseTo_power _),
    (State.modLaunched_part (·.adminCur) _ _).trans (s.elapseTo_adminCur _)⟩

theorem State.redivided_stat (s : State) {o : Nat} (ho : o < 4) :
    (s.redivided o).now = s.now ∧ (s.redivided o).opp = o ∧ (s.redivided o).adminCur = s.adminCur ∧
      (s.redivided o).power.cclk = oppDiv o ∧ (s.redivided o).power.ceiling = s.power.ceiling ∧
      (s.redivided o).power.sleep = s.power.sleep := by
  have hopp : (s.redivided o).opp = o % 2 ^ fPOWER_STAT_OPP.w :=
    (((Keeps.refl (R := [.TIME_STAT]) _).fset 0 _ 0 (by decide)).fget (by decide) 0 _).trans
      (State.fget_fset_same _ _ _ _ _ (by decide))
  exact ⟨rfl, hopp.trans (Nat.mod_eq_of_lt ho), rfl, rfl, rfl, rfl⟩

-- The four commands of a change

theorem voltAck_rising_answers {s : State} (hs : s.bootU.asserted = false)
    (hc : s.power.change.any (fun c => c.step == .ack && c.raising) = true) :
    Answers .voltAck s fun t =>
      t.power.change = s.power.change.map (fun c => { c with step := .divisor }) ∧ t.opp = s.opp ∧
        t.power.voltReq = s.power.voltReq := by
  obtain ⟨ch, he, hc⟩ := (Option.any_eq_true _ _).mp hc
  obtain ⟨hk, hr⟩ := Bool.and_eq_true_iff.mp hc
  have hu := State.voltAck_rising he (beq_iff_eq.mp hk) hr
  have k := State.after_follows_sleep (u := s.voltAck) hs (by rw [hu]; rfl)
  refine answers_done rfl ⟨?_, ?_, ?_⟩
  · rw [k.change, hu, he]; rfl
  · rw [k.opp, hu]; rfl
  · rw [k.voltReq, hu]; rfl

section
variable {s : State} (hs : s.bootU.asserted = false) (hp : s.powerCmd = none) (hl : s.power.ceiling = none)
include hs hp hl

theorem voltAck_falling_answers (hc : s.power.change.any (fun c => c.step == .ack && !c.raising) = true) :
    Answers .voltAck s fun t =>
      t.power.change = none ∧ t.fbit .POWER_STAT 0 fPOWER_STAT_CHANGING = false ∧ t.opp = s.opp := by
  obtain ⟨ch, he, hc⟩ := (Option.any_eq_true _ _).mp hc
  obtain ⟨hk, hr⟩ := Bool.and_eq_true_iff.mp hc
  have hu := (State.voltAck_falling he (beq_iff_eq.mp hk) (by simpa using hr)).trans (State.oppEnd_done hp hl ch)
  have k := State.after_follows_sleep (u := s.voltAck) hs (by rw [hu]; rfl)
  obtain ⟨hg, ho⟩ := s.changeEnded_stat
  refine answers_done rfl ⟨?_, ?_, ?_⟩
  · rw [k.change, hu]; rfl
  · rw [k.fbit (by decide), hu, hg]
  · rw [k.opp, hu, ho]

theorem vregTimeout_answers (hc : s.power.change.any (fun c => c.step == .ack) = true) :
    Answers .vregTimeout s fun t =>
      t.fbit .POWER_EVT 0 fPOWER_EVT_VREG_TIMEOUT = true ∧
      t.power.change = (s.power.change.filter (fun c => c.raising && s.power.voltReq != c.former)).map (fun _ =>
        { target := s.opp, former := s.power.voltReq, raising := false, step := .ack, cmd := false, start := t.now }) ∧
      t.fbit .POWER_STAT 0 fPOWER_STAT_CHANGING = t.power.change.isSome ∧
      some t.now = s.power.change.map (fun c =>
        max s.now (c.start + s.fget .POWER_CFG 0 fPOWER_CFG_VREG_TIMEOUT * usCycles)) ∧
      some t.power.voltReq = s.power.change.map (fun c => if c.raising then c.former else s.power.voltReq) := by
  obtain ⟨ch, he, hk⟩ := (Option.any_eq_true _ _).mp hc
  let e := s.elapseTo (ch.start + s.fget .POWER_CFG 0 fPOWER_CFG_VREG_TIMEOUT * usCycles)
  let v := e.flag .POWER_EVT 0 fPOWER_EVT_VREG_TIMEOUT
  have hv : v.power = s.power := s.elapseTo_power _
  have hcmd : v.powerCmd = none := (State.powerCmd_congr (s.elapseTo_adminCur _)).trans hp
  have hopp : v.opp = s.opp :=
    (((Keeps.refl (R := [.POWER_EVT]) e).flag 0 _ (by decide)).fget (by decide) 0 _).trans
      (s.elapseTo_fget _ (by decide) 0 _)
  have hu : s.vregTimeout = v.changeEnded.raiseUndone ch false :=
    (State.vregTimeout_eq he (beq_iff_eq.mp hk)).trans (State.oppEnd_quiet hcmd (hv ▸ hl) ch false)
  obtain ⟨h1, h2, h3, hkeep⟩ := State.raiseUndone_stat (s := v.changeEnded) ch rfl v.changeEnded_stat.1
  have hev : v.changeEnded.power.voltReq = s.power.voltReq := congrArg (·.voltReq) hv
  have hn : s.vregTimeout.now = max s.now (ch.start + s.fget .POWER_CFG 0 fPOWER_CFG_VREG_TIMEOUT * usCycles) := by
    rw [hu, hkeep.now]
    exact s.elapseTo_now _
  have k := State.after_follows_sleep (u := s.vregTimeout) hs (by rw [hu, hkeep.sleep]; exact congrArg (·.sleep) hv)
  refine answers_done rfl ⟨?_, ?_, ?_, ?_, ?_⟩
  · rw [k.fbit (by decide), hu, hkeep.fbit (by decide)]
    exact (((Keeps.refl (R := [.POWER_STAT]) v).raw (u := v.modPower _) rfl rfl).fset 0 _ 0 (by decide)).fbit (by decide)
      0 _ |>.trans (State.fbit_flag_same _ _ _ _ (by decide) (by decide))
  · rw [k.change, k.now, hu, h1, hkeep.now, hev, v.changeEnded_stat.2, hopp, he]
  · rw [k.fbit (by decide), k.change, hu, h2]
  · rw [k.now, hn, he]; rfl
  · rw [k.voltReq, hu, h3, hev, he]; rfl

omit hs in
theorem State.divisorChange_rising {ch : OppChange} (he : s.power.change = some ch) (hk : ch.step = .divisor)
    (hr : ch.raising = true) (ht : ch.target < 4) :
    s.divisorChange = (s.spansCrossed.redivided ch.target).changeEnded := by
  obtain ⟨-, xp, xa⟩ := s.spansCrossed_stat
  obtain ⟨-, -, da, -, dl, -⟩ := s.spansCrossed.redivided_stat ht
  rw [State.divisorChange_eq he hk, hr, if_pos rfl,
    State.oppEnd_done ((State.powerCmd_congr (da.trans xa)).trans hp) (by rw [dl, xp, hl])]

omit hs hp hl in
theorem State.divisorChange_falling {ch : OppChange} (he : s.power.change = some ch) (hk : ch.step = .divisor)
    (hr : ch.raising = false) : s.divisorChange = (s.spansCrossed.redivided ch.target).fallingAck ch := by
  rw [State.divisorChange_eq he hk, if_neg (by simp [hr])]

theorem divisorChange_answers (hc : s.power.change.any (fun c => c.step == .divisor && decide (c.target < 4)) = true) :
    Answers .cclkDivisorChange s fun t =>
      t.now = max s.now s.spansEnd ∧ some t.opp = s.power.change.map (·.target) ∧
      some t.power.cclk = s.power.change.map (fun c => oppDiv c.target) ∧
      if s.power.change.any (·.raising) = true then t.power.change = none
      else some t.power.voltReq = s.power.change.map (fun c => oppVolt c.target) ∧
        t.power.change = s.power.change.map (fun c => { c with step := .ack, start := t.now }) := by
  obtain ⟨ch, he, hc⟩ := (Option.any_eq_true _ _).mp hc
  obtain ⟨hk, ht⟩ := Bool.and_eq_true_iff.mp hc
  obtain ⟨xn, xp, -⟩ := s.spansCrossed_stat
  obtain ⟨dn, dopp, -, dc, -, dsl⟩ := s.spansCrossed.redivided_stat (of_decide_eq_true ht)
  cases hr : ch.raising with
  | true =>
    have hu := State.divisorChange_rising hp hl he (beq_iff_eq.mp hk) hr (of_decide_eq_true ht)
    have k := State.after_follows_sleep (u := s.divisorChange) hs (by rw [hu, State.changeEnded_power, dsl, xp])
    refine answers_done rfl ⟨?_, ?_, ?_, ?_⟩
    · rw [k.now, hu, State.changeEnded_now, dn, xn]
    · rw [k.opp, hu, (State.changeEnded_stat _).2, dopp, he, Option.map_some]
    · rw [k.cclk, hu, State.changeEnded_power, dc, he, Option.map_some]
    · rw [he, Option.any_some, hr, if_pos rfl, k.change, hu, State.changeEnded_power]
  | false =>
    have hu := State.divisorChange_falling he (beq_iff_eq.mp hk) hr
    have k := State.after_follows_sleep (u := s.divisorChange) hs (by rw [hu, State.fallingAck_power, dsl, xp])
    refine answers_done rfl ⟨?_, ?_, ?_, ?_⟩
    · rw [k.now, hu, State.fallingAck_now, dn, xn]
    · rw [k.opp, hu, State.fallingAck_opp, dopp, he, Option.map_some]
    · rw [k.cclk, hu, State.fallingAck_power, dc, he, Option.map_some]
    · rw [he, Option.any_some, hr, if_neg (by decide), k.voltReq, k.change, k.now, hu, State.fallingAck_power,
        State.fallingAck_now, Option.map_some, Option.map_some]
      exact ⟨rfl, rfl⟩

end

end Sys2Proof.Machine
end

section
/-! PROOFS. The governor: samples of the temperature, the surge time and its buckets (R697 to R701, R806, R807). -/

namespace Sys2Proof.Machine

/-- What the governor's ceiling writes. -/
def ceilingRegs : List RegId := [.POWER_STAT, .POWER_THERM_EVT, .TIME_STAT]

theorem State.modPower_keeps {R : List RegId} (s : State) {f : PowerUnit → PowerUnit}
    (hf : (f s.power).sleep = s.power.sleep) : Keeps R s (s.modPower f) :=
  (Keeps.refl s).raw (by unfold State.modPower State.spine; dsimp only; rw [hf]) rfl

theorem State.finishCur_keeps (R : List RegId) (s : State) (st d r0 r1 : Nat) : Keeps R s (s.finishCur st d r0 r1) := by
  unfold State.finishCur
  split
  · exact .refl s
  · exact (Keeps.refl s).raw rfl rfl

theorem State.oppStart_keeps (s : State) (o : Nat) (cmd : Bool) : Keeps ceilingRegs s (s.oppStart o cmd) :=
  (s.modPower_keeps rfl).flag 0 _ (by decide)

theorem State.voltReturn_keeps (s : State) (v : Nat) : Keeps ceilingRegs s (s.voltReturn v) :=
  .ite (.refl s) ((s.modPower_keeps rfl).flag 0 _ (by decide))

theorem State.govLower_keeps (s : State) (o : Nat) : Keeps ceilingRegs s (s.govLower o) :=
  .trans (.ite ((Keeps.refl s).flag 0 _ (by decide)) (.refl s)) (State.oppStart_keeps _ o false)

/-- R699 to R701: a ceiling moves the operating point alone. -/
theorem State.ceilTo_keeps (s : State) (o : Nat) : Keeps ceilingRegs s (s.ceilTo o) := by
  have later : Keeps ceilingRegs s (s.ceilLater o) := s.modPower_keeps rfl
  unfold State.ceilTo
  split
  · split
    · exact .ite later (.refl s)
    · exact .refl s
  · split
    · exact .ite (s.govLower_keeps o) (.refl s)
    · have hd : Keeps ceilingRegs s
          (((s.modPower fun p => { p with change := none }).fset .POWER_STAT 0 fPOWER_STAT_CHANGING 0).fset .TIME_STAT 0
            fTIME_STAT_CCLK_HOLD 0) := ((s.modPower_keeps rfl).fset 0 _ _ (by decide)).fset 0 _ _ (by decide)
      have he (u : State) : Keeps ceilingRegs u (u.endDoze.finishCur aWrongState 0 0 0) :=
        ((u.modPower_keeps rfl).fset 0 _ 0 (by decide)).trans (State.finishCur_keeps _ _ _ _ _ _)
      have hf := hd.trans (.ite (c := (‹OppChange›).cmd = true) (he _) (.refl _))
      exact .ite (.ite (hf.trans (State.oppStart_keeps _ _ _)) (hf.trans (State.voltReturn_keeps _ _)))
        (.ite later (.refl s))

/-- R699, R700: where nothing changes, a ceiling below the operating point starts a change. -/
theorem State.ceilTo_lowers {s : State} {o : Nat} (hs : s.power.sleep = none) (hc : s.power.change = none)
    (ho : s.opp < o) : s.ceilTo o = s.govLower o := by
  have hr : s.resting = false := by rw [State.resting, hs]
  rw [State.ceilTo, hr, if_neg (by decide), hc]
  exact if_pos ho

theorem State.govLower_stat (s : State) (o : Nat) :
    (s.govLower o).power.change.map (·.target) = some o ∧
      (s.govLower o).fbit .POWER_STAT 0 fPOWER_STAT_CHANGING = true ∧ (s.govLower o).power.surge = s.power.surge ∧
      (s.opp = 0 → (s.govLower o).fbit .POWER_THERM_EVT 0 fPOWER_THERM_EVT_GOV_STEP = true) := by
  let g := if s.opp == 0 then s.flag .POWER_THERM_EVT 0 fPOWER_THERM_EVT_GOV_STEP else s
  have hg : g.power = s.power := by
    unfold g
    split <;> rfl
  refine ⟨rfl, State.fbit_flag_same _ _ _ _ (by decide) (by decide), congrArg (·.surge) hg, fun ho => ?_⟩
  have hk : Keeps [.POWER_STAT] g (g.oppStart o false) := (g.modPower_keeps rfl).flag 0 _ (by decide)
  have he : g = s.flag .POWER_THERM_EVT 0 fPOWER_THERM_EVT_GOV_STEP := if_pos (by rw [ho]; rfl)
  exact (hk.fbit (by decide) 0 _).trans (he ▸ State.fbit_flag_same _ _ _ _ (by decide) (by decide))

-- PERMIT

/-- TEMP as the register shows it. -/
def State.tempCode (s : State) : Nat := s.fget .POWER_THERM_STAT 0 fPOWER_THERM_STAT_TEMP

/-- R699: PERMIT follows TEMP and U. -/
theorem State.permit_stat (s : State) :
    Keeps [.POWER_THERM_EVT, .POWER_THERM_STAT] s s.permit ∧ s.permit.power = s.power ∧ s.permit.tempCode = s.tempCode ∧
      s.permit.lockLow = s.lockLow ∧
      s.permit.surgePermit = (decide (s.temp < 380) && decide (s.surgeUsed < surgeLimit)) := by
  let b := decide (s.temp < 380) && decide (s.surgeUsed < surgeLimit)
  let g := if b && !s.surgePermit then s.flag .POWER_THERM_EVT 0 fPOWER_THERM_EVT_PERMIT else s
  have hg : Keeps [.POWER_THERM_EVT] s g := .ite ((Keeps.refl s).flag 0 _ (by decide)) (.refl s)
  have hp : g.power = s.power := by
    unfold g
    split <;> rfl
  have he : s.permit = g.fset .POWER_THERM_STAT 0 fPOWER_THERM_STAT_PERMIT b.toNat := rfl
  rw [he]
  refine ⟨(hg.mono (by decide)).fset 0 _ _ (by decide), hp, ?_, ?_, ?_⟩
  · rw [State.tempCode, State.tempCode, State.fget_fset_field _ _ _ _ _ _ _ (by decide), hg.fget (by decide)]
  · rw [State.lockLow, State.lockLow, State.fbit, State.fget_fset_field _ _ _ _ _ _ _ (by decide), ← State.fbit,
      hg.fbit (by decide)]
  · rw [State.surgePermit, State.fbit, State.fget_fset_same _ _ _ _ _ (by decide)]
    change _ = b
    cases b <;> rfl

/-- R697, R699: a sample v is shown, and PERMIT follows. -/
def State.sampled (s : State) (v : Nat) : State := (s.fset .POWER_THERM_STAT 0 fPOWER_THERM_STAT_TEMP v).permit

theorem State.sampled_stat (s : State) {v : Nat} (hv : v < 2 ^ 16) :
    Keeps [.POWER_THERM_EVT, .POWER_THERM_STAT] s (s.sampled v) ∧ (s.sampled v).power = s.power ∧
      (s.sampled v).tempCode = v ∧ (s.sampled v).lockLow = s.lockLow ∧
      (s.sampled v).surgePermit = (decide (toSigned 16 v < 380) && decide (s.surgeUsed < surgeLimit)) := by
  let x := s.fset .POWER_THERM_STAT 0 fPOWER_THERM_STAT_TEMP v
  have ht : x.tempCode = v := (State.fget_fset_same _ _ _ _ _ (by decide)).trans (Nat.mod_eq_of_lt hv)
  have hx : x.temp = toSigned 16 v := congrArg (toSigned 16) ht
  have hl : x.lockLow = s.lockLow := by
    rw [State.lockLow, State.lockLow, State.fbit, State.fget_fset_field _ _ _ _ _ _ _ (by decide), ← State.fbit]
  obtain ⟨hk, hp, hpt, hpl, hpp⟩ := x.permit_stat
  exact ⟨((Keeps.refl s).fset 0 _ v (by decide)).trans hk, hp, hpt.trans ht, hpl.trans hl, by rw [← hx]; exact hpp⟩

/-- R700: a critical sample locks the block at LOW. -/
def State.critical (s : State) (was : Int) : State :=
  (if was < 448 then s.flag .POWER_THERM_EVT 0 fPOWER_THERM_EVT_CRIT else s).flag .POWER_THERM_STAT 0
    fPOWER_THERM_STAT_LOCK_LOW

theorem State.critical_stat (s : State) (was : Int) :
    Keeps [.POWER_THERM_EVT, .POWER_THERM_STAT] s (s.critical was) ∧ (s.critical was).power = s.power ∧
      (s.critical was).tempCode = s.tempCode ∧ (s.critical was).lockLow = true ∧
      (s.critical was).surgePermit = s.surgePermit := by
  let g := if was < 448 then s.flag .POWER_THERM_EVT 0 fPOWER_THERM_EVT_CRIT else s
  have hg : Keeps [.POWER_THERM_EVT] s g := .ite ((Keeps.refl s).flag 0 _ (by decide)) (.refl s)
  have hp : g.power = s.power := by
    unfold g
    split <;> rfl
  have he : s.critical was = g.fset .POWER_THERM_STAT 0 fPOWER_THERM_STAT_LOCK_LOW 1 := rfl
  refine ⟨(hg.mono (by decide)).flag 0 _ (by decide), hp, ?_, State.fbit_flag_same _ _ _ _ (by decide) (by decide), ?_⟩
  · rw [he, State.tempCode, State.tempCode, State.fget_fset_field _ _ _ _ _ _ _ (by decide), hg.fget (by decide)]
  · rw [he, State.surgePermit, State.surgePermit, State.fbit, State.fget_fset_field _ _ _ _ _ _ _ (by decide),
      ← State.fbit, hg.fbit (by decide)]

theorem State.thermSample_eq (s : State) {v : Nat} (hv : v < 2 ^ 16) :
    s.thermSample v =
      if 448 ≤ toSigned 16 v then ((s.sampled v).critical s.temp).ceilTo 3
      else if 400 ≤ toSigned 16 v then (s.sampled v).ceilTo 1
      else s.sampled v := by
  obtain ⟨-, -, ht, -⟩ := s.sampled_stat hv
  have hT : (s.sampled v).temp = toSigned 16 v := congrArg (toSigned 16) ht
  rw [← hT]
  rfl

/-- R697, R806: TEMP takes the highest of the sites' readings. -/
theorem State.thermSites_eq (s : State) {sites : List (Option Int)} (h : sites ≠ []) :
    s.thermSites sites =
      s.thermSample (ofSigned 16
        (((sites.zipIdx.map (fun x => siteValue (x.1.map (· + s.siteTrim x.2)))).max?).getD 0)) := by
  have hl : sites.zipIdx.map (fun x => siteValue (x.1.map (· + s.siteTrim x.2))) ≠ [] := by simpa using h
  rw [State.thermSites]
  generalize sites.zipIdx.map (fun x => siteValue (x.1.map (· + s.siteTrim x.2))) = l at hl
  cases l with
  | nil => exact absurd rfl hl
  | cons a l => rfl

/-- R697 to R700: what a sample v leaves. -/
theorem State.thermSample_stat (s : State) {v : Nat} (hv : v < 2 ^ 16) :
    (s.thermSample v).power.sleep = s.power.sleep ∧ (s.thermSample v).tempCode = v ∧
      (s.thermSample v).lockLow = (decide (448 ≤ toSigned 16 v) || s.lockLow) ∧
      (s.thermSample v).surgePermit = (decide (toSigned 16 v < 380) && decide (s.surgeUsed < surgeLimit)) := by
  obtain ⟨-, hp, ht, hl, hu⟩ := s.sampled_stat hv
  have low (u : State) (o : Nat) : (u.ceilTo o).power.sleep = u.power.sleep ∧ (u.ceilTo o).tempCode = u.tempCode ∧
      (u.ceilTo o).lockLow = u.lockLow ∧ (u.ceilTo o).surgePermit = u.surgePermit :=
    have k := u.ceilTo_keeps o
    ⟨k.sleep, k.fget (by decide) 0 _, k.fbit (by decide) 0 _, k.fbit (by decide) 0 _⟩
  rw [State.thermSample_eq s hv]
  by_cases h1 : 448 ≤ toSigned 16 v
  · obtain ⟨-, cp, ct, cl, cu⟩ := (s.sampled v).critical_stat s.temp
    obtain ⟨a, b, c, d⟩ := low ((s.sampled v).critical s.temp) 3
    rw [if_pos h1, a, b, c, d, cp, ct, cl, cu, hp, ht, hu, decide_eq_true h1]
    exact ⟨rfl, rfl, rfl, rfl⟩
  · rw [if_neg h1, decide_eq_false h1, Bool.false_or]
    split
    · obtain ⟨a, b, c, d⟩ := low (s.sampled v) 1
      rw [a, b, c, d]
      exact ⟨congrArg (·.sleep) hp, ht, hl, hu⟩
    · exact ⟨congrArg (·.sleep) hp, ht, hl, hu⟩

/-- R699, R700: the point to which a hot sample lowers the block. -/
theorem State.thermSample_lowers {s : State} {v : Nat} (hv : v < 2 ^ 16) (hs : s.power.sleep = none)
    (hc : s.power.change = none) :
    (448 ≤ toSigned 16 v → s.opp < 3 →
      (s.thermSample v).power.change.map (·.target) = some 3 ∧
        (s.thermSample v).fbit .POWER_STAT 0 fPOWER_STAT_CHANGING = true) ∧
    (400 ≤ toSigned 16 v → toSigned 16 v < 448 → s.opp = 0 →
      (s.thermSample v).power.change.map (·.target) = some 1 ∧
        (s.thermSample v).fbit .POWER_THERM_EVT 0 fPOWER_THERM_EVT_GOV_STEP = true) := by
  obtain ⟨hk, hp, -⟩ := s.sampled_stat hv
  have ho : (s.sampled v).opp = s.opp := hk.fget (by decide) 0 _
  rw [State.thermSample_eq s hv]
  refine ⟨fun h1 h2 => ?_, fun h1 h2 h3 => ?_⟩
  · obtain ⟨ck, cp, -⟩ := (s.sampled v).critical_stat s.temp
    have co : ((s.sampled v).critical s.temp).opp = s.opp := (ck.fget (by decide) 0 _).trans ho
    have hl := State.ceilTo_lowers (s := (s.sampled v).critical s.temp) (o := 3) (by rw [cp, hp, hs]) (by rw [cp, hp, hc])
      (by rw [co]; exact h2)
    obtain ⟨g1, g2, -⟩ := ((s.sampled v).critical s.temp).govLower_stat 3
    rw [if_pos h1, hl]
    exact ⟨g1, g2⟩
  · have hl := State.ceilTo_lowers (s := s.sampled v) (o := 1) (by rw [hp, hs]) (by rw [hp, hc]) (by rw [ho, h3]; decide)
    obtain ⟨g1, -, -, g3⟩ := (s.sampled v).govLower_stat 1
    rw [if_neg (by omega), if_pos h1, hl]
    exact ⟨g1, g3 (ho.trans h3)⟩

theorem thermSample_answers {s : State} (ha : s.bootU.asserted = false) {sites : List (Option Int)} (hne : sites ≠ []) :
    Answers (.thermSample sites) s fun t =>
      t.fget .POWER_THERM_STAT 0 fPOWER_THERM_STAT_TEMP =
        ofSigned 16 (((sites.zipIdx.map (fun x => siteValue (x.1.map (· + s.siteTrim x.2)))).max?).getD 0) ∧
      (448 ≤ t.temp → t.lockLow = true ∧ t.surgePermit = false ∧
        (s.power.sleep = none → s.power.change = none → s.opp < 3 →
          t.power.change.map (·.target) = some 3 ∧ t.fbit .POWER_STAT 0 fPOWER_STAT_CHANGING = true)) ∧
      (400 ≤ t.temp → s.temp < 448 → t.temp < 448 → t.lockLow = s.lockLow ∧
        (s.power.sleep = none → s.power.change = none → s.opp = 0 →
          t.power.change.map (·.target) = some 1 ∧ t.fbit .POWER_THERM_EVT 0 fPOWER_THERM_EVT_GOV_STEP = true)) ∧
      (t.surgePermit = true → t.temp < 380 ∧ s.surgeUsed < surgeLimit) := by
  refine answers_done (congrArg s.done (s.thermSites_eq hne)) ?_
  have hv := ofSigned_lt 16 (((sites.zipIdx.map (fun x => siteValue (x.1.map (· + s.siteTrim x.2)))).max?).getD 0)
  generalize ofSigned 16 (((sites.zipIdx.map (fun x => siteValue (x.1.map (· + s.siteTrim x.2)))).max?).getD 0) = v at hv ⊢
  obtain ⟨us, ut, ul, up⟩ := s.thermSample_stat hv
  have k := State.after_follows_sleep (u := s.thermSample v) ha us
  have ut' : (s.thermSample v).temp = toSigned 16 v := congrArg (toSigned 16) ut
  rw [k.temp, k.lockLow, k.surgePermit, k.fbit (by decide), k.fbit (by decide), k.fget (by decide), k.change, ut', ul, up]
  refine ⟨ut, fun h => ⟨by simp [h], ?_, fun hs hc => (State.thermSample_lowers hv hs hc).1 h⟩, fun h _ h2 =>
    ⟨by simp [Int.not_le.mpr h2], fun hs hc => (State.thermSample_lowers hv hs hc).2 h h2⟩, fun h => by simpa using h⟩
  simp only [Bool.and_eq_false_iff, decide_eq_false_iff_not]
  omega

-- The surge time

/-- R699: at 1.0 s of surge time PERMIT falls, and the block leaves SURGE. -/
theorem surgeTimeLimit_answers {s : State} (ha : s.bootU.asserted = false) (hd : s.power.cclk = 3)
    (hu : s.surgeUsed < surgeLimit) (hat : s.power.surgeAt ≤ s.now)
    (hb : s.now + (surgeLimit - s.surgeUsed) ≤ s.power.bucketAt + bucketCycles) (hs : s.power.sleep = none) :
    Answers .surgeTimeLimit s fun t =>
      t.now = s.now + (surgeLimit - s.surgeUsed) ∧ t.surgePermit = false ∧
      (s.power.change = none → s.opp = 0 →
        t.power.surge = s.power.surge ∧ t.power.change.map (·.target) = some 1 ∧
          t.fbit .POWER_THERM_EVT 0 fPOWER_THERM_EVT_GOV_STEP = true) := by
  let e := s.elapseTo (s.now + (surgeLimit - s.surgeUsed))
  have hue : s.surgeLimitHit = e.permit.ceilTo 1 := by
    rw [State.surgeLimitHit]
    exact if_pos (by simp [hd, hb])
  have hn : e.now = s.now + (surgeLimit - s.surgeUsed) := by
    rw [s.elapseTo_now]
    omega
  have he : e.power = s.power := s.elapseTo_power _
  obtain ⟨pk, pp, -, -, pu⟩ := e.permit_stat
  have hk := e.permit.ceilTo_keeps 1
  have hused : e.surgeUsed = surgeLimit := by
    have h0 : s.surgeUsed = s.power.surgeCur + (s.now - s.power.surgeAt) + s.power.surge.sum := by
      rw [State.surgeUsed, State.surgeNow, if_pos hd]
    rw [State.surgeUsed, State.surgeNow, he, if_pos hd, hn]
    omega
  have k := State.after_follows_sleep (u := s.surgeLimitHit) ha (by rw [hue, hk.sleep, pp, he])
  refine answers_done rfl ⟨?_, ?_, fun hc ho => ?_⟩
  · rw [k.now, hue, hk.now, pk.now, hn]
  · rw [k.surgePermit, hue, State.surgePermit, hk.fbit (by decide), ← State.surgePermit, pu, hused]
    simp
  · have hop : e.permit.opp = s.opp := (pk.fget (by decide) 0 _).trans (s.elapseTo_fget _ (by decide) 0 _)
    have hl := State.ceilTo_lowers (s := e.permit) (o := 1) (by rw [pp, he, hs]) (by rw [pp, he, hc])
      (by rw [hop, ho]; decide)
    obtain ⟨g1, -, g2, g3⟩ := e.permit.govLower_stat 1
    rw [k.surge, k.change, k.fbit (by decide), hue, hl, g2, pp, he]
    exact ⟨rfl, g1, g3 (hop.trans ho)⟩

/-- R698: a bucket ends. -/
theorem surgeBucketEnd_answers {s : State} (ha : s.bootU.asserted = false) :
    Answers .surgeBucketEnd s fun t =>
      t.now = max s.now (s.power.bucketAt + bucketCycles) ∧ t.power.bucketAt = t.now ∧ t.power.surgeCur = 0 ∧
      t.power.surge.length = min 99 (s.power.surge.length + 1) ∧ t.power.surge.tail = s.power.surge.take 98 := by
  let e := s.elapseTo (s.power.bucketAt + bucketCycles)
  let b := e.modPower fun p =>
    { p with surge := (e.surgeNow :: p.surge).take 99, surgeCur := 0, surgeAt := e.now, bucketAt := e.now }
  have hu : s.bucketEnd = b.permit := rfl
  have he : e.power = s.power := s.elapseTo_power _
  have hn : b.now = max s.now (s.power.bucketAt + bucketCycles) := s.elapseTo_now _
  have hsurge : b.power.surge = (e.surgeNow :: s.power.surge).take 99 := by
    rw [← he]
    rfl
  obtain ⟨pk, pp, -⟩ := b.permit_stat
  have k := State.after_follows_sleep (u := s.bucketEnd) ha (by rw [hu, pp]; exact congrArg (·.sleep) he)
  refine answers_done rfl ?_
  rw [k.now, k.bucketAt, k.surgeCur, k.surge, hu, pk.now, pp, hn, hsurge]
  refine ⟨rfl, hn, rfl, ?_, ?_⟩
  · rw [List.length_take, List.length_cons]
  · rfl

/-- R700: UNLOCK frees the lock below 100 °C. -/
theorem thermUnlock_answers {s : State} (hs : s.serves .POWER_THERM_CTRL 0 = true) :
    Answers .thermUnlock s fun t =>
      if s.temp < 400 then t.lockLow = false
      else t.lockLow = s.lockLow ∧ t.fbit .POWER_THERM_EVT 0 fPOWER_THERM_EVT_UNLOCK_REFUSED = true := by
  let v := fPOWER_THERM_CTRL_UNLOCK.at 1
  let d : State := { s with staged := s.staged.del (rkey .POWER_THERM_CTRL 0) }
  have hw : s.written .POWER_THERM_CTRL 0 v = d.thermUnlock := by
    have hg : (fPOWER_THERM_CTRL_UNLOCK.get (carried .POWER_THERM_CTRL v) == 1) = true := by decide
    rw [State.written, State.writeReg_ok _ _ _ _ rfl, State.actWrite]
    exact if_pos hg
  have hsl : (s.ctWrite .POWER_THERM_CTRL 0 v).power.sleep = s.power.sleep := by
    rw [(State.ctWrite_kept v hs).2, hw, State.thermUnlock]
    split <;> rfl
  have k := State.after_follows_sleep (State.serves_asserted hs) hsl
  have hr (id : RegId) (hid : id ≠ .GEN_ACC_ERR) (f : Field) :
      (s.ctWrite .POWER_THERM_CTRL 0 v).fbit id 0 f = d.thermUnlock.fbit id 0 f := by
    rw [State.fbit, State.fget, State.ctWrite_rget v hs _ _ hid, hw]
    rfl
  have hl : (s.ctWrite .POWER_THERM_CTRL 0 v).lockLow = d.thermUnlock.lockLow := hr _ (by decide) _
  refine answers_done rfl ?_
  rw [k.lockLow, k.fbit (by decide), hl, hr _ (by decide)]
  have ht : d.temp = s.temp := rfl
  by_cases h : s.temp < 400
  · have hd : d.thermUnlock = d.fset .POWER_THERM_STAT 0 fPOWER_THERM_STAT_LOCK_LOW 0 := if_pos (by rw [ht]; exact h)
    rw [if_pos h, hd]
    exact State.fbit_clear_same _ _ _ _ (by decide)
  · have hd : d.thermUnlock = d.flag .POWER_THERM_EVT 0 fPOWER_THERM_EVT_UNLOCK_REFUSED := if_neg (by rw [ht]; exact h)
    rw [if_neg h, hd]
    exact ⟨((Keeps.refl (R := [.POWER_THERM_EVT]) d).flag 0 _ (by decide)).fbit (by decide) 0 _,
      State.fbit_flag_same _ _ _ _ (by decide) (by decide)⟩

end Sys2Proof.Machine

open Sys2Proof Sys2Proof.Machine

/-- Settles O24: each handshake of a change, the change of the divisor, the samples of the governor, its surge time and
UNLOCK; what follows from a command leaves the power controller as the command has left it. -/
theorem operatingPointsAndSurge : Obligations.OperatingPointsAndSurge := by
  unfold Obligations.OperatingPointsAndSurge
  refine ⟨fun s ha _ hp hl => ⟨voltAck_rising_answers ha, voltAck_falling_answers ha hp hl, vregTimeout_answers ha hp hl,
    divisorChange_answers ha hp hl⟩, fun s ha => ⟨fun sites => thermSample_answers ha, fun hd hu hat hb hs => ?_, ?_,
    thermUnlock_answers⟩⟩
  · exact surgeTimeLimit_answers ha hd hu hat hb hs
  · exact surgeBucketEnd_answers ha
end

section
/-! PROOFS. The loft and the leaf queues: what each of their operations writes, and what it leaves alone (R404 to R448). -/

namespace Sys2Proof.Machine

/-- t has every register of s outside R. -/
def Writes (R : List RegId) (s t : State) : Prop := ∀ id, id ∉ R → ∀ i, t.rget id i = s.rget id i

namespace Writes

variable {R : List RegId} {s t u : State}

theorem refl (s : State) : Writes R s s := fun _ _ _ => rfl

theorem trans (h : Writes R s t) (k : Writes R t u) : Writes R s u := fun id hid i => (k id hid i).trans (h id hid i)

theorem mono {R' : List RegId} (h : Writes R s t) (hR : R ⊆ R') : Writes R' s t := fun id hid => h id fun hc => hid (hR hc)

theorem of_keeps (h : Keeps R s t) : Writes R s t := h.regs

theorem raw (h : Writes R s t) (hr : u.regs = t.regs) : Writes R s u :=
  h.trans fun id _ i => State.rget_congr hr id i

theorem rset {id : RegId} (i : Nat) (v : Word) (hid : id ∈ R) (h : Writes R s t) : Writes R s (t.rset id i v) :=
  h.trans fun _ hb _ => t.rget_rset_ne v fun e => hb (e.1 ▸ hid)

theorem fset {id : RegId} (i : Nat) (f : Field) (n : Nat) (hid : id ∈ R) (h : Writes R s t) :
    Writes R s (t.fset id i f n) := h.rset i _ hid

theorem ite {c : Prop} [Decidable c] (h : Writes R s t) (k : Writes R s u) : Writes R s (if c then t else u) := by
  split <;> assumption

theorem forEach {α : Type} (l : List α) {f : State → α → State} (hf : ∀ u x, Writes R u (f u x)) (h : Writes R s t) :
    Writes R s (t.forEach l f) := by
  induction l generalizing t with
  | nil => exact h
  | cons x l ih => exact ih (h.trans (hf t x))

theorem fget (h : Writes R s t) {id : RegId} (hid : id ∉ R) (i : Nat) (f : Field) : t.fget id i f = s.fget id i f := by
  rw [State.fget, State.fget, h id hid]

theorem fbit (h : Writes R s t) {id : RegId} (hid : id ∉ R) (i : Nat) (f : Field) : t.fbit id i f = s.fbit id i f := by
  rw [State.fbit, State.fbit, h.fget hid]

/-- What both states set alike they still agree upon. -/
theorem fset_both (h : Writes R s t) (id : RegId) (i : Nat) (f : Field) (n : Nat) :
    Writes R (s.fset id i f n) (t.fset id i f n) := by
  intro b hb j
  rw [State.rget_fset, State.rget_fset, h b hb]

end Writes

-- Waking a domain

/-- All of a state but the registers, the power controller and the admin engine's completions, which an access of a
domain may change. -/
def State.unwoken (s : State) : State := { s with regs := [], power := {}, adminCur := none, adminDue := [] }

/-- What an access of a domain may write (R686, R688, R703, R705). -/
def accessRegs : List RegId := [.POWER_EVT, .POWER_PAD, .POWER_STAT, .POWER_WAKE_CAUSE, .POWER_DOM_STAT, .POWER_READY]

/-- An access of a domain, or a wake source, leads from s to t. -/
structure Woken (s t : State) : Prop where
  rest : t.unwoken = s.unwoken
  regs : Writes accessRegs s t

namespace Woken

variable {s t u : State}

theorem refl (s : State) : Woken s s := ⟨rfl, .refl s⟩

theorem trans (h : Woken s t) (k : Woken t u) : Woken s u := ⟨k.rest.trans h.rest, h.regs.trans k.regs⟩

theorem raw (h : Woken s t) (hu : u.unwoken = t.unwoken) (hr : u.regs = t.regs) : Woken s u :=
  ⟨hu.trans h.rest, h.regs.raw hr⟩

theorem rset {id : RegId} (i : Nat) (v : Word) (hid : id ∈ accessRegs) (h : Woken s t) : Woken s (t.rset id i v) :=
  ⟨h.rest, h.regs.rset i v hid⟩

theorem fset {id : RegId} (i : Nat) (f : Field) (n : Nat) (hid : id ∈ accessRegs) (h : Woken s t) :
    Woken s (t.fset id i f n) := h.rset i _ hid

theorem flag {id : RegId} (i : Nat) (f : Field) (hid : id ∈ accessRegs) (h : Woken s t) : Woken s (t.flag id i f) :=
  h.rset i _ hid

theorem ite {c : Prop} [Decidable c] (h : Woken s t) (k : Woken s u) : Woken s (if c then t else u) := by
  split <;> assumption

theorem part {β : Type} (h : Woken s t) (π : State → β) (hπ : ∀ u, π u.unwoken = π u := by intro; rfl) : π t = π s := by
  rw [← hπ t, h.rest, hπ s]

end Woken

theorem State.showBlock_woken (s : State) : Woken s s.showBlock :=
  .ite (.refl s) ((Woken.refl s).fset 0 _ _ (by decide))

theorem State.setDom_woken (s : State) (d st : Nat) : Woken s (s.setDom d st) :=
  (((Woken.refl s).fset 0 _ _ (by decide)).fset 0 _ _ (by decide)).trans (State.showBlock_woken _)

theorem State.wakeCause_woken (s : State) (w : WakeSrc) (b : Bool) : Woken s (s.wakeCause w b) :=
  ((((Woken.refl s).fset 0 _ _ (by decide)).fset 0 _ _ (by decide)).fset 0 _ _ (by decide)).fset 0 _ _ (by decide)

theorem State.finishCur_woken (s : State) (st d r0 r1 : Nat) : Woken s (s.finishCur st d r0 r1) := by
  unfold State.finishCur
  split
  · exact .refl s
  · exact (Woken.refl s).raw rfl rfl

theorem State.abortSleep_woken (s : State) (w : WakeSrc) : Woken s (s.abortSleep w) := by
  unfold State.abortSleep
  refine .trans ?_ (State.showBlock_woken _)
  have h : Woken s { s with
      power := { s.power with sleep := none, wakeAt := s.mclk }
      adminDue := s.adminDue.map (fun c => if c.commits then { c with status := aSleepAborted, detail := 0 } else c) } :=
    (Woken.refl s).raw rfl rfl
  have finish {c : Prop} [Decidable c] {u : State} (h : Woken s u) :
      Woken s (if c then u else u.finishCur aSleepAborted 0 0 0) := .ite h (h.trans (u.finishCur_woken _ _ _ _))
  refine finish (.trans ?_ (State.wakeCause_woken _ w true))
  exact .flag 0 _ (by decide) (.fset 0 _ _ (by decide) (.ite (.fset 0 _ _ (by decide) h) h))

theorem State.fireWake_woken (s : State) (w : WakeSrc) : Woken s (s.fireWake w) := by
  unfold State.fireWake
  split
  · exact .ite (s.wakeCause_woken w true) (.refl s)
  · exact .ite (s.abortSleep_woken w) (.ite (.refl s) ((Woken.refl s).raw rfl rfl))

theorem State.unenter_woken (s : State) (d : Nat) : Woken s (s.unenter d) := by
  unfold State.unenter
  refine .trans ?_ (State.setDom_woken _ d 0)
  exact (Woken.refl s).raw rfl rfl

theorem State.wake_woken (s : State) (d : Nat) : Woken s (s.wake d) := .ite ((Woken.refl s).raw rfl rfl) (.refl s)

/-- R686, R688: an access of a domain. -/
theorem State.access_woken (s : State) (d : Nat) : Woken s (s.access d) :=
  .ite (s.fireWake_woken _) (.ite (s.unenter_woken d) (s.wake_woken d))

-- The active lists

/-- All of a state but the nodes, their active lists and the nodes that rise. -/
def State.unnoded (s : State) : State := { s with leaves := [], clients := [], groups := [], active := [], rising := [] }

theorem State.unnoded_setNode (s : State) (lvl i : Nat) (n : Node) : (s.setNode lvl i n).unnoded = s.unnoded := by
  unfold State.setNode
  split
  · rfl
  · split <;> rfl

theorem State.unnoded_relist (s : State) (lvl i : Nat) : (s.relist lvl i).unnoded = s.unnoded := by
  have ite {c : Prop} [Decidable c] {t u : State} (ht : t.unnoded = s.unnoded) (hu : u.unnoded = s.unnoded) :
      (if c then t else u).unnoded = s.unnoded := by split <;> assumption
  unfold State.relist
  split
  · rfl
  · next n _ =>
    have hu : (s.unlist lvl n.parent i fun p => s.listable lvl i && p == n.prio).unnoded = s.unnoded :=
      State.forEach_same (fun u p => by split <;> rfl) s _
    exact ite (ite hu hu) (ite ((State.unnoded_setNode _ _ _ _).trans hu) hu)

theorem State.unnoded_relistUp (s : State) (lvl i : Nat) : (s.relistUp lvl i).unnoded = s.unnoded := by
  have h := s.unnoded_relist lvl i
  unfold State.relistUp
  dsimp only
  split
  · split
    · exact (State.unnoded_relist _ _ _).trans ((State.unnoded_relist _ _ _).trans h)
    · exact (State.unnoded_relist _ _ _).trans h
  · exact (State.unnoded_relist _ _ _).trans h
  · exact h

theorem State.relistUp_part {β : Type} (π : State → β) (s : State) (lvl i : Nat)
    (hπ : ∀ u, π u.unnoded = π u := by intro; rfl) : π (s.relistUp lvl i) = π s := by
  rw [← hπ, s.unnoded_relistUp, hπ]

-- Leaves

theorem State.leaf?_setLeaf (s : State) (l q : Nat) (n : Node) :
    (s.setLeaf l n).leaf? q = if q = l then some n else s.leaf? q := Store.find?_put _ _ _ _

theorem State.leaf?_eq_node? (s : State) (l : Nat) : s.leaf? l = s.node? 0 l := rfl

/-- A packet as it stands in the queue of leaf l which it has joined. -/
def State.joined (s : State) (l : Nat) (k : Pkt) : Pkt := { k with joined := s.blockTime.total, leaf := l }

/-- R818: a packet joins a leaf: its queue grows at the end, and its record and its depth stay. -/
theorem State.joinLeaf_stat {s : State} {l : Nat} {n : Node} (h : s.leaf? l = some n) (k : Pkt) :
    ((s.joinLeaf l k).leaf? l).map Node.record = some (n.d0, n.d1, n.d2, n.fifo ++ [s.joined l k], n.depth) ∧
      (s.joinLeaf l k).courses = s.courses ∧ (s.joinLeaf l k).frames = s.frames ∧
      Writes accessRegs s (s.joinLeaf l k) := by
  have ha := s.access_woken dSCHED
  let t := (s.access dSCHED).setLeaf l { n with fifo := n.fifo ++ [s.joined l k] }
  have ht : t.leaf? l = some { n with fifo := n.fifo ++ [s.joined l k] } := by
    rw [State.leaf?_setLeaf, if_pos rfl]
  obtain ⟨u, hu, he⟩ : ∃ u : State, (u = t ∨ u = t.rise 0 l) ∧ s.joinLeaf l k = u.relistUp 0 l := by
    refine ⟨if n.fifo.isEmpty && !(n.shaped && n.blocked) then t.rise 0 l else t, ?_, ?_⟩
    · split
      · exact .inr rfl
      · exact .inl rfl
    · rw [State.joinLeaf, h]
      rfl
  have part {β : Type} (π : State → β) (hn : ∀ u, π u.unnoded = π u) (hw : ∀ u, π u.unwoken = π u) :
      π (s.joinLeaf l k) = π s := by
    have h1 : π u = π t := by
      rcases hu with rfl | rfl
      · rfl
      · rw [← hn, ← hn t]
        rfl
    have h2 : π t = π (s.access dSCHED) := by
      rw [← hn, ← hn (s.access dSCHED)]
      rfl
    rw [he, State.relistUp_part π _ _ _ hn, h1, h2, ha.part π hw]
  refine ⟨?_, part (·.courses) (fun _ => rfl) (fun _ => rfl), part (·.frames) (fun _ => rfl) (fun _ => rfl), ?_⟩
  · have hr := u.relistUp_records 0 l 0 l
    rw [← State.leaf?_eq_node?, ← State.leaf?_eq_node?] at hr
    rw [he, hr]
    have h1 : u.leaf? l = t.leaf? l := by rcases hu with rfl | rfl <;> rfl
    rw [h1, ht]
    rfl
  · have h1 : u.regs = (s.access dSCHED).regs := by rcases hu with rfl | rfl <;> rfl
    rw [he]
    exact (ha.regs.raw h1).raw (State.relistUp_part (·.regs) _ _ _)

theorem State.chargeLeaf_eq {s : State} {l : Nat} {n : Node} (h : s.leaf? l = some n) (c : Nat) :
    s.chargeLeaf l c = s.setLeaf l { n with depth := n.depth + c } := by
  rw [State.chargeLeaf, h]

-- Accounts

theorem State.core_fcUpdate (s : State) (p : Nat) : (s.fcUpdate p).core = s.core := by
  have hp (u : State) (i : Nat) : (u.fcPriority p i).core = u.core := by
    unfold State.fcPriority
    exact State.core_ite rfl (State.core_ite rfl rfl)
  have he : (s.forEach (List.range 8) (fun s i => s.fcPriority p i)).core = s.core := State.core_forEach hp s _
  unfold State.fcUpdate State.fcPause
  exact State.core_ite (State.core_ite he he) (State.core_ite he he)

theorem State.fcUpdate_writes (s : State) (p : Nat) : Writes [.PORT_FC_TX_STAT] s (s.fcUpdate p) := by
  have hp (u : State) (i : Nat) : Writes [.PORT_FC_TX_STAT] u (u.fcPriority p i) := by
    have h := (Writes.refl (R := [.PORT_FC_TX_STAT]) u).fset (id := .PORT_FC_TX_STAT) p fPORT_FC_TX_STAT_ASSERTED
      (u.fget .PORT_FC_TX_STAT p fPORT_FC_TX_STAT_ASSERTED ^^^ 2 ^ i) (by decide)
    unfold State.fcPriority
    exact .ite (.refl u) (.ite (h.raw rfl) h)
  have he : Writes [.PORT_FC_TX_STAT] s (s.forEach (List.range 8) (fun s i => s.fcPriority p i)) :=
    .forEach _ hp (.refl s)
  unfold State.fcUpdate State.fcPause
  have hs (n : Nat) := he.fset (id := .PORT_FC_TX_STAT) p fPORT_FC_TX_STAT_PAUSE n (by decide)
  exact .ite (.ite he ((hs _).raw rfl)) (.ite (hs 0) he)

/-- R414: a charge of an ingress account. -/
theorem State.chargeIngress_stat (s : State) (a use head : Nat) :
    (s.chargeIngress a use head).core = s.core ∧
      Writes [.PORT_ADM_USE, .PORT_FC_TX_STAT] s (s.chargeIngress a use head) ∧
      (s.chargeIngress a use head).admUse a = (s.admUse a + use) % 2 ^ fPORT_ADM_USE_USE.w ∧
      (s.chargeIngress a use head).admHeld a = (s.admHeld a + head) % 2 ^ fPORT_ADM_USE_HEAD.w := by
  let t := s.fset .PORT_ADM_USE a fPORT_ADM_USE_USE (s.admUse a + use)
  let v := t.fset .PORT_ADM_USE a fPORT_ADM_USE_HEAD (t.admHeld a + head)
  have hv := v.fcUpdate_writes (a / 8)
  have hw : Writes [.PORT_ADM_USE, .PORT_FC_TX_STAT] s v :=
    .fset a _ _ (by decide) (.fset a _ _ (by decide) (.refl s))
  have hh : t.admHeld a = s.admHeld a := State.fget_fset_field _ _ _ _ _ _ _ (by decide)
  refine ⟨(State.core_fcUpdate _ _).trans ((State.core_fset _ _ _ _ _).trans (State.core_fset _ _ _ _ _)),
    hw.trans (hv.mono (by decide)), ?_, ?_⟩
  · refine (hv.fget (by decide) a _).trans ?_
    rw [State.fget_fset_field _ _ _ _ _ _ _ (by decide), State.fget_fset_same _ _ _ _ _ (by decide)]
  · refine (hv.fget (by decide) a _).trans ?_
    rw [State.fget_fset_same _ _ _ _ _ (by decide), hh]

-- Frames of the loft

theorem State.frame?_setFrame (s : State) (i j : Nat) (f : Frame) :
    (s.setFrame i f).frame? j = if j = i then some f else s.frame? j := Store.find?_put _ _ _ _

theorem State.transit_setFrame (s : State) (i : Nat) (f : Frame) : (s.setFrame i f).transit = s.transit := rfl

/-- R417: a frame leaves the transit account. -/
theorem State.leaveTransit_eq {s : State} {i : Nat} {f : Frame} (h : s.frame? i = some f) :
    s.leaveTransit i = (s.setTransit (s.transit - f.transit)).setFrame i { f with transit := 0, gen := none } := by
  rw [State.leaveTransit, h]

theorem State.transit_setTransit (s : State) {n : Nat} (h : n ≤ s.transit) : (s.setTransit n).transit = n := by
  have hl : s.transit < 2 ^ fLOFT_USE_TRANSIT.w := Field.get_lt _ _
  rw [State.transit, State.setTransit, State.fget_fset_same _ _ _ _ _ (by decide), Nat.mod_eq_of_lt (by omega)]

/-- All of a state but the frames, the cells in use and what a decision of the same cycle does not see. -/
def State.unlofted (s : State) : State := { s with frames := [], bankUse := [], freed := 0 }

theorem State.unlofted_release (s : State) (i : Nat) (ids : List Nat) : (s.release i ids).unlofted = s.unlofted := by
  have hc (f : Frame) : (s.freeCells f ids).unlofted = s.unlofted := by
    unfold State.freeCells
    refine State.forEach_same (π := State.unlofted) (fun _ _ => ?_) s _
    rfl
  unfold State.release
  split
  · rfl
  · dsimp only
    split
    · exact hc _
    · exact hc _

/-- R410: a frame held once is gone with its release. -/
theorem State.frame?_release {s : State} {i : Nat} {f : Frame} (h : s.frame? i = some f) {ids : List Nat}
    (hr : f.refs = [ids]) : (s.release i ids).frame? i = none := by
  rw [State.release, h]
  simp only [hr, List.erase_cons_head, List.isEmpty_nil, if_true]
  exact Store.find?_del_same _ _

end Sys2Proof.Machine
end

section
/-! PROOFS. The admission decision on a received frame (R65, R366, R414, R417, R422, R818). -/

namespace Sys2Proof.Machine

-- The state in which a frame is decided

/-- t differs from s in nothing that an admission reads: in the slow-path counters, the courses and the MACs at most. -/
structure AdmLike (s t : State) : Prop where
  regs : Writes [.COURSE_SLOW_CNT] s t
  freed : t.freed = s.freed
  fcThen : t.fcThen = s.fcThen
  leaves : t.leaves = s.leaves
  rxrs : t.rxrs = s.rxrs
  frames : t.frames = s.frames

theorem AdmLike.admission {s t : State} (h : AdmLike s t) (a : Nat) (d : Dest) (k c : Nat) :
    t.admission a d k c = s.admission a d k c := by
  have hg (id : RegId) (hid : id ∉ [RegId.COURSE_SLOW_CNT]) (i : Nat) (f : Field) : t.fget id i f = s.fget id i f :=
    h.regs.fget hid i f
  have hl (q : Nat) : t.leaf? q = s.leaf? q := by rw [State.leaf?, State.leaf?, h.leaves]
  have hr (q : Nat) : t.rxr? q = s.rxr? q := by rw [State.rxr?, State.rxr?, h.rxrs]
  have hu (a : Nat) : t.admUse a = s.admUse a := hg _ (by decide) _ _
  have hm (a : Nat) : t.admMin a = s.admMin a := hg _ (by decide) _ _
  have hh (a : Nat) : t.admHead a = s.admHead a := hg _ (by decide) _ _
  have hs : t.freeNow = s.freeNow := by
    simp (disch := decide) only [State.freeNow, State.freeShared, State.sharedSize, State.sharedUsed, State.hostReserve,
      State.transit, State.hostUse, funext hu, funext hm, funext hh, hg, h.freed]
  have hc (f k : Nat) : t.freeColour f k = s.freeColour f k := by
    simp (disch := decide) only [State.freeColour, hg]
  have ha (a : Nat) : t.fcAsserted a = s.fcAsserted a := by
    have hx (p : Nat) : t.fcTxMode p = s.fcTxMode p := hg _ (by decide) _ _
    have ho (w : Word) : t.fcOf w a = s.fcOf w a := by rw [State.fcOf, State.fcOf, hx]
    rw [State.fcAsserted, State.fcAsserted, h.fcThen, h.regs .PORT_FC_TX_STAT (by decide)]
    simp only [ho]
  have hq (fk : Nat) : t.queueLim d fk = s.queueLim d fk := by
    simp (disch := decide) only [State.queueLim, hl, hg]
  have hd : t.queueUse d = s.queueUse d := by rw [State.queueUse, State.queueUse, hl, hr]
  have hn (a : Nat) : t.admHeld a = s.admHeld a := hg _ (by decide) _ _
  have ho (a : Nat) : t.lossless a = s.lossless a := by rw [State.lossless, State.lossless, hh]
  have hx : t.fget .PORT_ADM_PRI a fPORT_ADM_PRI_ALPHA = s.fget .PORT_ADM_PRI a fPORT_ADM_PRI_ALPHA :=
    hg _ (by decide) _ _
  rw [State.admission, State.admission, hs]
  dsimp only
  rw [hc, hq, hd, hu, hm, hh, hn, ho, ha, hx]

theorem AdmLike.leaveTransit {s t : State} (h : AdmLike s t) (i : Nat) : AdmLike (s.leaveTransit i) (t.leaveTransit i) := by
  have hf : t.frame? i = s.frame? i := by rw [State.frame?, State.frame?, h.frames]
  have ht : t.transit = s.transit := h.regs.fget (by decide) _ _
  cases hi : s.frame? i with
  | none => rw [State.leaveTransit, State.leaveTransit, hf, hi]; exact h
  | some f =>
    rw [State.leaveTransit_eq hi, State.leaveTransit_eq (hf.trans hi), ht]
    exact ⟨h.regs.fset_both _ _ _ _, h.freed, h.fcThen, h.leaves, h.rxrs,
      congrArg (fun l : Store Frame => l.put i { f with transit := 0, gen := none }) h.frames⟩

theorem State.decCycle_setCourse (s : State) (c d : Nat) (x : CourseSt) (same : Bool) :
    (s.setCourse d x).decCycle c same = (s.decCycle c same).setCourse d x := by
  have h : ((s.setCourse d x).fcThen, (s.setCourse d x).lastDec) = (s.fcThen, s.lastDec) := rfl
  unfold State.decCycle
  obtain ⟨h1, h2⟩ := Prod.mk.inj h
  rw [h1, h2]
  split <;> rfl

/-- All of a state but what the cycle of an admission decision changes. -/
def State.uncycled (s : State) : State := { s with freed := 0, lastDec := 0, fcThen := none }

theorem State.uncycled_decCycle (s : State) (c : Nat) (same : Bool) : (s.decCycle c same).uncycled = s.uncycled := by
  unfold State.decCycle
  split <;> rfl

theorem State.decCycle_part {β : Type} (π : State → β) (s : State) (c : Nat) (same : Bool)
    (hπ : ∀ u, π u.uncycled = π u := by intro; rfl) : π (s.decCycle c same) = π s := by
  rw [← hπ, s.uncycled_decCycle, hπ]

/-- The state in which the next frame of course c is decided: it has left the course's list, of which l remains. -/
def State.deciding (s : State) (c : Nat) (same : Bool) (l : List Nat) : State :=
  (s.decCycle c same).setCourse c { s.course c with dec := l }

theorem State.refusedCells_eq (t s : State) (i : Nat) (f : Frame) : ∃ n, t.refusedCells s i f = t.lagFree n := by
  have h (b : Bool) (m : Nat) : ∃ n, (if b then t.lagFree m else t) = t.lagFree n := by
    cases b
    · exact ⟨0, rfl⟩
    · exact ⟨m, rfl⟩
  exact h _ _

theorem State.admissionDecision_eq {s : State} {c i : Nat} {l : List Nat} {f : Frame} (hf : s.failed = false)
    (hd : (s.course c).dec = i :: l) (hi : s.frame? i = some f) (same : Bool) :
    ∃ n, s.admissionDecision c same =
      (if f.done then (s.deciding c same l).decideKnown i else (s.deciding c same l).decideEarly i).lagFree n := by
  have hi' : (s.setCourse c { s.course c with dec := l }).frame? i = some f := hi
  rw [State.admissionDecision, hd]
  simp only [hf, Bool.false_eq_true, if_false, hi', State.decCycle_setCourse]
  exact State.refusedCells_eq _ _ _ _

/-- The decision of the frame f, at the head of course c's list, reaches t: l remains of the list, the queues and the
frame are as they were in s, and so are the registers but those of R. -/
structure Reached (R : List RegId) (c i : Nat) (l : List Nat) (f : Frame) (s t : State) : Prop where
  frame : t.frame? i = some f
  leaves : t.leaves = s.leaves
  dec : (t.course c).dec = l
  regs : Writes R s t

theorem State.deciding_reached {s : State} {c i : Nat} {f : Frame} (same : Bool) (l : List Nat) (hi : s.frame? i = some f) :
    Reached [] c i l f s (s.deciding c same l) := by
  refine ⟨?_, ?_, ?_, (Writes.refl s).raw ?_⟩
  · exact Eq.trans (s.decCycle_part (fun u => u.frame? i) c same) hi
  · exact s.decCycle_part (·.leaves) c same
  · rw [State.deciding, State.course_setCourse, if_pos rfl]
  · exact s.decCycle_part (·.regs) c same

namespace Reached

variable {R : List RegId} {c i : Nat} {l : List Nat} {f : Frame} {s t : State} (h : Reached R c i l f s t)
include h

/-- What was reached is a state of its own from which the decision goes on. -/
theorem self : Reached [] c i l f t t := ⟨h.frame, rfl, h.dec, .refl t⟩

theorem leaf (q : Nat) : t.leaf? q = s.leaf? q := by rw [State.leaf?, State.leaf?, h.leaves]

theorem count (id : RegId) (j : Nat) (g : Field) : Reached (id :: R) c i l f s (t.count id j g) :=
  ⟨h.frame, h.leaves, h.dec, (h.regs.mono (List.subset_cons_self _ _)).rset j _ List.mem_cons_self⟩

theorem slowCount (known : Bool) : Reached (.COURSE_SLOW_CNT :: R) c i l f s (t.slowCount f known) := by
  unfold State.slowCount
  split
  · exact h.count _ _ _
  · exact ⟨h.frame, h.leaves, h.dec, h.regs.mono (List.subset_cons_self _ _)⟩

/-- R417: the frame leaves the transit account. -/
theorem leaveTransit : Reached (.LOFT_USE :: R) c i l { f with transit := 0, gen := none } s (t.leaveTransit i) := by
  rw [State.leaveTransit_eq h.frame]
  exact ⟨by rw [State.frame?_setFrame, if_pos rfl], h.leaves, h.dec,
    ((h.regs.mono (List.subset_cons_self _ _)).rset 0 _ List.mem_cons_self).raw rfl⟩

theorem transit_left (hR : .LOFT_USE ∉ R) : (t.leaveTransit i).transit = s.transit - f.transit := by
  have ht : t.transit = s.transit := h.regs.fget hR _ _
  rw [State.leaveTransit_eq h.frame, State.transit_setFrame, t.transit_setTransit (Nat.sub_le _ _), ht]

/-- R410: a frame that only its own cells hold is freed. -/
theorem freed (hr : f.refs = [f.cells]) :
    (t.freeFrame i).frame? i = none ∧ (t.freeFrame i).leaves = s.leaves ∧ ((t.freeFrame i).course c).dec = l ∧
      Writes (.LOFT_USE :: R) s (t.freeFrame i) := by
  have hl := h.leaveTransit
  obtain ⟨n, hu⟩ : ∃ n, t.freeFrame i = ((t.leaveTransit i).lagFree n).release i f.cells :=
    ⟨_, by rw [State.freeFrame, h.frame]⟩
  have hv : ((t.leaveTransit i).lagFree n).frame? i = some { f with transit := 0, gen := none } := hl.frame
  have he := ((t.leaveTransit i).lagFree n).unlofted_release i f.cells
  have part {β : Type} (π : State → β) (hπ : ∀ u, π u.unlofted = π u) :
      π (t.freeFrame i) = π ((t.leaveTransit i).lagFree n) := by rw [hu, ← hπ, he, hπ]
  refine ⟨hu ▸ State.frame?_release hv hr, ?_, ?_, ?_⟩
  · exact (part (·.leaves) fun _ => rfl).trans hl.leaves
  · exact (part (fun s => (s.course c).dec) fun _ => rfl).trans hl.dec
  · exact (hl.regs.raw (u := (t.leaveTransit i).lagFree n) rfl).raw (part (·.regs) fun _ => rfl)

end Reached

-- Admission to a leaf

/-- Leaf q as a destination. -/
abbrev toLeaf (q : Nat) : Dest := { leaf := true, id := q }

/-- R414: frame f is admitted to leaf q, on its headroom where hd: both accounts are charged. -/
def State.admitted (s : State) (i : Nat) (f : Frame) (q : Nat) (hd : Bool) : State :=
  let c := f.layout.length
  ((s.chargeIngress (acctOf f.port f.res.pri) (if hd then 0 else c) (if hd then c else 0)).chargeLeaf q c).setFrame i
    { f with acct := some (acctOf f.port f.res.pri), use := if hd then 0 else c, head := if hd then c else 0 }

theorem State.admHeld_setFrame (s : State) (i : Nat) (f : Frame) (a : Nat) : (s.setFrame i f).admHeld a = s.admHeld a := rfl

theorem State.admUse_setFrame (s : State) (i : Nat) (f : Frame) (a : Nat) : (s.setFrame i f).admUse a = s.admUse a := rfl

theorem State.admHeld_setLeaf (s : State) (l : Nat) (n : Node) (a : Nat) : (s.setLeaf l n).admHeld a = s.admHeld a := rfl

theorem State.admUse_setLeaf (s : State) (l : Nat) (n : Node) (a : Nat) : (s.setLeaf l n).admUse a = s.admUse a := rfl

section
variable {s : State} {i q : Nat} {f : Frame} {nd : Node} (hf : s.frame? i = some f) (hq : s.leaf? q = some nd)
include hf hq

theorem State.decideTo_leaf :
    s.decideTo i (.to (toLeaf q)) =
      if (s.admitTo i f (toLeaf q)).1 then (some (toLeaf q), (s.admitTo i f (toLeaf q)).2)
      else (none, (s.admitTo i f (toLeaf q)).2.notDelivered f (.to (toLeaf q)) true) := by
  have ho : s.destOpen (toLeaf q) = true := by rw [State.destOpen, if_pos rfl, hq]; rfl
  rw [State.decideTo, hf]
  simp only [State.target, ho, if_true]

theorem State.decideTo_accepted {hd : Bool}
    (hv : s.admission (acctOf f.port f.res.pri) (toLeaf q) f.colour f.layout.length = .accepted hd) :
    s.decideTo i (.to (toLeaf q)) = (some (toLeaf q), s.admitted i f q hd) := by
  have ha : s.admitTo i f (toLeaf q) = (true, s.admitted i f q hd) := by
    rw [State.admitTo]
    simp only [hv]
    rfl
  rw [State.decideTo_leaf hf hq, ha]
  rfl

theorem State.decideTo_refused
    (hv : s.admission (acctOf f.port f.res.pri) (toLeaf q) f.colour f.layout.length = .queue) :
    s.decideTo i (.to (toLeaf q)) = (none, (s.count .LOFT_DROP 0 fLOFT_DROP_QUEUE).dropAt (toLeaf q) 1) := by
  have ha : s.admitTo i f (toLeaf q) = (false, (s.count .LOFT_DROP 0 fLOFT_DROP_QUEUE).dropAt (toLeaf q) 1) := by
    rw [State.admitTo]
    simp only [hv]
    rfl
  rw [State.decideTo_leaf hf hq, ha]
  rfl

omit hf in
theorem State.admitted_stat (hd : Bool) :
    (s.admitted i f q hd).frame? i = some { f with
        acct := some (acctOf f.port f.res.pri), use := if hd then 0 else f.layout.length
        head := if hd then f.layout.length else 0 } ∧
      (s.admitted i f q hd).leaf? q = some { nd with depth := nd.depth + f.layout.length } ∧
      (s.admitted i f q hd).courses = s.courses ∧
      Writes [.PORT_ADM_USE, .PORT_FC_TX_STAT] s (s.admitted i f q hd) ∧
      (if hd then (s.admitted i f q hd).admHeld (acctOf f.port f.res.pri) =
          (s.admHeld (acctOf f.port f.res.pri) + f.layout.length) % 2 ^ fPORT_ADM_USE_HEAD.w
        else (s.admitted i f q hd).admUse (acctOf f.port f.res.pri) =
          (s.admUse (acctOf f.port f.res.pri) + f.layout.length) % 2 ^ fPORT_ADM_USE_USE.w) := by
  obtain ⟨hc, hw, hu, hh⟩ := s.chargeIngress_stat (acctOf f.port f.res.pri) (if hd then 0 else f.layout.length)
    (if hd then f.layout.length else 0)
  let t := s.chargeIngress (acctOf f.port f.res.pri) (if hd then 0 else f.layout.length)
    (if hd then f.layout.length else 0)
  have ht : t.leaf? q = some nd := Eq.trans (State.core_part hc fun u => u.leaf? q) hq
  have he : s.admitted i f q hd = (t.setLeaf q { nd with depth := nd.depth + f.layout.length }).setFrame i { f with
      acct := some (acctOf f.port f.res.pri), use := if hd then 0 else f.layout.length
      head := if hd then f.layout.length else 0 } := by
    rw [State.admitted, State.chargeLeaf_eq ht]
  rw [he]
  refine ⟨by rw [State.frame?_setFrame, if_pos rfl], Store.find?_put_same _ _ _, State.core_part hc fun u => u.courses,
    hw.raw rfl, ?_⟩
  rw [State.admHeld_setFrame, State.admUse_setFrame, State.admHeld_setLeaf, State.admUse_setLeaf]
  cases hd with
  | true => exact hh
  | false => exact hu

/-- R818: the admitted frame joins. -/
theorem State.join_leaf :
    s.join i (.to (toLeaf q)) (toLeaf q) = (s.setFrame i { f with stage := .queued, pend := none }).joinLeaf q (f.pkt i) := by
  have ho : s.destOpen (toLeaf q) = true := by rw [State.destOpen, if_pos rfl, hq]; rfl
  rw [State.join, hf]
  simp only [ho, if_true]
  rfl

end

-- The decision of a frame whose checks are made

/-- What becomes of the frame once its admission to d is decided: it joins, or is freed. -/
def State.concluded (i : Nat) (d : Dest) (r : Option Dest × State) : State :=
  match r.1 with
  | some e => r.2.join i (.to d) e
  | none => r.2.discard i false

theorem State.copyFor_none (s : State) (i : Nat) {f : Frame} (hm : f.res.mirror = none) : s.copyFor i f = (none, s) := by
  rw [State.copyFor, hm]

theorem State.copyNow_none (s : State) (i : Nat) {f : Frame} (hm : f.res.mirror = none) (x : Fate) : s.copyNow i f x = s := by
  rw [State.copyNow, s.copyFor_none i hm]
  exact ite_self _

section
variable {s : State} {i : Nat} {f : Frame} (hf : s.frame? i = some f) (hm : f.res.mirror = none)
include hf hm

theorem State.decideKnown_to {d : Dest} (hx : f.fate true = .to d) :
    s.decideKnown i = State.concluded i d (((s.slowCount f true).leaveTransit i).decideTo i (.to d)) := by
  rw [State.decideKnown, hf]
  simp only [State.decideWith, hx, State.copyNow_none _ _ hm]
  rfl

theorem State.decideKnown_drop (hx : f.fate true = .drop) :
    s.decideKnown i =
      (((s.slowCount f true).count .TABLE_ACT_CNT 0 fTABLE_ACT_CNT_DROPPED).leaveTransit i).discard i false := by
  rw [State.decideKnown, hf]
  simp only [State.decideWith, hx, State.copyNow_none _ _ hm]

theorem State.decideKnown_free (hx : f.fate true = .free) :
    s.decideKnown i = ((s.slowCount f true).leaveTransit i).discard i f.poisoned := by
  rw [State.decideKnown, hf]
  simp only [State.decideWith, hx, State.copyNow_none _ _ hm]

/-- R65, R818: the frame is admitted before its last beat, and waits for its checks. -/
theorem State.decideEarly_accepted {q : Nat} {t : State} {g : Frame} (hx : f.fate false = .to (toLeaf q))
    (ht : ((s.slowCount f false).leaveTransit i).decideTo i (.to (toLeaf q)) = (some (toLeaf q), t))
    (hg : t.frame? i = some g) :
    s.decideEarly i = t.setFrame i { g with
      stage := .waitFcs, pend := some (g.pkt i), pendQ := q, pendLeaf := true, pendCopy := none } := by
  rw [State.decideEarly, hf]
  simp only [hx, ht, State.copyFor_none _ _ hm, reduceCtorEq, if_false, Option.map_none, State.modFrame, hg]

end

end Sys2Proof.Machine
end

section
/-! PROOFS. What an admission decision leaves (R65, R366, R410, R414, R422, R818). -/

namespace Sys2Proof.Machine

theorem State.course_lagFree (s : State) (n c : Nat) : (s.lagFree n).course c = s.course c := rfl

theorem State.transit_lagFree (s : State) (n : Nat) : (s.lagFree n).transit = s.transit := rfl

theorem State.frame?_lagFree (s : State) (n i : Nat) : (s.lagFree n).frame? i = s.frame? i := rfl

theorem State.leaf?_lagFree (s : State) (n q : Nat) : (s.lagFree n).leaf? q = s.leaf? q := rfl

theorem State.leaves_lagFree (s : State) (n : Nat) : (s.lagFree n).leaves = s.leaves := rfl

theorem State.admHeld_lagFree (s : State) (n a : Nat) : (s.lagFree n).admHeld a = s.admHeld a := rfl

theorem State.admUse_lagFree (s : State) (n a : Nat) : (s.lagFree n).admUse a = s.admUse a := rfl

theorem State.fget_lagFree (s : State) (n : Nat) (id : RegId) (i : Nat) (f : Field) :
    (s.lagFree n).fget id i f = s.fget id i f := rfl

theorem AdmLike.slowCount {s t : State} (h : AdmLike s t) (f : Frame) (known : Bool) : AdmLike s (t.slowCount f known) := by
  unfold State.slowCount
  split
  · exact ⟨h.regs.rset _ _ (by decide), h.freed, h.fcThen, h.leaves, h.rxrs, h.frames⟩
  · exact h

section
variable {s : State} {c i q : Nat} {l : List Nat} {f : Frame} {nd : Node} {same : Bool}

/-- What a decision reads of the state in which its frame has left the transit account, the architect's s0 reads alike. -/
theorem State.deciding_like (known : Bool) :
    AdmLike ((s.decCycle c same).leaveTransit i) (((s.deciding c same l).slowCount f known).leaveTransit i) := by
  have h : AdmLike (s.decCycle c same) (s.deciding c same l) := ⟨.raw (.refl _) rfl, rfl, rfl, rfl, rfl, rfl⟩
  exact (h.slowCount f known).leaveTransit i

theorem State.decided_left (hi : s.frame? i = some f) (known : Bool) :
    Reached [.LOFT_USE, .COURSE_SLOW_CNT] c i l { f with transit := 0, gen := none } s
        (((s.deciding c same l).slowCount f known).leaveTransit i) ∧
      (((s.deciding c same l).slowCount f known).leaveTransit i).transit = s.transit - f.transit :=
  have h := (State.deciding_reached (c := c) same l hi).slowCount known
  ⟨h.leaveTransit, h.transit_left (by decide)⟩

end

namespace Reached

variable {R : List RegId} {c i q : Nat} {l : List Nat} {f : Frame} {nd : Node} {s t : State} (h : Reached R c i l f s t)
include h

/-- R414, R818: the frame is admitted to leaf q and joins it. -/
theorem joins (hR : .PORT_ADM_USE ∉ R) (hq : s.leaf? q = some nd) (hd : Bool) :
    (((t.admitted i f q hd).join i (.to (toLeaf q)) (toLeaf q)).course c).dec = l ∧
      ((t.admitted i f q hd).join i (.to (toLeaf q)) (toLeaf q)).transit = t.transit ∧
      (((t.admitted i f q hd).join i (.to (toLeaf q)) (toLeaf q)).frame? i).map (·.stage) = some .queued ∧
      (((t.admitted i f q hd).join i (.to (toLeaf q)) (toLeaf q)).leaf? q).map (fun m => (m.fifo.length, m.depth)) =
        some (nd.fifo.length + 1, nd.depth + f.layout.length) ∧
      (if hd then ((t.admitted i f q hd).join i (.to (toLeaf q)) (toLeaf q)).admHeld (acctOf f.port f.res.pri) =
          (s.admHeld (acctOf f.port f.res.pri) + f.layout.length) % 2 ^ fPORT_ADM_USE_HEAD.w
        else ((t.admitted i f q hd).join i (.to (toLeaf q)) (toLeaf q)).admUse (acctOf f.port f.res.pri) =
          (s.admUse (acctOf f.port f.res.pri) + f.layout.length) % 2 ^ fPORT_ADM_USE_USE.w) := by
  obtain ⟨af, al, ac, aw, ad⟩ := State.admitted_stat (i := i) (f := f) ((h.leaf q).trans hq) hd
  have hh : t.admHeld (acctOf f.port f.res.pri) = s.admHeld (acctOf f.port f.res.pri) := h.regs.fget hR _ _
  have hu : t.admUse (acctOf f.port f.res.pri) = s.admUse (acctOf f.port f.res.pri) := h.regs.fget hR _ _
  rw [hh, hu] at ad
  rw [State.join_leaf af al]
  generalize t.admitted i f q hd = A at af al ac aw ad ⊢
  let B := A.setFrame i { { f with
        acct := some (acctOf f.port f.res.pri), use := if hd then 0 else f.layout.length
        head := if hd then f.layout.length else 0 } with stage := .queued, pend := none }
  obtain ⟨jr, jc, jf, jw⟩ := State.joinLeaf_stat (s := B) al (Frame.pkt { f with
        acct := some (acctOf f.port f.res.pri), use := if hd then 0 else f.layout.length
        head := if hd then f.layout.length else 0 } i)
  have hc : B.courses = t.courses := ac
  refine ⟨?_, ?_, ?_, ?_, ?_⟩
  · rw [State.course, jc, hc]
    exact h.dec
  · exact (jw.fget (by decide) _ _).trans (aw.fget (by decide) _ _)
  · rw [State.frame?, jf]
    exact congrArg (Option.map (·.stage)) ((A.frame?_setFrame i i _).trans (if_pos rfl))
  · have := congrArg (Option.map fun r => (r.2.2.2.1.length, r.2.2.2.2)) jr
    rw [Option.map_map, Option.map_some, List.length_append] at this
    exact this
  · have eh := jw.fget (id := .PORT_ADM_USE) (by decide) (acctOf f.port f.res.pri) fPORT_ADM_USE_HEAD
    have eu := jw.fget (id := .PORT_ADM_USE) (by decide) (acctOf f.port f.res.pri) fPORT_ADM_USE_USE
    rw [State.admHeld, State.admUse, eh, eu]
    exact ad

/-- R422: a refusal of leaf q counts there and in LOFT_DROP, and the frame is freed. -/
theorem refused (hR : .LOFT_DROP ∉ R) (hr : f.refs = [f.cells]) (hq : s.leaf? q = some nd) :
    ((((t.count .LOFT_DROP 0 fLOFT_DROP_QUEUE).dropAt (toLeaf q) 1).freeFrame i).course c).dec = l ∧
      (((t.count .LOFT_DROP 0 fLOFT_DROP_QUEUE).dropAt (toLeaf q) 1).freeFrame i).frame? i = none ∧
      (((t.count .LOFT_DROP 0 fLOFT_DROP_QUEUE).dropAt (toLeaf q) 1).freeFrame i).fget .LOFT_DROP 0 fLOFT_DROP_QUEUE =
        min (2 ^ fLOFT_DROP_QUEUE.w - 1) (s.fget .LOFT_DROP 0 fLOFT_DROP_QUEUE + 1) ∧
      ((((t.count .LOFT_DROP 0 fLOFT_DROP_QUEUE).dropAt (toLeaf q) 1).freeFrame i).leaf? q).map
        (fun m => (m.fifo, m.depth, m.drops)) = some (nd.fifo, nd.depth, sat32 (nd.drops + 1)) := by
  have hl : (t.count .LOFT_DROP 0 fLOFT_DROP_QUEUE).leaf? q = some nd := (h.leaf q).trans hq
  have hd : (t.count .LOFT_DROP 0 fLOFT_DROP_QUEUE).dropAt (toLeaf q) 1 =
      (t.count .LOFT_DROP 0 fLOFT_DROP_QUEUE).setLeaf q { nd with drops := sat32 (nd.drops + 1) } := by
    rw [State.dropAt, if_pos rfl, hl]
  let K := (t.count .LOFT_DROP 0 fLOFT_DROP_QUEUE).setLeaf q { nd with drops := sat32 (nd.drops + 1) }
  have hK : Reached [] c i l f K K := ⟨h.frame, rfl, h.dec, .refl K⟩
  obtain ⟨kf, kl, kd, kw⟩ := hK.freed hr
  rw [hd]
  refine ⟨kd, kf, ?_, ?_⟩
  · rw [kw.fget (by decide)]
    refine (State.fget_count t .LOFT_DROP 0 fLOFT_DROP_QUEUE (by decide)).trans ?_
    rw [h.regs.fget hR]
  · rw [State.leaf?, kl]
    exact congrArg (Option.map _) (Store.find?_put_same _ _ _)

/-- R410: the frame is discarded. -/
theorem discarded (hr : f.refs = [f.cells]) (b : Bool) :
    ((t.discard i b).course c).dec = l ∧ (t.discard i b).frame? i = none ∧ (t.discard i b).leaves = s.leaves ∧
      Writes (.LOFT_USE :: .GEN_INTEG_POISON :: R) s (t.discard i b) := by
  have hk : Reached (.GEN_INTEG_POISON :: R) c i l f s
      (if b then t.poisonCount fGEN_INTEG_POISON_RX_FREED else t) := by
    cases b with
    | true => exact h.count _ _ _
    | false => exact ⟨h.frame, h.leaves, h.dec, h.regs.mono (List.subset_cons_self _ _)⟩
  obtain ⟨kf, kl, kd, kw⟩ := hk.freed hr
  exact ⟨kd, kf, kl, kw⟩

end Reached

section
variable {s : State} {c i q : Nat} {l : List Nat} {f : Frame} {nd : Node} {same : Bool}
  (hf : s.failed = false) (hd : (s.course c).dec = i :: l) (hi : s.frame? i = some f) (hm : f.res.mirror = none)
include hf hd hi hm

/-- R65, R422: the decision of a frame whose checks are made, for a leaf. -/
theorem State.decision_to (hdone : f.done = true) (hx : f.fate true = .to (toLeaf q)) :
    ∃ n T, Reached [.LOFT_USE, .COURSE_SLOW_CNT] c i l { f with transit := 0, gen := none } s T ∧
      T.transit = s.transit - f.transit ∧ AdmLike ((s.decCycle c same).leaveTransit i) T ∧
      s.admissionDecision c same =
        (State.concluded i (toLeaf q) (T.decideTo i (.to (toLeaf q)))).lagFree n := by
  obtain ⟨n, hn⟩ := State.admissionDecision_eq hf hd hi same
  obtain ⟨hT, ht⟩ := State.decided_left (c := c) (l := l) (same := same) hi true
  refine ⟨n, _, hT, ht, State.deciding_like true, ?_⟩
  rw [hn, hdone, if_pos rfl, State.decideKnown_to (State.deciding_reached same l hi).frame hm hx]

end

end Sys2Proof.Machine

open Sys2Proof Sys2Proof.Machine

/-- Settles O51: the decision leaves the frame's list and the transit account, and ends as the frame's fate and the
admission check say: in the leaf, refused and counted, dropped, freed, or waiting for its checks. -/
theorem admissionDecides : Obligations.AdmissionDecides := by
  unfold Obligations.AdmissionDecides
  intro c same i q l f nd hd s s0 ha hs0 hf hdec hi hm hr
  subst hs0
  have known (hdone : f.done = true) {u : State} (hu : (s.deciding c same l).decideKnown i = u) :
      ∃ n, s.admissionDecision c same = u.lagFree n := by
    obtain ⟨n, hn⟩ := State.admissionDecision_eq hf hdec hi same
    exact ⟨n, by rw [hn, hdone, if_pos rfl, hu]⟩
  have hD := State.deciding_reached same l hi (c := c)
  refine ⟨fun hdone hx hq => ⟨fun hv => ?_, fun hv => ?_⟩, fun hdone hx => ?_, fun hdone hx => ?_,
    fun hdone hx hq hv => ?_⟩
  · -- the frame is admitted
    obtain ⟨n, T, hT, ht, hl, hn⟩ := State.decision_to (q := q) (same := same) hf hdec hi hm hdone hx
    rw [State.decideTo_accepted hT.frame ((hT.leaf q).trans hq) ((hl.admission _ _ _ _).trans hv)] at hn
    obtain ⟨j1, j2, j3, j4, j5⟩ := hT.joins (by decide) hq hd
    refine effect_done (congrArg s.done hn) ?_
    rw [State.course_lagFree, State.transit_lagFree, State.frame?_lagFree, State.leaf?_lagFree, State.admHeld_lagFree,
      State.admUse_lagFree]
    exact ⟨j1, j2.trans ht, j3, j4, j5⟩
  · -- its queue refuses it
    obtain ⟨n, T, hT, ht, hl, hn⟩ := State.decision_to (q := q) (same := same) hf hdec hi hm hdone hx
    rw [State.decideTo_refused hT.frame ((hT.leaf q).trans hq) ((hl.admission _ _ _ _).trans hv)] at hn
    obtain ⟨j1, j2, j3, j4⟩ := hT.refused (by decide) hr hq
    refine effect_done (congrArg s.done hn) ?_
    rw [State.course_lagFree, State.frame?_lagFree, State.leaf?_lagFree, State.fget_lagFree]
    exact ⟨j1, j2, j3, j4⟩
  · -- it is dropped
    obtain ⟨n, hn⟩ := known hdone (State.decideKnown_drop hD.frame hm hx)
    have hE := hD.slowCount true
    have hK := (hE.count .TABLE_ACT_CNT 0 fTABLE_ACT_CNT_DROPPED).self
    obtain ⟨j1, j2, -, j3⟩ := hK.leaveTransit.discarded hr false
    refine effect_done (congrArg s.done hn) ?_
    rw [State.course_lagFree, State.frame?_lagFree, State.fget_lagFree, j3.fget (by decide),
      State.fget_count _ _ _ _ (by decide), hE.regs.fget (by decide)]
    exact ⟨j1, j2, rfl⟩
  · -- it is freed
    obtain ⟨n, hn⟩ := known hdone (State.decideKnown_free hD.frame hm hx)
    obtain ⟨j1, j2, j3, -⟩ := (hD.slowCount true).leaveTransit.discarded hr f.poisoned
    refine effect_done (congrArg s.done hn) ?_
    rw [State.course_lagFree, State.frame?_lagFree, State.leaves_lagFree]
    exact ⟨j1, j2, j3⟩
  · -- it waits for its checks
    obtain ⟨n, hn⟩ := State.admissionDecision_eq hf hdec hi same
    obtain ⟨hT, -⟩ := State.decided_left (c := c) (l := l) (same := same) hi false
    have hl := State.deciding_like (s := s) (c := c) (i := i) (l := l) (f := f) (same := same) false
    obtain ⟨af, al, -⟩ := State.admitted_stat (i := i) (f := { f with transit := 0, gen := none })
      ((hT.leaf q).trans hq) hd
    have he := State.decideEarly_accepted hD.frame hm hx (State.decideTo_accepted hT.frame ((hT.leaf q).trans hq)
      ((hl.admission _ _ _ _).trans hv)) af
    rw [hdone, if_neg (by decide), he] at hn
    refine effect_done (congrArg s.done hn) ?_
    rw [State.frame?_lagFree, State.leaf?_lagFree, State.frame?_setFrame, if_pos rfl]
    exact ⟨rfl, congrArg (Option.map _) al⟩
end

section
/-! PROOFS. What follows from a command takes frames out of the loft, and puts none there. -/

namespace Sys2Proof.Machine

-- The ports

theorem State.core_modMac (s : State) (p : Nat) (f : MacPort → MacPort) : (s.modMac p f).core = s.core := rfl

theorem State.core_follow (s : State) (id : RegId) (i : Nat) (f : Field) (b : Bool) :
    (s.follow id i f b).core = s.core := by
  unfold State.follow
  exact State.core_ite rfl (s.core_fset id i f _)

theorem State.core_setVerify (s : State) (p v : Nat) : (s.setVerify p v).core = s.core := s.core_fset _ _ _ _

theorem State.core_verifyStart (s : State) (p : Nat) : (s.verifyStart p).core = s.core := by
  have h := s.core_modMac p (fun m => { m with verifyTries := 0, verifyEnd := none, verifyDue := false })
  unfold State.verifyStart State.verifySend
  exact State.core_ite ((State.core_setVerify _ _ _).trans h)
    (State.core_ite ((State.core_setVerify _ _ _).trans ((State.core_modMac _ _ _).trans h))
      ((State.core_setVerify _ _ _).trans h))

theorem State.core_dropMarkers (s : State) (p : Nat) : (s.dropMarkers p).core = s.core := by
  have h := State.core_forEach (f := fun s n => s.follow .LANE_SKEW n fLANE_SKEW_VALID false)
    (fun u n => u.core_follow _ n _ _) s (s.portLanes p)
  unfold State.dropMarkers
  exact State.core_ite rfl ((State.core_follow _ _ _ _ _).trans ((State.core_follow _ _ _ _ _).trans h))

theorem State.core_linkUp (s : State) (p : Nat) : (s.linkUp p).core = s.core := by
  unfold State.linkUp State.paceReset
  exact (State.core_verifyStart _ p).trans ((State.core_modMac _ _ _).trans ((State.core_modMac _ _ _).trans
    ((State.core_flag _ _ _ _).trans (State.core_fset _ _ _ _ _))))

theorem State.core_loopItem (s : State) (p : Nat) (x : RxFrame ⊕ Fragment) : (s.loopItem p x).core = s.core := by
  unfold State.loopItem
  exact State.core_ite (s.core_modMac p _) rfl

theorem State.core_mSend (s : State) (p : Nat) : (s.mSend p).core = s.core := by
  have send (u : State) (hu : u.core = s.core) (b : Byte) :
      (((u.modMac p (fun m => { m with lastCtl := mPacket })).onLine p (preamble b ++ mPacket) false).loopItem p
        (.inl { bytes := mPacket, start := b })).core = s.core :=
    (State.core_loopItem _ p _).trans ((State.core_onLine _ p _ _).trans ((u.core_modMac p _).trans hu))
  unfold State.mSend
  refine State.core_ite rfl ?_
  dsimp only
  have h := State.core_ite (c := (s.mac p).respondDue = true)
    (send _ (s.core_modMac p (fun m => { m with respondDue := false })) smdR) (rfl : s.core = s.core)
  exact State.core_ite (send _ ((State.core_modMac _ p _).trans h) smdV) h

theorem State.core_showPort (s : State) (p : Nat) : (s.showPort p).core = s.core := by
  have finish (u : State) : (u.finish p).core = u.core := by
    unfold State.finish
    exact State.core_ite (u.core_modMac p _) rfl
  have fec (u : State) : (u.followFec p).core = u.core := by
    unfold State.followFec
    exact State.core_ite rfl (State.core_ite ((State.core_flag _ _ _ _).trans (u.core_fset _ _ _ _)) (u.core_fset _ _ _ _))
  have spray (u : State) : (u.followSpray p).core = u.core := by
    unfold State.followSpray
    exact State.core_ite (u.core_follow _ _ _ _) rfl
  unfold State.showPort
  refine (spray _).trans ((fec _).trans ((State.core_mSend _ p).trans ((State.core_follow _ _ _ _ _).trans
    ((finish _).trans ?_))))
  exact (State.core_follow _ _ _ _ _).trans ((State.core_follow _ _ _ _ _).trans (s.core_follow _ _ _ _))

-- The admin engine

/-- All of a state but the registers and the admin engine. -/
def State.unadmin (s : State) : State :=
  { s with regs := [], rafterQ := [], adminFifo := [], adminStalled := false, adminCur := none, adminDue := [], lops := [] }

theorem State.unadmin_adminPost (s : State) (c : AdminCompl) : (s.adminPost c).unadmin = s.unadmin := by
  unfold State.adminPost
  dsimp only
  split <;> rfl

theorem State.unadmin_rset (s : State) (id : RegId) (i : Nat) (v : Word) : (s.rset id i v).unadmin = s.unadmin := rfl

theorem State.unadmin_fset (s : State) (id : RegId) (i : Nat) (f : Field) (n : Nat) :
    (s.fset id i f n).unadmin = s.unadmin := rfl

theorem State.unadmin_ite {c : Prop} [Decidable c] {s t u : State} (ht : t.unadmin = s.unadmin)
    (hu : u.unadmin = s.unadmin) : (if c then t else u).unadmin = s.unadmin := by split <;> assumption

theorem State.unadmin_lopFinal (s : State) (k : Nat) (x : Lop) (st : Nat) : (s.lopFinal k x st).unadmin = s.unadmin := by
  unfold State.lopFinal State.setLopState State.flag
  rw [State.unadmin_adminPost, State.unadmin_rset, State.unadmin_rset, State.unadmin_fset, State.unadmin_fset,
    State.unadmin_fset, State.unadmin_fset]

theorem State.unadmin_askLop (s : State) (k : Nat) (x : Lop) (l : List RafterReq) :
    ((s.setLop k x).enqueue l).unadmin = s.unadmin := rfl

theorem State.unadmin_lopFinish (s : State) (k : Nat) : (s.lopFinish k).unadmin = s.unadmin := by
  unfold State.lopFinish
  split
  · rfl
  · split
    · rfl
    · refine State.unadmin_ite rfl (State.unadmin_ite ?_ (State.unadmin_lopFinal _ _ _ _))
      exact State.unadmin_ite ((State.unadmin_lopFinal _ _ _ _).trans (State.unadmin_askLop _ _ _ _))
        (State.unadmin_askLop _ _ _ _)

theorem State.unadmin_lopEnd (s : State) (k st : Nat) : (s.lopEnd k st).unadmin = s.unadmin := by
  unfold State.lopEnd
  split
  · rfl
  · next x _ =>
    refine (State.unadmin_lopFinish _ _).trans ?_
    have h1 : (if cb x.bytes 0 1 == oBULK then s.fset .TABLE_GEN_STAT 0 fTABLE_GEN_STAT_BULK 0 else s).unadmin =
        s.unadmin := State.unadmin_ite (s.unadmin_fset _ _ _ _) rfl
    have h2 (u : State) (t : Nat) : (u.rehashEnd t).unadmin = u.unadmin :=
      (State.unadmin_fset _ _ _ _ _).trans (u.unadmin_fset _ _ _ _)
    exact State.unadmin_ite ((h2 _ _).trans h1) h1

theorem State.unadmin_eyeCheck (s : State) : s.eyeCheck.unadmin = s.unadmin := by
  unfold State.eyeCheck
  refine State.forEach_same (π := State.unadmin) (fun u e => ?_) s _
  exact State.unadmin_ite ((State.unadmin_lopEnd _ _ _).trans (u.unadmin_fset _ _ _ _)) rfl

theorem State.unadmin_badOpcodes (n : Nat) (s : State) : (s.badOpcodes n).unadmin = s.unadmin := by
  induction n generalizing s with
  | zero => rfl
  | succ n ih =>
    unfold State.badOpcodes
    split
    · exact State.unadmin_ite rfl ((ih _).trans (State.unadmin_adminPost _ _))
    · rfl

theorem State.unadmin_adminSettle (s : State) : s.adminSettle.unadmin = s.unadmin := by
  have gen : s.genDone.unadmin = s.unadmin := by
    unfold State.genDone State.curDone
    split
    · refine State.unadmin_ite ?_ rfl
      split
      · exact State.unadmin_adminPost _ _
      · rfl
    · rfl
  have fence (u : State) : u.fenceCheck.unadmin = u.unadmin := by
    unfold State.fenceCheck
    split
    · exact State.unadmin_ite (u.unadmin_fset _ _ _ _) rfl
    · exact State.unadmin_ite (u.unadmin_fset _ _ _ _) rfl
  exact (fence _).trans ((State.unadmin_badOpcodes _ _).trans gen)

-- Frames

/-- Every frame of t stands in s too, with the same generation. -/
def Thins (s t : State) : Prop := ∀ i g, t.frame? i = some g → ∃ f, s.frame? i = some f ∧ f.gen = g.gen

namespace Thins

variable {s t u : State}

theorem refl (s : State) : Thins s s := fun _ g h => ⟨g, h, rfl⟩

theorem trans (h : Thins s t) (k : Thins t u) : Thins s u := fun i g hg =>
  have ⟨f, hf, e⟩ := k i g hg
  have ⟨f', hf', e'⟩ := h i f hf
  ⟨f', hf', e'.trans e⟩

theorem of_frames (h : t.frames = s.frames) : Thins s t := fun i g hg => ⟨g, by rw [State.frame?, ← h]; exact hg, rfl⟩

theorem of_core (h : t.core = s.core) : Thins s t := of_frames (State.core_part h (·.frames))

theorem of_unadmin (h : t.unadmin = s.unadmin) : Thins s t := of_frames (congrArg (fun u : State => u.frames) h : _)

theorem ite {c : Prop} [Decidable c] (h : Thins s t) (k : Thins s u) : Thins s (if c then t else u) := by
  split <;> assumption

theorem forEach {α : Type} (l : List α) {f : State → α → State} (hf : ∀ u x, Thins u (f u x)) (h : Thins s t) :
    Thins s (t.forEach l f) := by
  induction l generalizing t with
  | nil => exact h
  | cons x l ih => exact ih (h.trans (hf t x))

/-- A frame written in place of one of the same generation. -/
theorem setFrame {i : Nat} {f g : Frame} (h : Thins s t) (hf : t.frame? i = some f) (hg : f.gen = g.gen) :
    Thins s (t.setFrame i g) := by
  refine h.trans fun j x hx => ?_
  rw [State.frame?_setFrame] at hx
  split at hx
  · next e =>
    cases hx
    exact ⟨f, e ▸ hf, hg⟩
  · exact ⟨x, hx, rfl⟩

end Thins

theorem State.freeCells_frames (s : State) (f : Frame) (ids : List Nat) : (s.freeCells f ids).frames = s.frames := by
  unfold State.freeCells
  refine State.forEach_same (π := fun u => u.frames) (fun u x => ?_) s _
  rfl

theorem State.release_thins (s : State) (i : Nat) (ids : List Nat) : Thins s (s.release i ids) := by
  unfold State.release
  split
  · exact .refl s
  · next f hf =>
    have hc (g : Frame) : (s.freeCells g ids).frames = s.frames := s.freeCells_frames g ids
    refine .ite (fun j g hg => ?_) (.setFrame (f := f) (.of_frames (hc _)) ?_ rfl)
    · have hd : ((s.freeCells { f with refs := f.refs.erase ids } ids).frames.del i).find? j = some g := hg
      rw [hc, Store.find?_del] at hd
      split at hd
      · cases hd
      · exact ⟨g, hd, rfl⟩
    · rw [State.frame?, hc]
      exact hf

theorem State.releasePkt_thins (s : State) (k : Pkt) : Thins s (s.releasePkt k) := by
  have uncharge (a use head : Nat) : (s.unchargeIngress a use head).frames = s.frames :=
    State.core_part (State.core_fcUpdate (s.dropIngress a use head) (a / 8)) (·.frames)
  unfold State.releasePkt
  split
  · exact .refl s
  · next f hf =>
    refine .trans ?_ (State.release_thins _ _ _)
    have keep {t : State} (ht : t.frames = s.frames) :
        Thins s (if k.copy then t else t.setFrame k.fid { f with acct := none, use := 0, head := 0, hostUse := 0 }) :=
      .ite (.of_frames ht) (.setFrame (f := f) (.of_frames ht) (by rw [State.frame?, ht]; exact hf) rfl)
    refine keep ?_
    split
    · rfl
    · split
      · exact uncharge _ _ _
      · split <;> rfl

theorem State.cutLink_thins (s : State) (p : Nat) (c : TxCur) (n : Nat) : Thins s (s.cutLink p c n) := by
  have modTxr (u : State) (r : Nat) (f : TxRing → TxRing) : (u.modTxr r f).frames = u.frames := by
    unfold State.modTxr
    split <;> rfl
  have sent (u : State) (k : Pkt) (t : Int) (m : Nat) (b : Bool) : (u.hostSent p k t m b).frames = u.frames := by
    unfold State.hostSent State.txSent State.modEntry
    split
    · dsimp only
      split
      · exact (modTxr _ _ _).trans ((modTxr _ _ _).trans (modTxr _ _ _))
      · exact (modTxr _ _ _).trans (modTxr _ _ _)
    · rfl
  have clear (u : State) : (u.clearOneStep c).frames = u.frames := by
    unfold State.clearOneStep
    split <;> rfl
  have uncharge (u : State) : (u.unchargeSent c.pkt).frames = u.frames := by
    unfold State.unchargeSent State.unchargeLeaf
    split
    · split
      · split <;> rfl
      · rfl
    · rfl
  have cut : Thins s (if s.portUsed p then s.statCut p n else s) := .ite (.of_core (s.core_statCut p n)) (.refl s)
  unfold State.cutLink State.hostCut State.leavePort
  refine .trans ?_ (State.releasePkt_thins _ _)
  exact cut.trans (.of_frames ((uncharge _).trans ((sent _ _ _ _ _).trans (clear _))))

theorem State.linkDown_thins (s : State) (p st : Nat) : Thins s (s.linkDown p st) := by
  have cutIf (u : State) (o : Option TxCur) (n : TxCur → Nat) : Thins u (u.cutIf p o n) := by
    cases o with
    | none => exact .refl u
    | some c => exact u.cutLink_thins p c (n c)
  have h : Thins s (((s.fset .PORT_LINK_STAT p fPORT_LINK_STAT_LINK_STATE st).flag .PORT_LINK_EVT p fPORT_LINK_EVT_DOWN)) :=
    .of_core ((State.core_flag _ _ _ _).trans (s.core_fset _ _ _ _))
  have first (m : MacPort) (o : Option TxCur) (n : TxCur → Nat) :
      Thins s ((((s.fset .PORT_LINK_STAT p fPORT_LINK_STAT_LINK_STATE st).flag .PORT_LINK_EVT p
        fPORT_LINK_EVT_DOWN).setMac p m).cutIf p o n) :=
    (h.trans (.of_frames (State.frames_setMac _ _ _))).trans (cutIf _ _ _)
  unfold State.linkDown
  refine .trans ?_ (.of_core (State.core_verifyStart _ p))
  exact .ite (first _ _ _) (.trans (first _ _ _) (cutIf _ _ _))

theorem State.followLink_thins (s : State) (p : Nat) : Thins s (s.followLink p) := by
  have h : Thins s (s.dropMarkers p) := .of_core (s.core_dropMarkers p)
  unfold State.followLink
  exact .ite h (.ite (h.trans (.of_core (State.core_linkUp _ p)))
    (.ite (h.trans (State.linkDown_thins _ p _)) (h.trans (.of_core (State.core_fset _ _ _ _ _)))))

theorem State.rclkFollow_thins (s : State) (k : Nat) : Thins s (s.rclkFollow k) := by
  unfold State.rclkFollow State.rclkSquelch
  exact .ite (.ite (.of_frames rfl) (.of_frames rfl)) (.ite (.of_frames rfl) (.refl s))

/-- What follows from a command that frees no pads. -/
theorem State.after_thins (s t : State) (h : s.bootU.asserted = false) (hp : s.padsFreed t = t) : Thins t (s.after t) := by
  have hs (u : State) : Thins u u.settle :=
    (((Thins.refl u).forEach _ State.followLink_thins).forEach _ fun u p => .of_core (u.core_showPort p)).trans
      ((State.rclkFollow_thins _ 0).trans (State.rclkFollow_thins _ 1))
  have hw (u : State) : Thins u u.followWork :=
    .forEach _ (fun u d => .ite (.refl u) (.of_frames ((u.wake_woken d).part (·.frames)))) (.refl u)
  have hv (u : State) : Thins u u.followWatch := .ite (.of_frames ((u.setDom_woken _ _).part (·.frames))) (.refl u)
  unfold State.after
  rw [h, if_neg (by decide), hp]
  exact (((((Thins.of_unadmin t.unadmin_eyeCheck).trans (.of_unadmin (State.unadmin_adminSettle _))).trans (hs _)).trans
    (hw _)).trans (hv _)).trans (.of_frames rfl)

end Sys2Proof.Machine
end

section
/-! PROOFS. A pass whose meter drops the frame of a mirror copy (R369, R410, R469). -/

namespace Sys2Proof.Machine

/-- A frame that waits for its second pass; a mirror copy of its first pass still holds its cells (R367, R411). -/
def mirroredFrame : Frame :=
  { port := 0, bytes := List.replicate 60 0, fcs := [0, 0, 0, 0], layout := [(0, 64)], refs := [[0], [0]], gen := some 0,
    course := 0, stage := .recirc }

/-- Course 0 takes that frame next. It matches no entry, and the default action of its port has meter 0, whose buckets are
empty and which drops what it marks red. -/
def meteredState : State :=
  { ((((State.reset.fset .BOOT_STAT 0 fBOOT_STAT_STATE bRUNNING).fset .POWER_READY 0 fPOWER_READY_READY 0x7fff).rset
      .POWER_DOM_STAT 0 0).rset .TABLE_DEFAULT 0 0x400001) with
    frames := [(1, mirroredFrame)], courses := [(0, { recirc := [1] })], meters := [(0, { d0 := 0x21 })] }

/-- The meter drops the frame: it leaves the transit account and carries no generation, and the copy keeps it in the
loft. -/
theorem meteredState_dropped :
    ((meteredState.after (meteredState.parserTake 0 .clean .clean)).frame? 1).map (·.gen) = some none := by
  decide +kernel

end Sys2Proof.Machine

open Sys2Proof Sys2Proof.Machine

/-- Refutes O50: a recirculated frame that its meter drops while a mirror copy still holds its cells stays in the loft
without the generation of its first pass, which the statement says it keeps. -/
theorem not_passesKeepOrder : ¬ Obligations.PassesKeepOrder := by
  unfold Obligations.PassesKeepOrder
  intro h
  obtain ⟨pass, -⟩ := h 0 0 1 [] mirroredFrame false .clean .clean meteredState rfl (by decide +kernel)
  obtain ⟨later, -⟩ := pass (by decide +kernel) (by decide +kernel) (by decide +kernel) (by decide +kernel) rfl
  obtain ⟨⟨u, hu, -, -, -, -, hgen, -⟩, -⟩ := later (by decide +kernel)
  have he : meteredState.after u = meteredState.after (meteredState.parserTake 0 .clean .clean) :=
    (Host.Outcome.next.inj hu).symm
  obtain ⟨g, hg, hn⟩ := Option.map_eq_some_iff.mp meteredState_dropped
  rw [← he] at hg
  obtain ⟨f, hf, e⟩ := meteredState.after_thins u rfl rfl 1 g hg
  rw [hf, Option.all_some, e, hn] at hgen
  simp [mirroredFrame] at hgen
end

section
/-! PROOFS. The counters of the MAC (R769, R771), and what a packet's leaving its port changes (R410, R414, R451). -/

namespace Sys2Proof.Machine

-- The counters of a port

theorem State.fget_rset_ne (s : State) {a b : RegId} {i j : Nat} (v : Word) (f : Field) (h : ¬ (a = b ∧ i = j)) :
    (s.rset a i v).fget b j f = s.fget b j f := by
  rw [State.fget, State.rget_rset_ne _ _ h, State.fget]

theorem State.stat_same (s : State) (p k n : Nat) :
    (s.stat p k n).fget .STATS_PORT (p * 64 + k) fSTATS_PORT_COUNT =
      (s.fget .STATS_PORT (p * 64 + k) fSTATS_PORT_COUNT + n) % 2 ^ 48 := by
  have h : (s.wrapAdd .STATS_PORT (p * 64 + k) fSTATS_PORT_COUNT n).fget .STATS_PORT (p * 64 + k) fSTATS_PORT_COUNT =
      (s.fget .STATS_PORT (p * 64 + k) fSTATS_PORT_COUNT + n) % 2 ^ 48 :=
    State.fget_fset_same _ _ _ _ _ (by decide)
  unfold State.stat
  dsimp only
  split
  · exact (State.fget_rset_ne _ _ _ (by simp)).trans h
  · exact h

theorem State.stat_ne (s : State) (p n : Nat) {k j : Nat} (h : p * 64 + k ≠ j) :
    (s.stat p k n).fget .STATS_PORT j fSTATS_PORT_COUNT = s.fget .STATS_PORT j fSTATS_PORT_COUNT := by
  have hw : (s.wrapAdd .STATS_PORT (p * 64 + k) fSTATS_PORT_COUNT n).fget .STATS_PORT j fSTATS_PORT_COUNT =
      s.fget .STATS_PORT j fSTATS_PORT_COUNT := State.fget_rset_ne _ _ _ (fun e => h e.2)
  unfold State.stat
  dsimp only
  split
  · exact (State.fget_rset_ne _ _ _ (by simp)).trans hw
  · exact hw

theorem State.mac_congr {s t : State} (h : t.macs = s.macs) (p : Nat) : t.mac p = s.mac p := by
  rw [State.mac, h, State.mac]

theorem State.stat_mac (s : State) (p k n q : Nat) : (s.stat p k n).mac q = s.mac q := by
  unfold State.stat
  dsimp only
  split <;> rfl

theorem State.statTx_mac (s : State) (p : Nat) (b : List Byte) (n q : Nat) : (s.statTx p b n).mac q = s.mac q := by
  have h : (((s.stat p 32 1).stat p 33 n).stat p (47 + sizeBucket n) 1).mac q = s.mac q :=
    (State.stat_mac _ _ _ _ _).trans ((State.stat_mac _ _ _ _ _).trans (s.stat_mac _ _ _ _))
  unfold State.statTx
  dsimp only
  split
  · exact (State.stat_mac _ _ _ _ _).trans h
  · split
    · exact (State.stat_mac _ _ _ _ _).trans h
    · exact h

/-- R769: a frame sent whole counts one frame and its length. -/
theorem State.statTx_counts (s : State) (p : Nat) (b : List Byte) (n : Nat) :
    (s.statTx p b n).fget .STATS_PORT (p * 64 + 32) fSTATS_PORT_COUNT =
        (s.fget .STATS_PORT (p * 64 + 32) fSTATS_PORT_COUNT + 1) % 2 ^ 48 ∧
      (s.statTx p b n).fget .STATS_PORT (p * 64 + 33) fSTATS_PORT_COUNT =
        (s.fget .STATS_PORT (p * 64 + 33) fSTATS_PORT_COUNT + n) % 2 ^ 48 := by
  let t := ((s.stat p 32 1).stat p 33 n).stat p (47 + sizeBucket n) 1
  have last {k : Nat} (h : k ≤ 33) : (s.statTx p b n).fget .STATS_PORT (p * 64 + k) fSTATS_PORT_COUNT =
      t.fget .STATS_PORT (p * 64 + k) fSTATS_PORT_COUNT := by
    unfold State.statTx
    dsimp only
    split
    · exact State.stat_ne _ _ _ (by omega)
    · split
      · exact State.stat_ne _ _ _ (by omega)
      · rfl
  constructor
  · rw [last (by decide), State.stat_ne _ _ _ (by omega), State.stat_ne _ _ _ (by omega), State.stat_same]
  · rw [last (by decide), State.stat_ne _ _ _ (by omega), State.stat_same, State.stat_ne _ _ _ (by omega)]

-- The rings of transmit entries

/-- All of a state but the transmit rings. -/
def State.unringed (s : State) : State := { s with txrs := [] }

theorem State.unringed_part {β : Type} {s t : State} (h : t.unringed = s.unringed) (π : State → β)
    (hπ : ∀ u, π u.unringed = π u := by intro; rfl) : π t = π s := by
  rw [← hπ t, h, hπ s]

theorem State.unringed_modTxr (s : State) (r : Nat) (f : TxRing → TxRing) : (s.modTxr r f).unringed = s.unringed := by
  unfold State.modTxr
  split <;> rfl

theorem State.unringed_modEntry (s : State) (r i : Nat) (f : TxEntry → TxEntry) :
    (s.modEntry r i f).unringed = s.unringed := s.unringed_modTxr _ _

theorem State.unringed_hostSent (s : State) (p : Nat) (k : Pkt) (t : Int) (n : Nat) (b : Bool) :
    (s.hostSent p k t n b).unringed = s.unringed := by
  have sent (r i : Nat) : (s.txSent r i (stampOf t) n p).unringed = s.unringed :=
    (State.unringed_modEntry _ _ _ _).trans (s.unringed_modTxr _ _)
  unfold State.hostSent
  split
  · dsimp only
    split
    · exact (State.unringed_modEntry _ _ _ _).trans (sent _ _)
    · exact sent _ _
  · rfl

theorem State.unringed_txPoisoned (s : State) (r i : Nat) : (s.txPoisoned r i).unringed = s.unringed :=
  (State.unringed_modTxr _ _ _).trans (s.unringed_modEntry _ _ _)

-- A packet that leaves its port

/-- A MAC but for the flow-control frames that are due on it. -/
def MacPort.unflowed (m : MacPort) : MacPort := { m with fcDue := [] }

theorem MacPort.unflowed_part {β : Type} {m n : MacPort} (h : m.unflowed = n.unflowed) (π : MacPort → β)
    (hπ : ∀ m, π m.unflowed = π m := by intro; rfl) : π m = π n := by
  rw [← hπ m, h, hπ n]

theorem State.fcFall_mac (s : State) (p i : Nat) (b : Bool) (q : Nat) :
    ((s.fcFall p i b).mac q).unflowed = (s.mac q).unflowed := by
  rw [State.fcFall, State.modMac, State.mac_setMac]
  split
  · next h => rw [h]; rfl
  · rfl

theorem State.fcUpdate_mac (s : State) (p q : Nat) : ((s.fcUpdate p).mac q).unflowed = (s.mac q).unflowed := by
  have ite {c : Prop} [Decidable c] {t u v : State} (ht : (t.mac q).unflowed = (v.mac q).unflowed)
      (hu : (u.mac q).unflowed = (v.mac q).unflowed) : ((if c then t else u).mac q).unflowed = (v.mac q).unflowed := by
    split <;> assumption
  have hp (u : State) (i : Nat) : ((u.fcPriority p i).mac q).unflowed = (u.mac q).unflowed := by
    unfold State.fcPriority
    exact ite rfl (ite (State.fcFall_mac _ _ _ _ _) rfl)
  have he : ((s.forEach (List.range 8) (fun s i => s.fcPriority p i)).mac q).unflowed = (s.mac q).unflowed :=
    State.forEach_same (π := fun u => (u.mac q).unflowed) hp s _
  unfold State.fcUpdate State.fcPause
  exact ite (ite he ((State.fcFall_mac _ _ _ _ _).trans he)) (ite he he)

/-- What a packet that leaves its queue may change: the accounts of the loft. -/
def accountRegs : List RegId := [.PORT_ADM_USE, .PORT_FC_TX_STAT, .LOFT_USE]

theorem State.unchargeIngress_stat (s : State) (a use head q : Nat) :
    ((s.unchargeIngress a use head).core.unlofted = s.core.unlofted) ∧
      ((s.unchargeIngress a use head).mac q).unflowed = (s.mac q).unflowed ∧
      Writes accountRegs s (s.unchargeIngress a use head) := by
  have hd : Writes accountRegs s (s.dropIngress a use head) := by
    refine .raw (.fset (id := .PORT_ADM_USE) a fPORT_ADM_USE_HEAD (s.admHeld a - head) (by decide)
      (.fset (id := .PORT_ADM_USE) a fPORT_ADM_USE_USE (s.admUse a - use) (by decide) (.refl s))) ?_
    rfl
  refine ⟨?_, State.fcUpdate_mac _ _ _, hd.trans ((State.fcUpdate_writes _ _).mono (by decide))⟩
  have h : (s.unchargeIngress a use head).core = (s.dropIngress a use head).core := State.core_fcUpdate _ _
  rw [h]
  rfl

/-- R410, R414: a packet's reference is released, with the charges of its account. -/
theorem State.releasePkt_stat (s : State) (k : Pkt) (q : Nat) :
    (s.releasePkt k).core.unlofted = s.core.unlofted ∧ ((s.releasePkt k).mac q).unflowed = (s.mac q).unflowed ∧
      Writes accountRegs s (s.releasePkt k) := by
  unfold State.releasePkt
  split
  · exact ⟨rfl, rfl, .refl s⟩
  · next f hf =>
    have hr (t : State) := t.unlofted_release k.fid k.ids
    have release {t : State} (h : t.core.unlofted = s.core.unlofted ∧ (t.mac q).unflowed = (s.mac q).unflowed ∧
        Writes accountRegs s t) : (t.release k.fid k.ids).core.unlofted = s.core.unlofted ∧
          ((t.release k.fid k.ids).mac q).unflowed = (s.mac q).unflowed ∧
          Writes accountRegs s (t.release k.fid k.ids) := by
      obtain ⟨hc, hm, hw⟩ := h
      have part {β : Type} (π : State → β) (hπ : ∀ u, π u.unlofted = π u) : π (t.release k.fid k.ids) = π t := by
        rw [← hπ, hr, hπ]
      refine ⟨.trans ?_ hc, .trans ?_ hm, hw.raw (part (·.regs) fun _ => rfl)⟩
      · exact part (fun u => u.core.unlofted) fun _ => rfl
      · exact part (fun u => (u.mac q).unflowed) fun _ => rfl
    refine release ?_
    have blank {t : State} {g : Frame} (h : t.core.unlofted = s.core.unlofted ∧
        (t.mac q).unflowed = (s.mac q).unflowed ∧ Writes accountRegs s t) :
        (if k.copy then t else t.setFrame k.fid g).core.unlofted = s.core.unlofted ∧
          ((if k.copy then t else t.setFrame k.fid g).mac q).unflowed = (s.mac q).unflowed ∧
          Writes accountRegs s (if k.copy then t else t.setFrame k.fid g) := by
      split
      · exact h
      · exact ⟨h.1, h.2.1, h.2.2.raw rfl⟩
    refine blank ?_
    split
    · exact ⟨rfl, rfl, .refl s⟩
    · split
      · exact s.unchargeIngress_stat _ _ _ q
      · split
        · refine ⟨rfl, rfl, .raw (.fset (id := .LOFT_USE) 0 fLOFT_USE_HOST (s.hostUse - f.hostUse) (by decide)
            (.refl s)) ?_⟩
          rfl
        · exact ⟨rfl, rfl, .refl s⟩

theorem State.releasePkt_part {β : Type} (π : State → β) (s : State) (k : Pkt)
    (hπ : ∀ u, π u.core.unlofted = π u := by intro; rfl) : π (s.releasePkt k) = π s := by
  obtain ⟨hc, -, -⟩ := s.releasePkt_stat k 0
  rw [← hπ, hc, hπ]

/-- All of a state but its leaf queues. -/
def State.unleafed (s : State) : State := { s with leaves := [] }

theorem State.unleafed_unchargeSent (s : State) (k : Pkt) : (s.unchargeSent k).unleafed = s.unleafed := by
  unfold State.unchargeSent State.unchargeLeaf
  split
  · split
    · split <;> rfl
    · rfl
  · rfl

theorem State.unchargeSent_leaf {s : State} {k : Pkt} {n : Node} (h : s.leaf? k.leaf = some n) (hb : n.born = k.born) :
    (s.unchargeSent k).leaf? k.leaf = some { n with depth := n.depth - k.ids.length } := by
  have he : s.unchargeSent k = s.setLeaf k.leaf { n with depth := n.depth - k.ids.length } := by
    simp only [State.unchargeSent, h, if_pos hb, State.unchargeLeaf]
  rw [he, State.leaf?_setLeaf, if_pos rfl]

/-- The MAC of a port that packet k has left. -/
def MacPort.left (m : MacPort) (k : Pkt) : MacPort :=
  { m with inFlight := m.inFlight - k.wire, inFlightPre := m.inFlightPre - (if k.express then 0 else k.wire) }

/-- R410, R414, R451: a packet leaves its port: its bytes are no longer in flight, and the accounts let it go. -/
theorem State.leavePort_stat (s : State) (p : Nat) (k : Pkt) :
    (s.leavePort p k).now = s.now ∧ ((s.leavePort p k).mac p).unflowed = ((s.mac p).left k).unflowed ∧
      Writes accountRegs s (s.leavePort p k) := by
  let t := s.modMac p (fun m => m.left k)
  have hu {β : Type} (π : State → β) (hπ : ∀ u, π u.unleafed = π u) : π (t.unchargeSent k) = π t := by
    rw [← hπ, t.unleafed_unchargeSent, hπ]
  obtain ⟨-, hm, hw⟩ := (t.unchargeSent k).releasePkt_stat k p
  refine ⟨?_, hm.trans ?_, .trans ?_ hw⟩
  · exact (State.releasePkt_part (·.now) _ k).trans (hu (·.now) fun _ => rfl)
  · rw [hu (·.mac p) fun _ => rfl, State.mac_modMac_same]
  · exact .raw (.refl s) (hu (·.regs) fun _ => rfl)

theorem State.leavePort_leaf {s : State} {k : Pkt} {n : Node} (h : s.leaf? k.leaf = some n) (hb : n.born = k.born)
    (p : Nat) : ((s.leavePort p k).leaf? k.leaf).map (·.depth) = some (n.depth - k.ids.length) := by
  let t := s.modMac p (fun m => m.left k)
  have hl : (s.leavePort p k).leaf? k.leaf = (t.unchargeSent k).leaf? k.leaf :=
    State.releasePkt_part (·.leaf? k.leaf) _ k
  rw [hl, State.unchargeSent_leaf (s := t) h hb]
  rfl

end Sys2Proof.Machine
end

section
/-! PROOFS. Frames on the wire (R213, R244): padding, FCS, and the points at which a fragment may end. -/

namespace Sys2Proof.Machine

theorem fcsOf_length (b : List Byte) : (fcsOf b).length = 4 := by simp [fcsOf, leBytes]

/-- R213: a frame as it is sent has at least 64 bytes and a good FCS, and begins with the frame's bytes. -/
theorem onWire_stat (b : List Byte) :
    64 ≤ (onWire b).length ∧ fcsGood (onWire b) = true ∧ (onWire b).take b.length = b := by
  have hp : 60 ≤ (padded b).length := by
    simp only [padded, List.length_append, List.length_replicate]
    omega
  have hl : (onWire b).length = (padded b).length + 4 := by rw [onWire, List.length_append, fcsOf_length]
  refine ⟨by omega, ?_, ?_⟩
  · have h4 : (onWire b).length - 4 = (padded b).length := by omega
    have hd : (onWire b).drop (padded b).length = fcsOf (padded b) := List.drop_left
    have ht : (onWire b).take (padded b).length = padded b := List.take_left
    rw [fcsGood, h4, hd, ht, beq_self_eq_true, Bool.and_true, decide_eq_true_eq]
    omega
  · rw [onWire, padded, List.append_assoc]
    exact List.take_left

/-- R244: the least point of a fragment at or after `cut` that is on a beat and leaves both parts long enough. -/
theorem fragPoint_stat {add sent total cut n : Nat} (h : fragPoint add sent total cut = some n) :
    cut ≤ n ∧ 64 * (1 + add) - 4 ≤ n ∧ (sent + n) % 8 = 0 ∧ sent + n + 60 ≤ total ∧
      ∀ m, cut ≤ m → 64 * (1 + add) - 4 ≤ m → (sent + m) % 8 = 0 → n ≤ m := by
  unfold fragPoint roundUp at h
  dsimp only at h
  split at h
  · cases h
    generalize 64 * (1 + add) - 4 = least at *
    refine ⟨by omega, by omega, by omega, by omega, fun m h1 h2 h3 => by omega⟩
  · cases h

end Sys2Proof.Machine
end

section
/-! PROOFS. The MAC at a frame boundary: what it sends next, how a frame starts, is cut and ends (R244, R283, R758, R819). -/

namespace Sys2Proof.Machine

-- What a MAC sends next

/-- R204: with nothing of its own to send, a MAC sends nothing. -/
theorem State.ownSend_idle {s : State} {p : Nat} (hr : s.mReady p = false) (hf : s.fcReady p = false)
    (hl : s.lpmReady p = false) : s.ownSend p = s := by
  have hm : s.mSend p = s := by
    unfold State.mSend
    rw [hr]
    rfl
  have hc : s.fcSend p = s := by
    unfold State.fcSend
    rw [hf]
    rfl
  unfold State.ownSend
  dsimp only
  rw [hm, hc, hl]
  rfl

theorem State.suspended_mac {s : State} {p : Nat} (ht : s.sealU.tx = []) : s.suspended p = (s.mac p).held.isSome := by
  simp [State.suspended, State.paused, ht]

/-- R241: without preemption the buffer's first frame is next. -/
theorem State.txNext_first {s : State} {p : Nat} {k : Pkt} {l : List Pkt} (ht : s.sealU.tx = [])
    (ha : s.preemptActive p = false) (hc : (s.mac p).cur = none) (hh : (s.mac p).held = none)
    (hb : (s.mac p).txBuf = k :: l) : s.txNext p = some (.start k l) := by
  have hp : s.preInProgress p = false := by simp [State.preInProgress, hc, hh, ht]
  simp [State.txNext, ha, hb, hp, State.suspended_mac ht, hh]

/-- R244: a held frame is next where no express frame waits in the buffer. -/
theorem State.txNext_held {s : State} {p : Nat} {t : TxCur} (ht : s.sealU.tx = []) (hh : (s.mac p).held = some t)
    (hb : (s.mac p).txBuf.any (·.express) = false) : s.txNext p = some .resume := by
  have hf : (s.mac p).txBuf.find? (·.express) = none := by
    rw [List.find?_eq_none]
    exact fun k hk => by simpa using List.any_eq_false.mp hb k hk
  simp [State.txNext, hf, State.suspended_mac ht, hh]

/-- R244: a held frame goes on. -/
theorem State.resumeFrame_stat {s : State} {p : Nat} {t : TxCur} (ht : s.sealU.tx = []) (hh : (s.mac p).held = some t) :
    ((s.resumeFrame p).mac p).cur = some t ∧ ((s.resumeFrame p).mac p).held = none := by
  have hp : s.paused p = false := by simp [State.paused, ht]
  rw [State.resumeFrame, hp, if_neg (by decide), State.stat_mac, State.mac_modMac_same]
  exact ⟨hh, rfl⟩

section

variable {s : State} {p : Nat} (hm : s.macMay p = true) (hc : (s.mac p).cur = none) (hn : s.sealU.enNext = none)
  (he : s.sealEn = false) (ht : s.sealU.tx = []) (hr : s.mReady p = false) (hf : s.fcReady p = false)
  (hl : s.lpmReady p = false)

include hm hc hn he ht hr hf hl

theorem State.egressStart_resumes (h : s.txNext p = some .resume) (x : Path) (e : CellRead) :
    s.egressStart p x e = s.resumeFrame p := by
  simp [State.egressStart, hm, hc, hn, he, ht, State.ownSend_idle hr hf hl, h]

theorem State.egressStart_starts {k : Pkt} {l : List Pkt} (h : s.txNext p = some (.start k l))
    (hd : k.tsOp = 0 ∨ s.divisorPending = false) (x : Path) (e : CellRead) :
    s.egressStart p x e = s.startFrame p k l x e := by
  have hw : (k.tsOp != 0 && s.divisorPending) = false := by
    rcases hd with h | h <;> simp [h]
  simp only [State.egressStart, hm, hc, hn, he, ht, State.ownSend_idle hr hf hl, h, hw]
  simp

/-- R287: a one-step frame waits for a change of the divisor. -/
theorem State.egressStart_waits {k : Pkt} {l : List Pkt} (h : s.txNext p = some (.start k l)) (hk : k.tsOp ≠ 0)
    (hd : s.divisorPending = true) (x : Path) (e : CellRead) :
    s.egressStart p x e = s.flag .TIME_STAT 0 fTIME_STAT_CCLK_HOLD := by
  have hw : (k.tsOp != 0 && s.divisorPending) = true := by simp [hk, hd]
  simp only [State.egressStart, hm, hc, hn, he, ht, State.ownSend_idle hr hf hl, h, hw]
  simp

end

-- A frame starts

/-- R758: a frame found poisoned before it starts leaves its port, and counts. -/
theorem State.freePoisoned_stat (s : State) (p : Nat) (k : Pkt) :
    ((s.freePoisoned p k).mac p).unflowed = ((s.mac p).left k).unflowed ∧
      (s.freePoisoned p k).fget .GEN_INTEG_POISON 0 fGEN_INTEG_POISON_TX_FREED =
        min (2 ^ fGEN_INTEG_POISON_TX_FREED.w - 1) (s.fget .GEN_INTEG_POISON 0 fGEN_INTEG_POISON_TX_FREED + 1) := by
  let t := s.poisonCount fGEN_INTEG_POISON_TX_FREED
  obtain ⟨-, hm, hw⟩ := t.leavePort_stat p k
  have hl : (s.freePoisoned p k).unringed = (t.leavePort p k).unringed := by
    unfold State.freePoisoned
    dsimp only
    split
    · exact State.unringed_txPoisoned _ _ _
    · rfl
  rw [State.unringed_part hl (·.mac p), State.unringed_part hl (·.fget .GEN_INTEG_POISON 0 fGEN_INTEG_POISON_TX_FREED),
    hw.fget (by decide)]
  exact ⟨hm, State.fget_count _ _ _ _ (by decide)⟩

/-- R433: the reads of a packet's cells that find nothing. -/
theorem State.cellReads_clean {s : State} {k : Pkt} (h : s.pktPoisoned k = false) :
    s.cellReads k.fid k.ids {} = s := by
  unfold State.pktPoisoned at h
  cases hf : s.frame? k.fid with
  | none => simp [State.cellReads, hf, State.eccCheck]
  | some f =>
    rw [hf, Bool.or_eq_false_iff, List.any_eq_false] at h
    have hn : f.poison.filter k.ids.contains = [] := List.filter_eq_nil_iff.mpr h.2
    simp [State.cellReads, hf, State.eccCheck, hn]

/-- R294: the rewrite changes the registers alone, and only of a one-step frame. -/
theorem State.rewrite_stat (s : State) (k : Pkt) (t : Int) :
    Keeps [.TIME_ONESTEP_SKIP] s (s.rewrite k t).2 ∧ (s.rewrite k t).2.core = s.core ∧
      (s.rewrite k t).2.macs = s.macs ∧ (k.tsOp = 0 → k.host = none → (s.rewrite k t).1 = k.bytes) := by
  unfold State.rewrite
  by_cases h : k.tsOp = 0
  · rw [if_pos h]
    refine ⟨.refl s, rfl, rfl, fun _ hh => ?_⟩
    rw [hh]
    rfl
  · rw [if_neg h]
    dsimp only
    split
    · exact ⟨.refl s, rfl, rfl, fun h0 => absurd h0 h⟩
    · exact ⟨(Keeps.refl s).count 0 _ (by decide), rfl, rfl, fun h0 => absurd h0 h⟩

/-- R241: a frame number taken changes the MAC's next number alone. -/
theorem State.takeNumber_stat (s : State) (p : Nat) (k : Pkt) :
    (s.takeNumber p k).2.lanes = s.lanes ∧ (s.takeNumber p k).2.regs = s.regs ∧
      ((s.takeNumber p k).2.mac p).txBuf = (s.mac p).txBuf := by
  unfold State.takeNumber
  split
  · refine ⟨rfl, rfl, ?_⟩
    dsimp only
    rw [State.mac_modMac_same]
  · exact ⟨rfl, rfl, rfl⟩

/-- A frame that port p puts on the wire: its packet as it is rewritten, with its launch. -/
def State.begun (s : State) (p : Nat) (k : Pkt) (x : Path) : TxCur :=
  { pkt := { k with bytes := (s.rewrite k (s.egressTime p k x)).1, started := true }, ts := s.egressTime p k x,
    lane := x.lane.val, sym := x.sym, one := k.tsOp != 0, launch := s.now, gear := s.now + x.cycles,
    number := ((s.rewrite k (s.egressTime p k x)).2.takeNumber p k).1 }

/-- The state in which a frame of port p is ready to go on the wire. -/
def State.readied (s : State) (p : Nat) (k : Pkt) (x : Path) : State :=
  let t := ((s.rewrite k (s.egressTime p k x)).2.takeNumber p k).2
  if k.tsOp != 0 then t.modLane x.lane.val (fun l => { l with oneStep := l.oneStep ++ [x.sym] }) else t

theorem State.readied_stat (s : State) (p : Nat) (k : Pkt) (x : Path) :
    ((s.readied p k x).mac p).txBuf = (s.mac p).txBuf ∧ (s.readied p k x).sealEn = s.sealEn ∧
      (k.tsOp ≠ 0 → ((s.readied p k x).lane x.lane).oneStep = (s.lane x.lane).oneStep ++ [x.sym]) := by
  obtain ⟨hk, hc, hm, -⟩ := s.rewrite_stat k (s.egressTime p k x)
  obtain ⟨hl, hr, hb⟩ := (s.rewrite k (s.egressTime p k x)).2.takeNumber_stat p k
  rw [State.mac_congr hm] at hb
  have hn := hl.trans (State.core_part hc (·.lanes))
  have he : (((s.rewrite k (s.egressTime p k x)).2.takeNumber p k).2).sealEn = s.sealEn := by
    rw [State.sealEn, State.fbit, State.fget, State.rget_congr hr, ← State.fget, ← State.fbit, hk.fbit (by decide),
      State.sealEn]
  unfold State.readied
  by_cases h : k.tsOp = 0
  · rw [h]
    exact ⟨hb, he, fun h0 => absurd rfl h0⟩
  · have ht : (k.tsOp != 0) = true := by simpa using h
    rw [ht]
    refine ⟨hb, he, fun _ => ?_⟩
    dsimp only
    rw [if_pos rfl, State.modLane, State.lane_setLane, if_pos rfl, State.lane, hn, ← State.lane]

/-- R283, R294: a frame starts. -/
theorem State.startFrame_clean {s : State} {p : Nat} {k : Pkt} (hp : s.pktPoisoned k = false) (hk : k.prot = false)
    (he : s.sealEn = false) (hf : s.failed = false) (l : List Pkt) (x : Path) :
    let t := s.modMac p fun m => { m with txBuf := l }
    s.startFrame p k l x {} = (t.readied p k x).modMac p fun m => { m with cur := some (t.begun p k x) } := by
  intro t
  have hs : (t.readied p k x).sealEn = false := (t.readied_stat p k x).2.1.trans he
  have hb : t.pktPoisoned k = false := hp
  unfold State.startFrame
  rw [if_neg (by simp [hp]), if_neg (by simp [hk]), State.cellReads_clean hp, if_neg (by simp [hf])]
  dsimp only
  rw [hb]
  rw [if_neg (by simp), if_neg (by simp)]
  exact if_neg (fun h => Bool.noConfusion (hs.symm.trans h))

/-- R758, R283: the first frame of a buffer starts, or is freed as it is found poisoned. -/
theorem State.startFrame_stat {s : State} {p : Nat} {k : Pkt} (hk : k.prot = false) (he : s.sealEn = false)
    (hf : s.failed = false) (l : List Pkt) (x : Path) :
    let u := s.startFrame p k l x {}
    (u.mac p).txBuf = l ∧
      if s.pktPoisoned k = true then
        (u.mac p).cur = (s.mac p).cur ∧ u.fget .GEN_INTEG_POISON 0 fGEN_INTEG_POISON_TX_FREED =
          min (2 ^ fGEN_INTEG_POISON_TX_FREED.w - 1) (s.fget .GEN_INTEG_POISON 0 fGEN_INTEG_POISON_TX_FREED + 1)
      else (u.mac p).cur.map (fun z => (z.ts, z.frag, z.lane, z.one)) =
          some (s.egressTime p k x, 0, x.lane.val, k.tsOp != 0) ∧
        (k.tsOp = 0 → k.host = none → (u.mac p).cur.map (·.pkt.bytes) = some k.bytes) ∧
        (k.tsOp ≠ 0 → (u.lane x.lane).oneStep = (s.lane x.lane).oneStep ++ [x.sym]) := by
  let t := s.modMac p fun m => { m with txBuf := l }
  have ht : t.mac p = { s.mac p with txBuf := l } := State.mac_modMac_same _ _ _
  intro u
  cases hp : s.pktPoisoned k with
  | true =>
    have hu : u = t.freePoisoned p k := if_pos hp
    obtain ⟨hm, hc⟩ := t.freePoisoned_stat p k
    rw [hu, if_pos rfl, hc, MacPort.unflowed_part hm (·.txBuf), MacPort.unflowed_part hm (·.cur), ht]
    exact ⟨rfl, rfl, rfl⟩
  | false =>
    obtain ⟨hb, -, hl⟩ := t.readied_stat p k x
    have hu : u = (t.readied p k x).modMac p fun m => { m with cur := some (t.begun p k x) } :=
      State.startFrame_clean hp hk he hf l x
    have hm : u.mac p = { (t.readied p k x).mac p with cur := some (t.begun p k x) } := by
      rw [hu, State.mac_modMac_same]
    have hlane : (u.lane x.lane).oneStep = ((t.readied p k x).lane x.lane).oneStep := by
      rw [hu]
      rfl
    rw [if_neg (by decide), hm, hlane, hb, ht]
    refine ⟨rfl, rfl, fun h0 hh => ?_, hl⟩
    obtain ⟨-, -, -, hbytes⟩ := t.rewrite_stat k (t.egressTime p k x)
    exact congrArg some (hbytes h0 hh)

/-- R244: the preemptable frame in progress ends its fragment at the point found, or goes on where there is none. -/
theorem State.fragmentEnd_cut {s : State} {p cut n : Nat} {t : TxCur} (ha : s.preemptActive p = true)
    (hw : s.expressWaits p = true) (hf : s.failed = false) (he : s.sealEn = false) (ht : s.sealU.tx = [])
    (hc : (s.mac p).cur = some t) (hx : t.pkt.express = false)
    (hn : fragPoint (s.fget .PORT_PREEMPT_CFG p fPORT_PREEMPT_CFG_ADD_FRAG_SIZE) t.frag t.pkt.bytes.length cut = some n)
    (hu : t.number.isSome = true) : s.fragmentEnd p cut = s.sendFragment p t (t.frag + n) t.pkt.bytes := by
  have hp : s.paused p = false := by simp [State.paused, ht]
  have hnone : t.number.isNone = false := by simpa [Option.isSome_iff_ne_none] using hu
  simp [State.fragmentEnd, ha, hw, hf, he, hc, hx, hn, hp, hnone]

theorem State.fragmentEnd_none {s : State} {p cut : Nat} {t : TxCur} (hc : (s.mac p).cur = some t)
    (he : s.sealEn = false)
    (hn : fragPoint (s.fget .PORT_PREEMPT_CFG p fPORT_PREEMPT_CFG_ADD_FRAG_SIZE) t.frag t.pkt.bytes.length cut = none ∨
      t.number = none) : s.fragmentEnd p cut = s := by
  have hno : (if t.pkt.express || t.number.isNone then none
      else fragPoint (s.fget .PORT_PREEMPT_CFG p fPORT_PREEMPT_CFG_ADD_FRAG_SIZE) t.frag t.pkt.bytes.length cut) =
      none := by
    rcases hn with h | h <;> simp [h]
  unfold State.fragmentEnd
  dsimp only
  split
  · rfl
  · rw [he, hc]
    dsimp only
    rw [hno]
    rfl

theorem State.sendFragment_stat (s : State) (p : Nat) (c : TxCur) (n : Nat) (b : List Byte) :
    ((s.sendFragment p c n b).mac p).cur = none ∧
      ((s.sendFragment p c n b).mac p).held.map (·.frag) = some n := by
  unfold State.sendFragment
  dsimp only
  rw [State.mac_modMac_same]
  exact ⟨rfl, rfl⟩

end Sys2Proof.Machine
end

section
/-! PROOFS. The last byte of a frame leaves its port (R211, R410, R435, R769, R819), and the obligation of the MAC's
frames. -/

namespace Sys2Proof.Machine

/-- A MAC but for its line, and what it has sent into a loopback. -/
def MacPort.unlined (m : MacPort) : MacPort := { m with wire := [], wireErr := false, loopQ := [] }

theorem MacPort.unlined_part {β : Type} {m n : MacPort} (h : m.unlined = n.unlined) (π : MacPort → β)
    (hπ : ∀ m, π m.unlined = π m := by intro; rfl) : π m = π n := by
  rw [← hπ m, h, hπ n]

theorem State.onLine_mac (s : State) (p : Nat) (w : List Byte) (b : Bool) :
    ((s.onLine p w b).mac p).unlined = (s.mac p).unlined := by
  unfold State.onLine
  split
  · rfl
  · rw [State.mac_modMac_same]
    rfl

theorem State.loopItem_mac (s : State) (p : Nat) (x : RxFrame ⊕ Fragment) :
    ((s.loopItem p x).mac p).unlined = (s.mac p).unlined := by
  unfold State.loopItem
  split
  · rw [State.mac_modMac_same]
    rfl
  · rfl

/-- Frame c of port p is on the wire to its last byte. -/
def State.wired (s : State) (p : Nat) (c : TxCur) : State :=
  let w := onWire c.pkt.bytes
  ((s.modMac p (fun m => { m with cur := none, lastTx := w })).onLine p (c.head ++ w.drop c.frag) false).loopItem p
    (match c.number with | none => .inl { bytes := w } | some _ => .inr (c.fragment (w.drop c.frag) true))

theorem State.wired_stat (s : State) (p : Nat) (c : TxCur) :
    Keeps [] s (s.wired p c) ∧ (s.wired p c).core = s.core ∧
      ((s.wired p c).mac p).unlined = { (s.mac p) with cur := none, lastTx := onWire c.pkt.bytes }.unlined := by
  let t := s.modMac p (fun m => { m with cur := none, lastTx := onWire c.pkt.bytes })
  unfold State.wired
  refine ⟨?_, ?_, ?_⟩
  · exact (((Keeps.refl s).modMac p _).trans (State.onLine_keeps [] t p _ _)).trans (State.loopItem_keeps _ _ p _)
  · exact (State.core_loopItem _ p _).trans (State.core_onLine t p _ _)
  · rw [State.loopItem_mac, State.onLine_mac, State.mac_modMac_same]

/-- Frame c of port p has been sent whole, and its timestamp is known. -/
def State.wiredOut (s : State) (p : Nat) (c : TxCur) : State :=
  ((s.wired p c).statTx p (onWire c.pkt.bytes) (onWire c.pkt.bytes).length).elapseTo ((s.wired p c).endsAt c)

theorem State.core_statTx (s : State) (p : Nat) (b : List Byte) (n : Nat) : (s.statTx p b n).core = s.core := by
  have h : (((s.stat p 32 1).stat p 33 n).stat p (47 + sizeBucket n) 1).core = s.core :=
    (State.core_stat _ _ _ _).trans ((State.core_stat _ _ _ _).trans (s.core_stat _ _ _))
  exact State.core_ite ((State.core_stat _ _ _ _).trans h) (State.core_ite ((State.core_stat _ _ _ _).trans h) h)

theorem State.elapseTo_writes (s : State) (d : Nat) : Writes [.TIME_SLEW_REM] s (s.elapseTo d) :=
  fun id hid i => (s.elapseTo_keeps d).regs id hid i

theorem State.wiredOut_stat (s : State) (p : Nat) (c : TxCur) :
    (s.wiredOut p c).now = max s.now (s.endsAt c) ∧
      ((s.wiredOut p c).mac p).unlined = { (s.mac p) with cur := none, lastTx := onWire c.pkt.bytes }.unlined ∧
      (s.wiredOut p c).leaves = s.leaves ∧ Writes ownRegs s (s.wiredOut p c) ∧
      (s.wiredOut p c).fget .STATS_PORT (p * 64 + 32) fSTATS_PORT_COUNT =
        (s.fget .STATS_PORT (p * 64 + 32) fSTATS_PORT_COUNT + 1) % 2 ^ 48 ∧
      (s.wiredOut p c).fget .STATS_PORT (p * 64 + 33) fSTATS_PORT_COUNT =
        (s.fget .STATS_PORT (p * 64 + 33) fSTATS_PORT_COUNT + (onWire c.pkt.bytes).length) % 2 ^ 48 := by
  obtain ⟨hk, hc, hm⟩ := s.wired_stat p c
  let t := (s.wired p c).statTx p (onWire c.pkt.bytes) (onWire c.pkt.bytes).length
  have htk : Keeps ownRegs (s.wired p c) t := State.statTx_keeps _ _ _ _
  obtain ⟨h32, h33⟩ := (s.wired p c).statTx_counts p (onWire c.pkt.bytes) (onWire c.pkt.bytes).length
  have hends : (s.wired p c).endsAt c = s.endsAt c := by
    rw [State.endsAt, State.knownAt, State.refB, hk.fbit (by decide)]
    rfl
  rw [hk.fget (by decide)] at h32 h33
  unfold State.wiredOut
  rw [hends]
  refine ⟨?_, ?_, ?_, ?_, ?_, ?_⟩
  · rw [State.elapseTo_now, htk.now, hk.now]
  · rw [State.elapseTo, State.mac_congr (State.elapse_macs _ _), State.statTx_mac, hm]
  · exact (State.elapse_part (·.leaves) _ _).trans ((State.core_part (State.core_statTx _ _ _ _) (·.leaves)).trans
      (State.core_part hc (·.leaves)))
  · exact (((Writes.of_keeps hk).mono (by simp)).trans (.of_keeps htk)).trans
      ((t.elapseTo_writes _).mono (by decide))
  · rw [State.elapseTo_fget _ _ (by decide), h32]
  · rw [State.elapseTo_fget _ _ (by decide), h33]

theorem State.egressEnd_eq {s : State} {p : Nat} {c : TxCur} (hc : (s.mac p).cur = some c) (hf : s.failed = false)
    (delta : Int) (e : Ecc) :
    s.egressEnd p delta e =
      let t := (s.wiredOut p c).eccCheck e fGEN_INTEG_CORR_LINK .loftCtrlEcc 0
      if t.failed then t else (t.hostSent p c.pkt (t.measured c delta) (t.knownAt c) false).leavePort p c.pkt := by
  unfold State.egressEnd
  rw [hc]
  dsimp only
  rw [hf]
  rfl

/-- R435: a link of the loft found broken as the frame's cells are freed is fatal, and no queue is let go of. -/
theorem State.egressEnd_broken {s : State} {p : Nat} {c : TxCur} (hc : (s.mac p).cur = some c) (hf : s.failed = false)
    (delta : Int) (n : Nat) :
    (s.egressEnd p delta (.uncorrectable n)).failed = true ∧
      (s.egressEnd p delta (.uncorrectable n)).fget .GEN_FAULT_STAT 0 fGEN_FAULT_STAT_CAUSE =
        Cause.loftCtrlEcc.code ∧
      (s.egressEnd p delta (.uncorrectable n)).leaves = s.leaves := by
  obtain ⟨-, -, hl, hw, -, -⟩ := s.wiredOut_stat p c
  have hf' : (s.wiredOut p c).failed = false := by rw [State.failed, hw.fbit (by decide), ← State.failed, hf]
  obtain ⟨-, ht, hcause⟩ := State.failStop_stat hf' .loftCtrlEcc 0 n []
  have he : s.egressEnd p delta (.uncorrectable n) = (s.wiredOut p c).failStop .loftCtrlEcc 0 n := by
    rw [State.egressEnd_eq hc hf, State.eccCheck]
    exact if_pos ht
  rw [he]
  exact ⟨ht, hcause, (State.core_part (State.core_failStop _ _ _ _ _) (·.leaves)).trans hl⟩

/-- R211, R410, R451, R769: the last byte of a frame leaves its port. -/
theorem State.egressEnd_clean {s : State} {p : Nat} {c : TxCur} {n : Node} (hc : (s.mac p).cur = some c)
    (hf : s.failed = false) (hn : s.leaf? c.pkt.leaf = some n) (hb : n.born = c.pkt.born) (delta : Int) :
    let u := s.egressEnd p delta .clean
    u.now = max s.now (s.endsAt c) ∧ (u.mac p).cur = none ∧ (u.mac p).lastTx = onWire c.pkt.bytes ∧
      (u.mac p).inFlight = (s.mac p).inFlight - c.pkt.wire ∧
      (u.leaf? c.pkt.leaf).map (·.depth) = some (n.depth - c.pkt.ids.length) ∧
      u.fget .STATS_PORT (p * 64 + 32) fSTATS_PORT_COUNT =
        (s.fget .STATS_PORT (p * 64 + 32) fSTATS_PORT_COUNT + 1) % 2 ^ 48 ∧
      u.fget .STATS_PORT (p * 64 + 33) fSTATS_PORT_COUNT =
        (s.fget .STATS_PORT (p * 64 + 33) fSTATS_PORT_COUNT + (onWire c.pkt.bytes).length) % 2 ^ 48 := by
  obtain ⟨hnow, hm, hl, hw, h32, h33⟩ := s.wiredOut_stat p c
  let t := s.wiredOut p c
  have hf' : t.failed = false := by rw [State.failed, hw.fbit (by decide), ← State.failed, hf]
  let v := t.hostSent p c.pkt (t.measured c delta) (t.knownAt c) false
  have hv : v.unringed = t.unringed := State.unringed_hostSent _ _ _ _ _ _
  have he : s.egressEnd p delta .clean = v.leavePort p c.pkt := by
    rw [State.egressEnd_eq hc hf, State.eccCheck]
    exact if_neg (by rw [hf']; decide)
  have hvn : v.leaf? c.pkt.leaf = some n := by
    rw [State.unringed_part hv (·.leaf? c.pkt.leaf), State.leaf?, hl, ← State.leaf?, hn]
  obtain ⟨ln, lm, lw⟩ := v.leavePort_stat p c.pkt
  rw [State.unringed_part hv (·.mac p)] at lm
  intro u
  have hu : u = v.leavePort p c.pkt := he
  rw [hu]
  refine ⟨?_, ?_, ?_, ?_, State.leavePort_leaf hvn hb p, ?_, ?_⟩
  · rw [ln, State.unringed_part hv (·.now), hnow]
  · exact (MacPort.unflowed_part lm (·.cur)).trans (MacPort.unlined_part hm (·.cur))
  · exact (MacPort.unflowed_part lm (·.lastTx)).trans (MacPort.unlined_part hm (·.lastTx))
  · rw [MacPort.unflowed_part lm (·.inFlight)]
    exact congrArg (· - c.pkt.wire) (MacPort.unlined_part hm (·.inFlight))
  · rw [lw.fget (by decide), State.unringed_part hv (·.fget .STATS_PORT (p * 64 + 32) fSTATS_PORT_COUNT), h32]
  · rw [lw.fget (by decide), State.unringed_part hv (·.fget .STATS_PORT (p * 64 + 33) fSTATS_PORT_COUNT), h33]

end Sys2Proof.Machine

open Sys2Proof Sys2Proof.Machine

/-- Settles O53: R45, R204, R213, R244, R283, R287, R294, R410, R435, R451, R758, R769, R819. The MAC starts, cuts,
resumes and ends frames. -/
theorem framesLeavePorts : Obligations.FramesLeavePorts := by
  unfold Obligations.FramesLeavePorts
  intro p x cut add sent total n delta k l t nd b s hs
  refine ⟨onWire_stat b, fun hm hc hn he ht hr hf hl => ⟨fun ha hh hb hk hd => ?_, fun ha hh hb hk hd => ?_,
    fun hh hb => ?_⟩, fun hm hg => effect_done rfl ?_, fun hm hg ht hc hh => effect_done rfl ?_,
    fun hf he ha ht hc hx hw hadd => ⟨fun hn hu => effect_done rfl ?_, fun hn => effect_done rfl ?_⟩, fragPoint_stat,
    fun hf hc hn hb => ⟨effect_done rfl (State.egressEnd_broken hc hf delta n),
      effect_done rfl (State.egressEnd_clean hc hf hn hb delta)⟩⟩
  · have hfail : s.failed = false := by
      simp only [State.macMay, Bool.and_eq_true, Bool.not_eq_true'] at hm
      exact hm.1.1.2
    have hstart := State.startFrame_stat (p := p) hk he hfail l x
    refine effect_done (congrArg s.done (State.egressStart_starts hm hc hn he ht hr hf hl
      (State.txNext_first ht ha hc hh hb) hd x {})) ?_
    rwa [hc] at hstart
  · refine effect_done (congrArg s.done (State.egressStart_waits hm hc hn he ht hr hf hl
      (State.txNext_first ht ha hc hh hb) hk hd x {})) ?_
    exact ⟨hb, hc, State.fbit_flag_same _ _ _ _ (by decide) (by decide)⟩
  · exact effect_done (congrArg s.done (State.egressStart_resumes hm hc hn he ht hr hf hl
      (State.txNext_held ht hh hb) x {})) (State.resumeFrame_stat ht hh)
  · simp [State.egressStart, hm, hg]
  · have h : s.egressStart p x {} = s.resumeFrame p := by simp [State.egressStart, hm, hg, hc]
    rw [h]
    exact State.resumeFrame_stat ht hh
  · rw [State.fragmentEnd_cut ha hw hf he ht hc hx (hadd ▸ hn) hu]
    exact State.sendFragment_stat _ _ _ _ _
  · rw [State.fragmentEnd_none hc he (hadd ▸ hn)]
    exact hc

end

section
/-! PROOFS. A frame that a port receives: what it counts, and how it reaches its course (R128, R129, R217 to R224, R335,
R404, R405, R769). -/

namespace Sys2Proof.Machine

-- What a port hears

/-- A state with other lanes. -/
def State.withLanes (s : State) (l : Store Lane) : State := { s with lanes := l }

/-- R129: what is echoed stands in the lanes, whose life it leaves. -/
theorem State.echo_lanes (s : State) (p : Nat) (b : List Byte) :
    ∃ l, s.echo p b = s.withLanes l ∧ ∀ n, ((s.echo p b).lane n).life = (s.lane n).life := by
  have h (ls : List Nat) (u : State) : ∃ l, u.forEach ls (fun s n => s.modLane n (fun l =>
      { l with echo := b, echoAt := s.now + symCycles (s.laneRate n) 64 })) = u.withLanes l ∧
      ∀ n, ((u.forEach ls (fun s n => s.modLane n (fun l =>
        { l with echo := b, echoAt := s.now + symCycles (s.laneRate n) 64 }))).lane n).life = (u.lane n).life := by
    induction ls generalizing u with
    | nil => exact ⟨u.lanes, rfl, fun _ => rfl⟩
    | cons m ls ih =>
      obtain ⟨l, hl, hn⟩ := ih (u.modLane m fun l =>
        { l with echo := b, echoAt := u.now + symCycles (u.laneRate m) 64 })
      refine ⟨l, hl, fun n => (hn n).trans ?_⟩
      rw [State.modLane, State.lane_setLane]
      split
      · next e => rw [e]
      · rfl
  exact h _ s

/-- R128: without a near-end loopback a port receives what comes from outside. -/
theorem State.portLooped_near {s : State} {p : Nat} (h : s.portNear p = false) : s.portLooped p = false := by
  unfold State.portLooped
  unfold State.portNear at h
  cases hl : s.portLanes p with
  | nil => rfl
  | cons n l =>
    rw [hl, List.any_cons, Bool.or_eq_false_iff] at h
    rw [List.all_cons, h.1]
    simp

theorem State.heard_near {s : State} {p : Nat} (h : s.portNear p = false) {ok : RxFrame → Bool} {x : RxFrame}
    (hx : ok x = true) : s.heard p ok x = some (x, s) := by
  simp [State.heard, State.portLooped_near h, h, hx]

theorem State.heardFragment_near {s : State} {p : Nat} (h : s.portNear p = false) (x : Fragment) :
    s.heardFragment p x = some (x, s) := by
  simp [State.heardFragment, State.portLooped_near h, h]

/-- R217: a port that is UP handles a frame by its start byte. -/
theorem State.rxFrame_heard {s : State} {p : Nat} (hu : s.portUp p = true) (hn : s.portNear p = false) {x : RxFrame}
    (hx : (!isMPacket x || !s.preemptEn p) = true) (y : Path) :
    ∃ l, s.rxFrame p x y = (s.withLanes l).rxStart p x y := by
  obtain ⟨l, hl, -⟩ := s.echo_lanes p (preamble x.start ++ x.bytes)
  refine ⟨l, ?_⟩
  have hnear : (s.withLanes l).portNear p = false := hn
  have hh : (s.withLanes l).heard p (fun y => !isMPacket y || !s.preemptEn p) x = some (x, s.withLanes l) :=
    State.heard_near hnear hx
  have hup : (s.withLanes l).portUp p = true := hu
  unfold State.rxFrame State.rxSome
  rw [hl]
  dsimp only
  rw [hup, hh]
  rfl

theorem State.rxFrame_down {s : State} {p : Nat} (hu : s.portUp p = false) (x : RxFrame) (y : Path) :
    s.rxFrame p x y = s.echo p (preamble x.start ++ x.bytes) := by
  obtain ⟨l, hl, -⟩ := s.echo_lanes p (preamble x.start ++ x.bytes)
  have hup : (s.echo p (preamble x.start ++ x.bytes)).portUp p = false := by rw [hl]; exact hu
  unfold State.rxFrame State.rxSome
  dsimp only
  rw [hup]
  rfl

-- What a frame counts

/-- R769: the counts of a frame of at least 64 bytes, within MAX_FRAME. -/
def State.rxCounted (s : State) (p : Nat) (x : RxFrame) (bad : Bool) : State :=
  let s := s.stat p (22 + sizeBucket x.bytes.length) 1
  let s := if bad then s.stat p 2 1 else s
  let s := if x.err then s.stat p 20 1 else s
  if !bad then s.statRxOk p x.bytes x.bytes.length else s

/-- All of a state but its registers. -/
def State.unregs (s : State) : State := { s with regs := [] }

/-- t is s but for counters of the MACs. -/
structure Counts (s t : State) : Prop where
  rest : t.unregs = s.unregs
  regs : Writes [.STATS_PORT, .STATS_HALF] s t

namespace Counts

variable {s t u : State}

theorem refl (s : State) : Counts s s := ⟨rfl, .refl s⟩

theorem stat (h : Counts s t) (p k n : Nat) : Counts s (t.stat p k n) := by
  refine ⟨.trans ?_ h.rest, h.regs.trans (.of_keeps (t.stat_keeps (by decide) p k n))⟩
  unfold State.stat
  dsimp only
  split <;> rfl

theorem ite {c : Prop} [Decidable c] (h : Counts s t) (k : Counts s u) : Counts s (if c then t else u) := by
  split <;> assumption

theorem part {β : Type} (h : Counts s t) (π : State → β) (hπ : ∀ u, π u.unregs = π u := by intro; rfl) : π t = π s := by
  rw [← hπ t, h.rest, hπ s]

theorem statRxOk (h : Counts s t) (p : Nat) (b : List Byte) (n : Nat) : Counts s (t.statRxOk p b n) :=
  have h2 := (h.stat p 0 1).stat p 1 n
  .ite (h2.stat p 8 1) (.ite (h2.stat p 7 1) h2)

theorem rxCounted (p : Nat) (x : RxFrame) (bad : Bool) (h : Counts s t) : Counts s (t.rxCounted p x bad) := by
  have h1 := h.stat p (22 + sizeBucket x.bytes.length) 1
  have h2 : Counts s _ := .ite (c := bad = true) (h1.stat p 2 1) h1
  have h3 : Counts s _ := .ite (c := x.err = true) (h2.stat p 20 1) h2
  exact .ite (h3.statRxOk p _ _) h3

theorem rxHalted (h : Counts s t) : t.rxHalted = s.rxHalted := by
  rw [State.rxHalted, State.failed, h.regs.fbit (by decide), h.part (·.power)]
  rfl

end Counts

/-- R220: a good frame counts as received. -/
theorem State.rxCounted_good (s : State) (p : Nat) {x : RxFrame} (he : x.err = false) :
    (s.rxCounted p x false).fget .STATS_PORT (p * 64) fSTATS_PORT_COUNT =
      (s.fget .STATS_PORT (p * 64) fSTATS_PORT_COUNT + 1) % 2 ^ 48 := by
  let t := s.stat p (22 + sizeBucket x.bytes.length) 1
  have h0 : ((t.stat p 0 1).stat p 1 x.bytes.length).fget .STATS_PORT (p * 64) fSTATS_PORT_COUNT =
      (s.fget .STATS_PORT (p * 64) fSTATS_PORT_COUNT + 1) % 2 ^ 48 := by
    rw [State.stat_ne _ _ _ (by omega)]
    refine (t.stat_same p 0 1).trans ?_
    rw [State.stat_ne _ _ _ (by omega)]
    rfl
  have hs : (t.statRxOk p x.bytes x.bytes.length).fget .STATS_PORT (p * 64) fSTATS_PORT_COUNT =
      (s.fget .STATS_PORT (p * 64) fSTATS_PORT_COUNT + 1) % 2 ^ 48 := by
    unfold State.statRxOk
    dsimp only
    split
    · rw [State.stat_ne _ _ _ (by omega), h0]
    · split
      · rw [State.stat_ne _ _ _ (by omega), h0]
      · exact h0
  have hr : s.rxCounted p x false = t.statRxOk p x.bytes x.bytes.length := by
    unfold State.rxCounted
    rw [he]
    rfl
  rw [hr, hs]

/-- R220: a bad frame counts as such. -/
theorem State.rxCounted_bad (s : State) (p : Nat) (x : RxFrame) :
    (s.rxCounted p x true).fget .STATS_PORT (p * 64 + 2) fSTATS_PORT_COUNT =
      (s.fget .STATS_PORT (p * 64 + 2) fSTATS_PORT_COUNT + 1) % 2 ^ 48 := by
  let t := (s.stat p (22 + sizeBucket x.bytes.length) 1).stat p 2 1
  have ht : t.fget .STATS_PORT (p * 64 + 2) fSTATS_PORT_COUNT =
      (s.fget .STATS_PORT (p * 64 + 2) fSTATS_PORT_COUNT + 1) % 2 ^ 48 := by
    rw [State.stat_same, State.stat_ne _ _ _ (by omega)]
  have hr : s.rxCounted p x true = if x.err then t.stat p 20 1 else t := rfl
  rw [hr]
  split
  · rw [State.stat_ne _ _ _ (by omega), ht]
  · exact ht

-- From the MAC to the course

/-- R219 to R224: a frame within bounds that is no frame of the MAC's own counts, and goes on to its course. -/
theorem State.rxBody_whole {s : State} {x : RxFrame} {a : RxFirst} {marked : Bool} (h64 : 64 ≤ x.bytes.length)
    (hmax : x.bytes.length ≤ a.cfg.max) (hh : s.rxHalted = false) (hl : isLpm x.bytes = false)
    (hc : (isCtl x.bytes && !(marked || !fcsGood x.bytes)) = false) (p : Nat) :
    s.rxBody p x marked a =
      (s.rxCounted p x (marked || !fcsGood x.bytes)).rxToCourse p a.cfg
        (rxBuild p x a false (marked || !fcsGood x.bytes)) x := by
  have hr := ((Counts.refl s).rxCounted p x (marked || !fcsGood x.bytes)).rxHalted.trans hh
  have ht : decide (a.cfg.max < x.bytes.length) = false := by simpa using hmax
  unfold State.rxBody
  dsimp only
  rw [ht, if_neg (by omega), hl]
  generalize hb : (marked || (!false && !fcsGood x.bytes)) = bad
  have hb' : (marked || !fcsGood x.bytes) = bad := hb
  rw [hb'] at hr hc ⊢
  have hc' : ¬(isCtl x.bytes && !bad && !false) = true := by simp [hc]
  change (if (s.rxCounted p x bad).rxHalted then _ else if false then _ else if isCtl x.bytes && !bad && !false then _
    else (s.rxCounted p x bad).rxToCourse p a.cfg (rxBuild p x a false bad) x) = _
  rw [hr, if_neg (by decide), if_neg (by decide), if_neg hc']

/-- R335: a frame of port p with the course and the sequence number that it is dealt. -/
def State.dealt (s : State) (p : Nat) (f : Frame) : Frame :=
  { f with
    course := if s.sprayed p then pairCourse p + (s.mac p).nextSeq % 2 else portCourse p
    seq := if s.sprayed p then some (s.mac p).nextSeq else none }

theorem State.deal_stat (s : State) (p : Nat) (f : Frame) :
    { f with course := (s.deal p).1, seq := (s.deal p).2.1 } = s.dealt p f ∧ (s.deal p).2.2.core = s.core ∧
      (s.deal p).2.2.regs = s.regs ∧ ((s.deal p).2.2.mac p).rxOpen = (s.mac p).rxOpen := by
  unfold State.deal State.dealt
  cases s.sprayed p with
  | true => exact ⟨rfl, rfl, rfl, by rw [if_pos rfl, State.mac_modMac_same]⟩
  | false => exact ⟨rfl, rfl, rfl, rfl⟩

theorem Writes.portSpeed {R : List RegId} {s t : State} (h : Writes R s t) (hR : .COURSE_PORT_MAP ∉ R) (p : Nat) :
    t.portSpeed p = s.portSpeed p := by
  have hm (c : Nat) : t.portMap c = s.portMap c := h _ hR c
  have hp (c : Nat) : t.paired c = s.paired c := by rw [State.paired, State.paired, hm]
  rw [State.portSpeed, State.portSpeed, hp, hm]

theorem Writes.sprayed {R : List RegId} {s t : State} (h : Writes R s t) (hR : .COURSE_PORT_MAP ∉ R) (p : Nat) :
    t.sprayed p = s.sprayed p := by
  rw [State.sprayed, State.sprayed, h.portSpeed hR]

/-- R335: a frame that bypasses the seal port, and whose cells are found, enters its course's FIFO. -/
theorem State.rxToCourse_plain {s : State} {g : RxCfg} {x : RxFrame} (hg : g.sealEn = false) (hx : x.alloc = .clean)
    (hf : s.failed = false) (p : Nat) (f : Frame) :
    s.rxToCourse p g f x =
      (if f.poison.isEmpty then (s.deal p).2.2 else (s.deal p).2.2.poisoned).enterFifo (s.dealt p f) := by
  have hc (b : List Byte) : s.sealClass p g b = .plain := by simp [State.sealClass, hg]
  unfold State.rxToCourse
  rw [hc, hx]
  dsimp only
  rw [if_neg (by decide), State.eccCheck, hf, ← (s.deal_stat p f).1]
  rfl

/-- t is s as a frame is about to enter the ingress FIFO: counted, dealt and marked. -/
structure Arrives (p : Nat) (s t : State) : Prop where
  courses : t.courses = s.courses
  frames : t.frames = s.frames
  nextId : t.nextId = s.nextId
  rxOpen : (t.mac p).rxOpen = (s.mac p).rxOpen
  regs : Writes [.STATS_PORT, .STATS_HALF, .GEN_INTEG_EVT] s t

/-- R219 to R224, R335: a frame within bounds that is no frame of the MAC's own enters the ingress FIFO of its course. -/
theorem State.rxBody_enters {s : State} {x : RxFrame} {a : RxFirst} {marked : Bool} (h64 : 64 ≤ x.bytes.length)
    (hmax : x.bytes.length ≤ a.cfg.max) (hh : s.rxHalted = false) (hl : isLpm x.bytes = false)
    (hc : (isCtl x.bytes && !(marked || !fcsGood x.bytes)) = false) (hg : a.cfg.sealEn = false) (hx : x.alloc = .clean)
    (p : Nat) :
    ∃ t, s.rxBody p x marked a = t.enterFifo (s.dealt p (rxBuild p x a false (marked || !fcsGood x.bytes))) ∧
      Arrives p s t ∧ ∀ j, t.fget .STATS_PORT j fSTATS_PORT_COUNT =
        (s.rxCounted p x (marked || !fcsGood x.bytes)).fget .STATS_PORT j fSTATS_PORT_COUNT := by
  rw [State.rxBody_whole h64 hmax hh hl hc]
  generalize (marked || !fcsGood x.bytes) = bad
  let u := s.rxCounted p x bad
  have hu : Counts s u := (Counts.refl s).rxCounted p x bad
  have huf : u.failed = false := by
    have := hu.rxHalted.trans hh
    rw [State.rxHalted, Bool.or_eq_false_iff] at this
    exact this.1
  have hd : u.dealt p (rxBuild p x a false bad) = s.dealt p (rxBuild p x a false bad) := by
    rw [State.dealt, State.dealt, hu.regs.sprayed (by decide), hu.part (·.mac p)]
  obtain ⟨-, dc, dr, dm⟩ := u.deal_stat p (rxBuild p x a false bad)
  have um : u.mac p = s.mac p := hu.part (·.mac p)
  rw [um] at dm
  have hv : Arrives p s (u.deal p).2.2 :=
    ⟨(State.core_part dc (·.courses)).trans (hu.part (·.courses)), (State.core_part dc (·.frames)).trans (hu.part (·.frames)),
      (State.core_part dc (·.nextId)).trans (hu.part (·.nextId)), dm, (hu.regs.mono (by decide)).raw dr⟩
  have hj (j : Nat) : (u.deal p).2.2.fget .STATS_PORT j fSTATS_PORT_COUNT = u.fget .STATS_PORT j fSTATS_PORT_COUNT := by
    rw [State.fget, State.rget_congr dr, ← State.fget]
  refine ⟨if (rxBuild p x a false bad).poison.isEmpty then (u.deal p).2.2 else (u.deal p).2.2.poisoned, ?_, ?_, ?_⟩
  · rw [State.rxToCourse_plain hg hx huf, hd]
  · split
    · exact hv
    · exact ⟨hv.courses, hv.frames, hv.nextId, hv.rxOpen, hv.regs.fset _ _ _ (by decide)⟩
  · intro j
    split
    · exact hj j
    · exact (State.fget_fset_reg _ _ _ _ (by simp)).trans (hj j)

end Sys2Proof.Machine
end

section
/-! PROOFS. The ingress FIFO of a course: a frame enters it and the loft, or is discarded where either is full (R43, R337,
R404, R405, R417, R425). -/

namespace Sys2Proof.Machine

/-- t is s after a dealt frame is discarded: the ingress FIFOs and the frames' numbers stay. -/
structure Holed (s t : State) : Prop where
  fifo : ∀ c, (t.course c).fifo = (s.course c).fifo
  nextId : t.nextId = s.nextId
  regs : Writes [.COURSE_SPRAY_CNT, .COURSE_SPRAY_STAT] s t

namespace Holed

variable {s t u : State}

theorem refl (s : State) : Holed s s := ⟨fun _ => rfl, rfl, .refl s⟩

theorem trans (h : Holed s t) (k : Holed t u) : Holed s u :=
  ⟨fun c => (k.fifo c).trans (h.fifo c), k.nextId.trans h.nextId, h.regs.trans k.regs⟩

theorem ite {c : Prop} [Decidable c] (h : Holed s t) (k : Holed s u) : Holed s (if c then t else u) := by
  split <;> assumption

theorem forEach {α : Type} (l : List α) {f : State → α → State} (hf : ∀ u x, Holed u (f u x)) (h : Holed s t) :
    Holed s (t.forEach l f) := by
  induction l generalizing t with
  | nil => exact h
  | cons x l ih => exact ih (h.trans (hf t x))

theorem rset {id : RegId} (i : Nat) (v : Word) (hid : id ∈ [RegId.COURSE_SPRAY_CNT, .COURSE_SPRAY_STAT])
    (h : Holed s t) : Holed s (t.rset id i v) := ⟨h.fifo, h.nextId, h.regs.rset i v hid⟩

theorem fset {id : RegId} (i : Nat) (f : Field) (n : Nat) (hid : id ∈ [RegId.COURSE_SPRAY_CNT, .COURSE_SPRAY_STAT])
    (h : Holed s t) : Holed s (t.fset id i f n) := h.rset i _ hid

theorem setCourse (d : Nat) (x : CourseSt) (hx : x.fifo = (t.course d).fifo) (h : Holed s t) :
    Holed s (t.setCourse d x) := by
  refine h.trans ⟨fun c => ?_, rfl, (Writes.refl t).raw rfl⟩
  rw [State.course_setCourse]
  split
  · next e => rw [hx, e]
  · rfl

theorem setFrame (i : Nat) (f : Frame) (h : Holed s t) : Holed s (t.setFrame i f) := ⟨h.fifo, h.nextId, h.regs.raw rfl⟩

theorem modMac (p : Nat) (f : MacPort → MacPort) (h : Holed s t) : Holed s (t.modMac p f) :=
  ⟨h.fifo, h.nextId, h.regs.raw rfl⟩

end Holed

theorem State.unstall_holed (s : State) (p : Nat) : Holed s (s.unstall p) := by
  have enter (u : State) (i : Nat) (f : Frame) (n : Nat) : Holed u (u.enterStage i f n) :=
    ((Holed.refl u).setFrame i _).fset _ _ _ (by decide)
  have held : Holed s (s.holdCycles (pairCourse p)) := by
    unfold State.holdCycles
    dsimp only
    split
    · exact .refl s
    · exact .fset _ _ _ (by decide) (.forEach _ (fun u c => (Holed.refl u).setCourse _ _ rfl) (.refl s))
  unfold State.unstall
  refine .fset _ _ _ (by decide) (.forEach _ (fun u c => ?_) held)
  have on := (Holed.refl u).setCourse c { u.course c with stalled := none, stallAt := 0 } rfl
  dsimp only
  split
  · exact .refl u
  · split
    · exact on
    · exact .ite (.refl u) (on.trans (enter _ _ _ _))

/-- R337: a dealt frame is discarded. -/
theorem State.holeAt_holed (s : State) (p : Nat) (seq : Option Nat) : Holed s (s.holeAt p seq) := by
  unfold State.holeAt State.markSeq
  have h : Holed s (s.count .COURSE_SPRAY_CNT (pairCourse p) fCOURSE_SPRAY_CNT_HOLES) := (Holed.refl s).fset _ _ _ (by decide)
  refine .ite (h.trans ?_) (.refl s)
  cases seq with
  | none => exact .refl _
  | some n => exact ((Holed.refl _).modMac p _).trans (State.unstall_holed _ p)

/-- R43: a frame that its FIFO has no room for is discarded, and counts. -/
theorem State.enterFifo_full {s : State} {f : Frame} (h : 65536 < s.fifoBytes f.course + f.len) :
    ((s.enterFifo f).course f.course).fifo = (s.course f.course).fifo ∧ (s.enterFifo f).nextId = s.nextId ∧
      Writes [.COURSE_RX_OVERRUN, .COURSE_SPRAY_CNT, .COURSE_SPRAY_STAT] s (s.enterFifo f) ∧
      (s.enterFifo f).fget .COURSE_RX_OVERRUN f.course fCOURSE_RX_OVERRUN_FRAMES =
        min (2 ^ fCOURSE_RX_OVERRUN_FRAMES.w - 1)
          (s.fget .COURSE_RX_OVERRUN f.course fCOURSE_RX_OVERRUN_FRAMES + 1) := by
  let t := s.count .COURSE_RX_OVERRUN f.course fCOURSE_RX_OVERRUN_FRAMES
  have hu : s.enterFifo f = t.holeAt f.port f.seq := if_pos h
  obtain ⟨hf, hn, hw⟩ := t.holeAt_holed f.port f.seq
  rw [hu]
  refine ⟨hf _, hn, .trans (.rset _ _ (by decide) (.refl s)) (hw.mono (by decide)), ?_⟩
  rw [hw.fget (by decide), State.fget_count _ _ _ _ (by decide)]

/-- R425: a frame that the loft has no cells for is discarded, and shows. -/
theorem State.enterFifo_noCell {s : State} {f : Frame} (h : ¬ 65536 < s.fifoBytes f.course + f.len)
    (hc : s.cellsFree (cellsOf f.len) = false) :
    ((s.enterFifo f).course f.course).fifo = (s.course f.course).fifo ∧ (s.enterFifo f).nextId = s.nextId ∧
      Writes [.LOFT_DROP, .LOFT_EVT, .COURSE_SPRAY_CNT, .COURSE_SPRAY_STAT] s (s.enterFifo f) ∧
      (s.enterFifo f).fbit .LOFT_EVT 0 fLOFT_EVT_NO_CELL = true := by
  let t := (s.count .LOFT_DROP 0 fLOFT_DROP_NO_CELL).flag .LOFT_EVT 0 fLOFT_EVT_NO_CELL
  have hu : s.enterFifo f = t.holeAt f.port f.seq := by
    unfold State.enterFifo
    dsimp only
    rw [if_neg h, hc]
    rfl
  obtain ⟨hf, hn, hw⟩ := t.holeAt_holed f.port f.seq
  rw [hu]
  refine ⟨hf _, hn, .trans (.rset _ _ (by decide) (.rset _ _ (by decide) (.refl s))) (hw.mono (by decide)), ?_⟩
  rw [hw.fbit (by decide)]
  exact State.fbit_flag_same _ _ _ _ (by decide) (by decide)

/-- All of a state but the use of the banks. -/
def State.unbanked (s : State) : State := { s with bankUse := [] }

theorem State.unbanked_allocBanks (s : State) (b n : Nat) : (s.allocBanks b n).2.unbanked = s.unbanked := by
  induction n generalizing s b with
  | zero => rfl
  | succ n ih => exact (ih _ _).trans rfl

/-- A frame as it stands in the loft when it enters there, with its banks and its beat. -/
def Frame.entered (f : Frame) (banks : List Nat) (beat : Nat) : Frame :=
  { f with
    banks := banks, layout := cellFill f.len, refs := [List.range (cellsOf f.len)], transit := cellsOf f.len
    stage := .fifo, beat := beat }

/-- A frame of the loft that port p's frame of that beat goes ahead of (R47). -/
def State.behind (s : State) (p beat i : Nat) : Bool :=
  match s.frame? i with | some g => g.beat == beat && decide (p < g.port) | none => false

/-- R404, R405, R417: frame f is the next of the loft, in the banks and with the beat given, and enters the ingress FIFO
of x. -/
def State.entered (s : State) (f : Frame) (x : CourseSt) (banks : List Nat) (last beat : Nat) : State :=
  let id := s.nextId
  ((({ s with nextId := id + 1 } : State).setFrame id (f.entered banks beat)).setTransit
    (s.transit + cellsOf f.len)).setCourse f.course { x with
      fifo := x.fifo.filter (fun i => !s.behind f.port beat i) ++ [id] ++ x.fifo.filter (s.behind f.port beat)
      lastBank := last }

section

variable (s : State) (f : Frame) (x : CourseSt) (banks : List Nat) (last beat : Nat)

theorem State.setTransit_transit (n : Nat) : (s.setTransit n).transit = n % 2 ^ 18 :=
  State.fget_fset_same s .LOFT_USE 0 fLOFT_USE_TRANSIT n (by decide)

theorem State.transit_setCourse (c : Nat) : (s.setCourse c x).transit = s.transit := rfl

theorem State.entered_transit : (s.entered f x banks last beat).transit = (s.transit + cellsOf f.len) % 2 ^ 18 := by
  rw [State.entered, State.transit_setCourse, State.setTransit_transit]

theorem State.entered_frame : (s.entered f x banks last beat).frame? s.nextId = some (f.entered banks beat) :=
  (State.frame?_setFrame _ _ _ _).trans (if_pos rfl)

theorem State.entered_fifo : ((s.entered f x banks last beat).course f.course).fifo =
    x.fifo.filter (fun i => !s.behind f.port beat i) ++ [s.nextId] ++ x.fifo.filter (s.behind f.port beat) := by
  rw [State.entered, State.course_setCourse, if_pos rfl]

end

theorem State.enterFifo_eq {s : State} {f : Frame} (h : ¬ 65536 < s.fifoBytes f.course + f.len)
    (hc : s.cellsFree (cellsOf f.len) = true) :
    ∃ (t : State) (banks : List Nat) (last beat : Nat), t.unbanked = s.unbanked ∧ (f.same = false → beat = t.nextId) ∧
      s.enterFifo f = t.entered f (s.course f.course) banks last beat := by
  let r := s.allocBanks (s.course f.course).lastBank (cellsOf f.len)
  refine ⟨r.2, r.1, r.1.getLast?.getD (s.course f.course).lastBank, if f.same
      then (((s.course f.course).fifo.getLast?.bind r.2.frame?).map (·.beat)).getD r.2.nextId else r.2.nextId,
    s.unbanked_allocBanks _ _, fun hs => if_neg (by simp [hs]), ?_⟩
  unfold State.enterFifo
  dsimp only
  rw [if_neg h, hc, if_neg (by decide)]
  rfl

/-- A frame goes behind all others of the list but those of its own beat. -/
theorem State.behind_of_beats {s : State} {l : List Nat} {b : Nat}
    (h : l.all (fun j => (s.frame? j).all (·.beat != b)) = true) (p : Nat) : ∀ i ∈ l, s.behind p b i = false := by
  intro i hi
  have := List.all_eq_true.mp h i hi
  unfold State.behind
  cases hf : s.frame? i with
  | none => rfl
  | some g =>
    rw [hf] at this
    have hne : (g.beat == b) = false := by simpa using this
    simp [hne]

section
variable {s : State} {f : Frame} (h : ¬ 65536 < s.fifoBytes f.course + f.len)
  (hc : s.cellsFree (cellsOf f.len) = true)
include h hc

/-- R404, R405, R417: a frame enters its ingress FIFO and the loft. -/
theorem State.enterFifo_enters :
    (∃ banks beat, (s.enterFifo f).frame? s.nextId = some (f.entered banks beat)) ∧
      (s.enterFifo f).transit = (s.transit + cellsOf f.len) % 2 ^ 18 ∧ (s.enterFifo f).macs = s.macs := by
  obtain ⟨t, banks, last, beat, ht, -, hu⟩ := State.enterFifo_eq h hc
  have part {β : Type} (π : State → β) (hπ : ∀ u, π u.unbanked = π u) : π t = π s := by rw [← hπ, ht, hπ]
  have hn : t.nextId = s.nextId := part (·.nextId) fun _ => rfl
  have hm : t.transit = s.transit := part (·.transit) fun _ => rfl
  rw [hu, ← hn, ← hm]
  exact ⟨⟨banks, beat, State.entered_frame _ _ _ _ _ _⟩, State.entered_transit _ _ _ _ _ _, part (·.macs) fun _ => rfl⟩

/-- R43, R47: a frame goes ahead of frames of its own beat alone. -/
theorem State.enterFifo_fifo (hs : f.same = false) :
    ((s.enterFifo f).course f.course).fifo.Perm ((s.course f.course).fifo ++ [s.nextId]) ∧
      ((s.course f.course).fifo.all (fun j => (s.frame? j).all (·.beat != s.nextId)) = true →
        ((s.enterFifo f).course f.course).fifo = (s.course f.course).fifo ++ [s.nextId]) := by
  obtain ⟨t, banks, last, beat, ht, hbeat, hu⟩ := State.enterFifo_eq h hc
  have part {β : Type} (π : State → β) (hπ : ∀ u, π u.unbanked = π u) : π t = π s := by rw [← hπ, ht, hπ]
  have hn : t.nextId = s.nextId := part (·.nextId) fun _ => rfl
  have hb : t.behind f.port s.nextId = s.behind f.port s.nextId := part (·.behind f.port s.nextId) fun _ => rfl
  rw [hu, State.entered_fifo, hbeat hs, hn, hb]
  generalize (s.course f.course).fifo = l
  constructor
  · have hp := List.filter_append_perm (s.behind f.port s.nextId) l
    have hc := List.perm_append_comm (l₁ := l.filter (fun i => !s.behind f.port s.nextId i) ++ [s.nextId])
      (l₂ := l.filter (s.behind f.port s.nextId))
    rw [← List.append_assoc] at hc
    exact hc.trans (hp.append_right _)
  · intro ha
    have hall := State.behind_of_beats ha f.port
    rw [List.filter_eq_self.mpr (fun i hi => by rw [hall i hi]; rfl),
      List.filter_eq_nil_iff.mpr (fun i hi => by simp [hall i hi]), List.append_nil]

end

end Sys2Proof.Machine
end

section
/-! PROOFS. The last beat of a received frame: it joins the queue that waits for it, or is freed (R65, R66, R220, R818). -/

namespace Sys2Proof.Machine

/-- The state in which the last beat of frame i has arrived. -/
def State.beaten (s : State) (i : Nat) (f : Frame) : State :=
  ({ s with fcThen := none } : State).setFrame i { f with done := true }

theorem State.frame?_beaten (s : State) (i : Nat) (f : Frame) :
    (s.beaten i f).frame? i = some { f with done := true } := (State.frame?_setFrame _ _ _ _).trans (if_pos rfl)

/-- R818: the oldest frame of a port still arriving gets its last beat. -/
theorem State.rxFrameLastBeat_eq {s : State} {p i : Nat} {f : Frame}
    (h : List.find? (fun (e : Nat × Frame) => e.2.port == p && !e.2.host && !e.2.done) s.frames = some (i, f))
    (hi : s.frame? i = some f) : s.rxFrameLastBeat p = (s.beaten i f).resolve i := by
  have hf := List.find?_some h
  simp only [Bool.and_eq_true, Bool.not_eq_true'] at hf
  obtain ⟨⟨-, hh⟩, hd⟩ := hf
  unfold State.rxFrameLastBeat
  rw [h]
  dsimp only
  unfold State.rxLastBeat
  rw [hi]
  dsimp only
  exact if_neg (by simp [hh, hd])

theorem State.resolve_unwaited {s : State} {i : Nat} {f : Frame} (hi : s.frame? i = some f) (hs : f.stage ≠ .waitFcs) :
    s.resolve i = s := by
  rw [State.resolve, hi]
  simp [hs]

/-- R818: a frame joins a leaf that exists. -/
theorem State.join_toLeaf {s : State} {i q : Nat} {f : Frame} {n : Node} {x : Fate} (hi : s.frame? i = some f)
    (hq : s.leaf? q = some n) (hx : x ≠ .diag) :
    s.join i x (toLeaf q) = (s.setFrame i { f with stage := .queued, pend := none }).joinLeaf q (f.pkt i) := by
  have ho : s.destOpen (toLeaf q) = true := by rw [State.destOpen, if_pos rfl, hq]; rfl
  rw [State.join, hi]
  dsimp only
  rw [ho, if_pos rfl, if_neg hx]
  rfl

section
variable {s : State} {i : Nat} {f : Frame} (hi : s.frame? i = some f) (hf : s.failed = false)
  (hs : f.stage = .waitFcs) (hc : f.pendCopy = none)
include hi hf hs hc

/-- R818: a decision that its checks confirm stands. -/
theorem State.resolve_joins (hp : f.pend ≠ none) (hsame : f.fate true = f.fate false) (hl : f.pendLeaf = true) :
    s.resolve i = (s.setFrame i { f with pendCopy := none }).join i (f.fate true) (toLeaf f.pendQ) := by
  obtain ⟨k, hk⟩ := Option.ne_none_iff_exists'.mp hp
  rw [State.resolve, hi]
  simp [hs, hf, hc, hk, hsame, hl]

/-- R818: a decision that its checks undo is made again, to free the frame. -/
theorem State.resolve_undoes (hp : f.pend ≠ none) (hx : f.fate true = .free) (he : f.fate false ≠ .free) :
    ∃ t : State, t.frame? i = some { f with pendCopy := none, acct := none, use := 0, head := 0, pend := none } ∧
      s.resolve i = (t.discard i f.poisoned).fcUpdate f.port := by
  obtain ⟨k, hk⟩ := Option.ne_none_iff_exists'.mp hp
  have hne : (Fate.free == f.fate false) = false := by simpa using fun h => he h.symm
  let t := s.undecide i { f with pendCopy := none } { leaf := f.pendLeaf, id := f.pendQ }
  have ht : t.frame? i = some { f with pendCopy := none, acct := none, use := 0, head := 0, pend := none } :=
    (State.frame?_setFrame _ _ _ _).trans (if_pos rfl)
  refine ⟨if f.slowHolds false then t else t.slowCount f true, ?_, ?_⟩
  · split
    · exact ht
    · unfold State.slowCount
      split
      · exact ht
      · exact ht
  · rw [State.resolve, hi]
    simp [hs, hf, hc, hk, hx, hne, t]

end

/-- R410: a frame that only its own cells hold is gone once it is discarded. -/
theorem State.frame?_discard {s : State} {i : Nat} {f : Frame} (hi : s.frame? i = some f) (hr : f.refs = [f.cells])
    (b : Bool) : (s.discard i b).frame? i = none := by
  have h : Reached [] 0 i (s.course 0).dec f s s := ⟨hi, rfl, rfl, .refl s⟩
  obtain ⟨-, hd, -, -⟩ := h.discarded hr b
  exact hd

theorem State.frame?_slowCount (s : State) (i : Nat) (f : Frame) (b : Bool) : (s.slowCount f b).frame? i = s.frame? i := by
  unfold State.slowCount
  split <;> rfl

section
variable {s : State} {i : Nat} {f : Frame} (hi : s.frame? i = some f) (hf : s.failed = false)
  (hs : f.stage = .waitFcs) (hc : f.pendCopy = none)
include hi hf hs hc

/-- R410, R818: a frame whose decision waited, and whose checks free it, is gone. -/
theorem State.resolve_frees (hx : f.fate true = .free) (he : f.fate false ≠ .free) (hp : f.pend ≠ none ∨ f.transit ≠ 0)
    (hr : f.refs = [f.cells]) : (s.resolve i).frame? i = none := by
  by_cases hn : f.pend = none
  · let f' : Frame := { f with pendCopy := none }
    let t := (s.setFrame i f').slowCount f' true
    have ht : t.frame? i = some f' :=
      (State.frame?_slowCount _ _ _ _).trans ((State.frame?_setFrame _ _ _ _).trans (if_pos rfl))
    have hl : (t.leaveTransit i).frame? i = some { f' with transit := 0, gen := none } := by
      rw [State.leaveTransit_eq ht, State.frame?_setFrame, if_pos rfl]
    have hx' : f'.fate true = .free := hx
    have hz : f.transit ≠ 0 := hp.resolve_left fun h => h hn
    have h : s.resolve i = (t.leaveTransit i).discard i f'.poisoned := by
      rw [State.resolve, hi]
      simp only [hs, hf, hc, hn, if_neg hz, State.decideWith, f', t] at hx' ⊢
      rw [hx']
      rfl
    rw [h]
    exact State.frame?_discard hl hr _
  · obtain ⟨t, ht, hu⟩ := State.resolve_undoes hi hf hs hc hn hx he
    rw [hu, State.core_part (State.core_fcUpdate _ _) (·.frame? i)]
    exact State.frame?_discard ht hr _

/-- R818: a frame whose decision for a leaf its checks confirm stands in that leaf. -/
theorem State.resolve_queues {n : Node} (hp : f.pend ≠ none) (hsame : f.fate true = f.fate false)
    (hd : f.fate true ≠ .diag) (hl : f.pendLeaf = true) (hq : s.leaf? f.pendQ = some n) :
    ((s.resolve i).frame? i).map (fun g => (g.stage, g.done)) = some (.queued, f.done) ∧
      ((s.resolve i).leaf? f.pendQ).map (·.fifo.length) = some (n.fifo.length + 1) := by
  let t := s.setFrame i { f with pendCopy := none }
  have ht : t.frame? i = some { f with pendCopy := none } := (State.frame?_setFrame _ _ _ _).trans (if_pos rfl)
  have hu : t.leaf? f.pendQ = some n := hq
  let v := t.setFrame i { f with pendCopy := none, stage := .queued, pend := none }
  have hv : v.leaf? f.pendQ = some n := hq
  obtain ⟨jr, -, jf, -⟩ := State.joinLeaf_stat hv (Frame.pkt { f with pendCopy := none } i)
  rw [State.resolve_joins hi hf hs hc hp hsame hl, State.join_toLeaf ht hu hd]
  refine ⟨?_, ?_⟩
  · rw [State.frame?, jf]
    exact congrArg (Option.map _) ((State.frame?_setFrame t i i _).trans (if_pos rfl))
  · have := congrArg (Option.map fun r => r.2.2.2.1.length) jr
    rw [Option.map_map, Option.map_some, List.length_append] at this
    exact this

end

end Sys2Proof.Machine
end

section
/-! PROOFS. Frames and fragments that enter the block (R217 to R222, R243, R248, R249). -/

namespace Sys2Proof.Machine

-- A frame that arrives at its course

theorem Arrives.fifoBytes {p : Nat} {s t : State} (h : Arrives p s t) (c : Nat) : t.fifoBytes c = s.fifoBytes c := by
  have hf (i : Nat) : t.frame? i = s.frame? i := by rw [State.frame?, h.frames, ← State.frame?]
  have hc : t.course c = s.course c := by rw [State.course, h.courses, ← State.course]
  simp only [State.fifoBytes, hc, hf]

theorem Arrives.cellsFree {p : Nat} {s t : State} (h : Arrives p s t) (n : Nat) : t.cellsFree n = s.cellsFree n := by
  have hg (id : RegId) (hid : id ∉ [RegId.STATS_PORT, .STATS_HALF, .GEN_INTEG_EVT]) (i : Nat) (f : Field) :
      t.fget id i f = s.fget id i f := h.regs.fget hid i f
  have hm (a : Nat) : t.admMin a = s.admMin a := hg _ (by decide) _ _
  have hh (a : Nat) : t.admHead a = s.admHead a := hg _ (by decide) _ _
  have hu (a : Nat) : t.admUse a = s.admUse a := hg _ (by decide) _ _
  have ht : t.transit = s.transit := hg _ (by decide) _ _
  have hs : t.freeShared = s.freeShared := by
    simp (disch := decide) only [State.freeShared, State.sharedSize, State.sharedUsed, State.hostReserve,
      State.transit, State.hostUse, funext hm, funext hh, funext hu, hg]
  rw [State.cellsFree, State.cellsFree, hs, ht]

/-- R222: a received frame of at least 4 bytes keeps them all: its bytes, and its FCS apart. -/
theorem rxBuild_bytes {x : RxFrame} (h : 4 ≤ x.bytes.length) (p : Nat) (a : RxFirst) (bad : Bool) :
    (rxBuild p x a false bad).bytes ++ (rxBuild p x a false bad).fcs = x.bytes ∧
      (rxBuild p x a false bad).fcs.length = 4 ∧ (rxBuild p x a false bad).len = x.bytes.length := by
  have hb : (rxBuild p x a false bad).bytes ++ (rxBuild p x a false bad).fcs = x.bytes := List.take_append_drop _ _
  refine ⟨hb, ?_, ?_⟩
  · have : (x.bytes.drop (x.bytes.length - 4)).length = 4 := by
      rw [List.length_drop]
      omega
    exact this
  · rw [Frame.len, ← List.length_append, hb]

section
variable {p : Nat} {s t : State} (h : Arrives p s t)
include h

theorem Arrives.frame? (i : Nat) : t.frame? i = s.frame? i := by rw [State.frame?, h.frames, ← State.frame?]

theorem Arrives.course (c : Nat) : t.course c = s.course c := by rw [State.course, h.courses, ← State.course]

variable {f : Frame} (hb : s.fifoBytes f.course + f.len ≤ 65536) (hc : s.cellsFree (cellsOf f.len) = true)
include hb hc

/-- R404, R405: the frame that has arrived stands in the loft under the next number. -/
theorem Arrives.enters :
    (∃ banks beat, (t.enterFifo f).frame? s.nextId = some (f.entered banks beat)) ∧
      (t.enterFifo f).transit = (s.transit + cellsOf f.len) % 2 ^ 18 ∧
      ((t.enterFifo f).mac p).rxOpen = (s.mac p).rxOpen := by
  have ht : t.transit = s.transit := h.regs.fget (by decide) _ _
  have he := State.enterFifo_enters (s := t) (f := f) (by rw [h.fifoBytes]; omega) (by rw [h.cellsFree, hc])
  rw [h.nextId, ht] at he
  obtain ⟨e1, e2, e3⟩ := he
  exact ⟨e1, e2, (congrArg MacPort.rxOpen (State.mac_congr e3 p)).trans h.rxOpen⟩

theorem Arrives.fifo (hs : f.same = false) :
    ((t.enterFifo f).course f.course).fifo.Perm ((s.course f.course).fifo ++ [s.nextId]) ∧
      ((s.course f.course).fifo.all (fun j => (s.frame? j).all (·.beat != s.nextId)) = true →
        ((t.enterFifo f).course f.course).fifo = (s.course f.course).fifo ++ [s.nextId]) := by
  have he := State.enterFifo_fifo (s := t) (f := f) (by rw [h.fifoBytes]; omega) (by rw [h.cellsFree, hc]) hs
  simp only [h.nextId, h.course, h.frame?] at he
  exact he

end

-- Whole frames

/-- R219: a frame with a good start byte. -/
theorem State.rxFrame_started {s : State} {p : Nat} (hu : s.portUp p = true) (hn : s.portNear p = false) {x : RxFrame}
    (hx : x.start = 0xD5) (y : Path) :
    ∃ l, s.rxFrame p x y =
      (s.withLanes l).rxBody p x (x.err || (x.fec && s.fecMarks p)) ((s.withLanes l).rxFirst p y) := by
  have hm : (!isMPacket x || !s.preemptEn p) = true := by
    have : isMPacket x = false := by rw [isMPacket, hx]; decide
    rw [this]
    rfl
  obtain ⟨l, hl⟩ := State.rxFrame_heard hu hn hm y
  exact ⟨l, hl.trans (if_pos hx)⟩

/-- R217: a frame with a bad start byte counts, and goes no further. -/
theorem State.startBad_stat (s : State) (p : Nat) (b : Bool) :
    Counts s (s.startBad p b) ∧ (s.startBad p b).fget .STATS_PORT (p * 64 + 6) fSTATS_PORT_COUNT =
      (s.fget .STATS_PORT (p * 64 + 6) fSTATS_PORT_COUNT + 1) % 2 ^ 48 := by
  have h1 := (Counts.refl s).stat p 6 1
  unfold State.startBad
  refine ⟨.ite (h1.stat p 58 1) h1, ?_⟩
  dsimp only
  split
  · rw [State.stat_ne _ _ _ (by omega), State.stat_same]
  · exact State.stat_same _ _ _ _

theorem State.rxFrame_badStart {s : State} {p : Nat} (hu : s.portUp p = true) (hn : s.portNear p = false) {x : RxFrame}
    (hx : x.start ≠ 0xD5) (hp : s.preemptEn p = false) (y : Path) :
    ∃ l, s.rxFrame p x y = (s.withLanes l).startBad p (isSmd x.start) := by
  have hm : (!isMPacket x || !s.preemptEn p) = true := by simp [hp]
  obtain ⟨l, hl⟩ := State.rxFrame_heard hu hn hm y
  have hpe : (s.withLanes l).preemptEn p = false := hp
  exact ⟨l, hl.trans ((if_neg hx).trans (if_neg (by simp [hpe])))⟩

section
variable {p : Nat} {x : RxFrame} {s : State} (hu : s.portUp p = true) (hn : s.portNear p = false)
  (hx : x.start = 0xD5) (ha : x.alloc = .clean) (hh : s.rxHalted = false) (h64 : 64 ≤ x.bytes.length)
  (hmax : x.bytes.length ≤ s.maxFrame p) (hl : isLpm x.bytes = false) (he : s.sealEn = false)
include hu hn hx ha hh h64 hmax hl he

/-- R219 to R222, R335: a whole frame of a port reaches its course's FIFO. -/
theorem State.rxFrame_arrives {bad : Bool} (hb : (x.err || (x.fec && s.fecMarks p) || !fcsGood x.bytes) = bad)
    (hc : (isCtl x.bytes && !bad) = false) (y : Path) :
    ∃ t a l, s.rxFrame p x y = t.enterFifo (s.dealt p (rxBuild p x a false bad)) ∧ Arrives p s t ∧
      ∀ j, t.fget .STATS_PORT j fSTATS_PORT_COUNT =
        ((s.withLanes l).rxCounted p x bad).fget .STATS_PORT j fSTATS_PORT_COUNT := by
  obtain ⟨l, hr⟩ := State.rxFrame_started hu hn hx y
  obtain ⟨t, ht, hv, hj⟩ := State.rxBody_enters (s := s.withLanes l) (a := (s.withLanes l).rxFirst p y) h64 hmax hh hl
    (by rw [hb]; exact hc) he ha p (marked := x.err || (x.fec && s.fecMarks p))
  rw [hb] at ht hj
  exact ⟨t, (s.withLanes l).rxFirst p y, l, hr.trans ht,
    ⟨hv.courses, hv.frames, hv.nextId, hv.rxOpen, ((Writes.refl s).raw rfl).trans hv.regs⟩, hj⟩

end

end Sys2Proof.Machine
end

section
/-! PROOFS. Fragments of a preemptable frame, and the obligation of the frames that enter (R206, R243, R248, R249). -/

namespace Sys2Proof.Machine

/-- R248: the open frame with a fragment more. -/
def RxOpen.extended (o : RxOpen) (x : Fragment) (marks : Bool) : RxOpen :=
  { o with
    bytes := o.bytes ++ x.data, frags := o.frags + 1, err := o.err || x.err
    parity := o.parity ++ x.parity.map (· + o.bytes.length), bad := o.bad || x.err || (x.fec && marks) }

theorem State.fragTake_open {x : Fragment} (hf : x.final = false) (hc : x.crcOk = true) (s : State) (p : Nat) (o : RxOpen) :
    s.fragTake p x o = s.modMac p fun m => { m with rxOpen := some (o.extended x (s.fecMarks p)) } := by
  unfold State.fragTake
  rw [hf, hc]
  rfl

/-- R248: the frame that its last fragment completes. -/
def RxOpen.whole (o : RxOpen) (alloc : Ecc) : RxFrame :=
  { bytes := o.bytes, err := o.err, parity := o.parity, alloc := alloc }

theorem State.fragTake_final {x : Fragment} (hf : x.final = true) (s : State) (p : Nat) (o : RxOpen) :
    ∃ t, Counts (s.modMac p fun m => { m with rxOpen := none }) t ∧
      s.fragTake p x o = t.rxBody p ((o.extended x (s.fecMarks p)).whole x.alloc) (o.extended x (s.fecMarks p)).bad o.first := by
  let u := s.modMac p fun m => { m with rxOpen := none }
  refine ⟨if 2 ≤ o.frags + 1 then u.stat p 59 1 else u, .ite ((Counts.refl u).stat p 59 1) (.refl u), ?_⟩
  unfold State.fragTake
  rw [hf]
  rfl

theorem State.assemblyError_stat (s : State) (p : Nat) :
    ((s.assemblyError p).mac p).rxOpen = none ∧ (s.assemblyError p).frames = s.frames ∧
      (s.assemblyError p).fget .STATS_PORT (p * 64 + 57) fSTATS_PORT_COUNT =
        (s.fget .STATS_PORT (p * 64 + 57) fSTATS_PORT_COUNT + 1) % 2 ^ 48 := by
  have hc := (Counts.refl (s.modMac p fun m => { m with rxOpen := none })).stat p 57 1
  unfold State.assemblyError
  refine ⟨?_, hc.part (·.frames), State.stat_same _ _ _ _⟩
  rw [State.stat_mac, State.mac_modMac_same]

section
variable {s : State} {p : Nat} (hu : s.portUp p = true) (hn : s.portNear p = false) (he : s.preemptEn p = true)
  (x : Fragment) (y : Path)
include hu hn he

/-- R243: a fragment that a port hears, with preemption enabled. -/
theorem State.rxFragment_heard :
    ∃ l, (∀ n, ((s.withLanes l).lane n).life = (s.lane n).life) ∧
      (x.cont = false → (s.mac p).rxOpen = none → s.rxFragment p x y = (s.withLanes l).fragTake p x
        { bytes := [], frame := x.frame, next := 0, frags := 0, first := (s.withLanes l).rxFirst p y }) ∧
      (x.cont = true → ∀ o, (s.mac p).rxOpen = some o → (x.count.val != o.next || x.frame.val != o.frame) = false →
        s.rxFragment p x y = ((s.withLanes l).stat p 60 1).fragTake p x { o with next := (o.next + 1) % 4 }) ∧
      (x.cont = true → (s.mac p).rxOpen.all (fun z => z.next != x.count.val || z.frame != x.frame.val) = true →
        s.rxFragment p x y = ((s.withLanes l).stat p 60 1).assemblyError p) := by
  obtain ⟨l, hl, hlife⟩ := s.echo_lanes p (s.fragmentLine p x)
  let t := s.withLanes l
  have htu : t.portUp p = true := hu
  have htn : t.portNear p = false := hn
  have hh : t.heardFragment p x = some (x, t) := State.heardFragment_near htn x
  have hte : t.preemptEn p = true := he
  have hto : (t.mac p).rxOpen = (s.mac p).rxOpen := rfl
  have hco : ((t.stat p 60 1).mac p).rxOpen = (s.mac p).rxOpen := by rw [State.stat_mac, hto]
  have hx : s.rxFragment p x y =
      if x.cont then
        match ((t.stat p 60 1).mac p).rxOpen with
        | none => (t.stat p 60 1).assemblyError p
        | some o =>
          if x.count.val != o.next || x.frame.val != o.frame then (t.stat p 60 1).assemblyError p
          else (t.stat p 60 1).fragTake p x { o with next := (o.next + 1) % 4 }
      else
        let u := if (t.mac p).rxOpen.isSome then t.assemblyError p else t
        u.fragTake p x { bytes := [], frame := x.frame, next := 0, frags := 0, first := u.rxFirst p y } := by
    unfold State.rxFragment
    rw [hl]
    dsimp only
    rw [htu, hh]
    dsimp only
    rw [hte]
    rfl
  rw [hl] at hlife
  refine ⟨l, hlife, fun hc ho => ?_, fun hc o ho hm => ?_, fun hc hm => ?_⟩
  · rw [hx, hc, hto, ho]
    rfl
  · rw [hx, hc, hco, ho]
    dsimp only
    rw [hm]
    rfl
  · rw [hx, hc, hco]
    cases ho : (s.mac p).rxOpen with
    | none => rfl
    | some o =>
      rw [ho, Option.all_some, bne_comm, @bne_comm _ _ _ o.frame] at hm
      dsimp only
      rw [hm]
      rfl

end

/-- What a frame finds that arrives at a port hangs on the life of its lane alone, of what a lane holds. -/
theorem State.rxFirst_withLanes {s : State} {l : Store Lane} (h : ∀ n, ((s.withLanes l).lane n).life = (s.lane n).life)
    (p : Nat) (y : Path) : (s.withLanes l).rxFirst p y = s.rxFirst p y := by
  rw [State.rxFirst, State.rxFirst, h]
  rfl

theorem Counts.fecMarks {s t : State} (h : Counts s t) (p : Nat) : t.fecMarks p = s.fecMarks p := by
  rw [State.fecMarks, State.fecMarks, State.portFec, State.portFec, h.regs.portSpeed (by decide), h.regs.fbit (by decide)]

/-- The first fragment of a frame opens it. -/
theorem RxOpen.extended_nil (n : Nat) (a : RxFirst) (x : Fragment) (b : Bool) :
    RxOpen.extended { bytes := [], frame := n, next := 0, frags := 0, first := a } x b =
      { bytes := x.data, frame := n, next := 0, frags := 1, err := x.err, parity := x.parity,
        bad := x.err || (x.fec && b), first := a } := by
  simp [RxOpen.extended]

/-- R220: a good frame that has come to its course has been counted. -/
theorem State.entersGood_counts {s t : State} {p l : _} {x : RxFrame} (hx : x.err = false)
    (hj : ∀ j, t.fget .STATS_PORT j fSTATS_PORT_COUNT =
      ((s.withLanes l).rxCounted p x false).fget .STATS_PORT j fSTATS_PORT_COUNT) (f : Frame) :
    (t.enterFifo f).fget .STATS_PORT (p * 64) fSTATS_PORT_COUNT =
      (s.fget .STATS_PORT (p * 64) fSTATS_PORT_COUNT + 1) % 2 ^ 48 := by
  rw [(t.enterFifo_keeps f).fget (by decide), hj, State.rxCounted_good _ _ hx]
  rfl

/-- R43, R335, R404, R405, R425: a good frame enters its course's FIFO, or is discarded where that or the loft is full. -/
theorem Arrives.decides {p : Nat} {s t : State} (h : Arrives p s t) {x : RxFrame} {a : RxFirst} {c : Nat}
    (h64 : 64 ≤ x.bytes.length) (hs : x.same = false)
    (hc : c = if s.sprayed p then pairCourse p + (s.mac p).nextSeq % 2 else portCourse p) :
    let u := t.enterFifo (s.dealt p (rxBuild p x a false false))
    if 65536 < s.fifoBytes c + x.bytes.length then
      (u.course c).fifo = (s.course c).fifo ∧ u.nextId = s.nextId ∧
      u.fget .COURSE_RX_OVERRUN c fCOURSE_RX_OVERRUN_FRAMES =
        min (2 ^ fCOURSE_RX_OVERRUN_FRAMES.w - 1) (s.fget .COURSE_RX_OVERRUN c fCOURSE_RX_OVERRUN_FRAMES + 1)
    else if s.cellsFree (cellsOf x.bytes.length) = false then
      (u.course c).fifo = (s.course c).fifo ∧ u.nextId = s.nextId ∧ u.fbit .LOFT_EVT 0 fLOFT_EVT_NO_CELL = true
    else (u.course c).fifo.Perm ((s.course c).fifo ++ [s.nextId]) ∧
      ((s.course c).fifo.all (fun j => (s.frame? j).all (·.beat != s.nextId)) = true →
        (u.course c).fifo = (s.course c).fifo ++ [s.nextId]) ∧
      u.transit = (s.transit + cellsOf x.bytes.length) % 2 ^ 18 ∧
      (u.frame? s.nextId).map (fun g => (g.port, g.bytes ++ g.fcs, g.fcs.length, g.seq, g.stage, g.done)) =
        some (p, x.bytes, 4, if s.sprayed p then some (s.mac p).nextSeq else none, Stage.fifo, false) := by
  obtain ⟨hbytes, hfcs, hlen⟩ := rxBuild_bytes (x := x) (by omega) p a false
  let g := s.dealt p (rxBuild p x a false false)
  have hgl : g.len = x.bytes.length := hlen
  have hgc : g.course = c := hc.symm
  have hx := h.course c
  have hfb : t.fifoBytes g.course + g.len = s.fifoBytes c + x.bytes.length := by rw [h.fifoBytes, hgc, hgl]
  intro u
  split
  · next hfull =>
    obtain ⟨h1, h2, -, h4⟩ := State.enterFifo_full (s := t) (f := g) (by omega)
    rw [hgc, h.regs.fget (by decide)] at h4
    rw [hgc, hx] at h1
    exact ⟨h1, h2.trans h.nextId, h4⟩
  · next hroom =>
    split
    · next hcell =>
      obtain ⟨h1, h2, -, h4⟩ := State.enterFifo_noCell (s := t) (f := g) (by omega) (by rw [h.cellsFree, hgl, hcell])
      rw [hgc, hx] at h1
      exact ⟨h1, h2.trans h.nextId, h4⟩
    · next hcell =>
      have hb : s.fifoBytes g.course + g.len ≤ 65536 := by rw [hgc, hgl]; omega
      have hf : s.cellsFree (cellsOf g.len) = true := by rw [hgl]; simpa using hcell
      obtain ⟨⟨banks, beat, h1⟩, h2, -⟩ := h.enters hb hf
      obtain ⟨h3, h4⟩ := h.fifo hb hf hs
      rw [hgc] at h3 h4
      rw [hgl] at h2
      refine ⟨h3, h4, h2, ?_⟩
      have : u.frame? s.nextId = some (g.entered banks beat) := h1
      rw [this, ← hbytes, ← hfcs]
      rfl

/-- R248: the last fragment of a good frame completes it, and it enters its course's FIFO. -/
theorem State.fragTake_completes {s t : State} {p : Nat} {x : Fragment} {o : RxOpen} {l : Store Lane}
    (h : Counts (s.withLanes l) t) (hf : x.final = true) (hh : s.rxHalted = false) (hb : o.bad = false)
    (hxe : x.err = false) (hxf : x.fec = false) (ha : x.alloc = .clean)
    (h64 : 64 ≤ (o.bytes ++ x.data).length) (hmax : (o.bytes ++ x.data).length ≤ o.first.cfg.max)
    (hg : fcsGood (o.bytes ++ x.data) = true) (hse : o.first.cfg.sealEn = false)
    (hl : isLpm (o.bytes ++ x.data) = false) (hctl : isCtl (o.bytes ++ x.data) = false) (hsp : s.sprayed p = false)
    (hfb : s.fifoBytes (portCourse p) + (o.bytes ++ x.data).length ≤ 65536)
    (hcell : s.cellsFree (cellsOf (o.bytes ++ x.data).length) = true) (n : Nat) :
    let u := t.fragTake p x { o with next := n }
    (u.mac p).rxOpen = none ∧
      (u.frame? s.nextId).map (fun g => (g.bytes ++ g.fcs, g.path, g.arrived, g.deskew, g.fcsKeep)) =
        some (o.bytes ++ x.data, o.first.path, o.first.cycle, o.first.deskew, o.first.cfg.keep) := by
  obtain ⟨v, hv, hu⟩ := State.fragTake_final hf t p { o with next := n }
  let w := (RxOpen.extended { o with next := n } x (t.fecMarks p)).whole x.alloc
  have hbad : (RxOpen.extended { o with next := n } x (t.fecMarks p)).bad = false := by
    simp [RxOpen.extended, hb, hxe, hxf]
  rw [hbad] at hu
  have hvs : v.rxHalted = false := hv.rxHalted.trans (h.rxHalted.trans hh)
  obtain ⟨q, hq, hqa, -⟩ := State.rxBody_enters (s := v) (x := w) (a := o.first) (marked := false) h64 hmax hvs hl
    (by rw [show isCtl w.bytes = false from hctl]; rfl) hse ha p
  have hgood : (false || !fcsGood w.bytes) = false := by rw [show fcsGood w.bytes = true from hg]; rfl
  rw [hgood] at hq
  let s' := s.modMac p fun m => { m with rxOpen := none }
  have part {β : Type} (π : State → β) (h1 : ∀ u, π u.unregs = π u)
      (h2 : π (t.modMac p fun m => { m with rxOpen := none }) = π t) : π v = π (s.withLanes l) :=
    (hv.part π h1).trans (h2.trans (h.part π h1))
  have hvw : Writes [.STATS_PORT, .STATS_HALF] s' v :=
    ((Writes.refl s').raw rfl).trans (h.regs.trans (((Writes.refl t).raw rfl).trans hv.regs))
  have hsq : Arrives p s' q := by
    refine ⟨hqa.courses.trans (part (·.courses) (fun _ => rfl) rfl), hqa.frames.trans (part (·.frames) (fun _ => rfl) rfl),
      hqa.nextId.trans (part (·.nextId) (fun _ => rfl) rfl), hqa.rxOpen.trans ?_, (hvw.mono (by decide)).trans hqa.regs⟩
    rw [hv.part (·.mac p), State.mac_modMac_same, State.mac_modMac_same]
  have hnear : v.sprayed p = false := (hvw.sprayed (by decide) p).trans hsp
  let g := v.dealt p (rxBuild p w o.first false false)
  obtain ⟨hbytes, -, hlen⟩ := rxBuild_bytes (x := w) (Nat.le_trans (by decide) h64) p o.first false
  have hgc : g.course = portCourse p := if_neg (by simp [hnear])
  have hgl : g.len = (o.bytes ++ x.data).length := hlen
  obtain ⟨⟨banks, beat, h1⟩, -, h2⟩ := hsq.enters (f := g) (by rw [hgc, hgl]; exact hfb) (by rw [hgl]; exact hcell)
  intro u
  have hue : u = q.enterFifo g := hu.trans hq
  rw [hue]
  refine ⟨h2.trans (by rw [State.mac_modMac_same]), ?_⟩
  have h1' : (q.enterFifo g).frame? s.nextId = some (g.entered banks beat) := h1
  have hw : w.bytes = o.bytes ++ x.data := rfl
  rw [h1', ← hw, ← hbytes]
  rfl

end Sys2Proof.Machine

open Sys2Proof Sys2Proof.Machine

/-- Settles O49: R43, R64, R65, R217, R219 to R222, R243, R248, R249, R335, R404, R405, R417, R425, R769, R818. Frames and
fragments enter the block. -/
theorem framesAndFragmentsEnter : Obligations.FramesAndFragmentsEnter := by
  unfold Obligations.FramesAndFragmentsEnter
  refine ⟨fun p x y c i f nd s hs => ⟨fun hx _ hsame ha hl hc he hcourse => effect_done rfl ?_,
    fun hu hx hp hn => effect_done rfl ?_, fun hu => effect_done rfl ?_,
    fun hu hn hx ha hh h64 hmax hl hg he hsp hb hcell => effect_done rfl ?_, fun hfind hi hf =>
    ⟨fun hst => effect_done rfl ?_, fun hst hpc hp hsame hd hpl hq => effect_done rfl ?_,
      fun hst hpc hx hne hp hr => effect_done rfl ?_⟩⟩,
    fun p x y o s hs hu hn he => ⟨fun hc ho hf hcrc => effect_done rfl ?_, fun hc ho hcount hframe =>
      ⟨fun hf hcrc => effect_done rfl ?_, fun hf hh hb _ hxe hxf _ ha h64 hmax hg hse hl hctl hsp hfb hcell =>
        effect_done rfl ?_⟩, fun hc hm => effect_done rfl ?_⟩⟩
  · -- a good frame
    simp only [State.cleanRx, Bool.and_eq_true, decide_eq_true_eq, beq_iff_eq, Bool.not_eq_true'] at hx
    obtain ⟨⟨⟨⟨⟨⟨⟨⟨hu, hh⟩, hn⟩, hst⟩, h64⟩, hmax⟩, hg⟩, hxe⟩, hxf⟩ := hx
    obtain ⟨t, a, l, hr, hv, hj⟩ := State.rxFrame_arrives hu hn hst ha hh h64 hmax hl he (bad := false)
      (by rw [hxe, hxf, hg]; rfl) (by rw [hc]; rfl) y
    rw [hr]
    exact ⟨State.entersGood_counts hxe hj _, hv.decides h64 hsame hcourse⟩
  · obtain ⟨l, hr⟩ := State.rxFrame_badStart hu hn hx hp y
    obtain ⟨hk, hc⟩ := (s.withLanes l).startBad_stat p (isSmd x.start)
    rw [hr]
    exact ⟨hk.part (·.frames), hc⟩
  · obtain ⟨l, hl, -⟩ := s.echo_lanes p (preamble x.start ++ x.bytes)
    rw [State.rxFrame_down hu, hl]
    exact ⟨rfl, rfl⟩
  · -- an errored frame
    obtain ⟨t, a, l, hr, hv, hj⟩ := State.rxFrame_arrives hu hn hx ha hh h64 hmax hl he (bad := true)
      (by rw [hg]; simp) (by simp) y
    obtain ⟨-, -, hlen⟩ := rxBuild_bytes (x := x) (by omega) p a true
    have hcourse : (s.dealt p (rxBuild p x a false true)).course = portCourse p := if_neg (by simp [hsp])
    have hgl : (s.dealt p (rxBuild p x a false true)).len = x.bytes.length := hlen
    obtain ⟨⟨banks, beat, h1⟩, -, -⟩ := hv.enters (by rw [hcourse, hgl]; exact hb) (by rw [hgl]; exact hcell)
    rw [hr, (t.enterFifo_keeps _).fget (by decide), hj, State.rxCounted_bad, h1]
    exact ⟨rfl, rfl⟩
  · rw [State.rxFrameLastBeat_eq hfind hi, State.resolve_unwaited (s.frame?_beaten i f) hst]
    exact s.frame?_beaten i f
  · rw [State.rxFrameLastBeat_eq hfind hi]
    exact State.resolve_queues (s.frame?_beaten i f) hf hst hpc hp hsame hd hpl hq
  · rw [State.rxFrameLastBeat_eq hfind hi]
    exact State.resolve_frees (s.frame?_beaten i f) hf hst hpc hx hne hp hr
  · obtain ⟨l, hlife, h, -⟩ := State.rxFragment_heard hu hn he x y
    rw [h hc ho, State.fragTake_open hf hcrc, State.mac_modMac_same, RxOpen.extended_nil, State.rxFirst_withLanes hlife]
    rfl
  · obtain ⟨l, -, -, h, -⟩ := State.rxFragment_heard hu hn he x y
    have hk := (Counts.refl (s.withLanes l)).stat p 60 1
    rw [h hc o ho (by simp [hcount, hframe]), State.fragTake_open hf hcrc, State.mac_modMac_same, hk.fecMarks]
    exact ⟨rfl, hk.part (·.frames)⟩
  · -- the last fragment
    obtain ⟨l, -, -, h, -⟩ := State.rxFragment_heard hu hn he x y
    rw [h hc o ho (by simp [hcount, hframe])]
    exact State.fragTake_completes ((Counts.refl (s.withLanes l)).stat p 60 1) hf hh hb hxe hxf ha h64 hmax hg hse hl hctl
      hsp hfb hcell _
  · obtain ⟨l, -, -, -, h⟩ := State.rxFragment_heard hu hn he x y
    have hk := (Counts.refl (s.withLanes l)).stat p 60 1
    obtain ⟨ho, hf, hcount⟩ := ((s.withLanes l).stat p 60 1).assemblyError_stat p
    rw [h hc hm]
    refine ⟨ho, hf.trans (hk.part (·.frames)), hcount.trans ?_⟩
    rw [State.stat_ne _ _ _ (by omega)]
    rfl

end

section
/-! PROOFS. A completion write of no bytes (R517, R650). -/

namespace Sys2Proof.Machine

/-- The request of a completion write of queue 0, for ring 0, that carries no bytes. -/
def emptyWrite : RafterReq :=
  { who := .cq 0, port := 0, level := 0, write := true, addr := 0, len := 0, data := [], msg := false, ctrl := true,
    purpose := .cqWrite 0 [(true, 0)] }

/-- Completion queue 0, and transmit ring 0, which completes into it. -/
def smallQueue : CqCtx := { base := 0, log2 := 6, rafter := 0, pri := 0 }
def smallRing : TxRing := { base := 0, shadow := 0, log2 := 6, shadowEn := false, rafter := 0, pri := 0, cq := 0 }

/-- The request is outstanding; the source of queue 0 is enabled and feeds fast vector 0, which is idle. -/
def emptyWriteState : State :=
  { (((State.reset.fset .BOOT_STAT 0 fBOOT_STAT_STATE bRUNNING).fset .INTC_SRC 0 fINTC_SRC_EN 1).fset .INTC_SRC 0
      fINTC_SRC_FAST 1) with
    outst := [{ port := 0, tag := 0, req := emptyWrite }], cqs := [(0, smallQueue)], txrs := [(0, smallRing)] }

/-- Its response. -/
def emptyWriteResp : Resp := { port := 0, tag := 0 }

/-- The response makes no arrival. -/
theorem emptyWriteState_idle :
    (emptyWriteState.after (emptyWriteState.complDone emptyWriteResp)).fget .INTC_FVEC 0 fINTC_FVEC_STATE = 0 := by
  decide +kernel

end Sys2Proof.Machine

open Sys2Proof Sys2Proof.Machine

/-- Refutes O48: the response to a completion write that carries no bytes makes no arrival, so that the fast vector of its
queue's source stays idle, where the statement, which leaves the length of the write open, says that it becomes
PENDING. -/
theorem not_deliveriesAndCompletions : ¬ Obligations.DeliveriesAndCompletions := by
  unfold Obligations.DeliveriesAndCompletions
  rintro ⟨-, h⟩
  obtain ⟨-, -, answered, -⟩ := h emptyWriteResp 0 0 0 0 false smallQueue
    { tx := true, ring := 0, ts := 0, parse := 0, hit := 0, index := 0, tag := 0, length := 0, status := 0, reason := 0,
      bufCnt := 0, port := 0, colour := 0, aux := false }
    smallRing { base := 0, shadow := 0, log2 := 6, shadowEn := false, rafter := 0, pri := 0, cq := 0 } emptyWriteState
  obtain ⟨u, hu, -, -, hvec, -⟩ := answered (by decide +kernel) rfl rfl
  have he : emptyWriteState.after u = emptyWriteState.after (emptyWriteState.complDone emptyWriteResp) :=
    (Host.Outcome.next.inj hu).symm
  have hk : (emptyWriteState.after u).fget .INTC_FVEC 0 fINTC_FVEC_STATE = u.fget .INTC_FVEC 0 fINTC_FVEC_STATE :=
    (Keeps.of_follows (emptyWriteState.after_follows u rfl rfl)).fget (by decide) 0 _
  have hvector : emptyWriteState.fget .INTC_SRC 0 fINTC_SRC_VECTOR % 64 = 0 := by decide +kernel
  have hpend := hvec (by decide +kernel) (by decide +kernel) (by decide +kernel)
  have hzero : u.fget .INTC_FVEC 0 fINTC_FVEC_STATE = 2 := hvector ▸ hpend
  rw [← hk, he, emptyWriteState_idle] at hzero
  cases hzero
end

section
/-! PROOFS. Responses without error, and what a read returns in parts (R580, R585, R591). -/

namespace Sys2Proof.Machine

-- Responses

/-- R585, R591: a response without error completes its tag and brings about what it is for. -/
theorem State.respond_good {s : State} {a : Resp} {p : Purpose} {f : Purpose → Bool} (h : s.goodResp a p = true)
    (hf : f p = true) (k : RafterReq → Nat → State → State) :
    ∃ q, s.asked a = some q ∧ q.purpose = p ∧ (q.write = false → a.data.length = q.len) ∧ s.failed = false ∧
      s.respond a f k = k q 0 (s.retag a) := by
  simp only [State.goodResp, Bool.and_eq_true, Bool.not_eq_true', beq_iff_eq, Option.any_eq_true] at h
  obtain ⟨⟨⟨⟨-, hfail⟩, hcode⟩, hpar⟩, q, hq, hp, hlen⟩ := h
  have hans : s.answered a f = some q := by
    unfold State.asked at hq
    obtain ⟨o, ho, rfl⟩ := Option.map_eq_some_iff.mp hq
    rw [State.answered, ho]
    dsimp only
    rw [hp, hf, hlen]
    rfl
  have hc : respCode q.write a = 0 := by
    have h0 : a.code.val = 0 := by rw [hcode]; rfl
    simp [respCode, h0, hpar]
  have hret : (s.retag a).failed = false := hfail
  refine ⟨q, hq, hp, fun hw => by simpa [hw] using hlen, hfail, ?_⟩
  rw [State.respond, State.respondIn, hans]
  dsimp only
  rw [hc]
  exact if_neg fun hb => Bool.noConfusion (hret.symm.trans hb)

-- Parts

theorem idxAdd_inj {a i j : Nat} (hi : i < 2 ^ 32) (hj : j < 2 ^ 32) (h : idxAdd a i = idxAdd a j) : i = j := by
  unfold idxAdd at h
  omega

/-- What is listed under distinct keys is found under its own. -/
theorem find?_range_map {β : Type} {g : Nat → Nat} {n : Nat} (hg : ∀ i < n, ∀ j < n, g i = g j → i = j) (v : Nat → β)
    {i : Nat} (hi : i < n) : ((List.range n).map fun j => (g j, v j)).find? (fun e => e.1 == g i) = some (g i, v i) := by
  have hf : (List.range n).find? ((fun e : Nat × β => e.1 == g i) ∘ fun j => (g j, v j)) = some i := by
    rw [List.find?_range_eq_some]
    refine ⟨beq_self_eq_true _, List.mem_range.mpr hi, fun j hj => ?_⟩
    have hne : g j ≠ g i := fun h => by have := hg j (by omega) i hi h; omega
    simpa using hne
  rw [List.find?_map, hf]
  rfl

/-- The parts of `k` bytes of a list of `n` of them make it up. -/
theorem parts_flatten (k n : Nat) {b : List Byte} (h : b.length = k * n) :
    ((List.range n).map fun i => (b.drop (k * i)).take k).flatten = b := by
  induction n generalizing b with
  | zero =>
    rw [Nat.mul_zero, List.length_eq_zero_iff] at h
    simp [h]
  | succ n ih =>
    have ht : (b.drop k).length = k * n := by rw [List.length_drop, h, Nat.mul_succ]; omega
    rw [List.range_succ_eq_map, List.map_cons, List.map_map, List.flatten_cons]
    have hmap : (List.range n).map ((fun i => (b.drop (k * i)).take k) ∘ Nat.succ) =
        (List.range n).map fun i => ((b.drop k).drop (k * i)).take k := by
      refine List.map_congr_left fun i _ => ?_
      rw [Function.comp_apply, List.drop_drop, Nat.mul_succ, Nat.add_comm]
    rw [hmap, ih ht, Nat.mul_zero, List.drop_zero, List.take_append_drop]

theorem readParts_all (n size : Nat) (b : List Byte) :
    readParts n size [] b = (List.range n).map fun i => (i, (b.drop (size * i)).take size) := by
  simp [readParts]

theorem pieces_sum (fuel a off n : Nat) (h : n = 0 ∨ n + (a + off) % 256 ≤ 256 * fuel) :
    ((pieces fuel a off n).map (·.2)).sum = n := by
  induction fuel generalizing off n with
  | zero =>
    have : n = 0 := by omega
    rw [this]
    rfl
  | succ fuel ih =>
    cases n with
    | zero => rfl
    | succ n =>
      have hk : blockPart (a + off) (n + 1) = min (n + 1) (256 - (a + off) % 256) := rfl
      rw [pieces, List.map_cons, List.sum_cons]
      generalize blockPart (a + off) (n + 1) = k at hk
      have hrest : n + 1 - k = 0 ∨ n + 1 - k + (a + (off + k)) % 256 ≤ 256 * fuel := by
        rcases Nat.le_total (n + 1) (256 - (a + off) % 256) with hle | hle
        · rw [Nat.min_eq_left hle] at hk
          omega
        · rw [Nat.min_eq_right hle] at hk
          omega
      rw [ih _ _ hrest]
      omega

/-- R580: the requests of a transfer carry all its bytes. -/
theorem cuts_sum (a n : Nat) : ((cuts a n).map (·.2)).sum = n := pieces_sum _ _ _ _ (by omega)

end Sys2Proof.Machine
end

section
/-! PROOFS. Transmit entries are taken from the slots read of their ring (R505, R507, R530). -/

namespace Sys2Proof.Machine

-- What taking entries adds

/-- t asks the host for more than s does, in requests behind those that are ready. -/
structure Asks (s t : State) : Prop where
  outst : t.outst = s.outst
  rafterQ : ∃ l, t.rafterQ = s.rafterQ ++ l

namespace Asks

variable {s t u : State}

theorem same (ho : t.outst = s.outst) (hq : t.rafterQ = s.rafterQ) : Asks s t := ⟨ho, [], by rw [hq, List.append_nil]⟩

theorem refl (s : State) : Asks s s := same rfl rfl

theorem trans (h : Asks s t) (k : Asks t u) : Asks s u := by
  obtain ⟨l, hl⟩ := h.rafterQ
  obtain ⟨m, hm⟩ := k.rafterQ
  exact ⟨k.outst.trans h.outst, l ++ m, by rw [hm, hl, List.append_assoc]⟩

theorem ite_snd {c : Prop} [Decidable c] {t u : Bool × State} (h : Asks s t.2) (k : Asks s u.2) :
    Asks s (if c then t else u).2 := by
  split <;> assumption

theorem enqueue (l : List RafterReq) (h : Asks s t) : Asks s (t.enqueue l) := h.trans ⟨rfl, l, rfl⟩

theorem of_core (h : t.core = s.core) : Asks s t := same (State.core_part h (·.outst)) (State.core_part h (·.rafterQ))

theorem of_unringed (h : t.unringed = s.unringed) : Asks s t :=
  same (State.unringed_part h (·.outst)) (State.unringed_part h (·.rafterQ))

end Asks

theorem State.unringed_markFreed (s : State) (r i : Nat) : (s.markFreed r i).unringed = s.unringed := by
  unfold State.markFreed
  split <;> rfl

theorem State.entryReady_unringed (s : State) (r i : Nat) (l : List (Nat × Nat)) :
    (s.entryReady r i l).unringed = s.unringed := by
  unfold State.entryReady
  split
  · rfl
  · dsimp only
    split
    · exact (State.unringed_markFreed _ _ _).trans (State.unringed_modEntry _ _ _ _)
    · exact State.unringed_modEntry _ _ _ _

theorem State.unreadFreed_asks (s : State) (r i : Nat) : Asks s (s.unreadFreed r i) := by
  refine .trans (.same rfl rfl : Asks s s.unreadLength.2) (.of_unringed ?_)
  exact (State.unringed_markFreed _ _ _).trans (State.unringed_modEntry _ _ _ _)

theorem State.txTakeOne_asks (s : State) (r : Nat) : Asks s (s.txTakeOne r).2 := by
  unfold State.txTakeOne
  split
  · exact .refl s
  · next x _ =>
    dsimp only
    split
    · exact .refl s
    · have hs (y : TxRing) (n : Nat) : Asks s ((s.setTxr r y).fset .TXR_FETCH r fTXR_FETCH_FETCH n) := .same rfl rfl
      refine .ite_snd (.refl s) (.ite_snd ?_ (.ite_snd ?_ (.ite_snd ?_ ?_)))
      · exact (hs _ _).trans (.of_core (State.core_failStop _ _ _ _ _))
      · exact (hs _ _).trans (State.unreadFreed_asks _ _ _)
      · exact (hs _ _).enqueue _
      · exact (hs _ _).trans (.of_unringed (State.entryReady_unringed _ _ _ _))

theorem State.txTake_asks (fuel : Nat) (s : State) (r : Nat) : Asks s (s.txTake r fuel) := by
  induction fuel generalizing s with
  | zero => exact .refl s
  | succ fuel ih =>
    have h := s.txTakeOne_asks r
    unfold State.txTake
    split
    · next t ht =>
      rw [ht] at h
      exact h.trans (ih t)
    · next t ht =>
      rw [ht] at h
      exact h

-- Where taking entries stops

theorem State.txTake_stop {s t : State} {r : Nat} (h : s.txTakeOne r = (false, t)) : s.txTake r takeFuel = t := by
  have hf : takeFuel = 1048575 + 1 := rfl
  rw [hf, State.txTake, h]

theorem State.txTake_step {s t u : State} {r : Nat} (h : s.txTakeOne r = (true, t)) (ht : t.txTakeOne r = (false, u)) :
    s.txTake r takeFuel = u := by
  have hf : takeFuel = 1048574 + 1 + 1 := rfl
  rw [hf, State.txTake, h]
  dsimp only
  rw [State.txTake, ht]

theorem State.txTakeOne_noSlot {s : State} {r : Nat} {x : TxRing} (hx : s.txr? r = some x) (hb : x.slotBuf = []) :
    s.txTakeOne r = (false, s) := by
  rw [State.txTakeOne, hx]
  simp [hb]

/-- R505: an entry is taken only when none before it waits for its table or for admission. -/
theorem State.txTakeOne_waiting {s : State} {r : Nat} {x : TxRing} (hx : s.txr? r = some x)
    (hw : x.entries.any (fun e => e.stage = .table || e.stage = .admission) = true) : s.txTakeOne r = (false, s) := by
  rw [State.txTakeOne, hx]
  dsimp only
  split
  · rfl
  · rw [hw]
    rfl

end Sys2Proof.Machine
end

section
/-! PROOFS. The entries and the read slots of a transmit ring (R505, R507). -/

namespace Sys2Proof.Machine

/-- The entries that ring r has taken, and the slots read that are not yet taken. -/
def State.ringEntries (s : State) (r : Nat) : Option (List TxEntry) := (s.txr? r).map (·.entries)
def State.ringSlots (s : State) (r : Nat) : Option (List (Nat × List Byte)) := (s.txr? r).map (·.slotBuf)

/-- The change f of the entries that begin at slot i. -/
def TxEntry.at (i : Nat) (f : TxEntry → TxEntry) (e : TxEntry) : TxEntry := if e.first == i then f e else e

/-- R507: an entry that retires because its leaf does not exist. -/
def TxEntry.gone (e : TxEntry) : TxEntry := { e with freed := true, stage := .retired }

theorem State.txr?_setTxr (s : State) (r : Nat) (x : TxRing) : (s.setTxr r x).txr? r = some x :=
  Store.find?_put_same _ _ _

theorem State.txr?_modTxr (s : State) (r : Nat) (f : TxRing → TxRing) : (s.modTxr r f).txr? r = (s.txr? r).map f := by
  unfold State.modTxr
  split
  · next x hx => rw [State.txr?_setTxr, hx]; rfl
  · next hx => rw [hx]; rfl

theorem State.ringEntries_modEntry (s : State) (r i : Nat) (f : TxEntry → TxEntry) :
    (s.modEntry r i f).ringEntries r = (s.ringEntries r).map (List.map (TxEntry.at i f)) := by
  unfold State.ringEntries State.modEntry
  rw [State.txr?_modTxr, Option.map_map, Option.map_map]
  rfl

theorem State.ringSlots_modEntry (s : State) (r i : Nat) (f : TxEntry → TxEntry) :
    (s.modEntry r i f).ringSlots r = s.ringSlots r := by
  unfold State.ringSlots State.modEntry
  rw [State.txr?_modTxr, Option.map_map]
  rfl

theorem State.ringEntries_markFreed (s : State) (r i : Nat) :
    (s.markFreed r i).ringEntries r = (s.ringEntries r).map (List.map (TxEntry.at i TxEntry.gone)) := by
  unfold State.ringEntries State.markFreed
  split
  · next hx => rw [hx]; rfl
  · next x hx => rw [State.txr?_setTxr, hx]; rfl

theorem State.ringSlots_markFreed (s : State) (r i : Nat) : (s.markFreed r i).ringSlots r = s.ringSlots r := by
  unfold State.ringSlots State.markFreed
  split
  · next hx => rw [hx]
  · next x hx => rw [State.txr?_setTxr, hx]; rfl

theorem State.entryAt_eq (s : State) (r i : Nat) :
    s.entryAt r i = (s.ringEntries r).bind (List.find? fun e => e.first == i) := by
  unfold State.entryAt State.ringEntries
  rw [Option.bind_map]
  rfl

theorem State.entryAt_only {s : State} {r i : Nat} {e : TxEntry} (h : s.ringEntries r = some [e]) (hi : e.first = i) :
    s.entryAt r i = some e := by
  rw [State.entryAt_eq, h]
  simp [hi]

theorem TxEntry.first_at {i : Nat} {f : TxEntry → TxEntry} (hf : ∀ e, (f e).first = e.first) (e : TxEntry) :
    (TxEntry.at i f e).first = e.first := by
  unfold TxEntry.at
  split
  · exact hf e
  · rfl

/-- The first entry that begins at slot i stays the first, and changes. -/
theorem find?_map_at {i : Nat} {f : TxEntry → TxEntry} (hf : ∀ e, (f e).first = e.first) (l : List TxEntry) :
    (l.map (TxEntry.at i f)).find? (fun e => e.first == i) = (l.find? fun e => e.first == i).map f := by
  have hp : ((fun e : TxEntry => e.first == i) ∘ TxEntry.at i f) = fun e => e.first == i :=
    funext fun e => by rw [Function.comp_apply, TxEntry.first_at hf]
  rw [List.find?_map, hp]
  cases hl : l.find? fun e => e.first == i with
  | none => rfl
  | some e =>
    have he : (e.first == i) = true := List.find?_some (p := fun e : TxEntry => e.first == i) hl
    rw [Option.map_some, Option.map_some, TxEntry.at, if_pos he]

theorem State.entryAt_modEntry (s : State) (r i : Nat) {f : TxEntry → TxEntry} (hf : ∀ e, (f e).first = e.first) :
    (s.modEntry r i f).entryAt r i = (s.entryAt r i).map f := by
  rw [State.entryAt_eq, State.entryAt_eq, State.ringEntries_modEntry]
  cases s.ringEntries r with
  | none => rfl
  | some l => exact find?_map_at hf l

theorem State.entryAt_markFreed (s : State) (r i : Nat) :
    (s.markFreed r i).entryAt r i = (s.entryAt r i).map TxEntry.gone := by
  rw [State.entryAt_eq, State.entryAt_eq, State.ringEntries_markFreed]
  cases s.ringEntries r with
  | none => rfl
  | some l => exact find?_map_at (f := TxEntry.gone) (fun _ => rfl) l

theorem TxEntry.map_at_only {e : TxEntry} {i : Nat} (hi : e.first = i) (f : TxEntry → TxEntry) :
    [e].map (TxEntry.at i f) = [f e] := by
  rw [List.map_singleton, TxEntry.at, if_pos (beq_iff_eq.mpr hi)]

/-- A ring with one entry: what a change of that entry makes of it. -/
theorem State.only_modEntry {s : State} {r i : Nat} {e : TxEntry} (h : s.ringEntries r = some [e]) (hi : e.first = i)
    (f : TxEntry → TxEntry) : (s.modEntry r i f).ringEntries r = some [f e] := by
  rw [State.ringEntries_modEntry, h, Option.map_some, TxEntry.map_at_only hi]

theorem State.only_markFreed {s : State} {r i : Nat} {e : TxEntry} (h : s.ringEntries r = some [e]) (hi : e.first = i) :
    (s.markFreed r i).ringEntries r = some [e.gone] := by
  rw [State.ringEntries_markFreed, h, Option.map_some, TxEntry.map_at_only hi]

/-- R505: no slot that has been read waits to be taken. -/
theorem State.txTakeOne_idle {s : State} {r : Nat} (h : s.ringSlots r = some []) : s.txTakeOne r = (false, s) := by
  obtain ⟨x, hx, hb⟩ := Option.map_eq_some_iff.mp h
  exact State.txTakeOne_noSlot hx hb

theorem State.txTake_idle {s : State} {r : Nat} (h : s.ringSlots r = some []) : s.txTake r takeFuel = s :=
  State.txTake_stop (State.txTakeOne_idle h)

-- An entry that its checks let pass

/-- R507: an entry whose fragments are known, once its leaf has been looked for. -/
def TxEntry.readied (e : TxEntry) (frags : List (Nat × Nat)) (gone : Bool) : TxEntry :=
  let f : TxEntry := { e with frags := frags, lhost := (frags.map (·.2)).sum, stage := .admission }
  if gone then f.gone else f

theorem State.ringSlots_entryReady (s : State) (r i : Nat) (l : List (Nat × Nat)) :
    (s.entryReady r i l).ringSlots r = s.ringSlots r := by
  unfold State.entryReady
  split
  · rfl
  · dsimp only
    split
    · rw [State.ringSlots_markFreed, State.ringSlots_modEntry]
    · rw [State.ringSlots_modEntry]

theorem State.leaf?_modEntry (s : State) (r i l : Nat) (f : TxEntry → TxEntry) :
    (s.modEntry r i f).leaf? l = s.leaf? l := State.unringed_part (State.unringed_modEntry s r i f) (·.leaf? l)

theorem State.only_entryReady {s : State} {r i : Nat} {e : TxEntry} (h : s.ringEntries r = some [e]) (hi : e.first = i)
    (l : List (Nat × Nat)) : (s.entryReady r i l).ringEntries r =
      some [e.readied l (s.leaf? (hdrLeaf (cb e.bytes 0 8))).isNone] := by
  have hm := State.only_modEntry h hi
    fun e => { e with frags := l, lhost := (l.map (·.2)).sum, stage := .admission }
  rw [State.entryReady, State.entryAt_only h hi]
  dsimp only
  rw [State.leaf?_modEntry]
  unfold TxEntry.readied
  split
  · exact State.only_markFreed hm hi
  · exact hm

theorem State.ringSlots_unreadFreed (s : State) (r i : Nat) : (s.unreadFreed r i).ringSlots r = s.ringSlots r := by
  unfold State.unreadFreed
  rw [State.ringSlots_markFreed, State.ringSlots_modEntry]
  rfl

theorem State.only_unreadFreed {s : State} {r i : Nat} {e : TxEntry} (h : s.ringEntries r = some [e]) (hi : e.first = i) :
    (s.unreadFreed r i).ringEntries r = some [TxEntry.gone { e with lhost := s.unreadLength.1 }] := by
  have hu : s.unreadLength.2.ringEntries r = some [e] := h
  exact State.only_markFreed (State.only_modEntry hu hi fun e => { e with lhost := s.unreadLength.1 }) hi

end Sys2Proof.Machine
end

section
/-! PROOFS. The slots of transmit entries return, or their ring's context cannot be read (R505, R530, R751, R754). -/

namespace Sys2Proof.Machine

-- The fault record

/-- R763, R768: fail-stop records what tells more of its cause, and the address or index. -/
theorem State.failStop_record {s : State} (hf : s.failed = false) (c : Cause) (info addr : Nat) (copy : List Byte) :
    (s.failStop c info addr copy).rget .GEN_FAULT_INFO 0 = BitVec.ofNat 64 info ∧
      (s.failStop c info addr copy).rget .GEN_FAULT_ADDR 0 = BitVec.ofNat 64 addr := by
  rw [State.failStop_eq hf]
  have hcut : Keeps [.STATS_PORT, .STATS_HALF] (s.failEntry c info addr copy)
      ((s.failEntry c info addr copy).forEach (List.range 16) State.cutPort) :=
    .forEach _ (fun u p => State.cutPort_keeps (by decide) u p) (.refl _)
  let t := (((s.flag .GEN_FAULT_STAT 0 fGEN_FAULT_STAT_ACTIVE).flag .GEN_FAULT_STAT 0 fGEN_FAULT_STAT_VALID).fset
    .GEN_FAULT_STAT 0 fGEN_FAULT_STAT_MORE 0).count .GEN_FAULT_STAT 0 fGEN_FAULT_STAT_ENTRIES
  have hentry : Keeps [.GEN_FAULT_TIME, .GEN_INTEG_EVT] (t.faultRecord c info addr copy) (s.failEntry c info addr copy) :=
    (((Keeps.refl _).rset 0 _ (by decide)).flag 0 _ (by decide)).faultAt _
  have hcopy (u : State) : Keeps [.GEN_FAULT_COPY] u (u.faultCopy copy) :=
    .forEach _ (fun u i => (Keeps.refl u).rset i _ (by decide)) (.refl u)
  constructor
  · rw [hcut.regs _ (by decide), hentry.regs _ (by decide), State.faultRecord, (hcopy _).regs _ (by decide)]
    simp [State.rget_rset]
  · rw [hcut.regs _ (by decide), hentry.regs _ (by decide), State.faultRecord, (hcopy _).regs _ (by decide)]
    simp

/-- R529: a malformed entry is fatal, and the fault record names the slot at which it begins. -/
theorem State.malformed_stat {s : State} (hf : s.failed = false) (kind ring reason addr : Nat) (copy : List Byte)
    (pos : Nat) : (s.malformed kind ring reason addr copy pos).failed = true ∧
      (s.malformed kind ring reason addr copy pos).fget .GEN_FAULT_STAT 0 fGEN_FAULT_STAT_CAUSE = 1 ∧
      (s.malformed kind ring reason addr copy pos).rget .GEN_FAULT_ADDR 0 = BitVec.ofNat 64 addr := by
  obtain ⟨-, hfail, hcause⟩ := State.failStop_stat hf .malformed
    (kind + ring * 4 + reason * 2 ^ 16 + copy.length * 2 ^ 24 + pos * 2 ^ 32) addr copy
  exact ⟨hfail, hcause, (State.failStop_record hf _ _ _ _).2⟩

-- The read of the slots

theorem Asks.head {s t : State} (h : Asks s t) : t.rafterQ.take s.rafterQ.length = s.rafterQ := by
  obtain ⟨l, hl⟩ := h.rafterQ
  rw [hl, List.take_left]

theorem State.txSlotsRead_asks (s : State) (r first n : Nat) (b : List Byte) (bad : List Nat) :
    Asks s (s.txSlotsRead r first n b bad) :=
  (Asks.of_unringed (State.unringed_modTxr s r _)).trans (State.txTake_asks _ _ _)

/-- What a read returns of a transmit entry: slots, or part of its fragment table. -/
def Purpose.ofEntry : Purpose → Bool
  | .txSlots .. => true
  | .txTable .. => true
  | _ => false

variable {a : Resp} {s : State} {q : RafterReq} {r first n : Nat}

/-- R530: what the return of an entry's slots or table brings about. -/
theorem State.txEntryDone_good {p : Purpose}
    (h : s.goodResp a p = true) (hq : s.asked a = some q)
    (hp : p.ofEntry = true) (x : CacheRead) :
    s.txEntryDone a x = (s.retag a).txEntryRead q 0 x a.data ∧ q.purpose = p ∧
      (q.write = false → a.data.length = q.len) ∧ (s.retag a).failed = false := by
  obtain ⟨q', hq', hqp, hlen, hf, he⟩ := State.respond_good h hp
    fun q code s => s.txEntryRead q code x a.data
  obtain rfl : q' = q := Option.some.inj (hq'.symm.trans hq)
  exact ⟨he, hqp, hlen, hf⟩

theorem State.txEntryRead_slots (hp : q.purpose = .txSlots r first n) (x : CacheRead) (b : List Byte) :
    s.txEntryRead q 0 x b =
      if (s.contextRead 0 r x.ctx).failed then s.contextRead 0 r x.ctx
      else ((s.contextRead 0 r x.ctx).reread q 0 r 32 (idxAdd first) ((x.bad.filter (· < n)).dedup)).txSlotsRead r first n b
        ((x.bad.filter (· < n)).dedup) := by
  rw [State.txEntryRead, hp]
  rfl

theorem State.txEntryRead_table {pos len : Nat} (hp : q.purpose = .txTable r first pos len) (hf : s.failed = false)
    (b : List Byte) : s.txEntryRead q 0 {} b = s.txTableRead r first pos b [] := by
  rw [State.txEntryRead, hp]
  exact if_neg (ne_true_of_eq_false hf)

/-- R754: a slot in which the descriptor cache shows a parity error is read again. -/
theorem State.txEntryDone_reread (h : s.goodResp a (.txSlots r first n) = true) (hq : s.asked a = some q) {i : Nat}
    (hi : i < n) :
    (s.txEntryDone a { bad := [i] }).outst = s.completed a ∧
      (s.txEntryDone a { bad := [i] }).rafterQ.take (s.rafterQ.length + 1) = s.rafterQ ++
        [{ q with addr := q.addr + 32 * i, len := 32, purpose := .descReread 0 r (idxAdd first i) }] := by
  obtain ⟨he, hp, -, hf⟩ := State.txEntryDone_good h hq rfl { bad := [i] }
  have hbad : ((([i] : List Nat).filter (· < n)).dedup) = [i] := by simp [hi]
  have hctx : (s.retag a).contextRead 0 r .clean = s.retag a := rfl
  rw [he, State.txEntryRead_slots hp, hbad, hctx, if_neg (ne_true_of_eq_false hf)]
  let t := ((s.retag a).corrected fGEN_INTEG_CORR_DESC).enqueue
    [{ q with addr := q.addr + 32 * i, len := 32, purpose := .descReread 0 r (idxAdd first i) }]
  have ha : Asks t (t.txSlotsRead r first n a.data [i]) := State.txSlotsRead_asks _ _ _ _ _ _
  have hl : t.rafterQ.length = s.rafterQ.length + 1 := List.length_append
  exact ⟨ha.outst, hl ▸ ha.head⟩

/-- R751: an uncorrectable context of the ring is fatal, and nothing is taken. -/
theorem State.txEntryDone_context (h : s.goodResp a (.txSlots r first n) = true) (hq : s.asked a = some q) (i : Nat) :
    s.txEntryDone a { ctx := .uncorrectable i } = (s.retag a).failStop .contextEcc (0 + r * 4) 0 := by
  obtain ⟨he, hp, -, hf⟩ := State.txEntryDone_good h hq rfl { ctx := .uncorrectable i }
  rw [he, State.txEntryRead_slots hp, State.contextRead, eccOf, State.eccCheck]
  exact if_pos (State.failStop_stat hf _ _ _ _).2.1

end Sys2Proof.Machine
end

section
/-! PROOFS. A transmit entry whose slots have returned is checked and taken (R500 to R507, R529, R530). -/

namespace Sys2Proof.Machine

/-- R505: slot i of the bytes of slots that a read returned. -/
def slotPart (b : List Byte) (i : Nat) : List Byte := (b.drop (32 * i)).take 32

/-- The slots read from slot `first` on, n of them, with bytes b. -/
def slotsFrom (first n : Nat) (b : List Byte) : List (Nat × List Byte) :=
  (List.range n).map fun i => (idxAdd first i, slotPart b i)

theorem slotsFrom_find? {first n i : Nat} (b : List Byte) (hn : n ≤ 2 ^ 32) (hi : i < n) :
    (slotsFrom first n b).find? (fun e => e.1 == idxAdd first i) = some (idxAdd first i, slotPart b i) :=
  find?_range_map (fun _ hj _ hk => idxAdd_inj (by omega) (by omega)) _ hi

theorem cb_slotPart (b : List Byte) : cb (slotPart b 0) 0 8 = cb b 0 8 := by
  simp [cb, slotPart, List.take_take]

theorem slotsFrom_bytes {first n : Nat} {b : List Byte} (hn : n ≤ 2 ^ 32) :
    (List.range n).filterMap (fun i => ((slotsFrom first n b).find? fun e => e.1 == idxAdd first i).map (·.2)) =
      (List.range n).map (slotPart b) := by
  rw [← List.filterMap_eq_map]
  refine List.filterMap_congr fun i hi => ?_
  rw [slotsFrom_find? b hn (List.mem_range.mp hi)]
  rfl

theorem slotsFrom_gone (first n : Nat) (b : List Byte) :
    (slotsFrom first n b).filter (fun y => !((List.range n).map (idxAdd first)).contains y.1) = [] := by
  rw [List.filter_eq_nil_iff]
  intro y hy
  obtain ⟨i, hi, rfl⟩ := List.mem_map.mp hy
  have hm : idxAdd first i ∈ (List.range n).map (idxAdd first) := List.mem_map_of_mem hi
  rw [List.contains_iff_mem.mpr hm]
  exact Bool.noConfusion

-- What becomes of the entry

/-- R529, R530: the reason for which the checks of an entry's slots fail, 0 where they pass. -/
def TxEntry.code (e : TxEntry) : Nat := if hdrIndirect (cb e.bytes 0 8) then slotChecks e.bytes else directChecks e.bytes

/-- The entry e of ring r is the only one taken, and TXR_FETCH has passed it. -/
def State.fetched (s : State) (r : Nat) (x : TxRing) (e : TxEntry) : State :=
  (s.setTxr r { x with entries := [e], slotBuf := [] }).fset .TXR_FETCH r fTXR_FETCH_FETCH (idxAdd e.first e.slots)

/-- R530: the reads of the fragment table of an entry of ring r. -/
def TxRing.tableReqs (x : TxRing) (r : Nat) (e : TxEntry) : List RafterReq :=
  (cuts (recAddr e.bytes 16) (16 * recLen e.bytes 16)).map
    fun p => x.req r (recAddr e.bytes 16 + p.1) p.2 (.txTable r e.first p.1 p.2)

/-- R505, R507, R530: an entry is taken as its checks tell. -/
def State.taken (s : State) (r : Nat) (x : TxRing) (e : TxEntry) : Bool × State :=
  if e.code != 0 then (false, (s.fetched r x e).malformed 0 r e.code e.first e.bytes)
  else if hdrIndirect (cb e.bytes 0 8) && (s.leaf? (hdrLeaf (cb e.bytes 0 8))).isNone then
    (true, (s.fetched r x e).unreadFreed r e.first)
  else if hdrIndirect (cb e.bytes 0 8) then (false, (s.fetched r x e).enqueue (x.tableReqs r e))
  else (true, (s.fetched r x e).entryReady r e.first (directFrags e.bytes))

variable {s : State} {r first n : Nat} {x : TxRing} {b : List Byte}

/-- The entry that stands in n slots from slot `first` on. -/
def slotEntry (first n : Nat) (b : List Byte) : TxEntry :=
  { first := first, slots := n, bytes := b, stage := .table, cqReq := hdrCqReq (cb b 0 8) }

theorem State.txTakeOne_slots (hx : s.txr? r = some x) (he : x.entries = []) (hs : x.slotBuf = slotsFrom first n b)
    (hl : b.length = 32 * n) (hn : hdrSlots (cb b 0 8) = n) (hfetch : s.txFetch r = first) (hf : s.failed = false)
    (hw : s.cqWait true r x.cq = false) (hend : n ≤ idxDiff (s.txEnd r x) first) :
    s.txTakeOne r = s.taken r x (slotEntry first n b) := by
  have hpos : 0 < n ∧ n ≤ 4 := by unfold hdrSlots at hn; omega
  have hlt : first < 2 ^ 32 := hfetch ▸ Field.get_lt fTXR_FETCH_FETCH _
  have h0 : idxAdd first 0 = first := Nat.mod_eq_of_lt hlt
  have hfind := slotsFrom_find? (first := first) b (by omega) hpos.1
  rw [h0] at hfind
  have hbytes : ((List.range n).map (slotPart b)).flatten = b := parts_flatten 32 n hl
  have hwait : (false || s.failed || s.cqWait true r x.cq || (List.map (slotPart b) (List.range n)).length != n ||
      decide (idxDiff (s.txEnd r x) first < n)) = false := by
    have : ¬ idxDiff (s.txEnd r x) first < n := by omega
    simp [hf, hw, this]
  rw [State.txTakeOne, hx]
  dsimp only
  rw [hfetch, hs, hfind]
  dsimp only
  rw [cb_slotPart, hn, slotsFrom_bytes (by omega), slotsFrom_gone, hbytes, he, List.any_nil, hwait, if_neg Bool.false_ne_true,
    List.nil_append]
  rfl

end Sys2Proof.Machine
end

section
/-! PROOFS. What a taken transmit entry becomes (R505, R507, R529, R530). -/

namespace Sys2Proof.Machine

variable {s : State} {r : Nat} {x : TxRing} {e : TxEntry}

-- The branches of the checks

theorem State.taken_malformed (hc : e.code ≠ 0) :
    s.taken r x e = (false, (s.fetched r x e).malformed 0 r e.code e.first e.bytes) :=
  if_pos (bne_iff_ne.mpr hc)

theorem State.taken_unread (hc : e.code = 0) (hi : hdrIndirect (cb e.bytes 0 8) = true)
    (hl : s.leaf? (hdrLeaf (cb e.bytes 0 8)) = none) : s.taken r x e = (true, (s.fetched r x e).unreadFreed r e.first) := by
  rw [State.taken, hc, hi, hl]
  rfl

theorem State.taken_table {nd : Node} (hc : e.code = 0) (hi : hdrIndirect (cb e.bytes 0 8) = true)
    (hl : s.leaf? (hdrLeaf (cb e.bytes 0 8)) = some nd) :
    s.taken r x e = (false, (s.fetched r x e).enqueue (x.tableReqs r e)) := by
  rw [State.taken, hc, hi, hl]
  rfl

theorem State.taken_direct (hc : e.code = 0) (hi : hdrIndirect (cb e.bytes 0 8) = false) :
    s.taken r x e = (true, (s.fetched r x e).entryReady r e.first (directFrags e.bytes)) := by
  rw [State.taken, hc, hi]
  rfl

-- The ring behind it

theorem State.fetched_entries (s : State) (r : Nat) (x : TxRing) (e : TxEntry) :
    (s.fetched r x e).ringEntries r = some [e] := by
  rw [State.ringEntries]
  exact congrArg (Option.map (·.entries)) (s.txr?_setTxr r _)

theorem State.fetched_slots (s : State) (r : Nat) (x : TxRing) (e : TxEntry) :
    (s.fetched r x e).ringSlots r = some [] := by
  rw [State.ringSlots]
  exact congrArg (Option.map (·.slotBuf)) (s.txr?_setTxr r _)

theorem State.fetched_txFetch (s : State) (r : Nat) (x : TxRing) (e : TxEntry) :
    (s.fetched r x e).txFetch r = idxAdd e.first e.slots := by
  rw [State.txFetch, State.fetched, State.fget_fset_same _ _ _ _ _ (by decide)]
  exact Nat.mod_mod _ _

theorem State.fetched_failed (s : State) (r : Nat) (x : TxRing) (e : TxEntry) : (s.fetched r x e).failed = s.failed :=
  congrArg (· != 0) (State.fget_fset_reg (a := .TXR_FETCH) (b := .GEN_FAULT_STAT) _ _ _ _ (fun h => by cases h.1))

/-- R505: after the entry no slot is left to take. -/
theorem State.txTake_taken (h : s.txTakeOne r = s.taken r x e) : s.txTake r takeFuel = (s.taken r x e).2 := by
  have hslots := s.fetched_slots r x e
  by_cases hc : e.code = 0
  · cases hi : hdrIndirect (cb e.bytes 0 8) with
    | false =>
      rw [State.taken_direct hc hi] at h ⊢
      exact State.txTake_step h (State.txTakeOne_idle ((State.ringSlots_entryReady _ _ _ _).trans hslots))
    | true =>
      cases hl : s.leaf? (hdrLeaf (cb e.bytes 0 8)) with
      | none =>
        rw [State.taken_unread hc hi hl] at h ⊢
        exact State.txTake_step h (State.txTakeOne_idle ((State.ringSlots_unreadFreed _ _ _).trans hslots))
      | some nd =>
        rw [State.taken_table hc hi hl] at h ⊢
        exact State.txTake_stop h
  · rw [State.taken_malformed hc] at h ⊢
    exact State.txTake_stop h

theorem State.unreadFreed_regs (s : State) (r i : Nat) : (s.unreadFreed r i).regs = s.regs :=
  (State.unringed_part ((State.unringed_markFreed _ _ _).trans (State.unringed_modEntry _ _ _ _)) (·.regs)).trans
    (rfl : s.unreadLength.2.regs = s.regs)

/-- R505: TXR_FETCH has passed the entry, whatever its checks find. -/
theorem State.taken_txFetch (hf : s.failed = false) (r : Nat) (x : TxRing) (e : TxEntry) :
    (s.taken r x e).2.txFetch r = idxAdd e.first e.slots := by
  have hfail : (s.fetched r x e).failed = false := (s.fetched_failed r x e).trans hf
  have same {t : State} (h : t.regs = (s.fetched r x e).regs) : t.txFetch r = idxAdd e.first e.slots := by
    rw [← s.fetched_txFetch r x e]
    unfold State.txFetch State.fget State.rget
    rw [h]
  by_cases hc : e.code = 0
  · cases hi : hdrIndirect (cb e.bytes 0 8) with
    | false =>
      rw [State.taken_direct hc hi]
      exact same (State.unringed_part (State.entryReady_unringed _ _ _ _) (·.regs))
    | true =>
      cases hl : s.leaf? (hdrLeaf (cb e.bytes 0 8)) with
      | none =>
        rw [State.taken_unread hc hi hl]
        exact same (State.unreadFreed_regs _ _ _)
      | some nd =>
        rw [State.taken_table hc hi hl]
        exact same rfl
  · rw [State.taken_malformed hc]
    exact ((State.failStop_stat hfail _ _ _ _).1.fget (by decide) r _).trans (s.fetched_txFetch r x e)

-- The entry

theorem TxRing.tableReqs_sum (x : TxRing) (r : Nat) (e : TxEntry) :
    ((x.tableReqs r e).map (·.len)).sum = 16 * recLen e.bytes 16 := by
  rw [TxRing.tableReqs, List.map_map]
  exact cuts_sum _ _

/-- R507: where an entry stands whose slots' checks have passed. -/
def TxEntry.takenStage (e : TxEntry) (leaf : Option Node) : TxStage :=
  if leaf = none then .retired else if hdrIndirect (cb e.bytes 0 8) then .table else .admission

/-- R505, R507: the entry as it stands behind its checks, and the reads of its fragment table. -/
theorem State.taken_stat (hc : e.code = 0) (hs : e.stage = .table) (hf : e.freed = false) :
    ∃ z, (s.taken r x e).2.ringEntries r = some [z] ∧ z.first = e.first ∧ z.slots = e.slots ∧
      z.stage = e.takenStage (s.leaf? (hdrLeaf (cb e.bytes 0 8))) ∧
      z.freed = (s.leaf? (hdrLeaf (cb e.bytes 0 8))).isNone ∧
      (hdrIndirect (cb e.bytes 0 8) = false → z.lhost = ((directFrags e.bytes).map (·.2)).sum) ∧
      ((((s.taken r x e).2.rafterQ.drop s.rafterQ.length).map (·.len)).sum =
        if hdrIndirect (cb e.bytes 0 8) && (s.leaf? (hdrLeaf (cb e.bytes 0 8))).isSome then 16 * recLen e.bytes 16
        else 0) := by
  have honly := s.fetched_entries r x e
  have quiet {t : State} (h : t.rafterQ = s.rafterQ) : ((t.rafterQ.drop s.rafterQ.length).map (·.len)).sum = 0 := by
    rw [h, List.drop_length]
    rfl
  unfold TxEntry.takenStage
  cases hi : hdrIndirect (cb e.bytes 0 8) with
  | false =>
    rw [State.taken_direct hc hi]
    refine ⟨_, State.only_entryReady honly rfl _, ?_⟩
    have hq := quiet (State.unringed_part (State.entryReady_unringed (s.fetched r x e) r e.first (directFrags e.bytes))
      (·.rafterQ))
    have hleaf : (s.fetched r x e).leaf? (hdrLeaf (cb e.bytes 0 8)) = s.leaf? (hdrLeaf (cb e.bytes 0 8)) := rfl
    rw [hleaf]
    cases s.leaf? (hdrLeaf (cb e.bytes 0 8)) with
    | none => exact ⟨rfl, rfl, rfl, rfl, fun _ => rfl, hq⟩
    | some nd => exact ⟨rfl, rfl, rfl, hf, fun _ => rfl, hq⟩
  | true =>
    cases hl : s.leaf? (hdrLeaf (cb e.bytes 0 8)) with
    | none =>
      rw [State.taken_unread hc hi hl]
      refine ⟨_, State.only_unreadFreed honly rfl, rfl, rfl, rfl, rfl, fun h => Bool.noConfusion h, quiet ?_⟩
      have hu := (State.unringed_markFreed ((s.fetched r x e).unreadLength.2.modEntry r e.first
        fun e' => { e' with lhost := (s.fetched r x e).unreadLength.1 }) r e.first).trans (State.unringed_modEntry _ _ _ _)
      exact State.unringed_part hu (·.rafterQ)
    | some nd =>
      rw [State.taken_table hc hi hl]
      refine ⟨e, honly, rfl, rfl, hs, hf, fun h => Bool.noConfusion h, ?_⟩
      have hq : ((s.fetched r x e).enqueue (x.tableReqs r e)).rafterQ = s.rafterQ ++ x.tableReqs r e := rfl
      rw [hq, List.drop_left, x.tableReqs_sum]
      rfl

-- The whole command

variable {a : Resp} {q : RafterReq} {first n : Nat}

/-- R505: the slots of one entry return to a ring that holds none. -/
theorem State.txEntryDone_slots (h : s.goodResp a (.txSlots r first n) = true) (hq : s.asked a = some q)
    (hx : s.txr? r = some x) (hl : a.data.length = 32 * n) (he : x.entries = []) (hs : x.slotBuf = [])
    (hfetch : s.txFetch r = first) (hw : s.cqWait true r x.cq = false) (hn : hdrSlots (cb a.data 0 8) = n)
    (hend : n ≤ idxDiff (s.txEnd r x) first) : ∃ (t : State) (y : TxRing),
      t.failed = false ∧ t.rafterQ = s.rafterQ ∧ t.leaves = s.leaves ∧
      s.txEntryDone a {} = (t.taken r y (slotEntry first n a.data)).2 := by
  obtain ⟨hd, hp, -, hf⟩ := State.txEntryDone_good h hq rfl {}
  let y : TxRing := { x with slotBuf := slotsFrom first n a.data }
  let t := (s.retag a).setTxr r y
  refine ⟨t, y, hf, rfl, rfl, ?_⟩
  have hctx : (s.retag a).contextRead 0 r .clean = s.retag a := rfl
  have hread : ((s.retag a).reread q 0 r 32 (idxAdd first) (([] : List Nat).filter (· < n)).dedup).txSlotsRead r first n
      a.data (([] : List Nat).filter (· < n)).dedup = (s.retag a).txSlotsRead r first n a.data [] := rfl
  rw [hd, State.txEntryRead_slots hp, hctx, if_neg (ne_true_of_eq_false hf), hread, State.txSlotsRead, State.modTxr]
  have hxt : (s.retag a).txr? r = some x := hx
  rw [hxt, readParts_all, List.map_map]
  dsimp only
  rw [hs, List.nil_append]
  exact State.txTake_taken (State.txTakeOne_slots (s.txr?_setTxr r y) he rfl hl hn hfetch hf hw hend)

end Sys2Proof.Machine
end

section
/-! PROOFS. A fragment table returns, and a slot that was read again (R530, R754). -/

namespace Sys2Proof.Machine

-- The fragment table

/-- Record i of the bytes of a fragment table. -/
def recPart (b : List Byte) (i : Nat) : List Byte := (b.drop (16 * i)).take 16

/-- The records of a fragment table by their offsets, as one read returns them. -/
def tableOf (b : List Byte) : List (Nat × List Byte) := (List.range (b.length / 16)).map fun i => (16 * i, recPart b i)

variable {b : List Byte} {k : Nat}

theorem recPart_length (h : b.length = 16 * k) {i : Nat} (hi : i < k) : (recPart b i).length = 16 := by
  rw [recPart, List.length_take, List.length_drop]
  omega

/-- R530: record i is what the table holds at its offset. -/
theorem tableOf_find? (h : b.length = 16 * k) {i : Nat} (hi : i < k) :
    (tableOf b).find? (fun x => decide (x.1 ≤ 16 * i) && decide (16 * i < x.1 + x.2.length)) =
      some (16 * i, recPart b i) := by
  have hk : b.length / 16 = k := by omega
  have hf : (List.range k).find? ((fun x : Nat × List Byte => decide (x.1 ≤ 16 * i) &&
      decide (16 * i < x.1 + x.2.length)) ∘ fun j => (16 * j, recPart b j)) = some i := by
    rw [List.find?_range_eq_some]
    refine ⟨?_, List.mem_range.mpr hi, fun j hj => ?_⟩
    · simp [recPart_length h hi]
    · have : ¬ 16 * i < 16 * j + 16 := by omega
      simp [recPart_length h (show j < k by omega), this]
  rw [tableOf, hk, List.find?_map, hf]
  rfl

theorem tableOf_size (h : b.length = 16 * k) : ((tableOf b).map (fun x => x.2.length)).sum = b.length := by
  have hk : b.length / 16 = k := by omega
  have hp : ((List.range k).map (recPart b)).flatten = b := parts_flatten 16 k h
  have hl := congrArg List.length hp
  rw [List.length_flatten, List.map_map] at hl
  rw [tableOf, hk, List.map_map]
  exact hl

theorem flatMap_recPart (h : b.length = 16 * k) {f : Nat → List Byte} (hf : ∀ i < k, f i = recPart b i) :
    (List.range k).flatMap f = b := by
  have hp : ((List.range k).map (recPart b)).flatten = b := parts_flatten 16 k h
  rw [List.flatMap_def]
  exact .trans (congrArg List.flatten (List.map_congr_left fun i hi => hf i (List.mem_range.mp hi))) hp

variable {s : State} {r first : Nat} {e : TxEntry}

/-- The fragments of a whole table. -/
def tableFrags (b : List Byte) : List (Nat × Nat) := fragsAt b ((List.range (b.length / 16)).map (16 * ·))

/-- The entry that begins at slot `first` holds its table. -/
def State.tabled (s : State) (r first : Nat) (b : List Byte) : State :=
  s.modEntry r first fun e => { e with table := e.table ++ tableOf b }

/-- R530: the whole of an entry's table returns. -/
theorem State.txTableRead_eq (he : s.entryAt r first = some e) (ht : e.table = [])
    (hl : 16 * recLen e.bytes 16 = b.length) :
    s.txTableRead r first 0 b [] = match tableChecks e.bytes b with
      | (0, _) => ((s.tabled r first b).entryReady r first (tableFrags b)).txTake r takeFuel
      | (c, some k) => (s.tabled r first b).malformed 0 r c first (e.bytes.take 32 ++ (b.drop (16 * k)).take 16) k
      | (c, none) => (s.tabled r first b).malformed 0 r c first e.bytes := by
  have hparts : ((readParts (b.length / 16) 16 [] b).map fun e => (0 + 16 * e.1, e.2)) = tableOf b := by
    rw [readParts_all, List.map_map]
    refine List.map_congr_left fun i _ => ?_
    rw [Function.comp_apply, Nat.zero_add]
    rfl
  have hat : (s.tabled r first b).entryAt r first = some { e with table := tableOf b } := by
    have hm := s.entryAt_modEntry r first (f := fun e => { e with table := e.table ++ tableOf b }) fun _ => rfl
    rw [State.tabled, hm, he, Option.map_some, ht, List.nil_append]
  have hk : b.length = 16 * (b.length / 16) := by omega
  have hsize : ¬ ((tableOf b).map (fun x => x.2.length)).sum < b.length := by rw [tableOf_size hk]; exact lt_irrefl _
  have hm : (s.modEntry r first fun e => { e with table := e.table ++ tableOf b }) = s.tabled r first b := rfl
  rw [State.txTableRead]
  dsimp only
  rw [hparts, hm, hat]
  dsimp only
  rw [hl, if_neg hsize, flatMap_recPart hk]
  · rfl
  · intro i hi
    rw [tableOf_find? hk hi]
    simp [recPart, List.take_take]

theorem State.tabled_unringed (s : State) (r first : Nat) (b : List Byte) :
    (s.tabled r first b).unringed = s.unringed := State.unringed_modEntry _ _ _ _

/-- R529, R530: a check of the table that fails is fatal. -/
theorem State.txTableRead_malformed (he : s.entryAt r first = some e) (ht : e.table = [])
    (hl : 16 * recLen e.bytes 16 = b.length) (hf : s.failed = false) (hc : (tableChecks e.bytes b).1 ≠ 0) :
    (s.txTableRead r first 0 b []).failed = true ∧
      (s.txTableRead r first 0 b []).fget .GEN_FAULT_STAT 0 fGEN_FAULT_STAT_CAUSE = 1 := by
  have hfail : (s.tabled r first b).failed = false := (State.unringed_part (s.tabled_unringed r first b) (·.failed)).trans hf
  rw [State.txTableRead_eq he ht hl]
  rcases hck : tableChecks e.bytes b with ⟨c, o⟩
  cases c with
  | zero => exact absurd (congrArg Prod.fst hck) hc
  | succ c =>
    cases o with
    | none =>
      obtain ⟨hbad, hcause, -⟩ := State.malformed_stat hfail 0 r (c + 1) first e.bytes 0
      exact ⟨hbad, hcause⟩
    | some k =>
      obtain ⟨hbad, hcause, -⟩ := State.malformed_stat hfail 0 r (c + 1) first
        (e.bytes.take 32 ++ (b.drop (16 * k)).take 16) k
      exact ⟨hbad, hcause⟩

/-- R507, R530: an entry whose table passes its checks waits for admission. -/
theorem State.txTableRead_ready {nd : Node} (hr : s.ringEntries r = some [e]) (hi : e.first = first)
    (hs : s.ringSlots r = some []) (ht : e.table = []) (hl : 16 * recLen e.bytes 16 = b.length)
    (hc : (tableChecks e.bytes b).1 = 0) (hn : s.leaf? (hdrLeaf (cb e.bytes 0 8)) = some nd) :
    ((s.txTableRead r first 0 b []).entryAt r first).map (fun z => (z.stage, z.lhost)) =
      some (.admission, ((tableFrags b).map (·.2)).sum) := by
  have heq : s.txTableRead r first 0 b [] = ((s.tabled r first b).entryReady r first (tableFrags b)).txTake r takeFuel := by
    rw [State.txTableRead_eq (State.entryAt_only hr hi) ht hl]
    rcases hck : tableChecks e.bytes b with ⟨c, o⟩
    obtain rfl : c = 0 := (congrArg Prod.fst hck).symm.trans hc
    rfl
  have hslots : ((s.tabled r first b).entryReady r first (tableFrags b)).ringSlots r = some [] := by
    rw [State.ringSlots_entryReady, State.tabled, State.ringSlots_modEntry, hs]
  have honly := State.only_entryReady (State.only_modEntry hr hi fun e => { e with table := e.table ++ tableOf b }) hi
    (tableFrags b)
  rw [State.leaf?_modEntry, hn] at honly
  rw [heq, State.txTake_idle hslots, State.tabled, State.entryAt_only honly hi]
  rfl

-- A slot that was read again

/-- A read that was made again for a descriptor. -/
def Purpose.ofReread : Purpose → Bool
  | .descReread .. => true
  | _ => false

variable {a : Resp} {q : RafterReq} {n : Nat}

theorem State.goodResp_boot {p : Purpose} (h : s.goodResp a p = true) : s.bootU.asserted = false := by
  simp only [State.goodResp, Bool.and_eq_true, Bool.not_eq_true'] at h
  obtain ⟨⟨⟨⟨hboot, -⟩, -⟩, -⟩, -⟩ := h
  exact hboot

theorem State.descRereadDone_good (h : s.goodResp a (.descReread 0 r first) = true) (hq : s.asked a = some q)
    (parity : Bool) : s.failed = false ∧ s.descRereadDone a parity =
      if parity then (s.retag a).failStop .descCache (0 % 2 + r * 4) first
      else (s.retag a).txSlotsRead r first (q.len / 32) a.data := by
  obtain ⟨q', hq', hqp, -, hf, he⟩ := State.respond_good (f := Purpose.ofReread) h rfl
    fun q code s => s.rereadDone q code parity a.data
  obtain rfl : q' = q := Option.some.inj (hq'.symm.trans hq)
  refine ⟨hf, .trans he ?_⟩
  rw [State.rereadDone, hqp]
  rfl

/-- R754: the slots read again join those that are not yet taken. -/
theorem State.descRereadDone_slots {x : TxRing} (h : s.goodResp a (.descReread 0 r first) = true)
    (hq : s.asked a = some q) (hl : q.len = 32 * n) (hx : s.txr? r = some x)
    (hw : x.entries.any (fun z => z.stage = .admission) = true) :
    ((s.descRereadDone a false).txr? r).map (·.slotBuf) = some (x.slotBuf ++ slotsFrom first n a.data) := by
  obtain ⟨-, he⟩ := State.descRereadDone_good h hq false
  have hn : q.len / 32 = n := by omega
  have hxt : (s.retag a).txr? r = some x := hx
  have hw' : x.entries.any (fun e => e.stage = .table || e.stage = .admission) = true := by
    obtain ⟨z, hz, hst⟩ := List.any_eq_true.mp hw
    exact List.any_eq_true.mpr ⟨z, hz, by simpa using Or.inr (by simpa using hst)⟩
  have hy := (s.retag a).txr?_setTxr r { x with slotBuf := x.slotBuf ++ slotsFrom first n a.data }
  rw [he, if_neg Bool.false_ne_true, hn, State.txSlotsRead, State.modTxr, hxt, readParts_all, List.map_map]
  exact (congrArg (fun u : State => (u.txr? r).map (·.slotBuf)) (State.txTake_stop (State.txTakeOne_waiting hy hw'))).trans
    (congrArg (Option.map (·.slotBuf)) hy)

end Sys2Proof.Machine
end

section
/-! PROOFS. Frame data returns, and loaded frames join their leaves (R68, R444, R506, R753). -/

namespace Sys2Proof.Machine

/-- What may differ as a packet joins a leaf: the scheduler's nodes, the registers and what an access of a domain wakes. -/
theorem State.joinLeaf_part {β : Type} (π : State → β) (s : State) (l : Nat) (k : Pkt)
    (hn : ∀ u, π u.unnoded = π u := by intro; rfl) (hw : ∀ u, π u.unwoken = π u := by intro; rfl) :
    π (s.joinLeaf l k) = π s := by
  cases hl : s.leaf? l with
  | none => rw [State.joinLeaf, hl]
  | some n =>
    let t := (s.access dSCHED).setLeaf l { n with fifo := n.fifo ++ [s.joined l k] }
    have ht : π t = π s := by
      rw [← (s.access_woken dSCHED).part π hw, ← hn, ← hn (s.access dSCHED)]
      rfl
    have hrise : π (t.rise 0 l) = π t := by
      rw [← hn, ← hn t]
      rfl
    rw [State.joinLeaf, hl]
    refine (State.relistUp_part π _ _ _ hn).trans (.trans ?_ ht)
    split
    · exact hrise
    · rfl

-- What joining leaves of the entries

/-- An entry but for where it stands. -/
def TxEntry.unstaged (e : TxEntry) : TxEntry := { e with stage := .table, freed := false }

/-- s leads to t by moving entries of ring r on: they keep all but where they stand, and nothing outstanding changes. -/
structure Staged (r : Nat) (s t : State) : Prop where
  outst : t.outst = s.outst
  entries : (t.ringEntries r).map (List.map TxEntry.unstaged) = (s.ringEntries r).map (List.map TxEntry.unstaged)

namespace Staged

variable {r : Nat} {s t u : State}

theorem refl (s : State) : Staged r s s := ⟨rfl, rfl⟩

theorem trans (h : Staged r s t) (k : Staged r t u) : Staged r s u :=
  ⟨k.outst.trans h.outst, k.entries.trans h.entries⟩

theorem same (ho : t.outst = s.outst) (hx : t.txrs = s.txrs) : Staged r s t := by
  refine ⟨ho, ?_⟩
  rw [State.ringEntries, State.txr?, hx]
  rfl

theorem map_at {i : Nat} {f : TxEntry → TxEntry} (hf : ∀ e, (f e).unstaged = e.unstaged) (o : Option (List TxEntry)) :
    (o.map (List.map (TxEntry.at i f))).map (List.map TxEntry.unstaged) = o.map (List.map TxEntry.unstaged) := by
  have h (e : TxEntry) : (TxEntry.at i f e).unstaged = e.unstaged := by
    unfold TxEntry.at
    split
    · exact hf e
    · rfl
  rw [Option.map_map]
  refine congrArg (o.map ·) (funext fun l => ?_)
  rw [Function.comp_apply, List.map_map]
  exact List.map_congr_left fun e _ => h e

theorem modEntry (i : Nat) {f : TxEntry → TxEntry} (hf : ∀ e, (f e).unstaged = e.unstaged) :
    Staged r s (s.modEntry r i f) := by
  refine ⟨State.unringed_part (s.unringed_modEntry r i f) (·.outst), ?_⟩
  rw [State.ringEntries_modEntry]
  exact map_at hf _

theorem markFreed (i : Nat) : Staged r s (s.markFreed r i) := by
  refine ⟨State.unringed_part (s.unringed_markFreed r i) (·.outst), ?_⟩
  rw [State.ringEntries_markFreed]
  exact map_at (f := TxEntry.gone) (fun _ => rfl) _

/-- The first entry at a slot keeps what does not tell where it stands. -/
theorem entryAt {β : Type} (h : Staged r s t) (i : Nat) (π : TxEntry → β) (hπ : ∀ e, π e.unstaged = π e) :
    (t.entryAt r i).map π = (s.entryAt r i).map π := by
  have hp : π = π ∘ TxEntry.unstaged := funext fun e => (hπ e).symm
  have key (u : State) : (u.entryAt r i).map π =
      (((u.ringEntries r).map (List.map TxEntry.unstaged)).bind (List.find? fun e => e.first == i)).map π := by
    rw [State.entryAt_eq]
    cases u.ringEntries r with
    | none => rfl
    | some l =>
      have hc : ((fun e : TxEntry => e.first == i) ∘ TxEntry.unstaged) = fun e => e.first == i := rfl
      rw [Option.map_some, Option.bind_some, Option.bind_some, List.find?_map, hc, Option.map_map, ← hp]
  rw [key t, key s, h.entries]

end Staged

theorem State.txJoin_staged (r : Nat) (l : List TxEntry) (s : State) : Staged r s (s.txJoin r l) := by
  induction l generalizing s with
  | nil => exact .refl s
  | cons e l ih =>
    unfold State.txJoin
    split
    · exact ih s
    · split
      · dsimp only
        split
        · exact ih s
        · next f _ =>
          split
          · refine .trans (.trans ?_ (.markFreed e.first)) (ih _)
            exact .same (State.releasePkt_part (·.outst) s _) (State.releasePkt_part (·.txrs) s _)
          · refine .trans (.trans (.modEntry e.first (f := fun e => { e with stage := .queued }) fun _ => rfl) ?_) (ih _)
            exact .same (State.joinLeaf_part (·.outst) _ _ _) (State.joinLeaf_part (·.txrs) _ _ _)
      · exact .refl s

-- Data

/-- R68, R753: bytes of a frame have been placed in it, g, and counted at its entry. -/
def State.loaded (s : State) (r first fid len : Nat) (g : Frame) (bad : Bool) : State :=
  (if bad then (s.setFrame fid g).poisoned else s.setFrame fid g).modEntry r first
    fun e => { e with missing := e.missing - len, poisoned := e.poisoned || bad }

section
variable (s : State) (r first fid len : Nat) (g : Frame) (bad : Bool)

theorem State.loaded_part {β : Type} (π : State → β) (hx : ∀ u, π u.unringed = π u := by intro; rfl)
    (hr : ∀ u : State, π u.poisoned = π u := by intro; rfl) : π (s.loaded r first fid len g bad) = π (s.setFrame fid g) := by
  refine (State.unringed_part (State.unringed_modEntry _ _ _ _) π hx).trans ?_
  cases bad
  · rfl
  · exact hr _

theorem State.ringEntries_loaded : (s.loaded r first fid len g bad).ringEntries r = (s.ringEntries r).map
    (List.map (TxEntry.at first fun e => { e with missing := e.missing - len, poisoned := e.poisoned || bad })) := by
  rw [State.loaded, State.ringEntries_modEntry]
  cases bad <;> rfl

theorem State.entryAt_loaded : (s.loaded r first fid len g bad).entryAt r first = (s.entryAt r first).map
    fun e => { e with missing := e.missing - len, poisoned := e.poisoned || bad } := by
  have h := State.entryAt_modEntry (if bad then (s.setFrame fid g).poisoned else s.setFrame fid g) r first
    (f := fun e => { e with missing := e.missing - len, poisoned := e.poisoned || bad }) fun _ => rfl
  rw [State.loaded, h]
  cases bad <;> rfl

theorem State.frame?_loaded : (s.loaded r first fid len g bad).frame? fid = some g :=
  (State.loaded_part s r first fid len g bad (·.frame? fid)).trans (Store.find?_put_same _ _ _)

end

variable {s : State} {r first off : Nat} {e : TxEntry} {f : Frame} {q : RafterReq}

theorem State.txDataRead_eq (he : s.entryAt r first = some e) (hf : s.frames.find? e.fid = some f) (bad : Bool)
    (b : List Byte) : ∃ (g : Frame) (l : List TxEntry), g.bytes = patch f.bytes off b ∧
      (s.loaded r first e.fid q.len g bad).ringEntries r = some l ∧
      s.txDataRead r first off q 0 bad b = (s.loaded r first e.fid q.len g bad).txJoin r l := by
  have hm (h : Frame → Frame) : s.modFrame e.fid h = s.setFrame e.fid (h f) := by
    have hf' : s.frame? e.fid = some f := hf
    rw [State.modFrame, hf']
  obtain ⟨x, hx, -⟩ : ∃ x, s.txr? r = some x ∧ x.entries.find? (fun e => e.first == first) = some e :=
    Option.bind_eq_some_iff.mp he
  let g : Frame := { f with
    bytes := patch f.bytes off b
    poison := if bad || false then f.poison ++ (List.range (cellsOf (off + q.len))).filter (fun i =>
      decide (off / 256 ≤ i)) else f.poison }
  let part (e : TxEntry) : TxEntry := { e with missing := e.missing - q.len, poisoned := e.poisoned || bad }
  let y : TxRing := { x with entries := x.entries.map (TxEntry.at first part) }
  have hy : (s.loaded r first e.fid q.len g bad).txr? r = some y := by
    have hx' : (if bad then (s.setFrame e.fid g).poisoned else s.setFrame e.fid g).txr? r = some x := by
      cases bad <;> exact hx
    rw [State.loaded, State.modEntry, State.txr?_modTxr, hx']
    rfl
  refine ⟨g, y.entries, rfl, congrArg (Option.map fun z : TxRing => z.entries) hy, ?_⟩
  have hl : s.txDataRead r first off q 0 bad b = match (s.loaded r first e.fid q.len g bad).txr? r with
      | none => s.loaded r first e.fid q.len g bad
      | some x => (s.loaded r first e.fid q.len g bad).txJoin r x.entries := by
    rw [State.txDataRead, he]
    dsimp only
    rw [hm]
    cases bad <;> rfl
  rw [hl, hy]

end Sys2Proof.Machine
end

section
/-! PROOFS. The data of a host frame returns, the last of it among them (R68, R444, R506). -/

namespace Sys2Proof.Machine

variable {s : State} {r first k : Nat} {e : TxEntry} {g : Frame} {nd : Node}

-- One entry

theorem State.txJoin_partial (hs : e.stage = .loading) (hm : e.missing ≠ 0) : s.txJoin r [e] = s := by
  rw [State.txJoin, hs, if_neg (by decide), beq_eq_false_iff_ne.mpr hm]
  rfl

/-- R506: an entry whose data is whole joins its leaf. -/
theorem State.txJoin_whole (hs : e.stage = .loading) (hm : e.missing = 0) (hg : s.frame? e.fid = some g)
    (hl : s.leaf? (hdrLeaf (cb e.bytes 0 8)) = some nd) :
    s.txJoin r [e] = (s.modEntry r e.first fun e => { e with stage := .queued }).joinLeaf (hdrLeaf (cb e.bytes 0 8))
      (e.pkt r g) := by
  rw [State.txJoin, hs, if_neg (by decide), hm]
  dsimp only
  rw [hg, hl]
  rfl

theorem State.txJoin_frames (hs : e.stage = .loading) (hg : s.frame? e.fid = some g)
    (hl : s.leaf? (hdrLeaf (cb e.bytes 0 8)) = some nd) : (s.txJoin r [e]).frames = s.frames := by
  by_cases hm : e.missing = 0
  · rw [State.txJoin_whole hs hm hg hl, State.joinLeaf_part (·.frames)]
    exact State.unringed_part (State.unringed_modEntry _ _ _ _) (·.frames)
  · rw [State.txJoin_partial hs hm]

/-- R444, R506: the entry is queued, and its packet stands in the leaf's queue. -/
theorem State.txJoin_queued (hr : s.ringEntries r = some [e]) (hs : e.stage = .loading) (hm : e.missing = 0)
    (hg : s.frame? e.fid = some g) (hl : s.leaf? (hdrLeaf (cb e.bytes 0 8)) = some nd) :
    ((s.txJoin r [e]).entryAt r e.first).map (·.stage) = some .queued ∧
      ((s.txJoin r [e]).leaf? (hdrLeaf (cb e.bytes 0 8))).map (·.fifo.length) = some (nd.fifo.length + 1) := by
  let t := s.modEntry r e.first fun e => { e with stage := .queued }
  have ht : t.leaf? (hdrLeaf (cb e.bytes 0 8)) = some nd := (s.leaf?_modEntry _ _ _ _).trans hl
  have honly : t.ringEntries r = some [{ e with stage := .queued }] := State.only_modEntry hr rfl _
  rw [State.txJoin_whole hs hm hg hl]
  constructor
  · rw [State.joinLeaf_part (·.entryAt r e.first), State.entryAt_only honly rfl]
    rfl
  · obtain ⟨hrec, -, -, -⟩ := State.joinLeaf_stat ht (e.pkt r g)
    obtain ⟨n, hn, hn'⟩ := Option.map_eq_some_iff.mp hrec
    rw [hn, Option.map_some]
    have hfifo : n.fifo = nd.fifo ++ [t.joined (hdrLeaf (cb e.bytes 0 8)) (e.pkt r g)] :=
      congrArg (fun x : Word × Word × Word × List Pkt × Nat => x.2.2.2.1) hn'
    rw [hfifo, List.length_append, List.length_singleton]

-- The whole command

/-- A read of a frame's data. -/
def Purpose.ofData : Purpose → Bool
  | .txData .. => true
  | _ => false

variable {a : Resp} {q : RafterReq}

theorem State.txFragmentDone_good (h : s.goodResp a (.txData r first k) = true) (hq : s.asked a = some q) (bad : Bool) :
    s.txFragmentDone a bad = (s.retag a).txDataRead r first k q 0 bad a.data := by
  obtain ⟨q', hq', hqp, -, -, he⟩ := State.respond_good (f := Purpose.ofData) h rfl fun q code s =>
    match q.purpose with | .txData k first off => s.txDataRead k first off q code bad a.data | _ => s
  obtain rfl : q' = q := Option.some.inj (hq'.symm.trans hq)
  refine .trans he ?_
  rw [hqp]

variable {f : Frame}

/-- R68: the bytes missing from the entry grow fewer, and a parity error poisons it. -/
theorem State.txFragmentDone_entry (h : s.goodResp a (.txData r first k) = true) (hq : s.asked a = some q)
    (he : s.entryAt r first = some e) (hf : s.frames.find? e.fid = some f) (bad : Bool) :
    (s.txFragmentDone a bad).outst = s.completed a ∧
      ((s.txFragmentDone a bad).entryAt r first).map (·.missing) = some (e.missing - q.len) ∧
      ((s.txFragmentDone a bad).entryAt r first).map (·.poisoned) = some (e.poisoned || bad) := by
  have he' : (s.retag a).entryAt r first = some e := he
  have hf' : (s.retag a).frames.find? e.fid = some f := hf
  obtain ⟨g, l, -, -, hd⟩ := State.txDataRead_eq (off := k) (q := q) he' hf' bad a.data
  have hst := State.txJoin_staged r l ((s.retag a).loaded r first e.fid q.len g bad)
  have hat := State.entryAt_loaded (s.retag a) r first e.fid q.len g bad
  rw [he'] at hat
  rw [State.txFragmentDone_good h hq, hd]
  refine ⟨hst.outst.trans (State.loaded_part _ _ _ _ _ _ _ (·.outst)), ?_, ?_⟩
  · rw [hst.entryAt first (·.missing) fun _ => rfl, hat]
    rfl
  · rw [hst.entryAt first (·.poisoned) fun _ => rfl, hat]
    rfl

/-- R68, R444, R506: where the ring has one entry, its frame holds the bytes, and with the last of them it is queued. -/
theorem State.txFragmentDone_only {x : TxRing} (h : s.goodResp a (.txData r first k) = true) (hq : s.asked a = some q)
    (hx : s.txr? r = some x) (he : s.entryAt r first = some e) (hf : s.frames.find? e.fid = some f) (bad : Bool)
    (hl : s.leaf? (hdrLeaf (cb e.bytes 0 8)) = some nd) (ho : x.entries = [e]) (hs : e.stage = .loading) :
    ((s.txFragmentDone a bad).frames.find? e.fid).map (·.bytes) = some (patch f.bytes k a.data) ∧
      (e.missing ≤ q.len →
        ((s.txFragmentDone a bad).entryAt r first).map (·.stage) = some .queued ∧
        ((s.txFragmentDone a bad).leaf? (hdrLeaf (cb e.bytes 0 8))).map (·.fifo.length) = some (nd.fifo.length + 1)) := by
  have he' : (s.retag a).entryAt r first = some e := he
  have hf' : (s.retag a).frames.find? e.fid = some f := hf
  obtain ⟨g, l, hbytes, hring, hd⟩ := State.txDataRead_eq (off := k) (q := q) he' hf' bad a.data
  have honly : (s.retag a).ringEntries r = some [e] := by
    rw [State.ringEntries]
    exact (congrArg (Option.map fun z : TxRing => z.entries) hx).trans (congrArg some ho)
  obtain rfl : e.first = first := by
    have hfind : (([e] : List TxEntry).find? fun e => e.first == first) = some e := by
      rw [State.entryAt_eq, honly] at he'
      exact he'
    simpa using List.find?_some hfind
  let t := (s.retag a).loaded r e.first e.fid q.len g bad
  let e' : TxEntry := { e with missing := e.missing - q.len, poisoned := e.poisoned || bad }
  have hone : t.ringEntries r = some [e'] := by
    rw [State.ringEntries_loaded, honly, Option.map_some, TxEntry.map_at_only rfl]
  obtain rfl : l = [e'] := Option.some.inj (hring.symm.trans hone)
  have hg : t.frame? e'.fid = some g := State.frame?_loaded _ _ _ _ _ _ _
  have hleaf : t.leaf? (hdrLeaf (cb e'.bytes 0 8)) = some nd :=
    (State.loaded_part _ _ _ _ _ _ _ (·.leaf? (hdrLeaf (cb e.bytes 0 8)))).trans hl
  rw [State.txFragmentDone_good h hq, hd]
  refine ⟨?_, fun hm => ?_⟩
  · have hframe : ((t.txJoin r [e']).frames.find? e.fid) = some g := by
      rw [State.txJoin_frames (e := e') hs hg hleaf]
      exact hg
    rw [hframe, Option.map_some, hbytes]
  · exact State.txJoin_queued hone hs (Nat.sub_eq_zero_of_le hm) hg hleaf

end Sys2Proof.Machine
end

section
/-! PROOFS. A host frame is admitted to the loft, waits, or is freed (R424, R426, R435, R507). -/

namespace Sys2Proof.Machine

-- The cells of a host frame

theorem TxRing.dataReqs_sum (x : TxRing) (r first : Nat) (l : List (Nat × Nat)) (off : Nat) :
    ((x.dataReqs r first l off).map (·.len)).sum = (l.map (·.2)).sum := by
  induction l generalizing off with
  | nil => rfl
  | cons p l ih =>
    obtain ⟨a, n⟩ := p
    have hcut : (((cuts a n).map fun p => x.req r (a + p.1) p.2 (.txData r first (off + p.1))).map (·.len)).sum = n := by
      rw [List.map_map]
      exact cuts_sum a n
    rw [TxRing.dataReqs, List.map_append, List.sum_append, hcut, ih]
    rfl

/-- All of a state but the banks' use and where host frames were placed last. -/
def State.unplaced (s : State) : State := { s with bankUse := [], moverBank := [] }

theorem State.unplaced_hostCells (s : State) (m n : Nat) : (s.hostCells m n).2.unplaced = s.unplaced :=
  congrArg (fun u : State => { u with moverBank := [] }) (s.unbanked_allocBanks (Store.get 63 s.moverBank m) n)

theorem State.hostCells_part {β : Type} (π : State → β) (s : State) (m n : Nat)
    (hπ : ∀ u, π u.unplaced = π u := by intro; rfl) : π (s.hostCells m n).2 = π s := by
  rw [← hπ, s.unplaced_hostCells, hπ]

theorem State.hostCycle_part {β : Type} (π : State → β) (s : State) (same : Bool)
    (hπ : ∀ u, π u.uncycled = π u := by intro; rfl) : π (s.hostCycle same) = π s := by
  have h : (s.hostCycle same).uncycled = s.uncycled := by
    unfold State.hostCycle
    split <;> rfl
  rw [← hπ, h, hπ]

-- What the check of the waiting entry comes to

/-- The leaf of an entry's header. -/
def TxEntry.leaf (e : TxEntry) : Nat := hdrLeaf (cb e.bytes 0 8)

/-- R435, R507: a host frame of entry e in the loft, before its bytes arrive. -/
def TxEntry.frame (e : TxEntry) (banks : List Nat) : Frame :=
  { port := 0, host := true, bytes := List.replicate e.lhost 0, banks := banks, layout := cellFill e.lhost
    refs := [List.range (cellsOf e.lhost)], hostUse := cellsOf e.lhost, stage := .queued, done := true }

/-- R424, R435: the frame of entry e has its cells and its charges. -/
def State.placed (s : State) (x : TxRing) (e : TxEntry) : State :=
  let h := s.hostCells x.rafter (cellsOf e.lhost)
  let t : State := { h.2 with nextId := h.2.nextId + 1 }
  let u := t.setFrame h.2.nextId (e.frame h.1)
  (u.setHostUse (u.hostUse + cellsOf e.lhost)).chargeLeaf e.leaf (cellsOf e.lhost)

/-- R435, R507: the entry of ring r waits for its data, which has been asked for. -/
def State.loading (s : State) (r : Nat) (x : TxRing) (e : TxEntry) (fid : Nat) : State :=
  ((s.modEntry r e.first fun e => { e with stage := .loading, fid := fid, missing := e.lhost }).enqueue
    (x.dataReqs r e.first e.frags 0)).fset .TXR_STAT r fTXR_STAT_ADM_WAIT 0

/-- R507: the entry of ring r that waited for admission retires, its leaf being gone. -/
def State.unadmitted (s : State) (r : Nat) (e : TxEntry) : State :=
  (s.markFreed r e.first).fset .TXR_STAT r fTXR_STAT_ADM_WAIT 0

/-- R424: a host frame waits for room for one cycle more. -/
def State.admissionWaits (s : State) (r : Nat) : State :=
  ((s.count .LOFT_HOST_WAIT 0 fLOFT_HOST_WAIT_CYCLES).flag .TXR_STAT r fTXR_STAT_ADM_WAIT).elapse s.power.cclk

variable {s : State} {r : Nat} {x : TxRing} {e : TxEntry} {nd : Node}

/-- Entry e is the one of ring r that is next to be admitted, and no read slot waits behind it. -/
structure Waits (s : State) (r : Nat) (x : TxRing) (e : TxEntry) : Prop where
  ring : s.txr? r = some x
  slots : x.slotBuf = []
  entry : x.entries.find? (fun z => z.stage = .admission) = some e
  running : s.failed = false

namespace Waits

variable (h : Waits s r x e)
include h

theorem ringSlots : s.ringSlots r = some [] := by
  rw [State.ringSlots, h.ring, Option.map_some, h.slots]

theorem ringEntries : s.ringEntries r = some x.entries := by rw [State.ringEntries, h.ring, Option.map_some]

/-- R424, R435, R507: the check of a waiting entry, with what the reads of the free lists find. -/
theorem hostAdmission (c : Ecc) : s.hostAdmission r c =
    if (s.leaf? e.leaf).isNone then (s.unadmitted r e).txTake r takeFuel
    else if s.admitHost { leaf := true, id := e.leaf } (cellsOf e.lhost) then
      let t := s.eccCheck c fGEN_INTEG_CORR_LINK .loftCtrlEcc 1
      if t.failed then t
      else ((t.placed x e).loading r x e (t.hostCells x.rafter (cellsOf e.lhost)).2.nextId).txTake r takeFuel
    else s.admissionWaits r := by
  rw [State.hostAdmission, h.ring]
  dsimp only
  rw [h.entry]
  exact if_neg (ne_true_of_eq_false h.running)

/-- R751: the read of the free lists fails as the frame's cells are allocated. -/
theorem uncorrectable (hl : s.leaf? e.leaf = some nd)
    (ha : s.admitHost { leaf := true, id := e.leaf } (cellsOf e.lhost) = true) (k : Nat) :
    s.hostAdmission r (.uncorrectable k) = s.failStop .loftCtrlEcc 1 k := by
  obtain ⟨-, hfail, -⟩ := State.failStop_stat h.running .loftCtrlEcc 1 k []
  rw [h.hostAdmission, hl, if_neg (by simp), if_pos ha]
  exact if_pos hfail

theorem unadmitted (hl : s.leaf? e.leaf = none) : s.hostAdmission r .clean = s.unadmitted r e := by
  rw [h.hostAdmission, hl, if_pos (by simp)]
  exact State.txTake_idle ((s.ringSlots_markFreed r e.first).trans h.ringSlots)

theorem admitted (hl : s.leaf? e.leaf = some nd)
    (ha : s.admitHost { leaf := true, id := e.leaf } (cellsOf e.lhost) = true) :
    s.hostAdmission r .clean =
      ((s.placed x e).loading r x e (s.hostCells x.rafter (cellsOf e.lhost)).2.nextId).txTake r takeFuel := by
  rw [h.hostAdmission, hl, if_neg (by simp), if_pos ha]
  exact if_neg (ne_true_of_eq_false h.running)

theorem refused (hl : s.leaf? e.leaf = some nd)
    (ha : s.admitHost { leaf := true, id := e.leaf } (cellsOf e.lhost) ≠ true) :
    s.hostAdmission r .clean = s.admissionWaits r := by
  rw [h.hostAdmission, hl, if_neg (by simp), if_neg ha]

end Waits

end Sys2Proof.Machine
end

section
/-! PROOFS. What the admission of a host frame leaves (R424, R426, R435, R507, R819). -/

namespace Sys2Proof.Machine

variable {s : State} {r : Nat} {x : TxRing} {e : TxEntry} {nd : Node}

-- The frame's place

/-- All of a state but its registers, its frames, its leaves and the banks. -/
def State.unstored (s : State) : State :=
  { s with regs := [], frames := [], leaves := [], bankUse := [], moverBank := [], nextId := 0 }

theorem State.unstored_chargeLeaf (s : State) (l c : Nat) : (s.chargeLeaf l c).unstored = s.unstored := by
  unfold State.chargeLeaf
  split <;> rfl

theorem State.unstored_setHostUse (s : State) (n : Nat) : (s.setHostUse n).unstored = s.unstored := rfl

theorem State.unstored_setFrame (s : State) (i n : Nat) (f : Frame) :
    (({ s with nextId := n } : State).setFrame i f).unstored = s.unstored := rfl

theorem State.unstored_placed (s : State) (x : TxRing) (e : TxEntry) : (s.placed x e).unstored = s.unstored := by
  have hc : (s.hostCells x.rafter (cellsOf e.lhost)).2.unstored = s.unstored :=
    congrArg (fun u : State => { u with regs := [], frames := [], leaves := [], nextId := 0 })
      (s.unplaced_hostCells x.rafter (cellsOf e.lhost))
  unfold State.placed
  rw [State.unstored_chargeLeaf, State.unstored_setHostUse, State.unstored_setFrame, hc]

theorem State.placed_part {β : Type} (π : State → β) (s : State) (x : TxRing) (e : TxEntry)
    (hπ : ∀ u, π u.unstored = π u := by intro; rfl) : π (s.placed x e) = π s := by
  rw [← hπ, s.unstored_placed, hπ]

/-- R414, R435: the leaf's account is charged with the frame's cells. -/
theorem State.placed_leaf (hl : s.leaf? e.leaf = some nd) (x : TxRing) :
    ((s.placed x e).leaf? e.leaf).map (·.depth) = some (nd.depth + cellsOf e.lhost) := by
  have hc : (s.hostCells x.rafter (cellsOf e.lhost)).2.leaf? e.leaf = some nd :=
    (State.hostCells_part (·.leaf? e.leaf) _ _ _).trans hl
  unfold State.placed
  rw [State.chargeLeaf_eq (n := nd) (by exact hc), State.leaf?_setLeaf, if_pos rfl]
  rfl

-- The entry that waits for its data

theorem State.loading_ringSlots (s : State) (r : Nat) (x : TxRing) (e : TxEntry) (fid : Nat) :
    (s.loading r x e fid).ringSlots r = s.ringSlots r := s.ringSlots_modEntry _ _ _

/-- R507: the entry waits for all of its frame. -/
theorem State.loading_only (h : s.ringEntries r = some [e]) (x : TxRing) (fid : Nat) :
    (s.loading r x e fid).entryAt r e.first = some { e with stage := .loading, fid := fid, missing := e.lhost } := by
  have honly : (s.loading r x e fid).ringEntries r =
      some [{ e with stage := .loading, fid := fid, missing := e.lhost }] :=
    State.only_modEntry h rfl fun e => { e with stage := .loading, fid := fid, missing := e.lhost }
  exact State.entryAt_only honly rfl

theorem State.loading_rafterQ (s : State) (r : Nat) (x : TxRing) (e : TxEntry) (fid : Nat) :
    (s.loading r x e fid).rafterQ = s.rafterQ ++ x.dataReqs r e.first e.frags 0 :=
  congrArg (· ++ x.dataReqs r e.first e.frags 0)
    (State.unringed_part (s.unringed_modEntry r e.first fun e => { e with stage := .loading, fid := fid, missing := e.lhost })
      (·.rafterQ))

theorem State.loading_leaf? (s : State) (r : Nat) (x : TxRing) (e : TxEntry) (fid l : Nat) :
    (s.loading r x e fid).leaf? l = s.leaf? l :=
  s.leaf?_modEntry r e.first l fun e => { e with stage := .loading, fid := fid, missing := e.lhost }

theorem State.loading_admWait (s : State) (r : Nat) (x : TxRing) (e : TxEntry) (fid : Nat) :
    (s.loading r x e fid).fbit .TXR_STAT r fTXR_STAT_ADM_WAIT = false := State.fbit_clear_same _ _ _ _ (by decide)

namespace Waits

variable (h : Waits s r x e)
include h

theorem of_hostCycle (same : Bool) : Waits (s.hostCycle same) r x e :=
  ⟨(State.hostCycle_part (·.txr? r) s same).trans h.ring, h.slots, h.entry,
    (State.hostCycle_part (·.failed) s same).trans h.running⟩

/-- R507: the entry that waited retires, freed. -/
theorem unadmitted_entry :
    ((s.unadmitted r e).entryAt r e.first).map (fun z => (z.stage, z.freed)) = some (.retired, true) := by
  have hm : (s.unadmitted r e).entryAt r e.first = (s.entryAt r e.first).map TxEntry.gone := s.entryAt_markFreed r e.first
  have hsome : (s.entryAt r e.first).isSome = true := by
    rw [State.entryAt_eq, h.ringEntries, Option.bind_some, List.find?_isSome]
    exact ⟨e, List.mem_of_find?_eq_some h.entry, beq_self_eq_true _⟩
  obtain ⟨z, hz⟩ := Option.isSome_iff_exists.mp hsome
  rw [hm, hz]
  rfl

/-- R414, R424, R435, R507: an admitted entry waits for its data. -/
theorem admitted_stat (hl : s.leaf? e.leaf = some nd)
    (ha : s.admitHost { leaf := true, id := e.leaf } (cellsOf e.lhost) = true) :
    (x.entries = [e] →
        ((s.hostAdmission r .clean).entryAt r e.first).map (fun z => (z.stage, z.missing)) = some (.loading, e.lhost)) ∧
      (s.hostAdmission r .clean).fbit .TXR_STAT r fTXR_STAT_ADM_WAIT = false ∧
      (((s.hostAdmission r .clean).rafterQ.drop s.rafterQ.length).map (·.len)).sum = (e.frags.map (·.2)).sum ∧
      ((s.hostAdmission r .clean).leaf? e.leaf).map (·.depth) = some (nd.depth + cellsOf e.lhost) := by
  let fid := (s.hostCells x.rafter (cellsOf e.lhost)).2.nextId
  have hring : (s.placed x e).txr? r = some x := (State.placed_part (·.txr? r) s x e).trans h.ring
  have hslots : (s.placed x e).ringSlots r = some [] := (State.placed_part (·.ringSlots r) s x e).trans h.ringSlots
  have heq : s.hostAdmission r .clean = (s.placed x e).loading r x e fid := by
    rw [h.admitted hl ha]
    exact State.txTake_idle ((State.loading_ringSlots _ _ _ _ _).trans hslots)
  rw [heq]
  refine ⟨fun ho => ?_, State.loading_admWait _ _ _ _ _, ?_, ?_⟩
  · have hone : (s.placed x e).ringEntries r = some [e] := by rw [State.ringEntries, hring, Option.map_some, ho]
    rw [State.loading_only hone]
    rfl
  · rw [State.loading_rafterQ, State.placed_part (·.rafterQ), List.drop_left, x.dataReqs_sum]
  · rw [State.loading_leaf?, State.placed_leaf hl]

end Waits

theorem State.elapse_fget (s : State) (n : Nat) {id : RegId} (h : id ∉ [RegId.TIME_SLEW_REM]) (i : Nat) (f : Field) :
    (s.elapse n).fget id i f = s.fget id i f := (s.elapse_keeps n).fget h i f

theorem State.elapse_fbit (s : State) (n : Nat) {id : RegId} (h : id ∉ [RegId.TIME_SLEW_REM]) (i : Nat) (f : Field) :
    (s.elapse n).fbit id i f = s.fbit id i f := (s.elapse_keeps n).fbit h i f

theorem State.elapse_rafterQ (s : State) (n : Nat) : (s.elapse n).rafterQ = s.rafterQ := s.elapse_part (·.rafterQ) n

/-- R424, R819: a frame that is not admitted waits a cycle, which is counted. -/
theorem State.admissionWaits_stat (s : State) (r : Nat) :
    (s.admissionWaits r).fbit .TXR_STAT r fTXR_STAT_ADM_WAIT = true ∧ (s.admissionWaits r).rafterQ = s.rafterQ ∧
      (s.admissionWaits r).fget .LOFT_HOST_WAIT 0 fLOFT_HOST_WAIT_CYCLES = min (2 ^ fLOFT_HOST_WAIT_CYCLES.w - 1)
        (s.fget .LOFT_HOST_WAIT 0 fLOFT_HOST_WAIT_CYCLES + 1) := by
  unfold State.admissionWaits
  refine ⟨?_, State.elapse_rafterQ _ _, ?_⟩
  · exact (State.elapse_fbit _ _ (by decide) r _).trans (State.fbit_flag_same _ _ _ _ (by decide) (by decide))
  · refine (State.elapse_fget _ _ (by decide) 0 _).trans (.trans ?_ (State.fget_count s _ 0 _ (by decide)))
    exact State.fget_fset_reg (a := .TXR_STAT) (b := .LOFT_HOST_WAIT) _ _ _ _ fun h => by cases h.1

end Sys2Proof.Machine
end

section
/-! PROOFS. TXR_CONS passes the retired entries at the head of a ring (R508 to R511). -/

namespace Sys2Proof.Machine

variable {s : State} {r : Nat} {x : TxRing} {c : CqCtx}

/-- The completions that passed entries bring about. -/
def complsOf (r : Nat) (l : List TxEntry) : List Compl := (l.filter (·.cqReq)).map (·.compl r)

/-- R509, R510: a ring whose head has been passed by TXR_CONS; its completions go to queue q. -/
structure Passed (s t : State) (r q : Nat) (old new : List TxEntry) (due due' : List Compl) (slots : Nat) : Prop where
  now : t.now = s.now
  cons : t.txCons r = (s.txCons r + slots) % 2 ^ 32
  ring : ∃ y, t.txr? r = some y ∧ y.cq = q ∧ y.entries = new
  queue : ∃ d, t.cq? q = some d ∧ d.due = due'

theorem State.cq?_setCq (s : State) (q : Nat) (c : CqCtx) : (s.setCq q c).cq? q = some c := Store.find?_put_same _ _ _

/-- The ring as TXR_CONS passes entry e at its head, before the completion of e falls due. -/
def TxRing.pass (x : TxRing) (r : Nat) (e : TxEntry) : TxRing :=
  { x with
    entries := x.entries.drop 1, sinceDue := !e.cqReq, lastRet := if e.cqReq then none else some (e.compl r)
    shadowDue := x.shadowEn }

def State.consPassed (s : State) (r : Nat) (x : TxRing) (e : TxEntry) : State :=
  let t := s.fset .TXR_CONS r fTXR_CONS_CONS (idxAdd (s.txCons r) e.slots)
  (t.setTxr r { x.pass r e with shadowDue := x.shadowDue }).setTxr r (x.pass r e)

theorem State.modTxr_eq (h : s.txr? r = some x) (f : TxRing → TxRing) : s.modTxr r f = s.setTxr r (f x) := by
  rw [State.modTxr, h]

theorem State.passEntry_eq (hx : s.txr? r = some x) (e : TxEntry) :
    s.passEntry r e = if e.cqReq then (s.consPassed r x e).complDue x.cq (e.compl r) else s.consPassed r x e := by
  have h1 (n : Nat) : (s.fset .TXR_CONS r fTXR_CONS_CONS n).txr? r = some x := hx
  have h2 (t : State) (y : TxRing) : (t.setTxr r y).txr? r = some y := t.txr?_setTxr r y
  unfold State.passEntry State.txConsMoved
  dsimp only
  rw [State.modTxr_eq (h1 _), State.modTxr_eq (h2 _ _), h2]
  rfl

theorem State.consPassed_cons (s : State) (r : Nat) (x : TxRing) (e : TxEntry) :
    (s.consPassed r x e).txCons r = (s.txCons r + e.slots) % 2 ^ 32 := by
  have h : (s.fset .TXR_CONS r fTXR_CONS_CONS (idxAdd (s.txCons r) e.slots)).txCons r =
      idxAdd (s.txCons r) e.slots % 2 ^ 32 := State.fget_fset_same _ _ _ _ _ (by decide)
  exact h.trans (Nat.mod_mod _ _)

/-- R509, R510: TXR_CONS passes one entry. -/
theorem State.passEntry_passed (hx : s.txr? r = some x) (hc : s.cq? x.cq = some c) (e : TxEntry) :
    Passed s (s.passEntry r e) r x.cq x.entries (x.entries.drop 1) c.due (c.due ++ complsOf r [e]) e.slots := by
  have hring : (s.consPassed r x e).txr? r = some (x.pass r e) := State.txr?_setTxr _ _ _
  have hqueue : (s.consPassed r x e).cq? x.cq = some c := hc
  have hcons := s.consPassed_cons r x e
  rw [State.passEntry_eq hx]
  cases he : e.cqReq with
  | false =>
    refine ⟨rfl, hcons, ⟨_, hring, rfl, rfl⟩, ⟨c, hqueue, ?_⟩⟩
    simp [complsOf, he]
  | true =>
    let d : CqCtx := { c with due := c.due ++ [e.compl r] }
    let t := (s.consPassed r x e).setCq x.cq d
    have hd : (s.consPassed r x e).complDue x.cq (e.compl r) = t.modTxr r fun z => { z with complOut := z.complOut + 1 } := by
      rw [State.complDue, hqueue]
      rfl
    have hu := t.unringed_modTxr r fun z => { z with complOut := z.complOut + 1 }
    have hrt : t.txr? r = some (x.pass r e) := hring
    rw [if_pos rfl, hd]
    refine ⟨State.unringed_part hu (·.now), (State.unringed_part hu (·.txCons r)).trans hcons, ?_, d, ?_, ?_⟩
    · rw [State.txr?_modTxr, hrt]
      exact ⟨_, rfl, rfl, rfl⟩
    · exact (State.unringed_part hu (·.cq? x.cq)).trans (State.cq?_setCq _ _ _)
    · simp [d, complsOf, he]

/-- R508 to R510: TXR_CONS passes entries one after another. -/
theorem State.forEach_passed (run : List TxEntry) (hx : s.txr? r = some x) (hc : s.cq? x.cq = some c) :
    Passed s (s.forEach run fun s e => s.passEntry r e) r x.cq x.entries (x.entries.drop run.length) c.due
      (c.due ++ complsOf r run) (run.map (·.slots)).sum := by
  induction run generalizing s x c with
  | nil =>
    have hlt : s.txCons r < 2 ^ 32 := Field.get_lt fTXR_CONS_CONS _
    exact ⟨rfl, (Nat.mod_eq_of_lt hlt).symm, ⟨x, hx, rfl, rfl⟩, ⟨c, hc, (List.append_nil _).symm⟩⟩
  | cons e run ih =>
    obtain ⟨hnow, hcons, ⟨y, hy, hyq, hye⟩, ⟨d, hd, hdue⟩⟩ := State.passEntry_passed hx hc e
    rw [← hyq] at hd
    obtain ⟨hnow', hcons', ⟨z, hz, hzq, hze⟩, ⟨d', hd', hdue'⟩⟩ := ih hy hd
    refine ⟨hnow'.trans hnow, hcons'.trans ?_, ⟨z, hz, hzq.trans hyq, ?_⟩, ⟨d', hyq ▸ hd', ?_⟩⟩
    · rw [hcons, List.map_cons, List.sum_cons, Nat.mod_add_mod, Nat.add_assoc]
    · rw [hze, hye, List.drop_drop, List.length_cons, Nat.add_comm]
    · rw [hdue', hdue, List.append_assoc]
      refine congrArg (c.due ++ ·) ?_
      rw [complsOf, complsOf, ← List.map_append, ← List.filter_append]
      rfl

theorem drop_takeWhile_length {α : Type} (p : α → Bool) (l : List α) :
    l.drop (l.takeWhile p).length = l.dropWhile p := by
  conv_lhs => enter [2]; rw [← List.takeWhile_append_dropWhile (p := p) (l := l)]
  exact List.drop_left

/-- R508 to R511, R819: the run of retired entries at the head of a ring is passed once its timestamps are known. -/
theorem State.txRetire_stat (hx : s.txr? r = some x) (hc : s.cq? x.cq = some c) :
    (s.txRetire r).now =
        max s.now (((x.entries.takeWhile (fun z => z.stage = .retired)).map (·.known)).foldl max 0) ∧
      (s.txRetire r).txCons r =
        (s.txCons r + ((x.entries.takeWhile (fun z => z.stage = .retired)).map (·.slots)).sum) % 2 ^ 32 ∧
      ((s.txRetire r).txr? r).map (·.entries) = some (x.entries.dropWhile (fun z => z.stage = .retired)) ∧
      ((s.txRetire r).cq? x.cq).map (·.due) =
        some (c.due ++ complsOf r (x.entries.takeWhile (fun z => z.stage = .retired))) := by
  let run := x.entries.takeWhile (fun z => z.stage = .retired)
  let t := s.elapseTo ((run.map (·.known)).foldl max 0)
  have heq : s.txRetire r = t.forEach run fun s e => s.passEntry r e := by rw [State.txRetire, hx]
  have hxt : t.txr? r = some x := (State.elapse_part (·.txr? r) s _).trans hx
  have hct : t.cq? x.cq = some c := (State.elapse_part (·.cq? x.cq) s _).trans hc
  have hcons : t.txCons r = s.txCons r := s.elapseTo_fget _ (by decide) r _
  obtain ⟨hn, hk, ⟨y, hy, -, hye⟩, ⟨d, hd, hdue⟩⟩ := State.forEach_passed run hxt hct
  rw [heq]
  refine ⟨hn.trans (s.elapseTo_now _), ?_, ?_, ?_⟩
  · rw [hk, hcons]
  · rw [hy, Option.map_some, hye, drop_takeWhile_length]
  · rw [hd, Option.map_some, hdue]

end Sys2Proof.Machine
end

section
/-! PROOFS. Transmit entries run (R68, R424, R426, R435, R505 to R511, R529, R530, R751, R753 to R755, R819). -/

namespace Sys2Proof.Machine

variable {s : State} {r first n : Nat} {a : Resp} {q : RafterReq} {x : TxRing} {e : TxEntry} {b : Bool}

-- Entries whose slots return

/-- R505, R507, R529, R530: the entry of a ring that holds none is taken, or its malformed slots are fatal. -/
theorem txEntryReadDone_takes (h : s.goodResp a (.txSlots r first n) = true) (hq : s.asked a = some q)
    (hx : s.txr? r = some x) (hl : a.data.length = 32 * n) (he : x.entries = []) (hs : x.slotBuf = [])
    (hfetch : s.txFetch r = first) (hw : s.cqWait true r x.cq = false) (hn : hdrSlots (cb a.data 0 8) = n)
    (hend : n ≤ idxDiff (s.txEnd r x) first) :
    Effect (.txEntryReadDone a {}) s fun u => u.txFetch r = idxAdd first n ∧
      if (slotEntry first n a.data).code ≠ 0 then
        u.failed = true ∧ u.fget .GEN_FAULT_STAT 0 fGEN_FAULT_STAT_CAUSE = 1 ∧
          u.rget .GEN_FAULT_ADDR 0 = BitVec.ofNat 64 first
      else
        (u.txr? r).map (fun y => y.entries.map (fun z => (z.first, z.slots, z.stage, z.freed))) =
          some [(first, n, (slotEntry first n a.data).takenStage (s.leaf? (hdrLeaf (cb a.data 0 8))),
            (s.leaf? (hdrLeaf (cb a.data 0 8))).isNone)] ∧
        (hdrIndirect (cb a.data 0 8) = false →
          (u.entryAt r first).map (·.lhost) = some ((directFrags a.data).map (·.2)).sum) ∧
        ((u.rafterQ.drop s.rafterQ.length).map (·.len)).sum =
          if hdrIndirect (cb a.data 0 8) && (s.leaf? (hdrLeaf (cb a.data 0 8))).isSome then 16 * recLen a.data 16 else 0 := by
  obtain ⟨t, y, hf, hrq, hleaves, hdone⟩ := State.txEntryDone_slots h hq hx hl he hs hfetch hw hn hend
  refine effect_done rfl ?_
  rw [hdone]
  refine ⟨State.taken_txFetch hf r y _, ite_prop_iff_and.mpr ⟨fun hc => ?_, fun hc => ?_⟩⟩
  · rw [State.taken_malformed hc]
    exact State.malformed_stat ((t.fetched_failed r y _).trans hf) _ _ _ _ _ _
  · obtain ⟨z, hring, hfirst, hslots, hstage, hfreed, hlen, hsum⟩ :=
      State.taken_stat (s := t) (r := r) (x := y) (not_not.mp hc) rfl rfl
    have hleaf : t.leaf? (hdrLeaf (cb a.data 0 8)) = s.leaf? (hdrLeaf (cb a.data 0 8)) := by
      rw [State.leaf?, hleaves]
      rfl
    refine ⟨?_, fun hi => ?_, ?_⟩
    · have hmap := congrArg (Option.map (List.map fun z : TxEntry => (z.first, z.slots, z.stage, z.freed))) hring
      rw [State.ringEntries, Option.map_map, Option.map_some, List.map_singleton, hfirst, hslots, hstage, hfreed] at hmap
      rw [← hleaf]
      exact hmap
    · have hat : z.first = first := hfirst
      rw [State.entryAt_only hring hat, Option.map_some]
      exact congrArg some (hlen hi)
    · rw [← hleaf, ← hrq]
      exact hsum

/-- R751: an uncorrectable context of the ring is fatal. -/
theorem txEntryReadDone_context (h : s.goodResp a (.txSlots r first n) = true) (hq : s.asked a = some q) (hr : r < 16384)
    (i : Nat) : Effect (.txEntryReadDone a { ctx := .uncorrectable i }) s fun u =>
      u.failed = true ∧ u.fget .GEN_FAULT_STAT 0 fGEN_FAULT_STAT_CAUSE = Cause.contextEcc.code ∧
        (u.rget .GEN_FAULT_INFO 0).toNat = r * 4 ∧ u.txrs = s.txrs := by
  obtain ⟨-, -, -, hf⟩ := State.txEntryDone_good h hq rfl {}
  obtain ⟨-, hfail, hcause⟩ := State.failStop_stat hf .contextEcc (0 + r * 4) 0 []
  obtain ⟨hinfo, -⟩ := State.failStop_record hf .contextEcc (0 + r * 4) 0 []
  refine effect_done rfl ?_
  rw [State.txEntryDone_context h hq i]
  refine ⟨hfail, hcause, ?_, State.core_part (State.core_failStop _ _ _ _ _) (·.txrs)⟩
  rw [hinfo, BitVec.toNat_ofNat]
  omega

/-- R507, R529, R530: the fragment table of a ring's entry returns. -/
theorem txEntryReadDone_table (h : s.goodResp a (.txTable r first 0 n) = true) (hq : s.asked a = some q)
    (hx : s.txr? r = some x) (ho : x.entries = [e]) (hs : x.slotBuf = []) (hi : e.first = first) (ht : e.table = [])
    (hl : 16 * recLen e.bytes 16 = a.data.length) :
    Effect (.txEntryReadDone a {}) s fun u =>
      if (tableChecks e.bytes a.data).1 ≠ 0 then
        u.failed = true ∧ u.fget .GEN_FAULT_STAT 0 fGEN_FAULT_STAT_CAUSE = 1
      else s.leaf? (hdrLeaf (cb e.bytes 0 8)) ≠ none →
        (u.entryAt r first).map (fun z => (z.stage, z.lhost)) =
          some (.admission, ((tableFrags a.data).map (·.2)).sum) := by
  obtain ⟨hd, hp, -, hf⟩ := State.txEntryDone_good h hq rfl {}
  have hring : (s.retag a).ringEntries r = some [e] :=
    (congrArg (Option.map fun z : TxRing => z.entries) hx).trans (congrArg some ho)
  have hslots : (s.retag a).ringSlots r = some [] :=
    (congrArg (Option.map fun z : TxRing => z.slotBuf) hx).trans (congrArg some hs)
  refine effect_done rfl ?_
  rw [hd, State.txEntryRead_table hp hf]
  refine ite_prop_iff_and.mpr ⟨fun hc => ?_, fun hc hleaf => ?_⟩
  · exact State.txTableRead_malformed (State.entryAt_only hring hi) ht hl hf hc
  · obtain ⟨nd, hnd⟩ := Option.ne_none_iff_exists'.mp hleaf
    exact State.txTableRead_ready hring hi hslots ht hl (not_not.mp hc) hnd

/-- R754: a slot that shows a parity error again is fatal. -/
theorem descRereadDone_parity (h : s.goodResp a (.descReread 0 r first) = true) (hq : s.asked a = some q) :
    Answers (.descRereadDone a true) s fun t =>
      t.failed = true ∧ t.fget .GEN_FAULT_STAT 0 fGEN_FAULT_STAT_CAUSE = 10 := by
  obtain ⟨hf, hd⟩ := State.descRereadDone_good h hq true
  have hft : (s.retag a).failed = false := hf
  obtain ⟨-, hfail, hcause⟩ := State.failStop_stat hft .descCache (0 % 2 + r * 4) first []
  have hk := Keeps.after (State.goodResp_boot h)
    (State.core_part ((s.retag a).core_failStop .descCache (0 % 2 + r * 4) first []) (·.power.sleep))
  refine answers_done rfl ?_
  rw [hd, if_pos rfl]
  exact ⟨(hk.failed (by decide)).trans hfail, (hk.fget (by decide) 0 _).trans hcause⟩

-- The entry that waits for admission

section
variable {same : Bool} {c : AdmitCheck}

/-- R751: the free lists cannot be read. -/
theorem hostAdmission_uncorrectable (h : Waits s r x e) (hr : c.ring.val = r) (hsame : c.same = same) {k : Nat}
    (hk : c.alloc = .uncorrectable k) (hl : s.leaf? e.leaf ≠ none)
    (ha : (s.hostCycle same).admitHost { leaf := true, id := e.leaf } (cellsOf e.lhost) = true) :
    Effect (.hostAdmission c) s fun u =>
      u.failed = true ∧ u.fget .GEN_FAULT_STAT 0 fGEN_FAULT_STAT_CAUSE = Cause.loftCtrlEcc.code ∧ u.txrs = s.txrs := by
  have hw := h.of_hostCycle same
  obtain ⟨nd, hnd⟩ := Option.ne_none_iff_exists'.mp hl
  have hleaf : (s.hostCycle same).leaf? e.leaf = some nd := (State.hostCycle_part (·.leaf? e.leaf) s same).trans hnd
  obtain ⟨-, hfail, hcause⟩ := State.failStop_stat hw.running .loftCtrlEcc 1 k []
  have htx := State.core_part ((s.hostCycle same).core_failStop .loftCtrlEcc 1 k []) (·.txrs)
  refine effect_done rfl ?_
  rw [hr, hsame, hk, hw.uncorrectable hleaf ha k]
  exact ⟨hfail, hcause, htx.trans (State.hostCycle_part (·.txrs) s same)⟩

/-- R424, R435, R507: the entry is freed, admitted, or waits. -/
theorem hostAdmission_clean (h : Waits s r x e) (hr : c.ring.val = r) (hsame : c.same = same) (hk : c.alloc = .clean)
    (nd : Node) :
    Effect (.hostAdmission c) s fun u =>
      if s.leaf? e.leaf = none then (u.entryAt r e.first).map (fun z => (z.stage, z.freed)) = some (.retired, true)
      else if (s.hostCycle same).admitHost { leaf := true, id := e.leaf } (cellsOf e.lhost) = true then
        (x.entries = [e] → (u.entryAt r e.first).map (fun z => (z.stage, z.missing)) = some (.loading, e.lhost)) ∧
        u.fbit .TXR_STAT r fTXR_STAT_ADM_WAIT = false ∧
        ((u.rafterQ.drop s.rafterQ.length).map (·.len)).sum = (e.frags.map (·.2)).sum ∧
        (s.leaf? e.leaf = some nd → (u.leaf? e.leaf).map (·.depth) = some (nd.depth + cellsOf e.lhost))
      else u.fbit .TXR_STAT r fTXR_STAT_ADM_WAIT = true ∧ u.rafterQ = s.rafterQ ∧
        u.fget .LOFT_HOST_WAIT 0 fLOFT_HOST_WAIT_CYCLES = min (2 ^ fLOFT_HOST_WAIT_CYCLES.w - 1)
          (s.fget .LOFT_HOST_WAIT 0 fLOFT_HOST_WAIT_CYCLES + 1) := by
  have hw := h.of_hostCycle same
  have hleaf : (s.hostCycle same).leaf? e.leaf = s.leaf? e.leaf := State.hostCycle_part (·.leaf? e.leaf) s same
  have hrq : (s.hostCycle same).rafterQ = s.rafterQ := State.hostCycle_part (·.rafterQ) s same
  refine effect_done rfl ?_
  rw [hr, hsame, hk]
  refine ite_prop_iff_and.mpr ⟨fun hl => ?_, fun hl => ?_⟩
  · rw [hw.unadmitted (hleaf.trans hl)]
    exact hw.unadmitted_entry
  · obtain ⟨n', hnd⟩ := Option.ne_none_iff_exists'.mp hl
    refine ite_prop_iff_and.mpr ⟨fun ha => ?_, fun ha => ?_⟩
    · obtain ⟨hent, hwait, hsum, hdepth⟩ := hw.admitted_stat (hleaf.trans hnd) ha
      refine ⟨hent, hwait, hrq ▸ hsum, fun hn => ?_⟩
      obtain rfl : nd = n' := Option.some.inj (hn.symm.trans hnd)
      exact hdepth
    · obtain ⟨hwait, hq', hcount⟩ := (s.hostCycle same).admissionWaits_stat r
      rw [hw.refused (hleaf.trans hnd) ha]
      refine ⟨hwait, hq'.trans hrq, hcount.trans ?_⟩
      rw [State.hostCycle_part (fun u => u.fget .LOFT_HOST_WAIT 0 fLOFT_HOST_WAIT_CYCLES)]

end

end Sys2Proof.Machine

open Sys2Proof Sys2Proof.Machine

/-- Settles O47: a good response completes its read; what is taken, admitted, read and retired is what the rules above say
of the ring's entries. -/
theorem transmitEntriesRun : Obligations.TransmitEntriesRun := by
  unfold Obligations.TransmitEntriesRun
  refine ⟨fun a b r first n i x e q s hx hq => ⟨fun h hl => ⟨fun hi => ?_, ?_, fun he hs hfetch hw hn hend => ?_⟩,
      fun h ho hs hi ht _ hl => ?_, fun h hlen => ⟨?_, ?_⟩⟩,
    fun a b same r first k x e q f nd c s hx => ⟨fun h hq he hf _ _ => ?_, fun _ hf hs hfind => ?_, fun _ hc => ?_⟩⟩
  · exact effect_done rfl (State.txEntryDone_reread h hq hi)
  · exact txEntryReadDone_context h hq r.isLt i
  · exact txEntryReadDone_takes h hq hx hl he hs hfetch hw hn hend
  · exact txEntryReadDone_table h hq hx ho hs hi ht hl
  · rintro rfl
    exact descRereadDone_parity h hq
  · rintro rfl hw
    exact effect_done rfl (State.descRereadDone_slots h hq hlen hx hw)
  · obtain ⟨ho, hm, hp⟩ := State.txFragmentDone_entry h hq he hf b
    exact effect_done rfl ⟨ho, hm, hp, fun hl ho hs => State.txFragmentDone_only h hq hx he hf b hl ho hs⟩
  · have hw : Waits s r x e := ⟨hx, hs, hfind, hf⟩
    exact ⟨fun hl ha => hostAdmission_uncorrectable hw rfl rfl rfl hl ha, hostAdmission_clean hw rfl rfl rfl nd⟩
  · exact effect_done rfl (State.txRetire_stat hx hc)
end

section
/-! PROOFS. What follows from a command leaves every port's report in agreement with its condition (R121, R123, R202 to
R204). -/

namespace Sys2Proof.Machine

-- The condition of a port

/-- The registers that a port's condition is made of, beside its link state and the fences of its quads. -/
def conditionRegs : List RegId := [.COURSE_PORT_MAP, .LANE_STAT, .LANE_PATTERN, .GEN_FAULT_STAT, .PORT_MODE]

/-- From s to t the condition of every port stays: its lanes, its mode, the fences of its quads, and fail-stop. -/
structure SameCondition (s t : State) : Prop where
  regs : ∀ id ∈ conditionRegs, ∀ i, t.rget id i = s.rget id i
  quads : ∀ q, t.dom (dQUAD q) = s.dom (dQUAD q)

namespace SameCondition

variable {s t : State}

theorem of_trail (h : Trail s t) : SameCondition s t := by
  have apart : ∀ b ∈ conditionRegs, b ∉ trailRegs := by decide
  refine ⟨fun b hb i => ?_, fun q => h.dom (by simp only [dQUAD, dWATCH]; omega)⟩
  induction h with
  | refl => rfl
  | trans _ _ ih₁ ih₂ => exact ih₂.trans ih₁
  | reg s id j v hid => exact rget_rset_of_trailRegs s j i v hid (apart b hb)
  | spray s j on =>
    have k : Writes [.COURSE_SPRAY_STAT] s (s.follow .COURSE_SPRAY_STAT j fCOURSE_SPRAY_STAT_ACTIVE on) :=
      .ite (.refl s) ((Writes.refl s).fset j _ _ (by decide))
    exact k b ((by decide : ∀ b ∈ conditionRegs, b ∉ [RegId.COURSE_SPRAY_STAT]) b hb) i
  | other _ hr _ => exact State.rget_congr hr b i
  | wake s d => exact (s.wake_keeps d).regs b (by simp) i
  | watch s st _ =>
    exact (s.setDom_keeps dWATCH st).regs b
      ((by decide : ∀ b ∈ conditionRegs, b ∉ [RegId.POWER_DOM_STAT, .POWER_READY, .POWER_STAT]) b hb) i

variable (h : SameCondition s t)
include h

theorem portMap (c : Nat) : t.portMap c = s.portMap c := h.regs _ (by decide) c

theorem paired (c : Nat) : t.paired c = s.paired c := by rw [State.paired, State.paired, h.portMap]

theorem portLanes (p : Nat) : t.portLanes p = s.portLanes p := by
  rw [State.portLanes, State.portLanes, h.paired, h.portMap]

theorem portSpeed (p : Nat) : t.portSpeed p = s.portSpeed p := by
  rw [State.portSpeed, State.portSpeed, h.paired, h.portMap]

theorem portUsed (p : Nat) : t.portUsed p = s.portUsed p := by
  simp only [State.portUsed, h.portSpeed, h.portLanes, h.quads]

theorem fget {id : RegId} (hid : id ∈ conditionRegs) (i : Nat) (f : Field) : t.fget id i f = s.fget id i f := by
  rw [State.fget, State.fget, h.regs id hid]

theorem allData (p : Nat) : t.allData p = s.allData p := by
  simp only [State.allData, State.laneState, h.portUsed, h.portLanes, h.fget (id := .LANE_STAT) (by decide)]

theorem failed : t.failed = s.failed := by
  rw [State.failed, State.fbit, h.fget (by decide)]; rfl

theorem heldRule {p : Nat} (hl : t.portUp p = s.portUp p)
    (hlf : t.fbit .PORT_MAC_STAT p fPORT_MAC_STAT_RX_LF = s.fbit .PORT_MAC_STAT p fPORT_MAC_STAT_RX_LF)
    (hrf : t.fbit .PORT_MAC_STAT p fPORT_MAC_STAT_RX_RF = s.fbit .PORT_MAC_STAT p fPORT_MAC_STAT_RX_RF) :
    t.heldRule p = s.heldRule p := by
  simp only [State.heldRule, State.portMode, h.portUsed, h.portLanes, h.failed, hl, hlf, hrf,
    h.fget (id := .PORT_MODE) (by decide), h.fget (id := .LANE_PATTERN) (by decide)]

end SameCondition

/-- The part of a port's report that its link state makes. -/
def State.linkReports (s : State) (p : Nat) : Prop :=
  s.portUp p = true → s.portUsed p = true ∧ s.allData p = true ∧ s.markerLock p = true

/-- The part of a port's report that PORT_MAC_STAT makes. -/
def State.macReports (s : State) (p : Nat) : Prop :=
  s.fbit .PORT_MAC_STAT p fPORT_MAC_STAT_HELD = s.heldRule p ∧
  s.fbit .PORT_MAC_STAT p fPORT_MAC_STAT_TX_LF = (s.failed && s.allData p) ∧
  s.fbit .PORT_MAC_STAT p fPORT_MAC_STAT_TX_RF =
    (!s.failed && s.allData p && s.fbit .PORT_MAC_STAT p fPORT_MAC_STAT_RX_LF)

theorem State.reports_iff (s : State) (p : Nat) : s.reports p ↔ s.linkReports p ∧ s.macReports p := Iff.rfl

theorem State.portUp_congr {s t : State} {p : Nat} (h : t.rget .PORT_LINK_STAT p = s.rget .PORT_LINK_STAT p) :
    t.portUp p = s.portUp p := by
  rw [State.portUp, State.fget, h]; rfl

theorem SameCondition.linkReports {s t : State} {p : Nat} (h : SameCondition s t)
    (hl : t.rget .PORT_LINK_STAT p = s.rget .PORT_LINK_STAT p) (hs : s.linkReports p) : t.linkReports p := by
  have hm : t.markerLock p = s.markerLock p := by rw [State.markerLock, State.fbit, State.fget, hl]; rfl
  rw [State.linkReports, State.portUp_congr hl, h.portUsed, h.allData, hm]
  exact hs

theorem SameCondition.macReports {s t : State} {p : Nat} (h : SameCondition s t)
    (hl : t.rget .PORT_LINK_STAT p = s.rget .PORT_LINK_STAT p)
    (hm : t.rget .PORT_MAC_STAT p = s.rget .PORT_MAC_STAT p) (hs : s.macReports p) : t.macReports p := by
  have hb (f : Field) : t.fbit .PORT_MAC_STAT p f = s.fbit .PORT_MAC_STAT p f := by
    rw [State.fbit, State.fget, hm]; rfl
  rw [State.macReports, h.heldRule (State.portUp_congr hl) (hb _) (hb _), h.failed, h.allData, hb, hb, hb, hb]
  exact hs

/-- What an operation brings about for its own element, and leaves for the others of a list, holds of every element once
the list is through. -/
theorem State.forEach_each {α : Type} {P : α → State → Prop} {f : State → α → State} {l : List α}
    (own : ∀ u x, P x (f u x)) (others : ∀ u x y, x ∈ l → y ∈ l → y ≠ x → P y u → P y (f u x)) (s : State) {x : α}
    (hx : x ∈ l) : P x (s.forEach l f) := by
  have late (k : List α) (hk : k ⊆ l) (u : State) (h : x ∈ k ∨ P x u) : P x (u.forEach k f) := by
    induction k generalizing u with
    | nil => exact h.resolve_left List.not_mem_nil
    | cons y k ih =>
      refine ih (fun z hz => hk (List.mem_cons_of_mem _ hz)) (f u y) ?_
      by_cases e : x = y
      · exact .inr (e ▸ own u x)
      · exact h.imp (fun h => (List.mem_cons.mp h).resolve_left e) (others u y x (hk (List.mem_cons_self ..)) hx e)
  exact late l (List.Subset.refl l) s (.inl hx)

-- Fields that follow

theorem State.follow_writes {R : List RegId} {id : RegId} (hid : id ∈ R) (s : State) (i : Nat) (f : Field) (b : Bool) :
    Writes R s (s.follow id i f b) := .ite (.refl s) ((Writes.refl s).fset i f _ hid)

theorem State.rget_follow_ne (s : State) {id : RegId} {i j : Nat} (f : Field) (b : Bool) (h : j ≠ i) :
    (s.follow id i f b).rget id j = s.rget id j := by
  unfold State.follow State.fsetB
  split
  · rfl
  · exact s.rget_fset_ne _ _ fun e => h e.2.symm

theorem State.fbit_follow_same (s : State) (id : RegId) (i : Nat) (f : Field) (b : Bool) (h : f.lo + f.w ≤ 64)
    (hw : 0 < f.w) : (s.follow id i f b).fbit id i f = b := by
  unfold State.follow
  split
  · next e => exact beq_iff_eq.mp e
  · cases b with
    | true => exact s.fbit_flag_same id i f h hw
    | false => exact s.fbit_clear_same id i f h

theorem State.fbit_follow_field (s : State) (id : RegId) (i j : Nat) (f g : Field) (b : Bool)
    (h : f.lo + f.w ≤ g.lo ∨ g.lo + g.w ≤ f.lo) : (s.follow id i g b).fbit id j f = s.fbit id j f := by
  unfold State.follow State.fsetB
  split
  · rfl
  · rw [State.fbit, State.fget_fset_field _ _ _ _ _ _ _ h]; rfl

-- The link state

theorem Writes.setMac {R : List RegId} {s t : State} (p : Nat) (m : MacPort) (h : Writes R s t) :
    Writes R s (t.setMac p m) := h.raw rfl

theorem Writes.modMac {R : List RegId} {s t : State} (p : Nat) (f : MacPort → MacPort) (h : Writes R s t) :
    Writes R s (t.modMac p f) := h.raw rfl

/-- What a port's link writes as it goes up or down, beside PORT_LINK_STAT: its events, the state of preemption's
verification, and the accounts and counters of the frames that are cut. -/
def linkRegs : List RegId := [.PORT_LINK_EVT, .PORT_PREEMPT_STAT, .STATS_PORT, .STATS_HALF] ++ accountRegs

theorem State.verifyStart_writes (s : State) (p : Nat) : Writes linkRegs s (s.verifyStart p) := by
  have h := (Writes.refl (R := linkRegs) s).modMac p
    fun m => { m with verifyTries := 0, verifyEnd := none, verifyDue := false }
  unfold State.verifyStart State.verifySend State.setVerify
  exact .ite (h.fset _ _ _ (by decide)) (.ite (.fset _ _ _ (by decide) (h.modMac p _)) (h.fset _ _ _ (by decide)))

theorem State.cutLink_writes (s : State) (p : Nat) (c : TxCur) (n : Nat) : Writes linkRegs s (s.cutLink p c n) := by
  have hs : Writes linkRegs s (if s.portUsed p then s.statCut p n else s) :=
    .ite (.of_keeps (s.statCut_keeps (by decide) p n)) (.refl s)
  have hc (u : State) : Writes linkRegs u (u.clearOneStep c) := .ite (.raw (.refl u) rfl) (.refl u)
  have hh (u : State) (d : Int) (k : Nat) : Writes linkRegs u (u.hostSent p c.pkt d k false) :=
    .raw (.refl u) (State.unringed_part (u.unringed_hostSent _ _ _ _ _) (·.regs))
  obtain ⟨-, -, hl⟩ := State.leavePort_stat (((if s.portUsed p then s.statCut p n else s).clearOneStep
    c).hostSent p c.pkt
    (State.measured _ c (State.cutDelta _)) (State.knownAt _ c) false) p c.pkt
  exact ((hs.trans (hc _)).trans (hh _ _ _)).trans (hl.mono (by decide))

theorem State.cutIf_writes (s : State) (p : Nat) (o : Option TxCur) (n : TxCur → Nat) :
    Writes linkRegs s (s.cutIf p o n) := by
  cases o with
  | none => exact .refl s
  | some c => exact s.cutLink_writes p c (n c)

theorem State.linkUp_writes (s : State) (p : Nat) :
    Writes linkRegs (s.fset .PORT_LINK_STAT p fPORT_LINK_STAT_LINK_STATE 3) (s.linkUp p) := by
  unfold State.linkUp State.paceReset
  refine Writes.trans (Writes.modMac p _ (Writes.modMac p _ ?_)) (State.verifyStart_writes _ p)
  exact .fset (id := .PORT_LINK_EVT) p _ _ (by decide) (.refl _)

theorem State.linkDown_writes (s : State) (p st : Nat) :
    Writes linkRegs (s.fset .PORT_LINK_STAT p fPORT_LINK_STAT_LINK_STATE st) (s.linkDown p st) := by
  have evt : Writes linkRegs (s.fset .PORT_LINK_STAT p fPORT_LINK_STAT_LINK_STATE st)
      ((s.fset .PORT_LINK_STAT p fPORT_LINK_STAT_LINK_STATE st).flag .PORT_LINK_EVT p fPORT_LINK_EVT_DOWN) :=
    .fset (id := .PORT_LINK_EVT) p _ _ (by decide) (.refl _)
  unfold State.linkDown
  refine Writes.trans (.ite ?_ (Writes.trans ?_ (State.cutIf_writes _ p _ _))) (State.verifyStart_writes _ p) <;>
    exact Writes.trans (evt.setMac p _) (State.cutIf_writes _ p _ _)

theorem State.linkRule_le (s : State) (p : Nat) : s.linkRule p ≤ 3 := by
  unfold State.linkRule
  split_ifs <;> decide

/-- R121, R123: the rule makes a port UP only with its lanes in DATA and its marker lock. -/
theorem State.linkRule_up {s : State} {p : Nat} (h : s.linkRule p = 3) :
    s.portUsed p = true ∧ s.allData p = true ∧ s.markerLock p = true := by
  unfold State.linkRule at h
  split_ifs at h with hu hd hm
  · cases h
  · simp only [Bool.or_eq_true, Bool.not_eq_true', not_or, Bool.not_eq_false, List.all_eq_true, Bool.and_eq_true]
      at hu hd hm
    obtain ⟨⟨hm, _⟩, _⟩ := hm
    refine ⟨hu.1, ?_, hm⟩
    rw [State.allData, hu.1, Bool.true_and, List.all_eq_true]
    exact fun n hn => (hd n hn).2
  · cases h

/-- A port whose link state is written shows it, and keeps its marker lock. -/
theorem Writes.linkState {s t : State} {p st : Nat} (hst : st ≤ 3)
    (h : Writes linkRegs (s.fset .PORT_LINK_STAT p fPORT_LINK_STAT_LINK_STATE st) t) :
    t.portUp p = (st == 3) ∧ t.markerLock p = s.markerLock p := by
  have hr := h .PORT_LINK_STAT (by decide) p
  constructor
  · rw [State.portUp_congr hr, State.portUp, State.fget_fset_same _ _ _ _ _ (by decide), Nat.mod_eq_of_lt]
    exact Nat.lt_of_le_of_lt hst (by decide)
  · rw [State.markerLock, State.fbit, State.fget, hr]
    exact congrArg (· != 0) (State.fget_fset_field _ _ _ _ _ _ _ (by decide))

/-- R121, R123: a port whose link state has followed is UP only in its condition. -/
theorem State.followLink_reports (s : State) (p : Nat) : (s.followLink p).linkReports p := by
  unfold State.followLink
  dsimp only
  generalize s.dropMarkers p = t
  have away {u : State} (h : u.portUp p = (t.linkRule p == 3)) (hn : t.linkRule p ≠ 3) : u.linkReports p :=
    fun hu => absurd (beq_iff_eq.mp (h.symm.trans hu)) hn
  split_ifs with h1 h2 h3
  · exact fun hu => State.linkRule_up (h1.trans (beq_iff_eq.mp hu))
  · obtain ⟨-, hm⟩ := (t.linkUp_writes p).linkState (Nat.le_refl 3)
    have hc := SameCondition.of_trail (t.linkUp_trail p)
    rw [State.linkReports, hc.portUsed, hc.allData, hm]
    exact fun _ => State.linkRule_up h2
  · exact away ((t.linkDown_writes p _).linkState (t.linkRule_le p)).1 h2
  · exact away ((Writes.refl _).linkState (t.linkRule_le p)).1 h2

/-- The link state of a port leaves those of the others. -/
theorem State.followLink_others (s : State) {p q : Nat} (h : q ≠ p) :
    (s.followLink p).rget .PORT_LINK_STAT q = s.rget .PORT_LINK_STAT q := by
  have drop : (s.dropMarkers p).rget .PORT_LINK_STAT q = s.rget .PORT_LINK_STAT q := by
    have hv : Writes [.LANE_SKEW] s (s.forEach (s.portLanes p) (fun s n =>
        s.follow .LANE_SKEW n fLANE_SKEW_VALID false)) :=
      .forEach _ (fun u n => u.follow_writes (by decide) n _ _) (.refl s)
    unfold State.dropMarkers
    split
    · rfl
    · exact (State.rget_follow_ne _ _ _ h).trans ((State.rget_follow_ne _ _ _ h).trans (hv _ (by decide) q))
  have set (t : State) (st : Nat) : (t.fset .PORT_LINK_STAT p fPORT_LINK_STAT_LINK_STATE st).rget .PORT_LINK_STAT q =
      t.rget .PORT_LINK_STAT q := t.rget_fset_ne _ _ fun e => h e.2.symm
  unfold State.followLink
  dsimp only
  refine .trans ?_ drop
  split_ifs
  · rfl
  · exact (State.linkUp_writes _ p _ (by decide) q).trans (set _ _)
  · exact (State.linkDown_writes _ p _ _ (by decide) q).trans (set _ _)
  · exact set _ _

-- PORT_MAC_STAT

/-- HELD and the ordered sets that a port sends follow its condition. -/
def State.showMac (s : State) (p : Nat) : State :=
  let s := s.follow .PORT_MAC_STAT p fPORT_MAC_STAT_HELD (s.heldRule p)
  let s := s.follow .PORT_MAC_STAT p fPORT_MAC_STAT_TX_LF (s.failed && s.allData p)
  s.follow .PORT_MAC_STAT p fPORT_MAC_STAT_TX_RF
    (!s.failed && s.allData p && s.fbit .PORT_MAC_STAT p fPORT_MAC_STAT_RX_LF)

theorem State.showMac_writes (s : State) (p : Nat) : Writes [.PORT_MAC_STAT] s (s.showMac p) :=
  ((s.follow_writes (by decide) p _ _).trans (State.follow_writes (by decide) _ p _ _)).trans
    (State.follow_writes (by decide) _ p _ _)

theorem State.showMac_others (s : State) {p q : Nat} (h : q ≠ p) :
    (s.showMac p).rget .PORT_MAC_STAT q = s.rget .PORT_MAC_STAT q :=
  (State.rget_follow_ne _ _ _ h).trans ((State.rget_follow_ne _ _ _ h).trans (State.rget_follow_ne _ _ _ h))

/-- R202 to R204: PORT_MAC_STAT shows what the port's condition gives. -/
theorem State.showMac_reports (s : State) (p : Nat) : (s.showMac p).macReports p := by
  let a := s.follow .PORT_MAC_STAT p fPORT_MAC_STAT_HELD (s.heldRule p)
  let b := a.follow .PORT_MAC_STAT p fPORT_MAC_STAT_TX_LF (a.failed && a.allData p)
  have same {u v : State} (h : Writes [.PORT_MAC_STAT] u v) : SameCondition u v :=
    ⟨fun id hid => h id ((by decide : ∀ c ∈ conditionRegs, c ∉ [RegId.PORT_MAC_STAT]) id hid),
      fun q => h.fget (by decide) 0 _⟩
  have ha : Writes [.PORT_MAC_STAT] s a := s.follow_writes (by decide) p _ _
  have hb : Writes [.PORT_MAC_STAT] a b := a.follow_writes (by decide) p _ _
  have hc : Writes [.PORT_MAC_STAT] b (s.showMac p) := b.follow_writes (by decide) p _ _
  have rx {f : Field} (h : f.lo < 2) (hw : f.w = 1) :
      (s.showMac p).fbit .PORT_MAC_STAT p f = b.fbit .PORT_MAC_STAT p f ∧
        b.fbit .PORT_MAC_STAT p f = s.fbit .PORT_MAC_STAT p f := by
    refine ⟨State.fbit_follow_field _ _ _ _ _ _ _ (.inl ?_), (State.fbit_follow_field _ _ _ _ _ _ _ (.inl ?_)).trans
      (State.fbit_follow_field _ _ _ _ _ _ _ (.inl ?_))⟩ <;>
    · rw [hw]; exact Nat.le_trans h (by decide)
  have lf := rx (f := fPORT_MAC_STAT_RX_LF) (by decide) rfl
  have rf := rx (f := fPORT_MAC_STAT_RX_RF) (by decide) rfl
  refine ⟨?_, ?_, ?_⟩
  · rw [(same (s.showMac_writes p)).heldRule (State.portUp_congr ((s.showMac_writes p) _ (by decide) p))
      (lf.1.trans lf.2) (rf.1.trans rf.2)]
    exact (State.fbit_follow_field _ _ _ _ _ _ _ (by decide)).trans
      ((State.fbit_follow_field _ _ _ _ _ _ _ (by decide)).trans (s.fbit_follow_same _ _ _ _ (by decide) (by decide)))
  · rw [(same (hb.trans hc)).failed, (same (hb.trans hc)).allData]
    exact (State.fbit_follow_field _ _ _ _ _ _ _ (by decide)).trans (a.fbit_follow_same _ _ _ _ (by decide) (by decide))
  · rw [(same hc).failed, (same hc).allData, lf.1]
    exact b.fbit_follow_same _ _ _ _ (by decide) (by decide)

/-- What a port shows beside PORT_MAC_STAT, and what the packets that it sends of its own write. -/
def shownRegs : List RegId := [.PORT_PREEMPT_STAT, .PORT_FEC_STAT, .PORT_FEC_EVT, .COURSE_SPRAY_STAT] ++ ownRegs

theorem State.showPort_writes (s : State) (p : Nat) : Writes shownRegs (s.showMac p) (s.showPort p) := by
  have finish (u : State) : Writes shownRegs u (u.finish p) := .ite (.raw (.refl u) rfl) (.refl u)
  have send (u : State) : Writes shownRegs u (u.mSend p) := .mono (.of_keeps (u.mSend_keeps p)) (by decide)
  have fec (u : State) : Writes shownRegs u (u.followFec p) := by
    have h (b : Bool) : Writes shownRegs u (u.fsetB .PORT_FEC_STAT p fPORT_FEC_STAT_LOCKED b) :=
      (Writes.refl u).fset p _ _ (by decide)
    exact .ite (.refl u) (.ite ((h _).fset p _ _ (by decide)) (h _))
  have spray (u : State) : Writes shownRegs u (u.followSpray p) := .ite (u.follow_writes (by decide) _ _ _) (.refl u)
  exact ((((finish _).trans (State.follow_writes (by decide) _ p _ _)).trans (send _)).trans (fec _)).trans (spray _)

theorem State.showPort_reports (s : State) (p : Nat) : (s.showPort p).macReports p := by
  have h := s.showPort_writes p
  refine SameCondition.macReports ⟨fun id hid => h id ?_, fun q => h.fget (by decide) 0 _⟩ (h _ (by decide) p)
    (h _ (by decide) p) (s.showMac_reports p)
  exact (by decide : ∀ c ∈ conditionRegs, c ∉ shownRegs) id hid

/-- What a port shows leaves every port's link state, and the other ports' PORT_MAC_STAT. -/
theorem State.showPort_link (s : State) (p q : Nat) :
    (s.showPort p).rget .PORT_LINK_STAT q = s.rget .PORT_LINK_STAT q :=
  (s.showPort_writes p _ (by decide) q).trans (s.showMac_writes p _ (by decide) q)

theorem State.showPort_others (s : State) {p q : Nat} (h : q ≠ p) :
    (s.showPort p).rget .PORT_MAC_STAT q = s.rget .PORT_MAC_STAT q :=
  (s.showPort_writes p _ (by decide) q).trans (s.showMac_others h)

-- What follows from a command

/-- A trail that leaves both registers of the ports' reports keeps the reports. -/
theorem State.PortsReport.of_trail {s t : State} (h : s.PortsReport) (ht : Trail s t)
    (hl : ∀ p, t.rget .PORT_LINK_STAT p = s.rget .PORT_LINK_STAT p)
    (hm : ∀ p, t.rget .PORT_MAC_STAT p = s.rget .PORT_MAC_STAT p) : t.PortsReport := fun p hp =>
  ⟨(SameCondition.of_trail ht).linkReports (hl p) (h p hp).1,
    (SameCondition.of_trail ht).macReports (hl p) (hm p) (h p hp).2⟩

/-- R121, R123, R202 to R204: once what follows at once is settled, every port reports its condition. -/
theorem State.settle_reports (s : State) : s.settle.PortsReport := by
  let u := s.forEach (List.range 16) State.followLink
  let v := u.forEach (List.range 16) State.showPort
  have link (p : Nat) (hp : p < 16) : u.linkReports p :=
    State.forEach_each (P := fun p u => u.linkReports p) State.followLink_reports
      (fun w p _ _ _ hq => (SameCondition.of_trail (w.followLink_trail p)).linkReports (w.followLink_others hq)) s
      (List.mem_range.mpr hp)
  have kept (p : Nat) : v.rget .PORT_LINK_STAT p = u.rget .PORT_LINK_STAT p :=
    State.forEach_same (π := fun w => w.rget .PORT_LINK_STAT p) (fun w q => w.showPort_link q p) u _
  have shown (p : Nat) (hp : p < 16) : v.macReports p :=
    State.forEach_each (P := fun p u => u.macReports p) State.showPort_reports
      (fun w p q _ _ hq => (SameCondition.of_trail (w.showPort_trail p)).macReports (w.showPort_link p q)
        (w.showPort_others hq))
      u (List.mem_range.mpr hp)
  have hv : v.PortsReport := fun p hp =>
    ⟨(SameCondition.of_trail ((Trail.refl u).forEach _ _ fun w q => w.showPort_trail q)).linkReports (kept p)
      (link p hp),
      shown p hp⟩
  have rclk (w : State) (k : Nat) : Writes [.TIME_STAT, .TIME_EVT] w (w.rclkFollow k) := by
    have clear (c : Store Nat) : Writes [.TIME_STAT, .TIME_EVT] w { w with time := { w.time with rclkClear := c } } :=
      .raw (.refl w) rfl
    unfold State.rclkFollow State.rclkSquelch
    exact .ite (.ite (clear _) (((clear _).fset 0 _ _ (by decide)).fset 0 _ _ (by decide))) (.ite (clear _) (.refl w))
  have hw : Writes [.TIME_STAT, .TIME_EVT] v s.settle := (rclk v 0).trans (rclk _ 1)
  exact hv.of_trail ((v.rclkFollow_trail 0).trans (State.rclkFollow_trail _ 1)) (hw _ (by decide)) (hw _ (by decide))

/-- Outside the cold reset, every port reports its condition after a command. -/
theorem State.after_reports {s : State} (h : s.bootU.asserted = false) (t : State) : (s.after t).PortsReport := by
  let u := (s.padsFreed t).eyeCheck.adminSettle.settle
  have work : Writes [.POWER_DOM_STAT, .POWER_READY, .POWER_STAT] u u.followWork.followWatch :=
    .trans (.forEach _ (fun w d => .ite (.refl w) (.of_keeps ((w.wake_keeps d).mono (by decide)))) (.refl u))
      (.ite (.of_keeps (State.setDom_keeps _ _ _)) (.refl _))
  have hu : u.followWork.followWatch.PortsReport := (State.settle_reports _).of_trail
    (u.followWork_trail.trans (State.followWatch_trail _)) (work _ (by decide)) (work _ (by decide))
  rw [State.after, h, if_neg (by decide)]
  exact hu

-- The commands

/-- The commands that stand for the cold reset, its release and the memory self-test; every other ends as `State.after`
says. -/
theorem exec_after {c : Instr} (h1 : c ≠ .coldReset) (h2 : ∀ f m t, c ≠ .coldResetRelease f m t)
    (h3 : c ≠ .memorySelfTestStart) (h4 : ∀ b, c ≠ .memorySelfTestDone b) (s : State) :
    ∃ u, exec c s = .next (s.after u) := by
  cases c with
  | coldReset => exact absurd rfl h1
  | coldResetRelease f m t => exact absurd rfl (h2 f m t)
  | memorySelfTestStart => exact absurd rfl h3
  | memorySelfTestDone b => exact absurd rfl (h4 b)
  | _ => exact ⟨_, rfl⟩

/-- After a cold reset every port is DOWN and HELD, and sends no fault. -/
theorem State.reset_reports : State.reset.PortsReport := by
  unfold State.PortsReport State.reports
  decide +kernel

/-- R25: and so it is in every state whose registers hold their Reset values. -/
theorem State.portsReport_of_regs_nil {s : State} (h : s.regs = []) : s.PortsReport := by
  have hr (id : RegId) (i : Nat) : s.rget id i = State.reset.rget id i := State.rget_congr h id i
  have hc : SameCondition State.reset s := ⟨fun id _ => hr id, fun q => by rw [State.dom, State.fget, hr]; rfl⟩
  exact fun p hp => ⟨hc.linkReports (hr _ p) (State.reset_reports p hp).1,
    hc.macReports (hr _ p) (hr _ p) (State.reset_reports p hp).2⟩

/-- A state with the same registers has the same reports. -/
theorem State.PortsReport.of_regs {s t : State} (h : s.PortsReport) (hr : t.regs = s.regs) : t.PortsReport := by
  have hc : SameCondition s t :=
    ⟨fun id _ => State.rget_congr hr id, fun q => by rw [State.dom, State.fget, State.rget_congr hr]; rfl⟩
  exact fun p hp => ⟨hc.linkReports (State.rget_congr hr _ p) (h p hp).1,
    hc.macReports (State.rget_congr hr _ p) (State.rget_congr hr _ p) (h p hp).2⟩

/-- The passage of time leaves the reports. -/
theorem State.PortsReport.elapse {s : State} (h : s.PortsReport) (n : Nat) : (s.elapse n).PortsReport := by
  have hk := (s.elapse_keeps n).regs
  have hc : SameCondition s (s.elapse n) :=
    ⟨fun id hid => hk id ((by decide : ∀ c ∈ conditionRegs, c ∉ [RegId.TIME_SLEW_REM]) id hid),
      fun q => (s.elapse_keeps n).fget (by decide) 0 _⟩
  exact fun p hp => ⟨hc.linkReports (hk _ (by decide) p) (h p hp).1,
    hc.macReports (hk _ (by decide) p) (hk _ (by decide) p) (h p hp).2⟩

/-- R799: the commands of the cold reset leave every port reporting its condition. -/
theorem coldReset_reports {c : Instr} {s t : State} (hs : s.PortsReport) (he : exec c s = .next t)
    (hc : c = .coldReset ∨ (∃ f m x, c = .coldResetRelease f m x) ∨ c = .memorySelfTestStart ∨
      ∃ b, c = .memorySelfTestDone b) : t.PortsReport := by
  rcases hc with rfl | ⟨f, m, x, rfl⟩ | rfl | ⟨b, rfl⟩ <;> obtain rfl := Host.Outcome.next.inj he.symm
  · exact State.portsReport_of_regs_nil rfl
  · split
    · exact State.settle_reports _
    · exact hs
  · refine hs.of_regs ?_
    unfold State.mbistStart
    split <;> rfl
  · refine hs.of_regs ?_
    unfold State.mbistEnd
    split <;> rfl

/-- Every command leaves every port reporting its condition. -/
theorem exec_reports {c : Instr} {s t : State} (hs : s.PortsReport) (he : exec c s = .next t) : t.PortsReport := by
  by_cases hc : c = .coldReset ∨ (∃ f m x, c = .coldResetRelease f m x) ∨ c = .memorySelfTestStart ∨
      ∃ b, c = .memorySelfTestDone b
  · exact coldReset_reports hs he hc
  · simp only [not_or, not_exists] at hc
    obtain ⟨h1, h2, h3, h4⟩ := hc
    obtain ⟨u, hu⟩ := exec_after h1 h2 h3 h4 s
    obtain rfl := Host.Outcome.next.inj (hu.symm.trans he)
    cases ha : s.bootU.asserted with
    | true =>
      rw [State.after, ha, if_pos rfl]
      exact hs
    | false => exact State.after_reports ha u

end Sys2Proof.Machine

open Sys2Proof Sys2Proof.Machine

/-- Settles O6: what follows from a command settles the link states first and PORT_MAC_STAT from them; each port's part of
either leaves the other ports' reports, and nothing behind it touches them. -/
theorem portsAlwaysReport : Obligations.PortsAlwaysReport := by
  intro s t hs ht
  unfold step at ht
  cases hp : s.pending with
  | nil =>
    rw [hp] at ht
    obtain rfl := Host.Outcome.next.inj ht
    exact hs.elapse 1
  | cons c rest =>
    rw [hp] at ht
    exact exec_reports (s := { s with pending := rest }) (hs.of_regs rfl) ht
end

section
/-! PROOFS. A training frame sent as symbols is read back as its two fields (R95 to R97, R99). -/

namespace Sys2Proof.Machine

-- Bits of a field

theorem bitsNat_concat (l : List Bool) (b : Bool) : bitsNat (l ++ [b]) = 2 * bitsNat l + b.toNat := by
  simp [bitsNat, List.foldl_append]

/-- The last bit of a field is its lowest. -/
theorem fieldBits_succ (w v : Nat) : fieldBits (w + 1) v = fieldBits w (v / 2) ++ [v.testBit 0] := by
  simp only [fieldBits, List.range_succ, List.map_append, List.map_cons, List.map_nil, Nat.add_sub_cancel, Nat.sub_self]
  refine congrArg (· ++ _) (List.map_congr_left fun i hi => ?_)
  have h : w - i = w - 1 - i + 1 := by have := List.mem_range.mp hi; omega
  rw [h, Nat.testBit_succ]

/-- The bits of a field spell its value. -/
theorem bitsNat_fieldBits (w v : Nat) : bitsNat (fieldBits w v) = v % 2 ^ w := by
  induction w generalizing v with
  | zero => simp [fieldBits, bitsNat, Nat.mod_one]
  | succ w ih =>
    rw [fieldBits_succ, bitsNat_concat, ih, Nat.toNat_testBit, Nat.pow_succ']
    have := Nat.mod_mul (x := v) (a := 2) (b := 2 ^ w)
    omega

theorem fieldBits_length (w v : Nat) : (fieldBits w v).length = w := by simp [fieldBits]

theorem fieldBits_getD {w i : Nat} (h : i < w) (v : Nat) : (fieldBits w v).getD i false = v.testBit (w - 1 - i) := by
  simp [fieldBits, List.getD_eq_getElem?_getD, h]

-- Symbols

theorem bitSymbols_length (b : Bool) : (bitSymbols b).length = 8 := by cases b <;> rfl

theorem flatMap_bitSymbols_length (l : List Bool) : (l.flatMap bitSymbols).length = 8 * l.length := by
  induction l with
  | nil => rfl
  | cons b l ih => rw [List.flatMap_cons, List.length_append, bitSymbols_length, ih, List.length_cons]; omega

/-- The first symbol of each eight tells the bit. -/
theorem flatMap_bitSymbols_getD (l : List Bool) (i : Nat) :
    ((l.flatMap bitSymbols).getD (8 * i) 0 == 3) = l.getD i false := by
  induction l generalizing i with
  | nil => rfl
  | cons b l ih =>
    rw [List.flatMap_cons]
    cases i with
    | zero => cases b <;> rfl
    | succ i =>
      rw [List.getD_append_right _ _ _ _ (by rw [bitSymbols_length]; omega), bitSymbols_length, Nat.mul_succ,
        Nat.add_sub_cancel, ih, List.getD_cons_succ]

theorem prbs13_length (n v : Nat) : (prbs13 n v).length = n := by
  induction n generalizing v with
  | zero => rfl
  | succ n ih => rw [prbs13, List.length_cons, ih]

/-- R71: on NRZ each bit makes a symbol. -/
theorem levels_nrz_length : ∀ l : List Bool, (levels false l).length = l.length
  | [] => rfl
  | [_] => rfl
  | a :: b :: t => by simp [levels, levels_nrz_length t]

/-- R71: on PAM4 each pair of bits makes a symbol. -/
theorem levels_pam4_length : ∀ l : List Bool, (levels true l).length = (l.length + 1) / 2
  | [] => rfl
  | [_] => by simp [levels]
  | a :: b :: t => by
    simp only [levels, if_true, List.length_cons, levels_pam4_length t]
    omega

-- The frame

/-- R96, R97: the bits of a training frame's fields: control, status and check. -/
def frameBits (control status : Nat) : List Bool :=
  fieldBits 16 control ++ fieldBits 16 status ++ fieldBits 8 (crc8 (fieldBits 16 control ++ fieldBits 16 status))

theorem frameHead_eq (control status : Nat) :
    frameHead control status = marker ++ (frameBits control status).flatMap bitSymbols := rfl

theorem frameHead_length (control status : Nat) : (frameHead control status).length = 384 := by
  rw [frameHead_eq, List.length_append, flatMap_bitSymbols_length, frameBits]
  simp only [List.length_append, fieldBits_length]
  rfl

/-- R95, R98: the pattern fills the frame. -/
theorem trainPattern_length (pam4 : Bool) (n : Nat) : (trainPattern pam4 n).length = 3712 := by
  cases pam4 with
  | false => exact (levels_nrz_length _).trans (prbs13_length _ _)
  | true => rw [trainPattern, levels_pam4_length, prbs13_length]; rfl

/-- R96: in a frame that is sent, the first symbol of each eight behind the marker tells a bit of its fields. -/
theorem trainSymbols_bit (pam4 : Bool) (n control status : Nat) {i : Nat} (h : i < 40) :
    ((trainSymbols pam4 n control status).getD (64 + 8 * i) 0 == 3) = (frameBits control status).getD i false := by
  rw [trainSymbols, List.getD_append _ _ _ _ (by rw [frameHead_length]; omega), frameHead_eq,
    List.getD_append_right _ _ _ _ (Nat.le_add_right 64 _), ← flatMap_bitSymbols_getD]
  exact congrArg (fun k => List.getD _ k 0 == 3) (Nat.add_sub_cancel_left 64 _)

theorem fieldAt_control (pam4 : Bool) (n status : Nat) {control : Nat} (h : control < 2 ^ 16) :
    fieldAt (trainSymbols pam4 n control status) 64 = control := by
  refine .trans (congrArg bitsNat (List.map_congr_left fun i hi => ?_))
    ((bitsNat_fieldBits 16 _).trans (Nat.mod_eq_of_lt h))
  have hi := List.mem_range.mp hi
  rw [trainSymbols_bit _ _ _ _ (by omega), frameBits, List.append_assoc,
    List.getD_append _ _ _ _ (by rw [fieldBits_length]; exact hi), fieldBits_getD hi]

theorem fieldAt_status (pam4 : Bool) (n control : Nat) {status : Nat} (h : status < 2 ^ 16) :
    fieldAt (trainSymbols pam4 n control status) 192 = status := by
  refine .trans (congrArg bitsNat (List.map_congr_left fun i hi => ?_))
    ((bitsNat_fieldBits 16 _).trans (Nat.mod_eq_of_lt h))
  have hi := List.mem_range.mp hi
  have ho : 192 + 8 * i = 64 + 8 * (16 + i) := by omega
  rw [ho, trainSymbols_bit _ _ _ _ (by omega), frameBits, List.append_assoc,
    List.getD_append_right _ _ _ _ (by rw [fieldBits_length]; omega), fieldBits_length, Nat.add_sub_cancel_left,
    List.getD_append _ _ _ _ (by rw [fieldBits_length]; exact hi), fieldBits_getD hi]

end Sys2Proof.Machine

open Sys2Proof Sys2Proof.Machine

/-- Settles O60: the fields' bits stand in the frame at the places at which they are read, and the head of the frame is the
one that the fields give. -/
theorem trainingFramesRoundTrip : Obligations.TrainingFramesRoundTrip := by
  intro pam4 n control status hc hs
  constructor
  · rw [trainSymbols, List.length_append, frameHead_length, trainPattern_length]
  · have head : (trainSymbols pam4 n control status).take 384 = frameHead control status :=
      List.take_left' (frameHead_length control status)
    simp only [readFrame, fieldAt_control _ _ _ hc, fieldAt_status _ _ _ hs, head, if_true]
end

section
/-! PROOFS. A lane in DATA in near-end parallel loopback loses no signal (R84, R128). -/

namespace Sys2Proof.Machine

/-- R128: a near-end parallel loopback ignores the receiver's input, and so the loss of its signal. -/
theorem State.signalLoss_parallel {s : State} {n : Nat} (h : s.loopMode n = 2) : s.signalLoss n = s :=
  if_neg (by simp [h])

/-- Lane 0 in DATA, in near-end parallel loopback. -/
def loopedDataState : State :=
  (State.reset.fset .LANE_STAT 0 fLANE_STAT_STATE lDATA).fset .LANE_LOOP 0 fLANE_LOOP_MODE 2

theorem loopedDataState_stat : loopedDataState.laneState 0 = lDATA ∧ loopedDataState.loopMode 0 = 2 := by decide +kernel

/-- There the report of a loss of signal leaves the lane in DATA. -/
theorem loopedDataState_stays {t : State} (h : exec (.signalLoss 0) loopedDataState = .next t) :
    t.laneState 0 = lDATA := by
  obtain ⟨hdata, hloop⟩ := loopedDataState_stat
  have he : exec (.signalLoss 0) loopedDataState = .next (loopedDataState.after loopedDataState) :=
    congrArg loopedDataState.done (State.signalLoss_parallel hloop)
  obtain rfl := Host.Outcome.next.inj (he.symm.trans h)
  exact ((Keeps.after rfl rfl).fget (by decide) 0 _).trans hdata

end Sys2Proof.Machine

open Sys2Proof Sys2Proof.Machine

/-- Refutes O12: its last clause takes every lane in DATA to BLIND at a loss of signal, but in near-end parallel loopback
the receiver's input is ignored (R128), and the lane stays in DATA. -/
theorem not_laneLocksAndTimers : ¬ Obligations.LaneLocksAndTimers := by
  unfold Obligations.LaneLocksAndTimers
  rintro ⟨-, timers⟩
  obtain ⟨-, -, -, -, -, -, loss⟩ := timers 0 loopedDataState rfl
  obtain ⟨t, ht, hblind, -⟩ := loss loopedDataState_stat.1
  exact absurd ((loopedDataState_stays ht).symm.trans hblind) (by decide)
end

section
/-! PROOFS. Received ordered sets and FEC codewords: what they show and count (R128, R202, R205, R209, R210). -/

namespace Sys2Proof.Machine

theorem State.fbit_fsetB_same (s : State) (id : RegId) (i : Nat) (f : Field) (b : Bool) (h : f.lo + f.w ≤ 64)
    (hw : 0 < f.w) : (s.fsetB id i f b).fbit id i f = b := by
  cases b with
  | true => exact s.fbit_flag_same id i f h hw
  | false => exact s.fbit_clear_same id i f h

theorem State.fbit_fset_field (s : State) (id : RegId) (i j : Nat) (f g : Field) (n : Nat)
    (h : f.lo + f.w ≤ g.lo ∨ g.lo + g.w ≤ f.lo) : (s.fset id i g n).fbit id j f = s.fbit id j f := by
  rw [State.fbit, State.fbit, State.fget_fset_field _ _ _ _ _ _ _ h]

theorem State.fget_satAdd (s : State) (id : RegId) (i : Nat) (f : Field) (n : Nat) (h : f.lo + f.w ≤ 64) :
    (s.satAdd id i f n).fget id i f = min (2 ^ f.w - 1) (s.fget id i f + n) := by
  rw [State.satAdd, State.fget_fset_same _ _ _ _ _ h, Nat.mod_eq_of_lt]
  have := Nat.two_pow_pos f.w
  omega

-- Ordered sets

/-- Ordered sets of a kind stand in PORT_MAC_STAT and, where they start, in PORT_MAC_EVT. -/
def State.faultShown (s : State) (p kind : Nat) : State :=
  let t := (s.fsetB .PORT_MAC_STAT p fPORT_MAC_STAT_RX_LF (kind == 1)).fsetB .PORT_MAC_STAT p fPORT_MAC_STAT_RX_RF
    (kind == 2)
  let t := if kind == 1 && !s.fbit .PORT_MAC_STAT p fPORT_MAC_STAT_RX_LF then t.flag .PORT_MAC_EVT p fPORT_MAC_EVT_RX_LF
    else t
  if kind == 2 && !s.fbit .PORT_MAC_STAT p fPORT_MAC_STAT_RX_RF then t.flag .PORT_MAC_EVT p fPORT_MAC_EVT_RX_RF else t

theorem State.faultShown_stat (s : State) (p kind : Nat) :
    (s.faultShown p kind).fbit .PORT_MAC_STAT p fPORT_MAC_STAT_RX_LF = (kind == 1) ∧
      (s.faultShown p kind).fbit .PORT_MAC_STAT p fPORT_MAC_STAT_RX_RF = (kind == 2) := by
  let t := (s.fsetB .PORT_MAC_STAT p fPORT_MAC_STAT_RX_LF (kind == 1)).fsetB .PORT_MAC_STAT p fPORT_MAC_STAT_RX_RF
    (kind == 2)
  have evt {u : State} (h : Writes [.PORT_MAC_EVT] t u) (f : Field) :
      Writes [.PORT_MAC_EVT] t (u.flag .PORT_MAC_EVT p f) :=
    h.fset p _ _ (by decide)
  have hw : Writes [.PORT_MAC_EVT] t (s.faultShown p kind) :=
    .ite (evt (.ite (evt (.refl t) _) (.refl t)) _) (.ite (evt (.refl t) _) (.refl t))
  rw [hw.fbit (by decide), hw.fbit (by decide)]
  exact ⟨(State.fbit_fset_field _ _ _ _ _ _ _ (by decide)).trans (s.fbit_fsetB_same _ _ _ _ (by decide) (by decide)),
    State.fbit_fsetB_same _ _ _ _ _ (by decide) (by decide)⟩

/-- R202: a local fault that starts sets its event. -/
theorem State.faultShown_evt {s : State} {p : Nat} (h : s.fbit .PORT_MAC_STAT p fPORT_MAC_STAT_RX_LF = false) :
    (s.faultShown p 1).fbit .PORT_MAC_EVT p fPORT_MAC_EVT_RX_LF = true := by
  have e : s.faultShown p 1 = ((s.fsetB .PORT_MAC_STAT p fPORT_MAC_STAT_RX_LF true).fsetB .PORT_MAC_STAT p
      fPORT_MAC_STAT_RX_RF false).flag .PORT_MAC_EVT p fPORT_MAC_EVT_RX_LF := by
    unfold State.faultShown
    rw [h]
    rfl
  rw [e]
  exact State.fbit_flag_same _ _ _ _ (by decide) (by decide)

/-- R128, R129: beside what is echoed, a port that hears whole ordered sets shows them, and another changes nothing. -/
theorem State.faultRx_eq (s : State) (p kind : Nat) :
    ∃ l, s.faultRx p kind = if s.portNear p && !s.portLooped p then s.withLanes l
      else (s.withLanes l).faultShown p (s.faultKind p kind) := by
  obtain ⟨l, hl, -⟩ := s.echo_lanes p (orderedSet kind)
  refine ⟨l, ?_⟩
  unfold State.faultRx
  rw [hl]
  rfl

theorem faultRx_answers (p : Fin 16) (kind : Fin 3) (s : State) :
    Effect (.faultOrderedSetRx p kind) s fun u =>
      if s.portNear p = true ∧ s.portLooped p = false then u.rget .PORT_MAC_STAT p = s.rget .PORT_MAC_STAT p
      else
        u.fbit .PORT_MAC_STAT p fPORT_MAC_STAT_RX_LF = (s.faultKind p kind == 1) ∧
        u.fbit .PORT_MAC_STAT p fPORT_MAC_STAT_RX_RF = (s.faultKind p kind == 2) ∧
        (s.faultKind p kind = 1 → s.fbit .PORT_MAC_STAT p fPORT_MAC_STAT_RX_LF = false →
          u.fbit .PORT_MAC_EVT p fPORT_MAC_EVT_RX_LF = true) := by
  obtain ⟨l, hl⟩ := s.faultRx_eq p kind
  have hc : (s.portNear p && !s.portLooped p) = true ↔ s.portNear p = true ∧ s.portLooped p = false := by simp
  refine effect_done rfl ?_
  rw [hl]
  by_cases h : s.portNear p = true ∧ s.portLooped p = false
  · rw [if_pos h, if_pos (hc.mpr h)]
    rfl
  · rw [if_neg h, if_neg fun c => h (hc.mp c)]
    obtain ⟨hlf, hrf⟩ := (s.withLanes l).faultShown_stat p (s.faultKind p kind)
    refine ⟨hlf, hrf, fun hk hwas => ?_⟩
    rw [hk]
    exact State.faultShown_evt (s := s.withLanes l) hwas

-- Codewords

section
variable {s : State} {p : Nat} (hf : s.portFec p = true) (hu : s.portUsed p = true)
  (hl : s.fbit .PORT_FEC_STAT p fPORT_FEC_STAT_LOCKED = true)
include hf hu hl

/-- R205: an uncorrectable codeword. -/
theorem State.fecDecode_none : s.fecDecode p none =
    ((s.modMac p (fun m => { m with fecCw := m.fecCw + 1 })).count .PORT_FEC_CNT p fPORT_FEC_CNT_UNCORR_CW).flag
      .PORT_FEC_EVT p fPORT_FEC_EVT_UNCORR :=
  if_neg (by simp [hf, hu, hl])

/-- R205: a codeword with corrected symbols counts as one, and its symbols by lane and by their number. -/
theorem State.fecDecode_corrected {l : List Nat} (hlen : l.length ≤ (s.portLanes p).length) (h0 : 0 < l.sum)
    (h15 : l.sum ≤ 15) : s.fecDecode p (some l) =
      ((((((s.modMac p (fun m => { m with fecCw := m.fecCw + 1 })).count .PORT_FEC_CNT p fPORT_FEC_CNT_CORR_CW).satAdd
        .PORT_FEC_SYM p fPORT_FEC_SYM_CORR_SYM l.sum).forEach l.zipIdx
        (fun s e => s.satAdd .PORT_FEC_LANE (p * 8 + e.2) fPORT_FEC_LANE_SYM e.1)).count .PORT_FEC_HIST
        (p * 15 + (l.sum - 1)) fPORT_FEC_HIST_CW).modMac p (fun m => { m with fecSym := m.fecSym + l.sum })) := by
  have hn : ¬ (decide (l.sum = 0) || decide (15 < l.sum)) = true := by simp; omega
  have hlanes : (s.modMac p (fun m => { m with fecCw := m.fecCw + 1 })).portLanes p = s.portLanes p := rfl
  unfold State.fecDecode
  rw [if_neg (by simp [hf, hu, hl])]
  dsimp only
  rw [hlanes, List.take_of_length_le hlen, if_neg hn]

end

theorem fecDecode_uncorrectable {p : Fin 16} {s : State} (ha : s.bootU.asserted = false) (hf : s.portFec p = true)
    (hu : s.portUsed p = true) (hl : s.fbit .PORT_FEC_STAT p fPORT_FEC_STAT_LOCKED = true) :
    Answers (.fecCodewordDecode p none) s fun t =>
      t.fget .PORT_FEC_CNT p fPORT_FEC_CNT_UNCORR_CW =
        min (2 ^ 32 - 1) (s.fget .PORT_FEC_CNT p fPORT_FEC_CNT_UNCORR_CW + 1) ∧
      t.fget .PORT_FEC_CNT p fPORT_FEC_CNT_CORR_CW = s.fget .PORT_FEC_CNT p fPORT_FEC_CNT_CORR_CW := by
  let a := s.modMac p (fun m => { m with fecCw := m.fecCw + 1 })
  have hk : Keeps [.PORT_FEC_EVT] (a.count .PORT_FEC_CNT p fPORT_FEC_CNT_UNCORR_CW)
      ((a.count .PORT_FEC_CNT p fPORT_FEC_CNT_UNCORR_CW).flag .PORT_FEC_EVT p fPORT_FEC_EVT_UNCORR) :=
    (Keeps.refl _).flag p _ (by decide)
  refine answers_done (congrArg s.done (State.fecDecode_none hf hu hl)) ?_
  have h := (hk.mono (R' := afterRegs) (by decide)).trans (Keeps.after ha rfl)
  rw [h.fget (by decide), h.fget (by decide)]
  exact ⟨a.fget_count _ _ _ (by decide), State.fget_fset_field _ _ _ _ _ _ _ (by decide)⟩

theorem fecDecode_counts {p : Fin 16} {s : State} (ha : s.bootU.asserted = false) (hf : s.portFec p = true)
    (hu : s.portUsed p = true) (hl : s.fbit .PORT_FEC_STAT p fPORT_FEC_STAT_LOCKED = true) {l : List Nat}
    (hlen : l.length ≤ (s.portLanes p).length) (h0 : 0 < l.sum) (h15 : l.sum ≤ 15) :
    Answers (.fecCodewordDecode p (some l)) s fun t =>
      t.fget .PORT_FEC_CNT p fPORT_FEC_CNT_CORR_CW =
        min (2 ^ 32 - 1) (s.fget .PORT_FEC_CNT p fPORT_FEC_CNT_CORR_CW + 1) ∧
      t.fget .PORT_FEC_SYM p fPORT_FEC_SYM_CORR_SYM =
        min (2 ^ 48 - 1) (s.fget .PORT_FEC_SYM p fPORT_FEC_SYM_CORR_SYM + l.sum) ∧
      t.fget .PORT_FEC_CNT p fPORT_FEC_CNT_UNCORR_CW = s.fget .PORT_FEC_CNT p fPORT_FEC_CNT_UNCORR_CW := by
  let a := (s.modMac p (fun m => { m with fecCw := m.fecCw + 1 })).count .PORT_FEC_CNT p fPORT_FEC_CNT_CORR_CW
  let b := a.satAdd .PORT_FEC_SYM p fPORT_FEC_SYM_CORR_SYM l.sum
  have hab : Keeps [.PORT_FEC_SYM] a b := (Keeps.refl a).fset p _ _ (by decide)
  have lanes : Keeps [.PORT_FEC_LANE, .PORT_FEC_HIST] b
      (b.forEach l.zipIdx (fun s e => s.satAdd .PORT_FEC_LANE (p * 8 + e.2) fPORT_FEC_LANE_SYM e.1)) :=
    .forEach _ (fun u e => (Keeps.refl u).fset _ _ _ (by decide)) (.refl b)
  have hk := (lanes.count (id := .PORT_FEC_HIST) (p * 15 + (l.sum - 1)) fPORT_FEC_HIST_CW (by decide)).modMac p
    fun m => { m with fecSym := m.fecSym + l.sum }
  refine answers_done (congrArg s.done (State.fecDecode_corrected hf hu hl hlen h0 h15)) ?_
  have h := (hk.mono (R' := [.PORT_FEC_LANE, .PORT_FEC_HIST] ++ afterRegs) (by decide)).trans
    ((Keeps.after ha (hk.sleep.trans rfl)).mono (by decide))
  rw [h.fget (by decide), h.fget (by decide), h.fget (by decide), hab.fget (id := .PORT_FEC_CNT) (by decide),
    hab.fget (id := .PORT_FEC_CNT) (by decide)]
  refine ⟨State.fget_count _ _ _ _ (by decide), (a.fget_satAdd _ _ _ _ (by decide)).trans ?_,
    State.fget_fset_field _ _ _ _ _ _ _ (by decide)⟩
  exact congrArg (fun k => min (2 ^ 48 - 1) (k + l.sum)) (State.fget_fset_reg _ _ _ _ (by simp))

/-- R209, R210: the window that ends starts the next one, and its corrected symbols set or clear DEGRADED. -/
theorem State.fecWindow_stat {s : State} {p : Nat} (hc : 8192 ≤ (s.mac p).fecCw) (hf : s.portFec p = true) :
    ((s.fecWindow p).mac p).fecCw = 0 ∧ ((s.fecWindow p).mac p).fecSym = 0 ∧
      (s.fecWindow p).fbit .PORT_FEC_STAT p fPORT_FEC_STAT_DEGRADED =
        (s.fget .PORT_FEC_CFG p fPORT_FEC_CFG_DEGRADE_THR != 0 &&
          decide (s.fget .PORT_FEC_CFG p fPORT_FEC_CFG_DEGRADE_THR < (s.mac p).fecSym)) := by
  let d := s.fget .PORT_FEC_CFG p fPORT_FEC_CFG_DEGRADE_THR != 0 &&
    decide (s.fget .PORT_FEC_CFG p fPORT_FEC_CFG_DEGRADE_THR < (s.mac p).fecSym)
  let a := (s.setMac p { s.mac p with fecCw := 0, fecSym := 0 }).fsetB .PORT_FEC_STAT p fPORT_FEC_STAT_DEGRADED d
  have e : s.fecWindow p = if d && !s.fbit .PORT_FEC_STAT p fPORT_FEC_STAT_DEGRADED then
      a.flag .PORT_FEC_EVT p fPORT_FEC_EVT_DEGRADE else a :=
    if_neg (by simp [hf]; omega)
  have hm : (s.fecWindow p).mac p = { s.mac p with fecCw := 0, fecSym := 0 } := by
    have ha : a.mac p = { s.mac p with fecCw := 0, fecSym := 0 } := (s.mac_setMac p p _).trans (if_pos rfl)
    rw [e, ← ha]
    split <;> rfl
  have hw : Writes [.PORT_FEC_EVT] a (s.fecWindow p) := by
    rw [e]
    exact .ite ((Writes.refl a).fset p _ _ (by decide)) (.refl a)
  rw [hm, hw.fbit (by decide)]
  exact ⟨rfl, rfl, State.fbit_fsetB_same _ _ _ _ _ (by decide) (by decide)⟩

end Sys2Proof.Machine

open Sys2Proof Sys2Proof.Machine

/-- Settles O18: the ordered sets show as the port hears them, and the counters and the window follow the codewords. -/
theorem faultsAndFecCount : Obligations.FaultsAndFecCount := by
  intro p s ha
  refine ⟨fun kind => faultRx_answers p kind s, fun kind => ?_, fun hf hu hl => ⟨fecDecode_uncorrectable ha hf hu hl,
    fun l hlen h0 h15 => fecDecode_counts ha hf hu hl hlen h0 h15⟩,
    fun hc hf => effect_done rfl (State.fecWindow_stat hc hf)⟩
  unfold State.faultKind
  cases s.portLooped p <;> rfl
end

section
/-! PROOFS. A write that the control port serves, seen from the command's next state. -/

namespace Sys2Proof.Machine

/-- A served write's next state keeps what the write of the register leaves, but for GEN_ACC_ERR and what follows. -/
theorem State.ctWrite_after {s : State} {id : RegId} {i : Nat} {v : Word} (h : s.serves id i = true)
    (hs : (s.written id i v).power.sleep = s.power.sleep) :
    Keeps (.GEN_ACC_ERR :: afterRegs) (s.written id i v) (s.after (s.ctWrite id i v)) := by
  have hc : Keeps [.GEN_ACC_ERR] (s.written id i v) (s.ctWrite id i v) := by
    rw [State.ctWrite_serves v h]
    exact (s.tracked_keeps _ _).raw rfl rfl
  exact (hc.mono (by decide)).trans ((Keeps.after (State.serves_asserted h) (hc.sleep.trans hs)).mono (by decide))

/-- A bit of GEN_ACC_ERR that the write sets stands in the next state. -/
theorem State.ctWrite_after_accErr {s : State} {id : RegId} {i : Nat} {v : Word} (h : s.serves id i = true)
    (hs : (s.written id i v).power.sleep = s.power.sleep) {f : Field}
    (hf : f.lo + f.w ≤ fGEN_ACC_ERR_FIRST_OFF.lo ∨ fGEN_ACC_ERR_FIRST_OFF.lo + fGEN_ACC_ERR_FIRST_OFF.w ≤ f.lo)
    (hb : (s.written id i v).fbit .GEN_ACC_ERR 0 f = true) :
    (s.after (s.ctWrite id i v)).fbit .GEN_ACC_ERR 0 f = true := by
  have hc : (s.ctWrite id i v).power.sleep = s.power.sleep := (State.ctWrite_kept v h).2.trans hs
  rw [(Keeps.after (State.serves_asserted h) hc).fbit (by decide), State.ctWrite_serves v h]
  exact (State.tracked_fbit _ _ _ f hf).trans hb

/-- The state in which a served write acts: the staging latch of the register is empty (R24). -/
def State.unstaged (s : State) (id : RegId) (i : Nat) : State := { s with staged := s.staged.del (rkey id i) }

theorem State.written_acts {s : State} {id : RegId} {i : Nat} {v : Word}
    (h : (s.unstaged id i).encBad id i (carried id v) = []) :
    s.written id i v = (s.unstaged id i).actWrite id i (carried id v) := State.writeReg_ok _ _ _ _ h

theorem Keeps.unstaged {R : List RegId} {s t : State} {id : RegId} {i : Nat} (h : Keeps R (s.unstaged id i) t) :
    Keeps R s t := ⟨h.spine, h.regs⟩

-- Bits of a word that a mask leaves

theorem Field.get_and (f : Field) (v m : Word) (h : f.get m = 2 ^ f.w - 1) : f.get (v &&& m) = f.get v := by
  refine Nat.eq_of_testBit_eq fun k => ?_
  have hm := congrArg (·.testBit k) h
  simp only [Field.testBit_get, Nat.testBit_two_pow_sub_one] at hm
  simp only [Field.testBit_get, BitVec.getLsbD_and]
  by_cases hk : k < f.w
  · simp only [hk, decide_true, Bool.true_and] at hm ⊢
    rw [hm, Bool.and_true]
  · simp [hk]

theorem low32_and_mask (v : Word) {m : Word} (h : low32 m = m) : low32 v &&& m = v &&& m := by rw [low32_and, h]

-- Operations over lists

theorem Keeps.forEach_mem {R : List RegId} {α : Type} {l : List α} {f : State → α → State}
    (hf : ∀ x ∈ l, ∀ u, Keeps R u (f u x)) (s : State) : Keeps R s (s.forEach l f) := by
  induction l generalizing s with
  | nil => exact .refl s
  | cons x l ih =>
    exact (hf x (List.mem_cons_self ..) s).trans (ih (fun y hy => hf y (List.mem_cons_of_mem _ hy)) _)

theorem Writes.portLanes {R : List RegId} {s t : State} (h : Writes R s t) (hR : .COURSE_PORT_MAP ∉ R) (p : Nat) :
    t.portLanes p = s.portLanes p := by
  have hm (c : Nat) : t.portMap c = s.portMap c := h _ hR c
  have hp (c : Nat) : t.paired c = s.paired c := by rw [State.paired, State.paired, hm]
  rw [State.portLanes, State.portLanes, hp, hm]

end Sys2Proof.Machine
end

section
/-! PROOFS. The port map, the port mode, marker lock and skew (R122 to R126, R195 to R198, R208, R225, R229). -/

namespace Sys2Proof.Machine

-- The port map

/-- What a port map that is taken writes beside COURSE_PORT_MAP: the parse registers of a pair's odd course, and the
counters of ports whose width changes. -/
def mapRegs : List RegId :=
  [.COURSE_PARSE_CFG, .COURSE_UDP_PORTS, .COURSE_SLOW_CFG, .COURSE_KSEL, .COURSE_KPROF, .STATS_PORT, .PORT_ADM_DROP,
    .PORT_DIAG_CNT, .PORT_LPM_CNT, .SEAL_PORT_CNT, .SEAL_PORT_ERR, .PORT_FEC_CNT, .PORT_FEC_SYM, .PORT_FEC_LANE,
    .PORT_FEC_HIST]

theorem State.copyParse_keeps (s : State) (c : Nat) : Keeps mapRegs s (s.copyParse c) :=
  Keeps.forEach_mem (fun r hr u => .forEach _ (fun w i => (Keeps.refl w).rset _ _
    ((by decide : ∀ r ∈ pairRegs, r.1 ∈ mapRegs) r hr)) (.refl u)) s

theorem State.fecClear_keeps (s : State) (p : Nat) : Keeps mapRegs s (s.fecClear p) :=
  .forEach _ (fun u k => (Keeps.refl u).rset _ _ (by decide))
    (.forEach _ (fun u k => (Keeps.refl u).rset _ _ (by decide))
    (((Keeps.refl s).rset p 0 (by decide)).rset p 0 (by decide)))

theorem State.portGone_keeps (s : State) (p : Nat) : Keeps mapRegs s (s.portGone p) := by
  have stats (u : State) : Keeps mapRegs u (u.forEach (List.range 64) (fun s k => s.rset .STATS_PORT (p * 64 + k) 0)) :=
    .forEach _ (fun w k => (Keeps.refl w).rset _ _ (by decide)) (.refl u)
  have drops (u : State) :
      Keeps mapRegs u (u.forEach (List.range 8) (fun s i => s.rset .PORT_ADM_DROP (acctOf p i) 0)) :=
    .forEach _ (fun w i => (Keeps.refl w).rset _ _ (by decide)) (.refl u)
  have own (u : State) : Keeps mapRegs u
      (u.forEach [RegId.PORT_DIAG_CNT, .PORT_LPM_CNT, .SEAL_PORT_CNT, .SEAL_PORT_ERR] (fun s id => s.rset id p 0)) :=
    .forEach_mem (fun id hid w => (Keeps.refl w).rset _ _ ((by decide : ∀ id ∈ [RegId.PORT_DIAG_CNT, .PORT_LPM_CNT,
      .SEAL_PORT_CNT, .SEAL_PORT_ERR], id ∈ mapRegs) id hid)) u
  exact (((stats s).trans (drops _)).trans (own _)).trans (State.fecClear_keeps _ p)

theorem State.fecWidth_keeps (s : State) (p : Nat) : Keeps mapRegs s (s.fecWidth p) :=
  .ite (.forEach _ (fun u k => (Keeps.refl u).rset _ _ (by decide)) (.refl s)) ((s.fecClear_keeps p).modMac p _)

theorem State.mapCause_le (s : State) (c : Nat) (w : Word) : s.mapCause c w ≤ 6 := by
  unfold State.mapCause
  dsimp only
  split_ifs <;> decide

/-- R195, R197: a map without a cause against it is stored. -/
theorem State.portMapWrite_taken {s : State} {c : Nat} {w : Word} (h : s.mapCause c (w &&& 0x1FFFFFFF) = 0) :
    Keeps mapRegs (s.rset .COURSE_PORT_MAP c (w &&& 0x1FFFFFFF)) (s.portMapWrite c w) := by
  unfold State.portMapWrite
  dsimp only
  rw [h, if_neg (by decide)]
  have copy (t : State) (b : Bool) : Keeps mapRegs t (if b then t.copyParse c else t) :=
    .ite (t.copyParse_keeps c) (.refl t)
  have pace (t : State) (l : List Nat) : Keeps mapRegs t (t.forEach l State.paceReset) :=
    .forEach _ (fun u p => (Keeps.refl u).modMac p _) (.refl t)
  exact (((copy _ _).trans (.forEach _ (fun u p => u.portGone_keeps p) (.refl _))).trans
    (.forEach _ (fun u p => u.fecWidth_keeps p) (.refl _))).trans (pace _ _)

/-- R196: a map with a cause against it is refused, with the cause. -/
theorem State.portMapWrite_refused {s : State} {c : Nat} {w : Word} (h : s.mapCause c (w &&& 0x1FFFFFFF) ≠ 0) :
    s.portMapWrite c w = (s.flag .COURSE_MAP_STAT c fCOURSE_MAP_STAT_REFUSED).fset .COURSE_MAP_STAT c
      fCOURSE_MAP_STAT_CAUSE (s.mapCause c (w &&& 0x1FFFFFFF)) := if_pos (by simpa using h)

theorem portMapWrite_answers {c : Fin 4} {v : Word} {s : State} (h : s.serves .COURSE_PORT_MAP c = true) :
    Answers (.portMapWrite c v) s fun t =>
      if s.mapCause c (v &&& 0x1FFFFFFF) = 0 then t.portMap c = v &&& 0x1FFFFFFF
      else t.portMap c = s.portMap c ∧ t.fbit .COURSE_MAP_STAT c fCOURSE_MAP_STAT_REFUSED = true ∧
        t.fget .COURSE_MAP_STAT c fCOURSE_MAP_STAT_CAUSE = s.mapCause c (v &&& 0x1FFFFFFF) := by
  let u := s.unstaged .COURSE_PORT_MAP c
  have hw : s.written .COURSE_PORT_MAP c v = u.portMapWrite c (carried .COURSE_PORT_MAP v) := State.written_acts rfl
  have hv : carried .COURSE_PORT_MAP v &&& 0x1FFFFFFF = v &&& 0x1FFFFFFF := low32_and_mask v (by decide)
  refine answers_done rfl (ite_prop_iff_and.mpr ⟨fun hc => ?_, fun hc => ?_⟩)
  · have hk := State.portMapWrite_taken (s := u) (w := carried .COURSE_PORT_MAP v) (by rw [hv]; exact hc)
    rw [← hw, hv] at hk
    have ht := (State.ctWrite_after h hk.sleep).regs .COURSE_PORT_MAP (by decide) c
    exact ht.trans ((hk.regs _ (by decide) c).trans (u.rget_rset_same _ _ _))
  · have he := State.portMapWrite_refused (s := u) (w := carried .COURSE_PORT_MAP v) (by rw [hv]; exact hc)
    rw [← hw, hv] at he
    have hk : Keeps [.COURSE_MAP_STAT] s (s.written .COURSE_PORT_MAP c v) := by
      rw [he]
      exact .unstaged (((Keeps.refl u).flag c _ (by decide)).fset c _ _ (by decide))
    have ht := State.ctWrite_after h hk.sleep
    refine ⟨(ht.regs _ (by decide) c).trans (hk.regs _ (by decide) c), ?_, ?_⟩
    · rw [ht.fbit (by decide), he, State.fbit_fset_field _ _ _ _ _ _ _ (by decide)]
      exact u.fbit_flag_same _ _ _ (by decide) (by decide)
    · rw [ht.fget (by decide), he, State.fget_fset_same _ _ _ _ _ (by decide)]
      exact Nat.mod_eq_of_lt (Nat.lt_of_le_of_lt (s.mapCause_le c _) (by decide))

-- The port mode

/-- What a port that leaves TEST writes. -/
def testRegs : List RegId := [.PORT_FEC_CFG, .PORT_FEC_STAT, .LANE_PATTERN]

/-- R137, R208: leaving TEST ends the bypass of corrections, and the patterns of the port's lanes. -/
theorem State.leaveTest_stat (s : State) (p : Nat) :
    Keeps testRegs s (s.leaveTest p) ∧ (s.leaveTest p).fbit .PORT_FEC_CFG p fPORT_FEC_CFG_BYPASS_CORR = false ∧
      ∀ n ∈ s.portLanes p, (s.leaveTest p).fget .LANE_PATTERN n fLANE_PATTERN_GEN = 0 ∧
        (s.leaveTest p).fget .LANE_PATTERN n fLANE_PATTERN_CHK = 0 := by
  let a := s.fset .PORT_FEC_CFG p fPORT_FEC_CFG_BYPASS_CORR 0
  let b := a.fset .PORT_FEC_STAT p fPORT_FEC_STAT_BYPASSING 0
  let clear (u : State) (n : Nat) : State :=
    (u.fset .LANE_PATTERN n fLANE_PATTERN_GEN 0).fset .LANE_PATTERN n fLANE_PATTERN_CHK 0
  have hsb : Keeps testRegs s b := ((Keeps.refl s).fset p _ _ (by decide)).fset p _ _ (by decide)
  have hl : b.portLanes p = s.portLanes p := (Writes.of_keeps hsb).portLanes (by decide) p
  have he : s.leaveTest p = b.forEach (s.portLanes p) clear := by rw [← hl]; rfl
  have hb : Keeps [.LANE_PATTERN] b (s.leaveTest p) := by
    rw [he]
    exact .forEach _ (fun u n => ((Keeps.refl u).fset n _ _ (by decide)).fset n _ _ (by decide)) (.refl b)
  have ha : Keeps [.PORT_FEC_STAT, .LANE_PATTERN] a (s.leaveTest p) :=
    .trans ((Keeps.refl a).fset p _ _ (by decide)) (hb.mono (by decide))
  refine ⟨hsb.trans (hb.mono (by decide)), ?_, fun n hn => ?_⟩
  · rw [ha.fbit (by decide)]
    exact s.fbit_clear_same _ _ _ (by decide)
  · rw [he]
    refine State.forEach_each
      (P := fun n u => u.fget .LANE_PATTERN n fLANE_PATTERN_GEN = 0 ∧ u.fget .LANE_PATTERN n fLANE_PATTERN_CHK = 0)
      (fun u n => ⟨?_, State.fget_fset_same _ _ _ _ 0 (by decide)⟩) (fun u n m _ _ hm hc => ?_) b hn
    · exact (State.fget_fset_field _ _ _ _ _ _ _ (by decide)).trans (State.fget_fset_same _ _ _ _ 0 (by decide))
    · have hk : (clear u n).rget .LANE_PATTERN m = u.rget .LANE_PATTERN m :=
        (State.rget_fset_ne _ _ _ fun e => hm e.2.symm).trans (State.rget_fset_ne _ _ _ fun e => hm e.2.symm)
      simp only [State.fget] at hc ⊢
      rw [hk]
      exact hc

theorem portModeWrite_answers {p : Fin 16} {v : Word} {s : State} (h : s.serves .PORT_MODE p = true) :
    Answers (.portModeWrite p v) s fun t =>
      t.rget .PORT_MODE p = v &&& 0xF ∧
      (s.portMode p = 2 → fPORT_MODE_MODE.get v ≠ 2 →
        t.fbit .PORT_FEC_CFG p fPORT_FEC_CFG_BYPASS_CORR = false ∧
        (s.portLanes p).all (fun n => t.fget .LANE_PATTERN n fLANE_PATTERN_GEN == 0 &&
          t.fget .LANE_PATTERN n fLANE_PATTERN_CHK == 0) = true) := by
  let u := (s.unstaged .PORT_MODE p).rset .PORT_MODE p (v &&& 0xF)
  have hv : carried .PORT_MODE v &&& 0xF = v &&& 0xF := low32_and_mask v (by decide)
  have hmode : u.portMode p = fPORT_MODE_MODE.get v := by
    rw [State.portMode, State.fget, State.rget_rset_same, Field.get_and _ _ _ (by decide)]
  have hw : s.written .PORT_MODE p v = if s.portMode p == 2 && u.portMode p != 2 then u.leaveTest p else u := by
    rw [State.written_acts rfl]
    show State.portModeWrite _ _ _ = _
    rw [State.portModeWrite, hv]
    rfl
  have hk : Keeps testRegs u (s.written .PORT_MODE p v) := by
    rw [hw]
    exact .ite (u.leaveTest_stat p).1 (.refl u)
  have ht := State.ctWrite_after h hk.sleep
  refine answers_done rfl ⟨?_, fun hwas hnow => ?_⟩
  · exact (ht.regs _ (by decide) p).trans ((hk.regs _ (by decide) p).trans (State.rget_rset_same _ _ _ _))
  · obtain ⟨-, hcorr, hlanes⟩ := u.leaveTest_stat p
    have hl : u.portLanes p = s.portLanes p := by
      have hs : Writes [.PORT_MODE] s u := Writes.of_keeps (.unstaged ((Keeps.refl _).rset p _ (by decide)))
      exact hs.portLanes (by decide) p
    rw [if_pos (by simp [hwas, hmode, hnow])] at hw
    rw [ht.fbit (by decide), hw, List.all_eq_true]
    refine ⟨hcorr, fun n hn => ?_⟩
    obtain ⟨hgen, hchk⟩ := hlanes n (hl ▸ hn)
    rw [ht.fget (by decide), ht.fget (by decide), hw, hgen, hchk]
    rfl

-- Marker lock

theorem State.markers_stat {s : State} {p : Nat} (h : s.allData p = true) : (s.markers p).markerLock p = true := by
  rw [State.markers, if_pos h]
  exact s.fbit_flag_same _ _ _ (by decide) (by decide)

/-- R126: with marker lock the skews of the port's lanes are lost. -/
theorem State.markersLost_stat (s : State) (p : Nat) :
    (s.markersLost p).markerLock p = false ∧
      (s.portLanes p).all (fun n => !(s.markersLost p).fbit .LANE_SKEW n fLANE_SKEW_VALID) = true := by
  let a := s.fset .PORT_LINK_STAT p fPORT_LINK_STAT_MARKER_LOCK 0
  have hw : Writes [.LANE_SKEW] a (s.markersLost p) :=
    .forEach _ (fun u n => (Writes.refl u).fset n _ _ (by decide)) (.refl a)
  constructor
  · rw [State.markerLock, hw.fbit (by decide)]
    exact s.fbit_clear_same _ _ _ (by decide)
  · rw [List.all_eq_true]
    intro n hn
    rw [Bool.not_eq_true']
    refine State.forEach_each (P := fun n u => u.fbit .LANE_SKEW n fLANE_SKEW_VALID = false)
      (fun u n => u.fbit_clear_same _ _ _ (by decide)) (fun u n m _ _ hm hc => ?_) a hn
    rw [State.fbit, State.fget, State.rget_fset_ne _ _ _ fun e => hm e.2.symm]
    exact hc

-- Skew

theorem mapLanes_nodup (w : Word) (j : Nat) : (mapLanes w j).Nodup := List.nodup_range.filter _

theorem State.portLanes_nodup (s : State) (p : Nat) : (s.portLanes p).Nodup := by
  unfold State.portLanes
  split_ifs
  · exact List.nodup_range.map fun a b h => Nat.add_left_cancel h
  · exact List.nodup_nil
  · exact (mapLanes_nodup _ _).map fun a b h => Nat.add_left_cancel h

/-- The greatest of a list exceeds a bound where some element does. -/
theorem lt_foldl_max (m : Nat) (l : List Nat) (a : Nat) : m < l.foldl max a ↔ m < a ∨ ∃ k ∈ l, m < k := by
  induction l generalizing a with
  | nil => simp
  | cons k l ih => rw [List.foldl_cons, ih, lt_max_iff, List.exists_mem_cons_iff, or_assoc]

/-- A lane shows a skew as measured. -/
def State.skewShown (s : State) (e : Nat × Nat) : State :=
  (s.fset .LANE_SKEW e.1 fLANE_SKEW_SKEW_SYM (min 65535 e.2)).flag .LANE_SKEW e.1 fLANE_SKEW_VALID

/-- R123: a lane shows the skew measured for it. -/
def State.skewStands (u : State) (e : Nat × Nat) : Prop :=
  u.fbit .LANE_SKEW e.1 fLANE_SKEW_VALID = true ∧ u.fget .LANE_SKEW e.1 fLANE_SKEW_SKEW_SYM = min 65535 e.2

theorem State.skewShown_stands (u : State) (e : Nat × Nat) : (u.skewShown e).skewStands e := by
  refine ⟨State.fbit_flag_same _ _ _ _ (by decide) (by decide), ?_⟩
  refine (State.fget_fset_field _ _ _ _ _ _ _ (by decide)).trans ((State.fget_fset_same _ _ _ _ _ (by decide)).trans ?_)
  exact Nat.mod_eq_of_lt (Nat.lt_of_le_of_lt (Nat.min_le_left ..) (by decide))

theorem State.skewShown_other {u : State} {e d : Nat × Nat} (hne : d.1 ≠ e.1) (h : u.skewStands d) :
    (u.skewShown e).skewStands d := by
  have hk : (u.skewShown e).rget .LANE_SKEW d.1 = u.rget .LANE_SKEW d.1 :=
    (State.rget_fset_ne _ _ _ fun c => hne c.2.symm).trans (State.rget_fset_ne _ _ _ fun c => hne c.2.symm)
  unfold State.skewStands State.fbit State.fget at h ⊢
  rw [hk]
  exact h

/-- R123, R124: the greatest skew of a port whose lanes show their own, and its limit. -/
def State.skewLimited (s : State) (p rate top : Nat) : State :=
  let t := s.fset .PORT_LINK_STAT p fPORT_LINK_STAT_MAX_SKEW_PS
    (min 0xFFFFF ((top * 1000000000 + rateKbd rate / 2) / rateKbd rate))
  let big := decide (skewLimit rate < top)
  let v := t.fsetB .PORT_LINK_STAT p fPORT_LINK_STAT_SKEW_OVER big
  if big && !t.fbit .PORT_LINK_STAT p fPORT_LINK_STAT_SKEW_OVER then v.flag .PORT_LINK_EVT p fPORT_LINK_EVT_SKEW_LIMIT
  else v

theorem State.skewLimited_stat (s : State) (p rate top : Nat) :
    Writes [.PORT_LINK_STAT, .PORT_LINK_EVT] s (s.skewLimited p rate top) ∧
      (s.skewLimited p rate top).fbit .PORT_LINK_STAT p fPORT_LINK_STAT_SKEW_OVER = decide (skewLimit rate < top) := by
  let t := s.fset .PORT_LINK_STAT p fPORT_LINK_STAT_MAX_SKEW_PS
    (min 0xFFFFF ((top * 1000000000 + rateKbd rate / 2) / rateKbd rate))
  let v := t.fsetB .PORT_LINK_STAT p fPORT_LINK_STAT_SKEW_OVER (decide (skewLimit rate < top))
  have hv : Writes [.PORT_LINK_EVT] v (s.skewLimited p rate top) :=
    .ite ((Writes.refl v).fset p _ _ (by decide)) (.refl v)
  have hs : Writes [.PORT_LINK_STAT] s v := ((Writes.refl s).fset p _ _ (by decide)).fset p _ _ (by decide)
  refine ⟨(hs.mono (by decide)).trans (hv.mono (by decide)), ?_⟩
  rw [hv.fbit (by decide)]
  exact t.fbit_fsetB_same _ _ _ _ (by decide) (by decide)

theorem State.skewMeasured_eq {s : State} {p : Nat} {skews : List Nat} (hd : s.allData p = true)
    (hm : s.markerLock p = true) (h2 : 2 ≤ (s.portLanes p).length) (hl : skews.length = (s.portLanes p).length) :
    s.skewMeasured p skews = (s.forEach ((s.portLanes p).zip skews) State.skewShown).skewLimited p
      (s.laneRate ((s.portLanes p).headD 0)) (skews.foldl max 0) := by
  have hr : (s.forEach ((s.portLanes p).zip skews) State.skewShown).laneRate ((s.portLanes p).headD 0) =
      s.laneRate ((s.portLanes p).headD 0) :=
    Writes.fget (R := [.LANE_SKEW]) (.forEach _
      (fun u e => ((Writes.refl u).fset _ _ _ (by decide)).fset _ _ _ (by decide))
      (.refl s)) (by decide) _ _
  have hz : ((s.portLanes p).zip skews).map (·.2) = skews := List.map_snd_zip (Nat.le_of_eq hl)
  unfold State.skewMeasured
  rw [if_neg (by simp [hd, hm]; omega), hl, Nat.sub_self]
  dsimp only [List.replicate_zero]
  rw [List.append_nil, hz, ← hr]
  rfl

/-- R122 to R124: the skews measured stand in the port's lanes, and SKEW_OVER tells whether one exceeds the limit. -/
theorem State.skewMeasured_stat {s : State} {p : Nat} {skews : List Nat} (hd : s.allData p = true)
    (hm : s.markerLock p = true) (h2 : 2 ≤ (s.portLanes p).length) (hl : skews.length = (s.portLanes p).length) :
    ((s.portLanes p).zip skews).all (fun e => (s.skewMeasured p skews).fbit .LANE_SKEW e.1 fLANE_SKEW_VALID &&
        (s.skewMeasured p skews).fget .LANE_SKEW e.1 fLANE_SKEW_SKEW_SYM == min 65535 e.2) = true ∧
      (s.skewMeasured p skews).fbit .PORT_LINK_STAT p fPORT_LINK_STAT_SKEW_OVER =
        skews.any (fun k => decide (skewLimit (s.laneRate ((s.portLanes p).headD 0)) < k)) := by
  let l := (s.portLanes p).zip skews
  have hn : (l.map (·.1)).Nodup := by
    rw [show l.map (·.1) = s.portLanes p from List.map_fst_zip (Nat.le_of_eq hl.symm)]
    exact s.portLanes_nodup p
  obtain ⟨hw, hover⟩ := (s.forEach l State.skewShown).skewLimited_stat p (s.laneRate ((s.portLanes p).headD 0))
    (skews.foldl max 0)
  rw [State.skewMeasured_eq hd hm h2 hl, hover]
  constructor
  · rw [List.all_eq_true]
    intro e he
    rw [hw.fbit (by decide), hw.fget (by decide), Bool.and_eq_true, beq_iff_eq]
    exact State.forEach_each (P := fun e u => u.skewStands e) State.skewShown_stands
      (fun u e d hx hy hne => State.skewShown_other fun c => hne (List.inj_on_of_nodup_map hn hy hx c)) s he
  · rw [Bool.eq_iff_iff, decide_eq_true_eq, lt_foldl_max, List.any_eq_true]
    simp

end Sys2Proof.Machine

open Sys2Proof Sys2Proof.Machine

/-- Settles O17: a map or a mode is what the write stores, and the skews stand in the port's own lanes, which differ. -/
theorem portMapAndAlignment : Obligations.PortMapAndAlignment := by
  unfold Obligations.PortMapAndAlignment
  refine ⟨fun v s => ⟨fun c h => portMapWrite_answers h, fun p h => portModeWrite_answers h⟩, fun p s _ => ⟨?_, ?_, ?_⟩⟩
  · exact fun h => effect_done rfl (State.markers_stat h)
  · exact effect_done rfl (s.markersLost_stat p)
  · exact fun skews hd hm h2 hl => effect_done rfl (State.skewMeasured_stat hd hm h2 hl)

end

section
/-! PROOFS. A lane's way into BLIND, DATA and OFF: which registers it writes, and what they then show (R79 to R88, R104,
R114, R131). -/

namespace Sys2Proof.Machine

-- Settings

/-- The registers of the receive adaptation (R87), with the delays that they show. -/
def adaptRegs : List RegId :=
  [.LANE_RX_EQ, .LANE_RX_RC, .LANE_RX_FFE0, .LANE_RX_FFE1, .LANE_RX_FFE2, .LANE_RX_FFE3, .LANE_GD, .LANE_GD_CTLE]

theorem State.showRx_keeps (s : State) (n : Nat) : Keeps adaptRegs s (s.showRx n) :=
  ((Keeps.refl s).fset n _ _ (by decide)).fset n _ _ (by decide)

theorem State.startAdapt_adapts (s : State) (n : Nat) : Keeps adaptRegs s (s.startAdapt n) := by
  refine .trans ?_ (State.showRx_keeps _ n)
  iterate 5 refine .rset n _ (by decide) ?_
  exact ((Keeps.refl s).fset n _ _ (by decide)).fset n _ _ (by decide)

theorem State.setTaps_keeps (s : State) (n : Nat) (t : Taps) : Keeps [.LANE_TX_TAPS, .LANE_GD] s (s.setTaps n t) :=
  ((Keeps.refl s).rset n _ (by decide)).fset n _ _ (by decide)

theorem State.setTaps_taps (s : State) (n : Nat) (t : Taps) : (s.setTaps n t).rget .LANE_TX_TAPS n = t.word :=
  (State.rget_fset_ne _ _ _ (by simp)).trans (s.rget_rset_same _ _ _)

theorem State.lpmTouch_keeps (s : State) (n : Nat) : Keeps [] s (s.lpmTouch n) := by
  unfold State.lpmTouch
  split
  · exact (Keeps.refl s).modMac _ _
  · exact .refl s

-- The end of a stay in DATA

/-- Leaving DATA writes LANE_LOOP only to end a far-end loopback (R131). -/
theorem State.leaveData_cases (s : State) (n : Nat) : ∃ u, Keeps (.LANE_CAL_STAT :: adaptRegs) s u ∧
    (s.leaveData n = u ∨ s.loopMode n = 3 ∧ s.laneState n = lDATA ∧
      s.leaveData n = u.fset .LANE_LOOP n fLANE_LOOP_MODE 0) := by
  by_cases hd : s.laneState n = lDATA
  · let f (l : Lane) : Lane :=
      { l with rxStep := none, txStep := none, txDriver := none, txReq := none, txRetry := none, ctleDue := false
               trial := 0, liveOut := false, oneStep := [], rxOld := [], txOld := [], life := l.life + 1
               rxPast := l.rxPast.put l.life (s.rxHistory n) }
    let u := ((((s.startAdapt n).modLane n f).fset .LANE_CAL_STAT n fLANE_CAL_STAT_TX_PEND 0).fset .LANE_CAL_STAT n
      fLANE_CAL_STAT_RX_PEND 0).fset .LANE_CAL_STAT n fLANE_CAL_STAT_REQ_OUT 0
    have hu : Keeps (.LANE_CAL_STAT :: adaptRegs) s u := by
      iterate 3 refine .fset n _ _ (by decide) ?_
      exact ((s.startAdapt_adapts n).mono (by simp)).modLane n f
    have hl : u.loopMode n = s.loopMode n := hu.fget (by decide) n _
    have he : s.leaveData n = if u.loopMode n == 3 then u.fset .LANE_LOOP n fLANE_LOOP_MODE 0 else u := by
      rw [State.leaveData, if_pos (by simpa using hd)]
    refine ⟨u, hu, ?_⟩
    by_cases h3 : s.loopMode n = 3
    · exact .inr ⟨h3, hd, by rw [he, if_pos (by simp [hl, h3])]⟩
    · exact .inl (by rw [he, if_neg (by simp [hl, h3])])
  · exact ⟨s, .refl s, .inl (if_neg (by simpa using hd))⟩

/-- What a lane writes as it leaves DATA. -/
def leaveRegs : List RegId := .LANE_LOOP :: .LANE_CAL_STAT :: adaptRegs

theorem State.leaveData_leaves (s : State) (n : Nat) : Keeps leaveRegs s (s.leaveData n) := by
  obtain ⟨u, hu, he | ⟨-, -, he⟩⟩ := s.leaveData_cases n
  · exact he ▸ hu.mono (by simp [leaveRegs])
  · exact he ▸ (hu.mono (by simp [leaveRegs])).fset n _ _ (by decide)

theorem State.leaveData_loopMode {s : State} {n : Nat} (h : s.loopMode n ≠ 3) :
    (s.leaveData n).loopMode n = s.loopMode n := by
  obtain ⟨u, hu, he | ⟨h3, -, -⟩⟩ := s.leaveData_cases n
  · exact he ▸ hu.fget (by decide) n _
  · exact absurd h3 h

/-- R84: the receiver goes off. -/
theorem State.rxOff_stat (s : State) (n : Nat) : Keeps [.LANE_STAT] s (s.rxOff n) ∧ (s.rxOff n).cdrLock n = false ∧
    (s.rxOff n).frameLock n = false := by
  let a := (s.fset .LANE_STAT n fLANE_STAT_SIG_DET 0).fset .LANE_STAT n fLANE_STAT_CDR_LOCK 0
  let b := a.fset .LANE_STAT n fLANE_STAT_FRAME_LOCK 0
  let d := (b.fset .LANE_STAT n fLANE_STAT_LOCAL_READY 0).fset .LANE_STAT n fLANE_STAT_END_COUNT 0
  have ha : Keeps [.LANE_STAT] s b :=
    (((Keeps.refl s).fset n _ _ (by decide)).fset n _ _ (by decide)).fset n _ _ (by decide)
  have hd : Keeps [.LANE_STAT] b d := ((Keeps.refl b).fset n _ _ (by decide)).fset n _ _ (by decide)
  have he : Keeps [] d (s.rxOff n) := by
    unfold State.rxOff
    exact (Keeps.refl d).modLane n _
  refine ⟨(ha.trans hd).trans (he.mono (by simp)), (he.fbit (by simp) n _).trans ?_, (he.fbit (by simp) n _).trans ?_⟩
  · iterate 3 refine (State.fbit_fset_field _ _ _ _ _ _ _ (by decide)).trans ?_
    exact State.fbit_clear_same _ _ _ _ (by decide)
  · iterate 2 refine (State.fbit_fset_field _ _ _ _ _ _ _ (by decide)).trans ?_
    exact State.fbit_clear_same _ _ _ _ (by decide)

theorem State.laneState_set (s : State) (n : Nat) {st : Nat} (h : st < 8) : (s.setLaneState n st).laneState n = st :=
  (s.fget_fset_same _ _ _ _ (by decide)).trans (Nat.mod_eq_of_lt h)

-- BLIND

/-- A lane on its way into BLIND: out of DATA, the receiver off, the state written. -/
def State.blinded (s : State) (n : Nat) : State := ((s.leaveData n).rxOff n).setLaneState n lBLIND

theorem State.blinded_keeps (s : State) (n : Nat) : Keeps (.LANE_STAT :: leaveRegs) s (s.blinded n) :=
  (((s.leaveData_leaves n).mono (by simp)).trans (((State.rxOff_stat _ n).1).mono (by simp))).fset n _ _ (by decide)

/-- What entry into BLIND writes beside: the adaptation, the taps, and RESTART. -/
theorem State.enterBlind_blinded (s : State) (n : Nat) :
    Keeps (.LANE_CTRL :: .LANE_TX_TAPS :: adaptRegs) (s.blinded n) (s.enterBlind n) ∧
      (s.enterBlind n).rget .LANE_CTRL n = fLANE_CTRL_RESTART.put ((s.blinded n).rget .LANE_CTRL n) 0 := by
  let f (l : Lane) : Lane :=
    { l with startAt := (s.blinded n).now, ctl := 0, reqOut := false, ackSeq := 0, tapAck := 7, tapStat := 0
             partnerAck := 0, pendReq := none, sentOne := false, rcvdOne := false, search := {} }
  let a := ((s.blinded n).modLane n f).startAdapt n
  let b := a.fset .LANE_CTRL n fLANE_CTRL_RESTART 0
  have ha : Keeps adaptRegs (s.blinded n) a := ((Keeps.refl _).modLane n f).trans (State.startAdapt_adapts _ n)
  have taps (t : Taps) : Keeps [.LANE_TX_TAPS, .LANE_GD] b (b.setTaps n t) := b.setTaps_keeps n t
  have hb : Keeps [.LANE_TX_TAPS, .LANE_GD] b (s.enterBlind n) := .ite (taps _) ((taps _).modLane n _)
  refine ⟨(((ha.mono (by simp)).fset n _ _ (by decide)).trans (hb.mono (by decide))), ?_⟩
  rw [hb.regs _ (by decide), State.rget_fset, if_pos ⟨rfl, rfl⟩, ha.regs _ (by decide)]

/-- What a lane writes as it enters BLIND. -/
def blindRegs : List RegId := .LANE_CTRL :: .LANE_TX_TAPS :: .LANE_STAT :: leaveRegs

theorem State.enterBlind_keeps (s : State) (n : Nat) : Keeps blindRegs s (s.enterBlind n) :=
  ((s.blinded_keeps n).mono (by decide)).trans ((s.enterBlind_blinded n).1.mono (by decide))

/-- R87, R104: a lane in BLIND has no frame lock, and the request for it is served. -/
theorem State.enterBlind_stat (s : State) (n : Nat) : (s.enterBlind n).laneState n = lBLIND ∧
    (s.enterBlind n).frameLock n = false ∧ (s.enterBlind n).fbit .LANE_CTRL n fLANE_CTRL_RESTART = false ∧
    (s.enterBlind n).laneEn n = s.laneEn n := by
  obtain ⟨hk, hc⟩ := s.enterBlind_blinded n
  have hctrl : (s.blinded n).rget .LANE_CTRL n = s.rget .LANE_CTRL n := (s.blinded_keeps n).regs _ (by decide) n
  obtain ⟨-, -, hlock⟩ := (s.leaveData n).rxOff_stat n
  refine ⟨?_, ?_, ?_, ?_⟩
  · exact (hk.fget (by decide) n _).trans (State.laneState_set _ n (by decide))
  · exact (hk.fbit (by decide) n _).trans ((State.fbit_fset_field _ _ _ _ _ _ _ (by decide)).trans hlock)
  · rw [State.fbit, State.fget, hc, Field.get_put_same _ _ _ (by decide)]
    rfl
  · rw [State.laneEn, State.laneEn, State.fbit, State.fbit, State.fget, State.fget, hc,
      Field.get_put_ne _ _ _ _ (by decide), hctrl]

theorem State.enterBlind_loopMode {s : State} {n : Nat} (h : s.loopMode n ≠ 3) :
    (s.enterBlind n).loopMode n = s.loopMode n := by
  have hoff : (s.blinded n).loopMode n = (s.leaveData n).loopMode n :=
    (((State.rxOff_stat _ n).1).fset n _ _ (by decide)).fget (by decide) n _
  exact ((s.enterBlind_blinded n).1.fget (by decide) n _).trans (hoff.trans (State.leaveData_loopMode h))

-- DATA

/-- What a lane writes as it enters DATA. -/
def dataRegs : List RegId := .LANE_STAT :: .LANE_EVENT :: .LANE_TX_TAPS :: adaptRegs

/-- R114, R117: a lane enters DATA; a fixed-mode lane keeps its readiness. -/
theorem State.enterData_stat (s : State) (n : Nat) : Keeps dataRegs s (s.enterData n) ∧
    (s.enterData n).laneState n = lDATA ∧
    (s.enterData n).fbit .LANE_EVENT n fLANE_EVENT_TRAIN_DONE = true ∧
    (s.fixedMode n = true → (s.enterData n).localReady n = s.localReady n) ∧
    (s.enterData n).partnerReady n = s.partnerReady n := by
  let a := (s.setLaneState n lDATA).flag .LANE_EVENT n fLANE_EVENT_TRAIN_DONE
  let b := a.fset .LANE_STAT n fLANE_STAT_END_COUNT 0
  let c := if b.fixedMode n then b
    else (b.fset .LANE_STAT n fLANE_STAT_FRAME_LOCK 0).fset .LANE_STAT n fLANE_STAT_LOCAL_READY 0
  have ha : Keeps [.LANE_STAT, .LANE_EVENT] s a := ((Keeps.refl s).fset n _ _ (by decide)).flag n _ (by decide)
  have hb : Keeps [.LANE_STAT] a b := (Keeps.refl a).fset n _ _ (by decide)
  have hc : Keeps [.LANE_STAT] b c := .ite (.refl b) (((Keeps.refl b).fset n _ _ (by decide)).fset n _ _ (by decide))
  have hd : Keeps (.LANE_TX_TAPS :: adaptRegs) c (s.enterData n) :=
    ((((Keeps.refl c).modLane n _).trans ((State.setTaps_keeps _ n _).mono (by decide))).trans
      ((State.showRx_keeps _ n).mono (by simp))).trans ((State.lpmTouch_keeps _ n).mono (by simp))
  have locks {f : Field} (hl : f.lo + f.w ≤ fLANE_STAT_FRAME_LOCK.lo ∨
      fLANE_STAT_FRAME_LOCK.lo + fLANE_STAT_FRAME_LOCK.w ≤ f.lo) (hr : f.lo + f.w ≤ fLANE_STAT_LOCAL_READY.lo ∨
      fLANE_STAT_LOCAL_READY.lo + fLANE_STAT_LOCAL_READY.w ≤ f.lo) :
      c.fget .LANE_STAT n f = b.fget .LANE_STAT n f := by
    by_cases h : b.fixedMode n = true
    · exact congrArg (·.fget .LANE_STAT n f) (if_pos h : c = b)
    · exact (congrArg (·.fget .LANE_STAT n f) (if_neg h : c = _)).trans
        ((State.fget_fset_field _ _ _ _ _ _ _ hr).trans (State.fget_fset_field _ _ _ _ _ _ _ hl))
  have hflag : Keeps [.LANE_EVENT] (s.setLaneState n lDATA) a := (Keeps.refl _).flag n _ (by decide)
  have hstate : b.laneState n = lDATA :=
    (State.fget_fset_field _ _ _ _ _ _ _ (by decide)).trans ((hflag.fget (by decide) n _).trans
      (s.laneState_set n (by decide)))
  refine ⟨(((ha.mono (by decide)).trans (hb.mono (by decide))).trans (hc.mono (by decide))).trans (hd.mono (by decide)),
    (hd.fget (by decide) n _).trans ((locks (by decide) (by decide)).trans hstate), ?_, ?_, ?_⟩
  · rw [hd.fbit (by decide), hc.fbit (by decide), hb.fbit (by decide)]
    exact State.fbit_flag_same _ _ _ _ (by decide) (by decide)
  · intro hf
    have hbf : b.fixedMode n = true := ((hb.fbit (by decide) n _).trans (ha.fbit (by decide) n _)).trans hf
    have hcb : c = b := if_pos hbf
    refine (hd.fbit (by decide) n _).trans ?_
    rw [hcb]
    exact (State.fbit_fset_field _ _ _ _ _ _ _ (by decide)).trans ((hflag.fbit (by decide) n _).trans
      (State.fbit_fset_field _ _ _ _ _ _ _ (by decide)))
  · rw [State.partnerReady, State.fbit, hd.fget (by decide), locks (by decide) (by decide)]
    exact (State.fbit_fset_field _ _ _ _ _ _ _ (by decide)).trans ((hflag.fbit (by decide) n _).trans
      (State.fbit_fset_field _ _ _ _ _ _ _ (by decide)))

end Sys2Proof.Machine
end

section
/-! PROOFS. Served writes of a lane's control and setting registers (R79, R84 to R86, R119 to R137). -/

namespace Sys2Proof.Machine

-- The value that a command of LANE_CTRL writes

/-- A mask without the bits of a field does not see what the field is put to. -/
theorem Field.put_and (f : Field) (v : Word) (n : Nat) {m : Word}
    (h : m &&& BitVec.ofNat 64 ((2 ^ f.w - 1) <<< f.lo) = 0) : f.put v n &&& m = v &&& m := by
  have hm : m &&& ~~~ BitVec.ofNat 64 ((2 ^ f.w - 1) <<< f.lo) = m := by
    refine BitVec.eq_of_getLsbD_eq fun k hk => ?_
    have hb := congrArg (·.getLsbD k) h
    simp only [BitVec.getLsbD_and, BitVec.getLsbD_not, hk, decide_true, Bool.true_and] at hb ⊢
    revert hb
    cases m.getLsbD k <;> simp
  rw [← hm, BitVec.and_comm m, ← BitVec.and_assoc, ← BitVec.and_assoc, Field.put_agree f v n _ rfl]

/-- The encodings of LANE_CTRL are all good where the rate is one. -/
theorem State.encBad_laneCtrl {s : State} {n : Nat} {v : Word} (h : fLANE_CTRL_RATE.get v ≤ 4) :
    s.encBad .LANE_CTRL n (carried .LANE_CTRL v) = [] := by
  have hr : fLANE_CTRL_RATE.get (carried .LANE_CTRL v) = fLANE_CTRL_RATE.get v := Field.get_low32 _ _ (by decide)
  have ho : outside 0 4 fLANE_CTRL_RATE (carried .LANE_CTRL v) = (fLANE_CTRL_RATE, false) := by
    simp [outside, hr, h]
  show badFields [outside 0 4 fLANE_CTRL_RATE (carried .LANE_CTRL v)] = []
  rw [ho]
  rfl

/-- A write of LANE_CTRL whose settings are those that stand. -/
theorem State.laneCtrlWrite_same {s : State} {n : Nat} {v : Word} (h : v &&& 0x7E = s.rget .LANE_CTRL n &&& 0x7E) :
    s.laneCtrlWrite n v =
      if fLANE_CTRL_RESTART.get v == 1 && fLANE_CTRL_EN.get v == 1 then
        (if fLANE_CTRL_EN.get v == 1 then s.laneEnable n else s.laneDisable n).laneRestart n
      else if fLANE_CTRL_EN.get v == 1 then s.laneEnable n else s.laneDisable n := by
  unfold State.laneCtrlWrite
  dsimp only
  rw [show (v &&& 0x7E == s.rget .LANE_CTRL n &&& 0x7E) = true from beq_iff_eq.mpr h, if_pos rfl]

/-- What the three commands of LANE_CTRL write: EN and RESTART, the settings as they stand. -/
theorem State.written_laneCtrl {s : State} {n : Nat} {v : Word} (hr : s.laneRate n ≤ 4)
    (hm : v &&& 0x7E = s.rget .LANE_CTRL n &&& 0x7E) :
    s.written .LANE_CTRL n v =
      let u := s.unstaged .LANE_CTRL n
      if fLANE_CTRL_RESTART.get v == 1 && fLANE_CTRL_EN.get v == 1 then
        (if fLANE_CTRL_EN.get v == 1 then u.laneEnable n else u.laneDisable n).laneRestart n
      else if fLANE_CTRL_EN.get v == 1 then u.laneEnable n else u.laneDisable n := by
  have hrate : fLANE_CTRL_RATE.get v ≤ 4 := by
    have h := congrArg fLANE_CTRL_RATE.get hm
    rw [Field.get_and _ _ _ (by decide), Field.get_and _ _ _ (by decide)] at h
    exact h ▸ hr
  have hv (f : Field) (hf : f.lo + f.w ≤ 32) : f.get (carried .LANE_CTRL v) = f.get v := Field.get_low32 f v hf
  rw [State.written_acts (State.encBad_laneCtrl hrate)]
  show State.laneCtrlWrite _ n _ = _
  rw [State.laneCtrlWrite_same (by rw [carried, if_neg (by decide), low32_and_mask v (by decide)]; exact hm),
    hv _ (by decide), hv _ (by decide)]

-- EN and RESTART

/-- R79, R84, R88: an enabled lane waits for its quad PLL. -/
theorem State.laneEnable_waits {s : State} {n : Nat} (hen : s.laneEn n = false) (hb : s.boot = bRUNNING)
    (hoff : s.laneState n = lOFF) (hr : (s.laneOwner n).any (fun p => s.portLaneRate p == some (s.laneRate n)) = true)
    (hpll : s.fbit .LANE_QUAD_STAT (n / 4) fLANE_QUAD_STAT_PLL_LOCK = false) :
    s.laneEnable n = (s.flag .LANE_CTRL n fLANE_CTRL_EN).setLaneState n lPLL := by
  let a := s.flag .LANE_CTRL n fLANE_CTRL_EN
  have ha : Keeps [.LANE_CTRL] s a := (Keeps.refl s).flag n _ (by decide)
  have hk : Keeps [.LANE_STAT] a (a.setLaneState n lPLL) := (Keeps.refl a).fset n _ _ (by decide)
  have hgo : (a.setLaneState n lPLL).pllGo n = a.setLaneState n lPLL := by
    unfold State.pllGo
    refine if_neg ?_
    rw [hk.fbit (by decide), ha.fbit (by decide), hpll]
    simp
  have hen' : a.laneEn n = true := State.fbit_flag_same _ _ _ _ (by decide) (by decide)
  have hst : a.laneState n = lOFF := (ha.fget (by decide) n _).trans hoff
  have hboot : a.boot = bRUNNING := (ha.fget (by decide) 0 _).trans hb
  obtain ⟨p, ho, hp⟩ : ∃ p, s.laneOwner n = some p ∧ (s.portLaneRate p == some (s.laneRate n)) = true := by
    cases ho : s.laneOwner n with
    | none => simp [ho] at hr
    | some p => exact ⟨p, rfl, by simpa [ho] using hr⟩
  have hstart : a.laneStart n = a.setLaneState n lPLL := (if_pos (by rw [hen', hst]; rfl)).trans hgo
  simp only [State.laneEnable, ho, hp, hen, Bool.not_true, Bool.false_eq_true, if_false]
  exact (if_pos (beq_iff_eq.mpr hboot)).trans hstart

/-- LANE_STAT.PLL_LOCK follows the quad's lock, and the rest of LANE_STAT stays. -/
theorem State.setPll_stat (s : State) (q : Nat) (b : Bool) (n : Nat) {f : Field}
    (hf : f.lo + f.w ≤ fLANE_STAT_PLL_LOCK.lo ∨ fLANE_STAT_PLL_LOCK.lo + fLANE_STAT_PLL_LOCK.w ≤ f.lo) :
    (s.setPll q b).fget .LANE_STAT n f = s.fget .LANE_STAT n f :=
  (State.forEach_same (π := fun u => u.fget .LANE_STAT n f)
    (fun _ _ => State.fget_fset_field _ _ _ _ _ _ _ hf) _ _).trans (State.fget_fset_reg _ _ _ _ (by simp))

/-- R79, R85: a lane that is disabled goes to OFF. -/
theorem State.laneDisable_off {s : State} {n : Nat} (h : s.laneState n ≠ lOFF) :
    (s.laneDisable n).laneEn n = false ∧ (s.laneDisable n).laneState n = lOFF ∧
      (s.laneDisable n).cdrLock n = false := by
  let a := (s.fset .LANE_CTRL n fLANE_CTRL_EN 0).fset .LANE_CTRL n fLANE_CTRL_RESTART 0
  let b := (a.leaveData n).rxOff n
  let c := b.setLaneState n lOFF
  have hb : Keeps (.LANE_STAT :: leaveRegs) a b :=
    ((a.leaveData_leaves n).mono (by simp)).trans (((State.rxOff_stat _ n).1).mono (by simp))
  have hc : Keeps [.LANE_STAT] b c := (Keeps.refl b).fset n _ _ (by decide)
  have hst : a.laneState n ≠ lOFF := by
    rw [State.laneState, State.fget_fset_reg _ _ _ _ (by simp), State.fget_fset_reg _ _ _ _ (by simp)]
    exact h
  have he : s.laneDisable n = if c.pllRuns (n / 4) then c else c.setPll (n / 4) false := if_neg (by simpa using hst)
  have hen : c.laneEn n = false :=
    (hc.fbit (by decide) n _).trans ((hb.fbit (by decide) n _).trans
      ((State.fbit_fset_field _ _ _ _ _ _ _ (by decide)).trans (State.fbit_clear_same _ _ _ _ (by decide))))
  have hoff : c.laneState n = lOFF := b.laneState_set n (by decide)
  obtain ⟨-, hlost, -⟩ := (a.leaveData n).rxOff_stat n
  have hcdr : c.cdrLock n = false := (State.fbit_fset_field _ _ _ _ _ _ _ (by decide)).trans hlost
  rw [he]
  split
  · exact ⟨hen, hoff, hcdr⟩
  · refine ⟨?_, (State.setPll_stat _ _ _ _ (by decide)).trans hoff, ?_⟩
    · have hp : Keeps [.LANE_QUAD_STAT, .LANE_STAT] c (c.setPll (n / 4) false) :=
        .forEach _ (fun u _ => (Keeps.refl u).fset _ _ _ (by decide)) ((Keeps.refl c).fset _ _ _ (by decide))
      exact (hp.fbit (by decide) n _).trans hen
    · rw [State.cdrLock, State.fbit, State.setPll_stat _ _ _ _ (by decide)]
      exact hcdr

theorem laneEnable_answers {n : Fin 16} {s : State} (h : s.serves .LANE_CTRL n = true) (hr : s.laneRate n ≤ 4)
    (hen : s.laneEn n = false) (hb : s.boot = bRUNNING) (hoff : s.laneState n = lOFF)
    (ho : (s.laneOwner n).any (fun p => s.portLaneRate p == some (s.laneRate n)) = true)
    (hpll : s.fbit .LANE_QUAD_STAT (n / 4) fLANE_QUAD_STAT_PLL_LOCK = false) :
    Answers (.laneEnable n) s fun t => t.laneEn n = true ∧ t.laneState n = lPLL := by
  let v := fLANE_CTRL_EN.put (fLANE_CTRL_RESTART.put (s.rget .LANE_CTRL n) 0) 1
  let u := s.unstaged .LANE_CTRL n
  have hre : fLANE_CTRL_RESTART.get v = 0 :=
    (Field.get_put_ne _ _ _ _ (by decide)).trans (Field.get_put_same _ _ _ (by decide))
  have hv : fLANE_CTRL_EN.get v = 1 := Field.get_put_same _ _ _ (by decide)
  have hw : s.written .LANE_CTRL n v = (u.flag .LANE_CTRL n fLANE_CTRL_EN).setLaneState n lPLL := by
    rw [State.written_laneCtrl hr ((Field.put_and _ _ _ (by decide)).trans (Field.put_and _ _ _ (by decide))), hre, hv]
    exact State.laneEnable_waits hen hb hoff ho hpll
  have hk := State.ctWrite_after h (v := v) (by rw [hw]; rfl)
  refine answers_done rfl ⟨(hk.fbit (by decide) n _).trans ?_, (hk.fget (by decide) n _).trans ?_⟩
  · have hset : Keeps [.LANE_STAT] (u.flag .LANE_CTRL n fLANE_CTRL_EN) (s.written .LANE_CTRL n v) :=
      hw ▸ (Keeps.refl _).fset n _ _ (by decide)
    exact (hset.fbit (by decide) n _).trans (State.fbit_flag_same _ _ _ _ (by decide) (by decide))
  · rw [hw]
    exact State.laneState_set _ _ (by decide)

theorem laneDisable_answers {n : Fin 16} {s : State} (h : s.serves .LANE_CTRL n = true) (hr : s.laneRate n ≤ 4)
    (hst : s.laneState n ≠ lOFF) :
    Answers (.laneDisable n) s fun t => t.laneEn n = false ∧ t.laneState n = lOFF ∧ t.cdrLock n = false := by
  let v := fLANE_CTRL_EN.put (fLANE_CTRL_RESTART.put (s.rget .LANE_CTRL n) 0) 0
  let u := s.unstaged .LANE_CTRL n
  have hv : fLANE_CTRL_EN.get v = 0 := Field.get_put_same _ _ _ (by decide)
  have hw : s.written .LANE_CTRL n v = u.laneDisable n := by
    rw [State.written_laneCtrl hr ((Field.put_and _ _ _ (by decide)).trans (Field.put_and _ _ _ (by decide))), hv]
    rw [Bool.and_comm]
    rfl
  obtain ⟨hen, hoff, hcdr⟩ := State.laneDisable_off (s := u) hst
  have hk := State.ctWrite_after h (v := v) (by rw [hw]; exact (u.laneDisable_keeps n).sleep)
  rw [hw] at hk
  exact answers_done rfl ⟨(hk.fbit (by decide) n _).trans hen, (hk.fget (by decide) n _).trans hoff,
    (hk.fbit (by decide) n _).trans hcdr⟩

theorem Field.get_of_bit {f : Field} {v : Word} (hf : f.w = 1) (h : (f.get v != 0) = true) : f.get v = 1 := by
  have hl := f.get_lt v
  rw [hf] at hl
  simp at h
  omega

/-- R86: a lane with EN set in BLIND or a later state goes back to BLIND. -/
theorem State.laneEnable_restart {s : State} {n : Nat} (hen : s.laneEn n = true) (hst : lBLIND ≤ s.laneState n) :
    ∃ u, Keeps [.LANE_EVENT] s u ∧ (s.laneEnable n).laneRestart n = u.enterBlind n := by
  obtain ⟨u, hu, he⟩ : ∃ u, Keeps [.LANE_EVENT] s u ∧ s.laneEnable n = u := by
    refine ⟨_, ?_, rfl⟩
    unfold State.laneEnable
    exact .ite ((Keeps.refl s).flag n _ (by decide)) (by simp only [hen, if_true]; exact .refl s)
  have h2 : u.laneEn n = true := (hu.fbit (by decide) n _).trans hen
  have h3 : u.laneState n = s.laneState n := hu.fget (by decide) n _
  have hoff : u.laneState n ≠ lOFF := h3 ▸ Nat.ne_of_gt (Nat.lt_of_lt_of_le (by decide) hst)
  have hpll : u.laneState n ≠ lPLL := h3 ▸ Nat.ne_of_gt (Nat.lt_of_lt_of_le (by decide) hst)
  refine ⟨u, hu, ?_⟩
  rw [he, State.laneRestart, if_pos (by simp [h2, hoff, hpll])]

theorem laneRestart_answers {n : Fin 16} {s : State} (h : s.serves .LANE_CTRL n = true) (hr : s.laneRate n ≤ 4)
    (hen : s.laneEn n = true) (hst : lBLIND ≤ s.laneState n) :
    Answers (.laneRestart n) s fun t =>
      t.laneState n = lBLIND ∧ t.fbit .LANE_CTRL n fLANE_CTRL_RESTART = false ∧ t.laneEn n = true := by
  let v := fLANE_CTRL_RESTART.put (s.rget .LANE_CTRL n) 1
  have hre : fLANE_CTRL_RESTART.get v = 1 := Field.get_put_same _ _ _ (by decide)
  have hv : fLANE_CTRL_EN.get v = 1 := (Field.get_put_ne _ _ _ _ (by decide)).trans (Field.get_of_bit rfl hen)
  obtain ⟨u, hu, he⟩ := State.laneEnable_restart (s := s.unstaged .LANE_CTRL n) hen hst
  have hw : s.written .LANE_CTRL n v = u.enterBlind n := by
    rw [State.written_laneCtrl hr (Field.put_and _ _ _ (by decide)), hre, hv]
    exact he
  obtain ⟨hstate, -, hrestart, hon⟩ := u.enterBlind_stat n
  have hk := State.ctWrite_after h (v := v) (by rw [hw]; exact (u.enterBlind_keeps n).sleep.trans hu.sleep)
  rw [hw] at hk
  exact answers_done rfl ⟨(hk.fget (by decide) n _).trans hstate, (hk.fbit (by decide) n _).trans hrestart,
    (hk.fbit (by decide) n _).trans (hon.trans ((hu.fbit (by decide) n _).trans hen))⟩

-- LANE_TX_FIXED

/-- R119: taps that the block accepts are stored, and go to LANE_TX_TAPS at once where a fixed-mode lane is in BLIND. -/
theorem State.txFixedWrite_taken {s : State} {n : Nat} {v : Word} (h : (tapsOf v).ok = true) :
    Keeps [.LANE_TX_TAPS, .LANE_GD, .LANE_CAL_STAT] (s.rset .LANE_TX_FIXED n (tapsOf v).word) (s.txFixedWrite n v) ∧
      (s.fixedMode n = true → s.laneState n = lBLIND →
        (s.txFixedWrite n v).rget .LANE_TX_TAPS n = (tapsOf v).word) := by
  let a := s.rset .LANE_TX_FIXED n (tapsOf v).word
  have ha : Keeps [.LANE_TX_FIXED] s a := (Keeps.refl s).rset n _ (by decide)
  have hf : a.fixedMode n = s.fixedMode n := ha.fbit (by decide) n _
  have hs : a.laneState n = s.laneState n := ha.fget (by decide) n _
  have he : s.txFixedWrite n v = if a.fixedMode n && a.laneState n == lBLIND then a.setTaps n (tapsOf v)
      else if a.fixedMode n && a.laneState n == lDATA then
        (a.modLane n (fun l => { l with txDriver := some (tapsOf v) })).flag .LANE_CAL_STAT n fLANE_CAL_STAT_TX_PEND
      else a := if_pos h
  constructor
  · rw [he]
    exact .ite ((a.setTaps_keeps n _).mono (by decide))
      (.ite (((Keeps.refl a).modLane n _).flag n _ (by decide)) (.refl a))
  · intro hfix hblind
    rw [he, if_pos (by simp [hf, hs, hfix, hblind])]
    exact a.setTaps_taps n _

theorem State.written_laneTxFixed (s : State) (n : Nat) (v : Word) :
    s.written .LANE_TX_FIXED n v = (s.unstaged .LANE_TX_FIXED n).txFixedWrite n v := by
  have hv : carried .LANE_TX_FIXED v = v := if_pos (by decide)
  rw [State.written_acts rfl, hv]
  rfl

theorem State.txFixedWrite_refused {s : State} {n : Nat} {v : Word} (h : (tapsOf v).ok ≠ true) :
    s.txFixedWrite n v = s.rsvdEnc := if_neg h

theorem txFixed_taken {n : Fin 16} {v : Word} {s : State} (h : s.serves .LANE_TX_FIXED n = true)
    (hok : (tapsOf v).ok = true) : (s.after (s.ctWrite .LANE_TX_FIXED n v)).rget .LANE_TX_FIXED n = (tapsOf v).word ∧
      (s.fixedMode n = true → s.laneState n = lBLIND →
        (s.after (s.ctWrite .LANE_TX_FIXED n v)).rget .LANE_TX_TAPS n = (tapsOf v).word) := by
  have hw := s.written_laneTxFixed n v
  obtain ⟨hk, htaps⟩ := State.txFixedWrite_taken (s := s.unstaged .LANE_TX_FIXED n) (n := n) hok
  have hset : Keeps [.LANE_TX_FIXED] (s.unstaged .LANE_TX_FIXED n)
      ((s.unstaged .LANE_TX_FIXED n).rset .LANE_TX_FIXED n (tapsOf v).word) := (Keeps.refl _).rset n _ (by decide)
  have ht := State.ctWrite_after h (v := v) (hw ▸ hk.sleep.trans hset.sleep)
  rw [hw] at ht
  exact ⟨(ht.regs _ (by decide) n).trans ((hk.regs _ (by decide) n).trans (State.rget_rset_same _ _ _ _)), fun hf hb =>
    (ht.regs _ (by decide) n).trans (htaps hf hb)⟩

theorem txFixed_refused {n : Fin 16} {v : Word} {s : State} (h : s.serves .LANE_TX_FIXED n = true)
    (hbad : (tapsOf v).ok ≠ true) :
    (s.after (s.ctWrite .LANE_TX_FIXED n v)).rget .LANE_TX_FIXED n = s.rget .LANE_TX_FIXED n ∧
      (s.after (s.ctWrite .LANE_TX_FIXED n v)).fbit .GEN_ACC_ERR 0 fGEN_ACC_ERR_RSVD_ENC = true := by
  have he := (s.written_laneTxFixed n v).trans (State.txFixedWrite_refused hbad)
  have hk : Keeps [.GEN_ACC_ERR] (s.unstaged .LANE_TX_FIXED n) (s.written .LANE_TX_FIXED n v) :=
    he ▸ State.rsvdEnc_keeps _
  refine ⟨((State.ctWrite_after h hk.sleep).regs _ (by decide) n).trans (hk.regs _ (by decide) n),
    State.ctWrite_after_accErr h hk.sleep (by decide) ?_⟩
  rw [he]
  exact State.fbit_flag_same _ _ _ _ (by decide) (by decide)

theorem laneTxFixedWrite_answers {n : Fin 16} {v : Word} {s : State} (h : s.serves .LANE_TX_FIXED n = true) :
    Answers (.laneTxFixedWrite n v) s fun t =>
      if (tapsOf v).ok then
        t.rget .LANE_TX_FIXED n = (tapsOf v).word ∧
        (s.fixedMode n = true → s.laneState n = lBLIND → t.rget .LANE_TX_TAPS n = (tapsOf v).word)
      else t.rget .LANE_TX_FIXED n = s.rget .LANE_TX_FIXED n ∧ t.fbit .GEN_ACC_ERR 0 fGEN_ACC_ERR_RSVD_ENC = true :=
  answers_done rfl (ite_prop_iff_and.mpr ⟨txFixed_taken h, txFixed_refused h⟩)

-- LANE_LOOP

/-- R130: a mode that the lane's state refuses leaves the mode and the state. -/
theorem State.loopWrite_refused {s : State} {n : Nat} {v : Word} (hne : fLANE_LOOP_MODE.get v ≠ s.loopMode n)
    (h3 : fLANE_LOOP_MODE.get v = 3) (hd : s.laneState n ≠ lDATA) :
    s.loopWrite n v = s.flag .LANE_EVENT n fLANE_EVENT_CFG_REFUSED := by
  unfold State.loopWrite
  dsimp only
  rw [if_neg (by simpa using hne), if_pos (by simp [h3, hd])]

/-- R128, R130: a mode that is taken, and the state that the lane enters with it. -/
theorem State.loopWrite_taken {s : State} {n : Nat} {v : Word} (hne : fLANE_LOOP_MODE.get v ≠ s.loopMode n)
    (h3 : ¬(fLANE_LOOP_MODE.get v = 3 ∧ s.laneState n ≠ lDATA)) :
    (s.loopWrite n v).power.sleep = s.power.sleep ∧ (s.loopWrite n v).loopMode n = fLANE_LOOP_MODE.get v ∧
      (s.loopWrite n v).laneState n =
        if s.laneState n = lOFF ∨ s.laneState n = lPLL ∨ fLANE_LOOP_MODE.get v = 3 then s.laneState n
        else if fLANE_LOOP_MODE.get v = 2 then lDATA else lBLIND := by
  let mode := fLANE_LOOP_MODE.get v
  let a := s.fset .LANE_LOOP n fLANE_LOOP_MODE mode
  have hlt : mode < 4 := Field.get_lt _ v
  have ha : Keeps [.LANE_LOOP] s a := (Keeps.refl s).fset n _ _ (by decide)
  have hmode : a.loopMode n = mode := (s.fget_fset_same _ _ _ _ (by decide)).trans (Nat.mod_eq_of_lt hlt)
  have hst : a.laneState n = s.laneState n := ha.fget (by decide) n _
  have he : s.loopWrite n v = if !(s.laneState n != lOFF && s.laneState n != lPLL) || mode == 3 then a
      else if mode == 2 then (if s.laneState n == lDATA then a else a.enterData n) else a.enterBlind n := by
    unfold State.loopWrite
    dsimp only
    rw [if_neg (by simpa using hne), if_neg (by simpa using h3)]
  by_cases hstay : s.laneState n = lOFF ∨ s.laneState n = lPLL ∨ mode = 3
  · rw [if_pos hstay, he, if_pos (by simpa [or_assoc] using hstay)]
    exact ⟨ha.sleep, hmode, hst⟩
  · rw [if_neg hstay, he, if_neg (by simpa [or_assoc] using hstay)]
    by_cases h2 : mode = 2
    · rw [if_pos h2, if_pos (by simpa using h2)]
      obtain ⟨hk, hdata, -⟩ := a.enterData_stat n
      by_cases hd : s.laneState n = lDATA
      · rw [if_pos (by simpa using hd)]
        exact ⟨ha.sleep, hmode, hst.trans hd⟩
      · rw [if_neg (by simpa using hd)]
        exact ⟨hk.sleep.trans ha.sleep, (hk.fget (by decide) n _).trans hmode, hdata⟩
    · rw [if_neg h2, if_neg (by simpa using h2)]
      have hm3 : a.loopMode n ≠ 3 := fun e => hstay (.inr (.inr (hmode ▸ e)))
      exact ⟨(a.enterBlind_keeps n).sleep.trans ha.sleep, (State.enterBlind_loopMode hm3).trans hmode,
        (a.enterBlind_stat n).1⟩

theorem laneLoopWrite_answers {n : Fin 16} {v : Word} {s : State} (h : s.serves .LANE_LOOP n = true)
    (hne : fLANE_LOOP_MODE.get v ≠ s.loopMode n) :
    Answers (.laneLoopWrite n v) s fun t =>
      if fLANE_LOOP_MODE.get v = 3 ∧ s.laneState n ≠ lDATA then
        t.loopMode n = s.loopMode n ∧ t.laneState n = s.laneState n ∧
          t.fbit .LANE_EVENT n fLANE_EVENT_CFG_REFUSED = true
      else
        t.loopMode n = fLANE_LOOP_MODE.get v ∧
          t.laneState n =
            if s.laneState n = lOFF ∨ s.laneState n = lPLL ∨ fLANE_LOOP_MODE.get v = 3 then s.laneState n
            else if fLANE_LOOP_MODE.get v = 2 then lDATA else lBLIND := by
  let u := s.unstaged .LANE_LOOP n
  let w := carried .LANE_LOOP v
  have hv : fLANE_LOOP_MODE.get w = fLANE_LOOP_MODE.get v := Field.get_low32 _ _ (by decide)
  have hw : s.written .LANE_LOOP n v = u.loopWrite n w := State.written_acts rfl
  refine answers_done rfl (ite_prop_iff_and.mpr ⟨fun hc => ?_, fun hc => ?_⟩)
  · have he := hw.trans (State.loopWrite_refused (hv ▸ hne) (hv ▸ hc.1) hc.2)
    have hk : Keeps [.LANE_EVENT] u (s.written .LANE_LOOP n v) := he ▸ (Keeps.refl u).flag n _ (by decide)
    have ht := State.ctWrite_after h (v := v) hk.sleep
    refine ⟨(ht.fget (by decide) n _).trans (hk.fget (by decide) n _),
      (ht.fget (by decide) n _).trans (hk.fget (by decide) n _), (ht.fbit (by decide) n _).trans ?_⟩
    rw [he]
    exact u.fbit_flag_same _ _ _ (by decide) (by decide)
  · obtain ⟨hs, hm, hst⟩ := State.loopWrite_taken (s := u) (v := w) (n := n) (hv ▸ hne) (hv ▸ hc)
    have ht := State.ctWrite_after h (v := v) (hw ▸ hs)
    rw [hw] at ht
    rw [hv] at hm hst
    exact ⟨(ht.fget (by decide) n _).trans hm, (ht.fget (by decide) n _).trans hst⟩

-- LANE_PATTERN

/-- The encodings of LANE_PATTERN are all good where the generator and the checker have one. -/
theorem State.encBad_lanePattern {s : State} {n : Nat} {v : Word} (hg : fLANE_PATTERN_GEN.get v ≤ 2)
    (hc : fLANE_PATTERN_CHK.get v ≤ 2) : s.encBad .LANE_PATTERN n v = [] := by
  have good {f : Field} (h : f.get v ≤ 2) : outside 0 2 f v = (f, false) := by simp [outside, h]
  show badFields [outside 0 2 fLANE_PATTERN_GEN v, outside 0 2 fLANE_PATTERN_CHK v] = []
  rw [good hg, good hc]
  rfl

theorem lanePatternWrite_answers {n : Fin 16} {v : Word} {s : State} (h : s.serves .LANE_PATTERN n = true)
    (hg : fLANE_PATTERN_GEN.get v ≤ 2) (hc : fLANE_PATTERN_CHK.get v ≤ 2) :
    Answers (.lanePatternWrite n v) s fun t =>
      if (fLANE_PATTERN_GEN.get v = 0 ∧ fLANE_PATTERN_CHK.get v = 0) ∨ s.laneTest n = true then
        t.rget .LANE_PATTERN n = v &&& 0xF
      else t.rget .LANE_PATTERN n = s.rget .LANE_PATTERN n ∧ t.fbit .LANE_EVENT n fLANE_EVENT_CFG_REFUSED = true := by
  let u := s.unstaged .LANE_PATTERN n
  let w := carried .LANE_PATTERN v
  have hv (f : Field) (hf : f.lo + f.w ≤ 32) : f.get w = f.get v := Field.get_low32 f v hf
  have hgw := hv fLANE_PATTERN_GEN (by decide)
  have hcw := hv fLANE_PATTERN_CHK (by decide)
  have hw : s.written .LANE_PATTERN n v = u.patternWrite n w :=
    State.written_acts (State.encBad_lanePattern (hgw ▸ hg) (hcw ▸ hc))
  have ht8 : u.laneTest n = s.laneTest n := rfl
  unfold State.patternWrite at hw
  rw [hgw, hcw, ht8] at hw
  refine answers_done rfl (ite_prop_iff_and.mpr ⟨fun ho => ?_, fun ho => ?_⟩)
  · rw [if_neg (by rcases ho with ⟨h1, h2⟩ | h1 <;> simp_all)] at hw
    have ht := State.ctWrite_after h (v := v) (by rw [hw]; rfl)
    refine (ht.regs _ (by decide) n).trans ?_
    rw [hw, State.rget_rset_same]
    exact low32_and_mask v (by decide)
  · rw [if_pos (by simp only [not_or] at ho; simp_all; tauto)] at hw
    have hk : Keeps [.LANE_EVENT] u (s.written .LANE_PATTERN n v) := hw ▸ (Keeps.refl u).flag n _ (by decide)
    have ht := State.ctWrite_after h (v := v) hk.sleep
    refine ⟨(ht.regs _ (by decide) n).trans (hk.regs _ (by decide) n), (ht.fbit (by decide) n _).trans ?_⟩
    rw [hw]
    exact u.fbit_flag_same _ _ _ (by decide) (by decide)

end Sys2Proof.Machine

open Sys2Proof Sys2Proof.Machine

/-- Settles O11: each command's write acts at once, and what follows from it leaves the lane's own registers. -/
theorem laneControlAndSettings : Obligations.LaneControlAndSettings := by
  unfold Obligations.LaneControlAndSettings
  refine ⟨fun n s h hr => ⟨?_, ?_, ?_⟩, fun n v s => ⟨?_, ?_, ?_⟩⟩
  · exact fun hen hb hoff ho hpll => laneEnable_answers h hr hen hb hoff ho hpll
  · exact fun hst => laneDisable_answers h hr hst
  · exact fun hen hst => laneRestart_answers h hr hen hst
  · exact fun h => laneTxFixedWrite_answers h
  · exact fun h hne => laneLoopWrite_answers h hne
  · exact fun h hg hc => lanePatternWrite_answers h hg hc

end

section
/-! PROOFS. What follows from a command leaves the lanes, but for the one-step frames predicted on them (R285). -/

namespace Sys2Proof.Machine

/-- A lane with the frames predicted on it set aside. -/
def Lane.settled (l : Lane) : Lane := { l with oneStep := [] }

/-- The lanes of t are those of s, but for the frames predicted on them. -/
def SameLanes (s t : State) : Prop := ∀ n, (t.lane n).settled = (s.lane n).settled

namespace SameLanes

variable {s t u : State}

theorem refl (s : State) : SameLanes s s := fun _ => rfl

theorem trans (h : SameLanes s t) (k : SameLanes t u) : SameLanes s u := fun n => (k n).trans (h n)

theorem of_lanes (h : t.lanes = s.lanes) : SameLanes s t := fun n => by rw [State.lane, State.lane, h]

theorem of_core (h : t.core = s.core) : SameLanes s t := of_lanes (State.core_part h (·.lanes))

theorem of_unadmin (h : t.unadmin = s.unadmin) : SameLanes s t := of_lanes (congrArg (fun u : State => u.lanes) h : _)

theorem ite {c : Prop} [Decidable c] (h : SameLanes s t) (k : SameLanes s u) : SameLanes s (if c then t else u) := by
  split <;> assumption

theorem forEach {α : Type} (l : List α) {f : State → α → State} (hf : ∀ u x, SameLanes u (f u x)) (h : SameLanes s t) :
    SameLanes s (t.forEach l f) := by
  induction l generalizing t with
  | nil => exact h
  | cons x l ih => exact ih (h.trans (hf t x))

/-- What of a lane does not tell of predicted frames. -/
theorem part {β : Type} (h : SameLanes s t) (n : Nat) (π : Lane → β) (hπ : ∀ l, π l.settled = π l := by intro; rfl) :
    π (t.lane n) = π (s.lane n) := by rw [← hπ (t.lane n), h n, hπ]

end SameLanes

theorem State.clearOneStep_lanes (s : State) (c : TxCur) : SameLanes s (s.clearOneStep c) := by
  unfold State.clearOneStep
  refine .ite (fun n => ?_) (.refl s)
  rw [State.modLane, State.lane_setLane]
  split
  · next h => rw [h]; rfl
  · rfl

theorem State.release_lanes (s : State) (i : Nat) (ids : List Nat) : (s.release i ids).lanes = s.lanes := by
  have cells (f : Frame) : (s.freeCells f ids).lanes = s.lanes := by
    unfold State.freeCells
    refine State.forEach_same (π := fun u => u.lanes) (fun u x => ?_) s _
    rfl
  unfold State.release
  split
  · rfl
  · dsimp only
    split
    · exact cells _
    · exact cells _

theorem State.releasePkt_lanes (s : State) (k : Pkt) : (s.releasePkt k).lanes = s.lanes := by
  have uncharge (a use head : Nat) : (s.unchargeIngress a use head).lanes = s.lanes :=
    State.core_part (State.core_fcUpdate (s.dropIngress a use head) (a / 8)) (·.lanes)
  unfold State.releasePkt
  split
  · rfl
  · refine (State.release_lanes _ _ _).trans ?_
    have keep {t : State} (g : Frame) (ht : t.lanes = s.lanes) :
        (if k.copy then t else t.setFrame k.fid g).lanes = s.lanes := by
      split <;> exact ht
    refine keep _ ?_
    split
    · rfl
    · split
      · exact uncharge _ _ _
      · split <;> rfl

theorem State.cutLink_lanes (s : State) (p : Nat) (c : TxCur) (n : Nat) : SameLanes s (s.cutLink p c n) := by
  have modTxr (u : State) (r : Nat) (f : TxRing → TxRing) : (u.modTxr r f).lanes = u.lanes := by
    unfold State.modTxr
    split <;> rfl
  have sent (u : State) (k : Pkt) (t : Int) (m : Nat) (b : Bool) : (u.hostSent p k t m b).lanes = u.lanes := by
    unfold State.hostSent State.txSent State.modEntry
    split
    · dsimp only
      split
      · exact (modTxr _ _ _).trans ((modTxr _ _ _).trans (modTxr _ _ _))
      · exact (modTxr _ _ _).trans (modTxr _ _ _)
    · rfl
  have uncharge (u : State) : (u.unchargeSent c.pkt).lanes = u.lanes := by
    unfold State.unchargeSent State.unchargeLeaf
    split
    · split
      · split <;> rfl
      · rfl
    · rfl
  have cut : SameLanes s (if s.portUsed p then s.statCut p n else s) := .ite (.of_core (s.core_statCut p n)) (.refl s)
  unfold State.cutLink State.hostCut State.leavePort
  exact (cut.trans (State.clearOneStep_lanes _ c)).trans
    (.of_lanes ((State.releasePkt_lanes _ _).trans ((uncharge _).trans (sent _ _ _ _ _))))

theorem State.linkDown_lanes (s : State) (p st : Nat) : SameLanes s (s.linkDown p st) := by
  have cutIf (u : State) (o : Option TxCur) (n : TxCur → Nat) : SameLanes u (u.cutIf p o n) := by
    cases o with
    | none => exact .refl u
    | some c => exact u.cutLink_lanes p c (n c)
  have h : SameLanes s (((s.fset .PORT_LINK_STAT p fPORT_LINK_STAT_LINK_STATE st).flag .PORT_LINK_EVT p
      fPORT_LINK_EVT_DOWN)) := .of_core ((State.core_flag _ _ _ _).trans (s.core_fset _ _ _ _))
  have mac (u : State) (m : MacPort) : SameLanes u (u.setMac p m) := .of_lanes rfl
  have first (m : MacPort) (o : Option TxCur) (n : TxCur → Nat) :
      SameLanes s ((((s.fset .PORT_LINK_STAT p fPORT_LINK_STAT_LINK_STATE st).flag .PORT_LINK_EVT p
        fPORT_LINK_EVT_DOWN).setMac p m).cutIf p o n) :=
    (h.trans (mac _ m)).trans (cutIf _ _ _)
  unfold State.linkDown
  refine .trans ?_ (.of_core (State.core_verifyStart _ p))
  exact .ite (first _ _ _) (.trans (first _ _ _) (cutIf _ _ _))

theorem State.followLink_lanes (s : State) (p : Nat) : SameLanes s (s.followLink p) := by
  have h : SameLanes s (s.dropMarkers p) := .of_core (s.core_dropMarkers p)
  unfold State.followLink
  exact .ite h (.ite (h.trans (.of_core (State.core_linkUp _ p)))
    (.ite (h.trans (State.linkDown_lanes _ p _)) (h.trans (.of_core (State.core_fset _ _ _ _ _)))))

theorem State.rclkFollow_lanes (s : State) (k : Nat) : SameLanes s (s.rclkFollow k) := by
  unfold State.rclkFollow State.rclkSquelch
  exact .ite (.ite (.of_lanes rfl) (.of_lanes rfl)) (.ite (.of_lanes rfl) (.refl s))

/-- What follows from a command that frees no pads. -/
theorem State.after_lanes (s t : State) (h : s.bootU.asserted = false) (hp : s.padsFreed t = t) :
    SameLanes t (s.after t) := by
  have hs (u : State) : SameLanes u u.settle :=
    (((SameLanes.refl u).forEach _ State.followLink_lanes).forEach _ fun u p => .of_core (u.core_showPort p)).trans
      ((State.rclkFollow_lanes _ 0).trans (State.rclkFollow_lanes _ 1))
  have hw (u : State) : SameLanes u u.followWork :=
    .forEach _ (fun u d => .ite (.refl u) (.of_lanes ((u.wake_woken d).part (·.lanes)))) (.refl u)
  have hv (u : State) : SameLanes u u.followWatch := .ite (.of_lanes ((u.setDom_woken _ _).part (·.lanes))) (.refl u)
  unfold State.after
  rw [h, if_neg (by decide), hp]
  exact (((((SameLanes.of_unadmin t.unadmin_eyeCheck).trans (.of_unadmin (State.unadmin_adminSettle _))).trans
    (hs _)).trans (hw _)).trans (hv _)).trans (.of_lanes rfl)

end Sys2Proof.Machine
end

section
/-! PROOFS. The events of pitch training and of fixed mode (R99 to R118). -/

namespace Sys2Proof.Machine

-- Frame lock

theorem State.beginFrame_keeps (R : List RegId) (s : State) (n : Nat) : Keeps R s (s.beginFrame n) :=
  (Keeps.refl s).modLane n _

theorem State.searchStart_keeps (R : List RegId) (s : State) (n : Nat) : Keeps R s (s.searchStart n) := by
  unfold State.searchStart
  exact (Keeps.refl s).modLane n _

theorem State.lane_modLane_same (s : State) (n : Nat) (f : Lane → Lane) : (s.modLane n f).lane n = f (s.lane n) :=
  (s.lane_setLane n n _).trans (if_pos rfl)

/-- A lane that has gained frame lock trains. -/
theorem State.locked_stat (s : State) (n : Nat) :
    Keeps [.LANE_STAT] s ((s.flag .LANE_STAT n fLANE_STAT_FRAME_LOCK).setLaneState n lTRAIN) ∧
      ((s.flag .LANE_STAT n fLANE_STAT_FRAME_LOCK).setLaneState n lTRAIN).frameLock n = true ∧
      ((s.flag .LANE_STAT n fLANE_STAT_FRAME_LOCK).setLaneState n lTRAIN).laneState n = lTRAIN :=
  ⟨((Keeps.refl s).flag n _ (by decide)).fset n _ _ (by decide),
    (State.fbit_fset_field _ _ _ _ _ _ _ (by decide)).trans (s.fbit_flag_same _ _ _ (by decide) (by decide)),
    State.laneState_set _ n (by decide)⟩

/-- R99, R100, R116: frame lock begins training, from DATA as a retrain. -/
theorem State.frameLocks_stat {s : State} {n : Nat} (hf : s.fixedMode n = false) (hc : s.cdrLock n = true)
    (hg : 3 ≤ (s.lane n).good) (hs : s.laneState n = lBLIND ∨ s.laneState n = lDATA) :
    (s.frameLocks n).power.sleep = s.power.sleep ∧ (s.frameLocks n).frameLock n = true ∧
      (s.frameLocks n).laneState n = lTRAIN ∧
      (s.laneState n = lDATA → (s.frameLocks n).fbit .LANE_EVENT n fLANE_EVENT_RETRAIN = true) := by
  have hgo : ¬((s.fixedMode n || !s.cdrLock n || decide ((s.lane n).good < 3)) = true) := by
    simp only [hf, hc, Bool.not_true, Bool.or_false, Bool.false_or, decide_eq_true_eq]
    omega
  unfold State.frameLocks
  rw [if_neg hgo]
  rcases hs with hb | hd
  · rw [if_pos (by simpa using hb)]
    obtain ⟨hk, hlock, hst⟩ := s.locked_stat n
    have ht := State.searchStart_keeps [] ((s.flag .LANE_STAT n fLANE_STAT_FRAME_LOCK).setLaneState n lTRAIN) n
    exact ⟨ht.sleep.trans hk.sleep, (ht.fbit (by simp) n _).trans hlock, (ht.fget (by simp) n _).trans hst, fun hd =>
      absurd (hb.symm.trans hd) (by decide)⟩
  · rw [if_neg (by rw [hd]; decide), if_pos (by simpa using hd)]
    obtain ⟨hk, hlock, hst⟩ := (s.leaveData n).locked_stat n
    let a := ((s.leaveData n).flag .LANE_STAT n fLANE_STAT_FRAME_LOCK).setLaneState n lTRAIN
    let b := a.flag .LANE_EVENT n fLANE_EVENT_RETRAIN
    have hb : Keeps [.LANE_EVENT] a b := (Keeps.refl a).flag n _ (by decide)
    let f (l : Lane) : Lane :=
      { l with startAt := b.now, ctl := 0, reqOut := false, ackSeq := 0, tapAck := 7, tapStat := 0
               pendReq := none, sentOne := false, rcvdOne := false }
    have ht : Keeps [] b (((b.modLane n f).beginFrame n).searchStart n) :=
      (((Keeps.refl b).modLane n f).trans (State.beginFrame_keeps [] _ n)).trans (State.searchStart_keeps [] _ n)
    refine ⟨ht.sleep.trans (hb.sleep.trans (hk.sleep.trans (s.leaveData_leaves n).sleep)), ?_, ?_, fun _ => ?_⟩
    · exact (ht.fbit (by simp) n _).trans ((hb.fbit (by decide) n _).trans hlock)
    · exact (ht.fget (by simp) n _).trans ((hb.fget (by decide) n _).trans hst)
    · exact (ht.fbit (by simp) n _).trans (a.fbit_flag_same _ _ _ (by decide) (by decide))

theorem frameLock_answers {n : Fin 16} {s : State} (hr : s.bootU.asserted = false) (hf : s.fixedMode n = false)
    (hc : s.cdrLock n = true) (hg : 3 ≤ (s.lane n).good) (hs : s.laneState n = lBLIND ∨ s.laneState n = lDATA) :
    Answers (.frameLock n) s fun t => t.frameLock n = true ∧ t.laneState n = lTRAIN ∧
      (s.laneState n = lDATA → t.fbit .LANE_EVENT n fLANE_EVENT_RETRAIN = true) := by
  obtain ⟨hsleep, hlock, hst, hev⟩ := State.frameLocks_stat hf hc hg hs
  have ht := Keeps.after hr hsleep
  exact answers_done rfl ⟨(ht.fbit (by decide) n _).trans hlock, (ht.fget (by decide) n _).trans hst,
    fun hd => (ht.fbit (by decide) n _).trans (hev hd)⟩

theorem frameLockLost_answers {n : Fin 16} {s : State} (hr : s.bootU.asserted = false)
    (hs : s.laneState n = lTRAIN ∨ s.laneState n = lENDING) (hl : s.frameLock n = true)
    (h1 : (s.lane n).rcvdOne = false) (hb : 4 ≤ (s.lane n).bad) :
    Answers (.frameLockLost n) s fun t => t.frameLock n = false ∧ t.laneState n = lBLIND ∧
      t.fbit .LANE_EVENT n fLANE_EVENT_FRAME_LOSS = true := by
  have he : s.frameLost n = (s.enterBlind n).flag .LANE_EVENT n fLANE_EVENT_FRAME_LOSS := by
    refine if_pos ?_
    simp [hl, h1, hb, hs]
  obtain ⟨hst, hlock, -, -⟩ := s.enterBlind_stat n
  have hk : Keeps [.LANE_EVENT] (s.enterBlind n) (s.frameLost n) := he ▸ (Keeps.refl _).flag n _ (by decide)
  have ht := Keeps.after hr (hk.sleep.trans (s.enterBlind_keeps n).sleep)
  refine answers_done rfl ⟨(ht.fbit (by decide) n _).trans ((hk.fbit (by decide) n _).trans hlock),
    (ht.fget (by decide) n _).trans ((hk.fget (by decide) n _).trans hst), (ht.fbit (by decide) n _).trans ?_⟩
  rw [he]
  exact State.fbit_flag_same _ _ _ _ (by decide) (by decide)

-- Readiness

/-- R112: ENDING is entered once both ends are ready. -/
theorem State.endingCheck_stat (s : State) (n : Nat) : Keeps [.LANE_STAT] s (s.endingCheck n) ∧
    (s.endingCheck n).partnerReady n = s.partnerReady n ∧ (s.endingCheck n).localReady n = s.localReady n := by
  unfold State.endingCheck
  split
  · exact ⟨(Keeps.refl s).fset n _ _ (by decide), s.fbit_fset_field _ _ _ _ _ _ (by decide),
      s.fbit_fset_field _ _ _ _ _ _ (by decide)⟩
  · exact ⟨.refl s, rfl, rfl⟩

theorem State.endingCheck_state {s : State} {n : Nat} (ht : s.laneState n = lTRAIN) (hl : s.localReady n = true) :
    (s.endingCheck n).laneState n = if s.partnerReady n = true then lENDING else lTRAIN := by
  unfold State.endingCheck
  cases hp : s.partnerReady n with
  | true =>
    rw [ht, hl, if_pos (by decide)]
    exact s.laneState_set n (by decide)
  | false =>
    rw [Bool.and_false, if_neg (by decide)]
    exact ht

/-- R109, R110: where the conditions hold, LOCAL_READY sets. -/
theorem State.laneReady_stat (s : State) (n : Nat) : Keeps [.LANE_STAT] s (s.laneReady n) ∧
    (s.laneReady n).partnerReady n = s.partnerReady n ∧
    (s.laneState n = lTRAIN → s.localReady n = false → s.readyHolds n = true → (s.laneReady n).localReady n = true ∧
      (s.laneReady n).laneState n = if s.partnerReady n = true then lENDING else lTRAIN) := by
  let f (l : Lane) : Lane := { l with search := { l.search with phase := .idle }, ctl := l.ctl / 16 % 16 * 16 }
  let a := s.flag .LANE_STAT n fLANE_STAT_LOCAL_READY
  let b := a.modLane n f
  have ha : Keeps [.LANE_STAT] s a := (Keeps.refl s).flag n _ (by decide)
  have hb : Keeps [] a b := (Keeps.refl a).modLane n f
  have hlocal : b.localReady n = true :=
    (hb.fbit (by simp) n _).trans (s.fbit_flag_same _ _ _ (by decide) (by decide))
  have hpart : b.partnerReady n = s.partnerReady n :=
    (hb.fbit (by simp) n _).trans (s.fbit_fset_field _ _ _ _ _ _ (by decide))
  have hst : b.laneState n = s.laneState n :=
    (hb.fget (by simp) n _).trans (s.fget_fset_field _ _ _ _ _ _ (by decide))
  obtain ⟨hk, hp, hl⟩ := b.endingCheck_stat n
  have he : s.laneReady n =
      if s.laneState n == lTRAIN && !s.localReady n && s.readyHolds n then b.endingCheck n else s := rfl
  rw [he]
  split
  · refine ⟨(ha.trans (hb.mono (by simp))).trans hk, hp.trans hpart, fun ht _ _ => ⟨hl.trans hlocal, ?_⟩⟩
    rw [State.endingCheck_state (hst.trans ht) hlocal, hpart]
  · next hno => exact ⟨.refl s, rfl, fun ht hn hr => absurd (by simp [ht, hn, hr]) hno⟩

theorem localReady_answers {n : Fin 16} {s : State} (hr : s.bootU.asserted = false) (hs : s.laneState n = lTRAIN)
    (hl : s.localReady n = false) (hh : s.readyHolds n = true) :
    Answers (.localReady n) s fun t => t.localReady n = true ∧
      t.laneState n = if s.partnerReady n = true then lENDING else lTRAIN := by
  obtain ⟨hk, -, hready⟩ := s.laneReady_stat n
  obtain ⟨hlocal, hst⟩ := hready hs hl hh
  have ht := Keeps.after hr hk.sleep
  exact answers_done rfl ⟨(ht.fbit (by decide) n _).trans hlocal, (ht.fget (by decide) n _).trans hst⟩

theorem fixedModeReady_answers {n : Fin 16} {s : State} (hr : s.bootU.asserted = false) (hf : s.fixedMode n = true)
    (hs : s.laneState n = lBLIND) (hc : s.cdrLock n = true) (h1 : 1024 ≤ (s.lane n).readyRun) :
    Answers (.fixedModeReady n) s fun t => t.localReady n = true ∧ t.laneState n = lDATA ∧
      t.fbit .LANE_EVENT n fLANE_EVENT_TRAIN_DONE = true := by
  let a := s.flag .LANE_STAT n fLANE_STAT_LOCAL_READY
  have ha : Keeps [.LANE_STAT] s a := (Keeps.refl s).flag n _ (by decide)
  have he : s.fixedReady n = a.enterData n := if_pos (by simp [hf, hs, hc, h1])
  obtain ⟨hk, hst, hdone, hlocal, -⟩ := a.enterData_stat n
  rw [← he] at hk hst hdone hlocal
  have ht := Keeps.after hr (hk.sleep.trans ha.sleep)
  refine answers_done rfl ⟨(ht.fbit (by decide) n _).trans ?_, (ht.fget (by decide) n _).trans hst,
    (ht.fbit (by decide) n _).trans hdone⟩
  exact (hlocal ((ha.fbit (by decide) n _).trans hf)).trans (s.fbit_flag_same _ _ _ (by decide) (by decide))

theorem trainSearchMeasure_answers {n : Fin 16} {s : State} (hr : s.bootU.asserted = false)
    (hs : s.laneState n = lTRAIN) (hp : (s.lane n).search.phase = .presetMeas) (hc : 256 ≤ (s.lane n).search.count) :
    Answers (.trainSearchMeasure n) s fun u =>
      (u.lane n).search.phase = .tapReq ∧ (u.lane n).search.best = (s.lane n).search.sum := by
  let u := s.modLane n (fun l => { l with search := (s.lane n).search.measured })
  have hm : (s.lane n).search.measured = { (s.lane n).search with
      best := (s.lane n).search.sum, tap := 0, dec := false, improved := false, phase := .tapReq } := by
    rw [Search.measured, hp]
  have hu : (u.lane n).search = (s.lane n).search.measured :=
    congrArg (·.search) (s.lane_modLane_same n _)
  have he : s.searchMeasure n = u := by
    unfold State.searchMeasure
    dsimp only
    rw [if_pos (by simp [hs, hp, hc])]
    exact if_neg (by rw [hu, hm]; exact nofun)
  have ht := (s.after_lanes u hr (State.padsFreed_sleep rfl)).part n (·.search)
  refine answers_done (congrArg s.done he) ?_
  rw [ht, hu, hm]
  exact ⟨rfl, rfl⟩

end Sys2Proof.Machine
end

section
/-! PROOFS. Training frames that a lane receives and sends (R99, R105, R111 to R114). -/

namespace Sys2Proof.Machine

-- What a frame's symbols read

theorem bitsNat_lt (l : List Bool) : bitsNat l < 2 ^ l.length := by
  induction l using List.reverseRecOn with
  | nil => simp [bitsNat]
  | append_singleton l b ih =>
    have hb := Bool.toNat_lt b
    rw [bitsNat_concat, List.length_append, List.length_singleton, Nat.pow_succ']
    omega

/-- The fields read have 16 bits each. -/
theorem readFrame_lt {x : List Nat} {c st : Nat} (h : readFrame x = some (c, st)) : c < 2 ^ 16 ∧ st < 2 ^ 16 := by
  have hlt (o : Nat) : fieldAt x o < 2 ^ 16 := Nat.lt_of_lt_of_eq (bitsNat_lt _) (by simp)
  unfold readFrame at h
  dsimp only at h
  split at h
  · cases h
    exact ⟨hlt _, hlt _⟩
  · cases h

/-- A frame that is sent again leaves what the lane reads in it. -/
theorem State.echoFrame_reads (s : State) (n : Nat) (x : List Nat) : ∃ u, s.echoFrame n x = u ∧ Keeps [] s u ∧
    u.frameIn n x = s.frameIn n x ∧ (u.lane n).rcvdOne = (s.lane n).rcvdOne ∧ (u.lane n).bad = (s.lane n).bad := by
  refine ⟨_, rfl, ?_⟩
  unfold State.echoFrame
  split
  · next h3 =>
    dsimp only
    let f (l : Lane) : Lane := { l with
      echoSyms := inverted (s.fbit .LANE_CTRL n fLANE_CTRL_TX_INV) (s.frameIn n x)
      echoAt := s.now + symCycles (s.laneRate n) 64 }
    have hk : Keeps [] s (s.modLane n f) := (Keeps.refl s).modLane n f
    have hl : (s.modLane n f).lane n = f (s.lane n) := s.lane_modLane_same n f
    have hs : s.loopMode n = 3 := by simpa using h3
    have hm : (s.modLane n f).loopMode n = 3 := (hk.fget (by simp) n _).trans hs
    refine ⟨hk, ?_, congrArg (·.rcvdOne) hl, congrArg (·.bad) hl⟩
    show (s.modLane n f).frameIn n x = s.frameIn n x
    rw [State.frameIn, State.frameIn, hm, hs, hk.fbit (by simp)]
    rfl
  · exact ⟨.refl s, rfl, rfl, rfl⟩

/-- A lane that takes training frames. -/
def State.takesFrames (s : State) (n : Nat) : Prop :=
  s.fixedMode n = false ∧ lBLIND ≤ s.laneState n ∧ s.laneState n ≤ lENDING ∧ s.loopMode n ≠ 2 ∧
    (s.lane n).rcvdOne = false

/-- Such a lane takes the fields that it reads, or counts a frame that is not good. -/
theorem State.trainFrameRx_takes {s : State} {n : Nat} (h : s.takesFrames n) (x : List Nat) :
    (∀ c st, readFrame (s.frameIn n x) = some (c, st) →
      s.trainFrameRx n x = (s.echoFrame n x).trainFrameGood n c st) ∧
    (readFrame (s.frameIn n x) = none → s.trainFrameRx n x = (s.echoFrame n x).trainFrameBad n) := by
  obtain ⟨hf, hlo, hhi, hm, h1⟩ := h
  obtain ⟨e, he, hk, hx, h1e, -⟩ := s.echoFrame_reads n x
  have hdata : ¬lDATA < s.laneState n := Nat.not_lt.mpr (Nat.le_trans hhi (by decide))
  have hfe : e.fixedMode n = false := (hk.fbit (by simp) n _).trans hf
  have hme : e.loopMode n ≠ 2 := fun c => hm ((hk.fget (by simp) n _).symm.trans c)
  have hg : (e.fixedMode n || decide (s.laneState n < lBLIND) || decide (lDATA < s.laneState n) || e.loopMode n == 2 ||
      (s.laneState n == lENDING && (e.lane n).rcvdOne)) = false := by simp [hfe, h1e, h1, hme, hdata, hlo]
  unfold State.trainFrameRx
  dsimp only
  rw [he, hg, if_neg (by decide), hx]
  exact ⟨fun c st hr => by rw [hr], fun hr => by rw [hr]⟩

theorem trainingFrameRx_bad {n : Fin 16} {s : State} {h r : List (Fin 4)} (ha : s.bootU.asserted = false)
    (ht : s.takesFrames n) (hr : readFrame (s.frameIn n ((h ++ r).map Fin.val)) = none) :
    Answers (.trainingFrameRx n h r) s fun t =>
      (t.lane n).good = 0 ∧ (t.lane n).bad = min 4 ((s.lane n).bad + 1) ∧ t.laneState n = s.laneState n := by
  obtain ⟨e, he, hk, -, -, hbad⟩ := s.echoFrame_reads n ((h ++ r).map Fin.val)
  let u := e.modLane n (fun l => { l with good := 0, bad := min 4 (l.bad + 1) })
  have hu : s.trainFrameRx n ((h ++ r).map Fin.val) = u := ((State.trainFrameRx_takes ht _).2 hr).trans (he ▸ rfl)
  have hku : Keeps [] e u := (Keeps.refl e).modLane n _
  have hl : u.lane n = { e.lane n with good := 0, bad := min 4 ((e.lane n).bad + 1) } := e.lane_modLane_same n _
  have hsleep : u.power.sleep = s.power.sleep := hku.sleep.trans hk.sleep
  have hafter := s.after_lanes u ha (State.padsFreed_sleep hsleep)
  refine answers_done (congrArg s.done hu) ⟨?_, ?_, ?_⟩
  · rw [hafter.part n (·.good), hl]
  · rw [hafter.part n (·.bad), hl, hbad]
  · exact ((Keeps.after ha hsleep).fget (by decide) n _).trans ((hku.fget (by simp) n _).trans (hk.fget (by simp) n _))

-- A good frame

/-- What a step of training may do to a lane's LANE_STAT: the partner's readiness stays. -/
structure Trains (n : Nat) (s t : State) : Prop where
  keeps : Keeps [.LANE_STAT] s t
  partner : t.partnerReady n = s.partnerReady n

theorem Trains.refl (n : Nat) (s : State) : Trains n s s := ⟨.refl s, rfl⟩

theorem Trains.trans {n : Nat} {s t u : State} (h : Trains n s t) (k : Trains n t u) : Trains n s u :=
  ⟨h.keeps.trans k.keeps, k.partner.trans h.partner⟩

theorem Trains.setLane {n : Nat} {s t : State} (l : Lane) (h : Trains n s t) : Trains n s (t.setLane n l) :=
  ⟨h.keeps.setLane n l, h.partner⟩

theorem State.roundEnd_trains (s : State) (n : Nat) : Trains n s (s.roundEnd n) := by
  obtain ⟨hk, hp, -⟩ := s.laneReady_stat n
  unfold State.roundEnd
  dsimp only
  split
  · exact ⟨hk, hp⟩
  · split
    · exact (Trains.refl n s).setLane _
    · exact .refl n s

/-- R105: an acknowledgement ends no round of a lane that is ready. -/
theorem State.trainAck_trains (s : State) (n status : Nat) : Trains n s (s.trainAck n status) ∧
    (s.localReady n = true → (s.trainAck n status).laneState n = s.laneState n ∧
      (s.trainAck n status).localReady n = true ∧ ((s.trainAck n status).lane n).rcvdOne = (s.lane n).rcvdOne) := by
  let u := s.setLane n
    { s.lane n with reqOut := false, search := (s.lane n).search.acked (status / 32 % 8) }
  have hu : Trains n s u := (Trains.refl n s).setLane _
  have hl : (u.lane n).rcvdOne = (s.lane n).rcvdOne :=
    congrArg (·.rcvdOne) ((s.lane_setLane n n _).trans (if_pos rfl))
  have he : s.trainAck n status = if (s.lane n).reqOut && status / 2 ^ 11 % 16 == (s.lane n).ctl / 16 % 16 then
      (if (u.lane n).search.phase = .idle && (u.lane n).search.roundDone && u.laneState n == lTRAIN && !u.localReady n
        then u.roundEnd n else u) else s := rfl
  rw [he]
  split
  · split
    · next hend =>
      refine ⟨hu.trans (State.roundEnd_trains u n), fun h => ?_⟩
      rw [show u.localReady n = true from h, Bool.not_true, Bool.and_false] at hend
      exact absurd hend (by decide)
    · exact ⟨hu, fun h => ⟨rfl, h, hl⟩⟩
  · exact ⟨.refl n s, fun h => ⟨rfl, h, rfl⟩⟩

theorem State.countdownCheck_stat (s : State) (n : Nat) : Keeps dataRegs s (s.countdownCheck n) ∧
    (s.countdownCheck n).partnerReady n = s.partnerReady n := by
  unfold State.countdownCheck
  dsimp only
  split
  · obtain ⟨hk, -, -, -, hp⟩ := s.enterData_stat n
    exact ⟨hk, hp⟩
  · exact ⟨.refl s, rfl⟩

/-- R114: a countdown that has not come back leaves the lane where it is. -/
theorem State.countdownCheck_waits {s : State} {n : Nat} (h : (s.lane n).rcvdOne = false) : s.countdownCheck n = s :=
  if_neg (by simp [h])

/-- R99, R111: the fields of a good frame are taken, before the block acts on them. -/
theorem State.trainFrameGood_eq (s : State) (n : Nat) {c st : Nat} (hc : c < 2 ^ 16) (hst : st < 2 ^ 16) :
    ∃ u, s.trainFrameGood n c st = ((u.trainAck n st).endingCheck n).countdownCheck n ∧
      Keeps [.LANE_TRAIN_LAST, .LANE_STAT] s u ∧ u.fget .LANE_TRAIN_LAST n fLANE_TRAIN_LAST_CONTROL = c ∧
      u.fget .LANE_TRAIN_LAST n fLANE_TRAIN_LAST_STATUS = st ∧ u.partnerReady n = bitOf st 15 ∧
      u.laneState n = s.laneState n ∧ u.localReady n = s.localReady n ∧
      (s.laneState n = lTRAIN → (u.lane n).rcvdOne = (s.lane n).rcvdOne) := by
  let a := s.fset .LANE_TRAIN_LAST n fLANE_TRAIN_LAST_CONTROL c
  let b := a.fset .LANE_TRAIN_LAST n fLANE_TRAIN_LAST_STATUS st
  let d := b.fsetB .LANE_STAT n fLANE_STAT_PARTNER_READY (bitOf st 15)
  have hb : Keeps [.LANE_TRAIN_LAST] s b := ((Keeps.refl s).fset n _ _ (by decide)).fset n _ _ (by decide)
  have hd : Keeps [.LANE_STAT] b d := (Keeps.refl b).fset n _ _ (by decide)
  have hctl : b.fget .LANE_TRAIN_LAST n fLANE_TRAIN_LAST_CONTROL = c :=
    (State.fget_fset_field _ _ _ _ _ _ _ (by decide)).trans ((State.fget_fset_same _ _ _ _ _ (by decide)).trans
      (Nat.mod_eq_of_lt hc))
  have hsta : b.fget .LANE_TRAIN_LAST n fLANE_TRAIN_LAST_STATUS = st :=
    (State.fget_fset_same _ _ _ _ _ (by decide)).trans (Nat.mod_eq_of_lt hst)
  have hpart : d.partnerReady n = bitOf st 15 := State.fbit_fsetB_same _ _ _ _ _ (by decide) (by decide)
  have hstate : d.laneState n = s.laneState n :=
    (State.fget_fset_field _ _ _ _ _ _ _ (by decide)).trans (hb.fget (by decide) n _)
  have hlocal : d.localReady n = s.localReady n :=
    (State.fbit_fset_field _ _ _ _ _ _ _ (by decide)).trans (hb.fbit (by decide) n _)
  have taken (f : Lane → Lane) : Keeps [] d (d.modLane n f) := (Keeps.refl d).modLane n f
  refine ⟨_, rfl, ((hb.mono (by decide)).trans (hd.mono (by decide))).trans ((taken _).mono (by simp)),
    ((taken _).fget (by simp) n _).trans ((hd.fget (by decide) n _).trans hctl),
    ((taken _).fget (by simp) n _).trans ((hd.fget (by decide) n _).trans hsta),
    ((taken _).fbit (by simp) n _).trans hpart, ((taken _).fget (by simp) n _).trans hstate,
    ((taken _).fbit (by simp) n _).trans hlocal, fun ht => ?_⟩
  rw [State.lane_modLane_same, ht]
  exact Bool.or_false _

/-- R99, R105, R111 to R113: what the lane shows after a good frame. -/
theorem State.trainFrameGood_stat {s : State} {n c st : Nat} (hc : c < 2 ^ 16) (hst : st < 2 ^ 16) :
    Keeps (.LANE_TRAIN_LAST :: dataRegs) s (s.trainFrameGood n c st) ∧
      (s.trainFrameGood n c st).fget .LANE_TRAIN_LAST n fLANE_TRAIN_LAST_CONTROL = c ∧
      (s.trainFrameGood n c st).fget .LANE_TRAIN_LAST n fLANE_TRAIN_LAST_STATUS = st ∧
      (s.trainFrameGood n c st).partnerReady n = bitOf st 15 ∧
      (s.laneState n = lTRAIN → (s.lane n).rcvdOne = false → s.localReady n = true → bitOf st 15 = true →
        (s.trainFrameGood n c st).laneState n = lENDING) := by
  obtain ⟨u, he, hu, hctl, hsta, hpart, hstate, hlocal, hone⟩ := s.trainFrameGood_eq n hc hst
  let v := u.trainAck n st
  let w := v.endingCheck n
  obtain ⟨⟨hv, hvp⟩, hready⟩ := u.trainAck_trains n st
  obtain ⟨hw, hwp, -⟩ := v.endingCheck_stat n
  obtain ⟨hx, hxp⟩ := w.countdownCheck_stat n
  have huw : Keeps [.LANE_STAT] u w := hv.trans hw
  have hux : Keeps dataRegs u (w.countdownCheck n) := (huw.mono (by decide)).trans hx
  rw [he]
  refine ⟨(hu.mono (by decide)).trans (hux.mono (by simp)), (hux.fget (by decide) n _).trans hctl,
    (hux.fget (by decide) n _).trans hsta, hxp.trans (hwp.trans (hvp.trans hpart)), fun ht h1 hl hp => ?_⟩
  obtain ⟨hvs, hvl, hv1⟩ := hready (hlocal.trans hl)
  have hend : w.laneState n = lENDING := by
    rw [State.endingCheck_state (hvs.trans (hstate.trans ht)) hvl, if_pos (hvp.trans (hpart.trans hp))]
  have hw1 : (w.lane n).rcvdOne = false := by
    have hl1 : w.lanes = v.lanes := by
      show (v.endingCheck n).lanes = v.lanes
      unfold State.endingCheck
      split <;> rfl
    rw [State.lane, hl1]
    exact hv1.trans ((hone ht).trans h1)
  exact (congrArg (·.laneState n) (State.countdownCheck_waits hw1)).trans hend

theorem trainingFrameRx_good {n : Fin 16} {s : State} {h r : List (Fin 4)} {c st : Nat} (ha : s.bootU.asserted = false)
    (ht : s.takesFrames n) (hr : readFrame (s.frameIn n ((h ++ r).map Fin.val)) = some (c, st)) :
    Answers (.trainingFrameRx n h r) s fun t =>
      t.fget .LANE_TRAIN_LAST n fLANE_TRAIN_LAST_CONTROL = c ∧ t.fget .LANE_TRAIN_LAST n fLANE_TRAIN_LAST_STATUS = st ∧
      t.partnerReady n = bitOf st 15 ∧
      (s.laneState n = lTRAIN → s.localReady n = true → bitOf st 15 = true → t.laneState n = lENDING) := by
  obtain ⟨e, he, hk, -, hone, -⟩ := s.echoFrame_reads n ((h ++ r).map Fin.val)
  obtain ⟨hc, hst⟩ := readFrame_lt hr
  obtain ⟨-, -, -, -, h1⟩ := id ht
  obtain ⟨hu, hctl, hsta, hpart, hend⟩ := State.trainFrameGood_stat (s := e) (n := n) hc hst
  have heq : s.trainFrameRx n ((h ++ r).map Fin.val) = e.trainFrameGood n c st :=
    ((State.trainFrameRx_takes ht _).1 c st hr).trans (he ▸ rfl)
  have hafter := Keeps.after ha (hu.sleep.trans hk.sleep)
  refine answers_done (congrArg s.done heq) ⟨(hafter.fget (by decide) n _).trans hctl,
    (hafter.fget (by decide) n _).trans hsta, (hafter.fbit (by decide) n _).trans hpart, fun hs hl hp => ?_⟩
  exact (hafter.fget (by decide) n _).trans (hend ((hk.fget (by simp) n _).trans hs) (hone.trans h1)
    ((hk.fbit (by simp) n _).trans hl) hp)

-- A frame that begins

/-- A step of sending that leaves LANE_STAT and the countdown's course. -/
structure Sends (n : Nat) (s t : State) : Prop where
  keeps : Keeps [.LANE_TRAIN_CNT, .LANE_TX_TAPS, .LANE_GD] s t
  fell : (t.lane n).fell = (s.lane n).fell

theorem Sends.ite {n : Nat} {s t u : State} {c : Prop} [Decidable c] (h : Sends n s t) (k : Sends n s u) :
    Sends n s (if c then t else u) := by split <;> assumption

theorem Sends.trans {n : Nat} {s t u : State} (h : Sends n s t) (k : Sends n t u) : Sends n s u :=
  ⟨h.keeps.trans k.keeps, k.fell.trans h.fell⟩

/-- The lane's answer to a request, and the taps that it takes with it. -/
theorem State.trainAct_eq (s : State) (n control : Nat) : ∃ (f : Lane → Lane) (r : Nat × Taps), s.trainAct n control =
      (if r.1 = 1 || r.1 = 5 then
        ((s.modLane n f).count .LANE_TRAIN_CNT n fLANE_TRAIN_CNT_REQ_RCVD).setTaps n r.2
      else (s.modLane n f).count .LANE_TRAIN_CNT n fLANE_TRAIN_CNT_REQ_RCVD) ∧ ∀ l, (f l).fell = l.fell :=
  ⟨_, _, rfl, fun _ => rfl⟩

theorem State.trainAct_sends (s : State) (n control : Nat) : Sends n s (s.trainAct n control) := by
  obtain ⟨f, r, he, hf⟩ := s.trainAct_eq n control
  have acted : Sends n s ((s.modLane n f).count .LANE_TRAIN_CNT n fLANE_TRAIN_CNT_REQ_RCVD) :=
    ⟨((Keeps.refl s).modLane n f).count n _ (by decide), (congrArg (·.fell) (s.lane_modLane_same n f)).trans (hf _)⟩
  have taps (u : State) (t : Taps) : Sends n u (u.setTaps n t) := by
    refine ⟨(u.setTaps_keeps n t).mono (by decide), ?_⟩
    rw [State.setTaps, State.fset, State.lane_rset, State.lane_rset]
  rw [he]
  exact .ite (acted.trans (taps _ _)) acted

theorem State.trainAsk_sends (s : State) (n : Nat) : Sends n s (s.trainAsk n) := by
  unfold State.trainAsk
  dsimp only
  refine .ite ⟨((Keeps.refl s).setLane n _).count n _ (by decide), ?_⟩ ⟨.refl s, rfl⟩
  exact congrArg (·.fell) ((s.lane_setLane n n _).trans (if_pos rfl))

/-- R112, R113: the frame that begins counts down, where both ends are still ready. -/
theorem State.trainCount_keeps (s : State) (n : Nat) : Keeps dataRegs s (s.trainCount n) := by
  have begun (R : List RegId) {t : State} (h : Keeps R s t) : Keeps R s (t.beginFrame n) :=
    h.trans (t.beginFrame_keeps R n)
  have fallen (f : Lane → Lane) : Keeps dataRegs s (((((s.fset .LANE_STAT n fLANE_STAT_END_COUNT 0).setLaneState n
      lTRAIN).modLane n f).beginFrame n).endingCheck n) :=
    (begun _ ((((Keeps.refl s).fset n _ _ (by decide)).fset n _ _ (by decide)).modLane n f)).trans
      ((State.endingCheck_stat _ n).1.mono (by decide))
  have done (f : Lane → Lane) : Keeps dataRegs s ((s.modLane n f).countdownCheck n) :=
    ((Keeps.refl s).modLane n f).trans (State.countdownCheck_stat _ n).1
  unfold State.trainCount
  dsimp only
  exact .ite (.ite (done _) (.ite (fallen _) (begun _ ((Keeps.refl s).fset n _ _ (by decide))))) (begun _ (.refl s))

theorem State.trainCount_counts {s : State} {n : Nat} (hs : s.laneState n = lENDING) (hl : s.localReady n = true)
    (hp : s.partnerReady n = true) (hf : (s.lane n).fell = false) (h1 : s.endCount n ≠ 1) :
    (s.trainCount n).laneState n = lENDING ∧
      (s.trainCount n).endCount n = if s.endCount n = 0 then 15 else s.endCount n - 1 := by
  let k := if s.endCount n = 0 then 15 else s.endCount n - 1
  have hlt : k < 16 := by
    have : s.endCount n < 16 := Field.get_lt _ _
    show (if s.endCount n = 0 then 15 else s.endCount n - 1) < 16
    split <;> omega
  have he : s.trainCount n = (s.fset .LANE_STAT n fLANE_STAT_END_COUNT k).beginFrame n := by
    unfold State.trainCount
    dsimp only
    rw [if_pos (by simpa using hs), if_neg (by simpa using h1), if_neg (by simp [hf, hl, hp])]
    simp only [beq_iff_eq]
    rfl
  have hk := State.beginFrame_keeps [] (s.fset .LANE_STAT n fLANE_STAT_END_COUNT k) n
  rw [← he] at hk
  exact ⟨(hk.fget (by simp) n _).trans ((s.fget_fset_field _ _ _ _ _ _ (by decide)).trans hs),
    (hk.fget (by simp) n _).trans ((s.fget_fset_same _ _ _ _ (by decide)).trans (Nat.mod_eq_of_lt hlt))⟩

/-- R95, R105, R106: the frame begins once the one before it has been sent. -/
theorem State.trainFrameTx_eq {s : State} {n : Nat} (hf : s.fixedMode n = false) (hlo : lBLIND ≤ s.laneState n)
    (hhi : s.laneState n ≤ lENDING) (h1 : (s.lane n).sentOne = false) :
    ∃ u, Sends n (s.elapseTo ((s.lane n).frameAt + symCycles (s.laneRate n) 4096)) u ∧
      s.trainFrameTx n = u.trainCount n := by
  have hst : s.laneState n = lBLIND ∨ s.laneState n = lTRAIN ∨ s.laneState n = lENDING := by
    simp only [lBLIND, lTRAIN, lENDING] at hlo hhi ⊢
    omega
  have hgo : (s.fixedMode n || !(s.laneState n == lBLIND || s.laneState n == lTRAIN || s.laneState n == lENDING) ||
      (s.lane n).sentOne) = false := by
    rcases hst with h | h | h <;> simp [hf, h1, h]
  unfold State.trainFrameTx
  dsimp only
  rw [hgo, if_neg (by decide)]
  refine ⟨_, .trans ?_ (State.trainAsk_sends _ n), rfl⟩
  split
  · exact .ite (State.trainAct_sends _ n _) ⟨.refl _, rfl⟩
  · exact ⟨.refl _, rfl⟩

theorem trainFrameTxStart_answers {n : Fin 16} {s : State} (ha : s.bootU.asserted = false) (hf : s.fixedMode n = false)
    (hlo : lBLIND ≤ s.laneState n) (hhi : s.laneState n ≤ lENDING) (h1 : (s.lane n).sentOne = false) :
    Answers (.trainFrameTxStart n) s fun t =>
      t.now = max s.now ((s.lane n).frameAt + symCycles (s.laneRate n) 4096) ∧
      (s.laneState n = lENDING → s.localReady n = true → s.partnerReady n = true → (s.lane n).fell = false →
        s.endCount n ≠ 1 →
        t.laneState n = lENDING ∧ t.endCount n = if s.endCount n = 0 then 15 else s.endCount n - 1) := by
  obtain ⟨u, ⟨hu, hfell⟩, he⟩ := State.trainFrameTx_eq hf hlo hhi h1
  let e := s.elapseTo ((s.lane n).frameAt + symCycles (s.laneRate n) 4096)
  have hw := u.trainCount_keeps n
  have hlanes : e.lane n = s.lane n := State.elapse_part (·.lane n) s _
  have hstat (f : Field) : u.fget .LANE_STAT n f = s.fget .LANE_STAT n f :=
    (hu.fget (by decide) n f).trans (s.elapseTo_fget _ (by decide) n f)
  have hsleep : (u.trainCount n).power.sleep = s.power.sleep :=
    hw.sleep.trans (hu.sleep.trans (congrArg (·.sleep) (s.elapseTo_power _)))
  have ht := Keeps.after ha hsleep
  refine answers_done (congrArg s.done he) ⟨ht.now.trans (hw.now.trans (hu.now.trans (s.elapseTo_now _))), ?_⟩
  intro hs hl hp hno hk
  have hl' : u.localReady n = true := (congrArg (· != 0) (hstat _)).trans hl
  have hp' : u.partnerReady n = true := (congrArg (· != 0) (hstat _)).trans hp
  have hend : u.endCount n = s.endCount n := hstat _
  obtain ⟨hstate, hcount⟩ := State.trainCount_counts ((hstat _).trans hs) hl' hp'
    (hfell.trans ((congrArg (·.fell) hlanes).trans hno)) (hend ▸ hk)
  rw [hend] at hcount
  exact ⟨(ht.fget (by decide) n _).trans hstate, (ht.fget (by decide) n _).trans hcount⟩

end Sys2Proof.Machine

open Sys2Proof Sys2Proof.Machine

/-- Settles O13: each event's own effect shows in registers and lane fields, which nothing that follows from it
writes. -/
theorem trainingMovesLane : Obligations.TrainingMovesLane := by
  unfold Obligations.TrainingMovesLane
  intro n s ha
  refine ⟨?_, ?_, ?_, ?_, ?_, ?_, ?_, ?_⟩
  · exact fun hf hc hg hs => frameLock_answers ha hf hc hg hs
  · exact fun hs hl h1 hb => frameLockLost_answers ha hs hl h1 hb
  · exact fun h r c st hr hf hlo hhi hm h1 => trainingFrameRx_good ha ⟨hf, hlo, hhi, hm, h1⟩ hr
  · exact fun h r hr hf hlo hhi hm h1 => trainingFrameRx_bad ha ⟨hf, hlo, hhi, hm, h1⟩ hr
  · exact fun hf hlo hhi h1 => trainFrameTxStart_answers ha hf hlo hhi h1
  · exact fun hs hp hc => trainSearchMeasure_answers ha hs hp hc
  · exact fun hs hl hh => localReady_answers ha hs hl hh
  · exact fun hf hs hc h1 => fixedModeReady_answers ha hf hs hc h1

end
